-- ==== Sys2Proof/Word.lean ====
section
/-! DEFINITION. The plainest arithmetic of the block: the widths the spec counts in and the modulus of CYC. -/

namespace Sys2Proof

/-- 2 to the power of 32: the modulus of every 32-bit counter of the dictionary. -/
abbrev two32 : Nat := 4294967296

/-- 2 to the power of 48: CYC wraps to 0 after this many cycles (R11, R504). -/
abbrev two48 : Nat := 281474976710656

/-- 2 to the power of 64: totals never pass this minus one (R325). -/
abbrev two64 : Nat := 18446744073709551616

/-- One second in HCLK cycles, 24 576 000 (R78). -/
abbrev cycPerSecond : Nat := 24576000

end Sys2Proof
end

