-- ==== Sys2Proof/Machine/Bits.lean ====
section
/-! DEFINITION. The bit-field, sign-extension, byte-order and rounding helpers of the block. -/

namespace Sys2Proof.Machine

/-- Bits `hi` down to `lo` of a word. -/
def field (w hi lo : Nat) : Nat := w / 2 ^ lo % 2 ^ (hi + 1 - lo)

/-- Bit `n` of a word. -/
def bitAt (w n : Nat) : Bool := w / 2 ^ n % 2 == 1

/-- A Boolean as a bit. -/
def b01 (b : Bool) : Nat := if b then 1 else 0

/-- A word with bit `n` set to `b`. -/
def setBit (w n : Nat) (b : Bool) : Nat :=
  if b then (if bitAt w n then w else w + 2 ^ n) else (if bitAt w n then w - 2 ^ n else w)

/-- A word with bits `hi` down to `lo` replaced by `v`. -/
def setField (w hi lo v : Nat) : Nat :=
  w - field w hi lo * 2 ^ lo + v % 2 ^ (hi + 1 - lo) * 2 ^ lo

/-- A word from single bits: bit n is the n-th of the list, least significant first. -/
def ofBits : List Bool → Nat
  | [] => 0
  | b :: r => b01 b + 2 * ofBits r

/-- The bits of a mask that are set, in rising order. -/
def maskBits (w n : Nat) : List Nat := (List.range n).filter (fun i => bitAt w i)

/-- How many of the low `n` bits are set. -/
def popcount (w n : Nat) : Nat := (maskBits w n).length

/-- Bits 1 of `m` cleared in `w` (a write-one-to-clear write). -/
def clearBits (w m : Nat) : Nat := w - Nat.land w m

/-- Two's complement: an n-bit word read as a signed number. -/
def toSigned (bits w : Nat) : Int := if w < 2 ^ (bits - 1) then (w : Int) else (w : Int) - 2 ^ bits

/-- Two's complement: a signed number as an n-bit word. -/
def ofSigned (bits : Nat) (v : Int) : Nat := (v % (2 ^ bits : Int)).toNat

/-- A number as `n` bytes, least significant first. -/
def leBytes : Nat → Nat → List Nat
  | 0, _ => []
  | n + 1, w => w % 256 :: leBytes n (w / 256)

/-- Bytes, least significant first, as a number. -/
def leNat : List Nat → Nat
  | [] => 0
  | b :: r => b % 256 + 256 * leNat r

/-- `n` bytes from offset `o` of a byte list, read as zero beyond its end. -/
def bytesAt (l : List Nat) (o n : Nat) : List Nat := (List.range n).map (fun i => l.getD (o + i) 0)

/-- The number held little-endian in `n` bytes at offset `o`. -/
def leAt (l : List Nat) (o n : Nat) : Nat := leNat (bytesAt l o n)

/-- A 32-bit counter that wraps to 0. -/
def wrap32 (v : Nat) : Nat := v % two32

/-- A counter saturated at a top value. -/
def satAt (top v : Nat) : Nat := if v ≤ top then v else top

/-- Round half up (towards +infinity at exact halves) of a quotient of integers, the divisor positive. -/
def roundHalfUp (a : Int) (b : Nat) : Int := (2 * a + b) / (2 * b)

/-- Round half away from zero of a quotient of integers, the divisor positive. -/
def roundHalfAway (a : Int) (b : Nat) : Int :=
  if 0 ≤ a then (2 * a + b) / (2 * b) else - ((2 * (-a) + b) / (2 * b))

/-- A number held within bounds. -/
def clampInt (lo hi v : Int) : Int := if v < lo then lo else if hi < v then hi else v

/-- Cycles from `a` to `b`, modulo 2^48 (R241, R504). -/
def cycDiff (b a : Nat) : Nat := (b + two48 - a % two48) % two48

/-- A time `t` counts as reached at `now` when the difference, modulo 2^48, is less than half the range (R504). -/
def cycReached (now t : Nat) : Bool := cycDiff now t < two48 / 2

/-- One byte added to a CRC, bits most significant first, polynomial `poly` of width `n`. -/
def crcStep (n poly : Nat) : Nat → Nat → Nat
  | 0, c => c
  | k + 1, c =>
    let c' := 2 * c % 2 ^ n
    crcStep n poly k (if bitAt c (n - 1) then Nat.xor c' poly else c')

/-- A CRC over bytes, most significant bit first. -/
def crcBytes (n poly : Nat) (init : Nat) : List Nat → Nat
  | [] => init
  | b :: r => crcBytes n poly (crcStep n poly 8 (Nat.xor init (b % 256 * 2 ^ (n - 8)))) r

/-- CRC-16 with polynomial 0x1021 and initial value 0xFFFF (R484). -/
def crc16 (bytes : List Nat) : Nat := crcBytes 16 0x1021 0xFFFF bytes

/-- One byte added to a CRC-32C, least significant bit first (Castagnoli polynomial; PRESUMED, log entry 82). -/
def crcStepLow : Nat → Nat → Nat
  | 0, c => c
  | k + 1, c => crcStepLow k (if c % 2 = 1 then Nat.xor (c / 2) 0x82F63B78 else c / 2)

/-- CRC-32C over bytes (R436, R442, R450), with all ones before and after as the standard has it. -/
def crc32c (bytes : List Nat) : Nat :=
  Nat.xor (bytes.foldl (fun c b => crcStepLow 8 (Nat.xor c (b % 256))) 0xFFFFFFFF) 0xFFFFFFFF

/-- Bytes filled up with zeros to a length. -/
def padTo (n : Nat) (l : List Nat) : List Nat := l ++ List.replicate (n - l.length) 0

/-- The first element that satisfies a test, as an index. -/
def indexOf (p : α → Bool) : List α → Option Nat
  | [] => none
  | a :: r => if p a then some 0 else (indexOf p r).map (· + 1)

/-- Put a member in front of the first one it may stand before. -/
def insertBy (le : α → α → Bool) (x : α) : List α → List α
  | [] => [x]
  | a :: r => if le x a then x :: a :: r else a :: insertBy le x r

/-- A list in the order `le`, members of one rank in the order they had. -/
def sortBy (le : α → α → Bool) : List α → List α
  | [] => []
  | a :: r => insertBy le a (sortBy le r)

/-- Put a number into an ascending list without repeats. -/
def insertNat (n : Nat) : List Nat → List Nat
  | [] => [n]
  | m :: r => if n < m then n :: m :: r else if n = m then m :: r else m :: insertNat n r

/-- Sum of a list of integers. -/
def sumInt (l : List Int) : Int := l.foldl (· + ·) 0

end Sys2Proof.Machine
end

