-- ==== Sys2Proof/Machine/Dict.lean ====
section
/-! DEFINITION. The object dictionary as the spec's tables give it (R91, R95, R136, R137, R139, R170, R171, R208, R209,
R211, R212, R252 to R256, R286, R288, R315 to R320, R362 to R365, R393, R421, R458, R480, R509, R542, R563, R582, R624,
R625, R662, R664, R689, R691, R713, R715): for every entry its type, access, PDO column, default, seal and range. An
entry's key is index * 256 + sub-index. -/

namespace Sys2Proof.Machine

/-- CANopen type of an entry (R16). A DOMAIN carries its shortest and longest length and the step between lengths. -/
inductive Ty where
  | u8 | u16 | u32 | u64 | i16 | i32 | i64 | r32
  | str
  | dom (lo hi step : Nat)
  deriving DecidableEq, Repr

/-- Access of an entry (R14, R16). -/
inductive Acc where
  | ro | rw | wo | const
  deriving DecidableEq, Repr

/-- The Sealed column (R16, R621): never, always, on loosening a saggar limit (R656), by its table segment (R236), or
while a pulse input adds to a section (R318). -/
inductive SealCol where
  | no | yes | loosening | table | pulseAdd
  deriving DecidableEq, Repr

/-- The range of an entry's value, as a signed number, or its write-one-to-clear bits. -/
inductive Rng where
  | any
  | within (lo hi : Int)
  | withinOr (lo hi other : Int)
  | w1c (mask : Nat)
  deriving DecidableEq, Repr

/-- Whose resource an entry belongs to (R4, R5). -/
inductive Res where
  | chip | die | path | port | chan | input | sect
  deriving DecidableEq, Repr

/-- One run of entries of a dictionary table: sub-indices `lo` to `hi`. -/
structure Row where
  lo   : Nat
  hi   : Nat
  ty   : Ty
  acc  : Acc
  pdo  : Bool
  dflt : Nat
  sealed : SealCol
  rng  : Rng
  deriving DecidableEq, Repr

/-- One object of the dictionary: `count` indices from `base`, each with the same rows, belonging to a resource. -/
structure Obj where
  base  : Nat
  count : Nat
  res   : Res
  rows  : List Row
  deriving DecidableEq, Repr

/-- Rows of a transducer port (R91). -/
def rows_port : List Row := [
  ⟨0, 0, .u8, .const, false, 23, .no, .any⟩,
  ⟨1, 1, .u32, .rw, false, 682667, .yes, (.within 27307 2730666)⟩,
  ⟨2, 2, .u8, .rw, false, 0, .yes, (.within 0 64)⟩,
  ⟨3, 3, .u8, .rw, false, 0, .yes, (.within 0 8)⟩,
  ⟨4, 4, .u8, .rw, false, 32, .yes, (.within 8 56)⟩,
  ⟨5, 5, .u8, .rw, false, 0, .yes, (.within 0 1)⟩,
  ⟨6, 6, .u8, .rw, false, 1, .no, (.within 0 3)⟩,
  ⟨7, 7, .u8, .rw, false, 1, .no, (.within 0 1)⟩,
  ⟨8, 8, .u16, .rw, false, 100, .no, .any⟩,
  ⟨9, 9, .u16, .rw, false, 20000, .no, .any⟩,
  ⟨10, 10, .u16, .rw, false, 1000, .no, .any⟩,
  ⟨11, 11, .u16, .rw, false, 0, .no, .any⟩,
  ⟨12, 12, .u16, .rw, false, 60, .no, (.within 0 3600)⟩,
  ⟨13, 13, .u8, .wo, false, 0, .no, (.within 1 1)⟩,
  ⟨14, 14, .u16, .ro, true, 0, .no, .any⟩,
  ⟨15, 15, .u32, .ro, true, 0, .no, .any⟩,
  ⟨16, 16, .u16, .ro, true, 128, .no, .any⟩,
  ⟨17, 17, .u16, .ro, true, 0, .no, .any⟩,
  ⟨18, 18, .u32, .ro, true, 0, .no, .any⟩,
  ⟨19, 19, .u32, .ro, true, 0, .no, .any⟩,
  ⟨20, 20, .u32, .ro, true, 0, .no, .any⟩,
  ⟨21, 21, .u8, .ro, false, 0, .no, .any⟩,
  ⟨22, 22, .u8, .ro, false, 0, .no, .any⟩,
  ⟨23, 23, .u32, .ro, false, 0, .no, .any⟩]

/-- Rows of a die (R95, R139, R211, R288, R480, R509, R563, R582, R715), part 1. -/
def rows_die0 : List Row := [
  ⟨16, 16, .u8, .rw, false, 50, .yes, (.within 33 160)⟩,
  ⟨17, 17, .u8, .ro, true, 0, .no, .any⟩,
  ⟨18, 18, .u32, .ro, true, 0, .no, .any⟩,
  ⟨32, 32, .u8, .wo, false, 0, .no, (.within 1 2)⟩,
  ⟨33, 33, .u8, .ro, true, 0, .no, .any⟩,
  ⟨34, 34, .u8, .rw, false, 10, .no, (.within 0 50)⟩,
  ⟨35, 35, .u16, .ro, false, 0, .no, .any⟩,
  ⟨36, 36, .u32, .ro, true, 0, .no, .any⟩,
  ⟨37, 37, .u64, .ro, false, 0, .no, .any⟩,
  ⟨64, 64, .u8, .rw, false, 0, .no, (.within 0 4)⟩,
  ⟨65, 68, .u64, .rw, false, 0, .no, .any⟩,
  ⟨69, 69, .u32, .ro, true, 0, .no, .any⟩,
  ⟨70, 70, .u32, .ro, false, 0, .no, .any⟩,
  ⟨71, 71, .i16, .ro, false, 0, .no, .any⟩,
  ⟨72, 72, .i16, .ro, false, 0, .no, .any⟩,
  ⟨80, 80, .u16, .rw, false, 1000, .no, (.within 0 60000)⟩,
  ⟨81, 81, .u32, .ro, true, 0, .no, .any⟩,
  ⟨82, 97, .u16, .rw, true, 0, .no, (.w1c 4)⟩,
  ⟨98, 113, .u32, .ro, false, 0, .no, .any⟩,
  ⟨128, 128, .u8, .wo, false, 0, .no, (.within 1 3)⟩,
  ⟨129, 129, .u8, .ro, true, 0, .no, .any⟩,
  ⟨130, 130, .u32, .ro, false, 0, .no, .any⟩,
  ⟨131, 131, .u32, .ro, false, 4294967295, .no, .any⟩,
  ⟨132, 132, .u64, .ro, false, 0, .no, .any⟩,
  ⟨133, 133, .u8, .rw, false, 1, .no, (.within 0 1)⟩,
  ⟨134, 134, .u32, .ro, false, 0, .no, .any⟩,
  ⟨135, 135, .u32, .ro, false, 0, .no, .any⟩,
  ⟨136, 136, .u32, .ro, false, 0, .no, .any⟩,
  ⟨137, 137, .u32, .ro, false, 0, .no, .any⟩,
  ⟨138, 138, .u32, .ro, false, 0, .no, .any⟩,
  ⟨139, 139, .u16, .rw, true, 0, .no, (.w1c 7)⟩,
  ⟨144, 144, .u16, .rw, true, 0, .no, (.w1c 6)⟩,
  ⟨145, 145, .u32, .ro, false, 0, .no, .any⟩,
  ⟨146, 146, .u32, .ro, false, 0, .no, .any⟩,
  ⟨147, 147, .u32, .ro, false, 0, .no, .any⟩,
  ⟨148, 148, .u32, .ro, false, 0, .no, .any⟩,
  ⟨149, 149, .u32, .ro, false, 0, .no, .any⟩,
  ⟨160, 160, .u16, .ro, true, 0, .no, .any⟩,
  ⟨161, 161, .u8, .wo, false, 0, .no, (.within 1 1)⟩,
  ⟨162, 162, .u32, .ro, false, 0, .no, .any⟩]

/-- Rows of a die (R95, R139, R211, R288, R480, R509, R563, R582, R715), part 2. -/
def rows_die1 : List Row := [
  ⟨176, 176, .u8, .rw, true, 0, .no, .any⟩,
  ⟨177, 180, .u16, .rw, false, 0, .no, .any⟩,
  ⟨181, 181, .u8, .ro, true, 0, .no, .any⟩,
  ⟨192, 192, .i16, .ro, true, 0, .no, .any⟩,
  ⟨193, 193, .i16, .ro, false, 0, .no, .any⟩,
  ⟨194, 194, .u32, .ro, false, 0, .no, .any⟩]

/-- All rows of a die (R95, R139, R211, R288, R480, R509, R563, R582, R715). -/
def rows_die : List Row := rows_die0 ++ rows_die1

/-- Rows of a path configuration (R136, R170, R208, R252), part 1. -/
def rows_path0 : List Row := [
  ⟨0, 0, .u8, .const, false, 75, .no, .any⟩,
  ⟨1, 1, .u8, .rw, false, 0, .yes, (.within 0 1)⟩,
  ⟨2, 2, .u8, .rw, false, 2, .yes, (.within 0 2)⟩,
  ⟨3, 3, .u32, .rw, false, 24576, .yes, (.within 12288 1228800)⟩,
  ⟨4, 4, .u32, .rw, false, 24576, .no, (.within 2048 4915200)⟩,
  ⟨5, 5, .u8, .rw, false, 2, .no, (.within 0 7)⟩,
  ⟨6, 6, .u8, .rw, false, 1, .yes, (.within 0 1)⟩,
  ⟨7, 7, .u8, .rw, false, 0, .no, (.within 0 15)⟩,
  ⟨8, 8, .u16, .rw, false, 0, .no, (.within 0 65535)⟩,
  ⟨9, 9, .u16, .rw, false, 64, .yes, (.within 0 65535)⟩,
  ⟨10, 10, .u8, .rw, false, 4, .yes, (.within 0 8)⟩,
  ⟨11, 11, .i32, .rw, false, 0, .yes, (.within (-1048576) 1048576)⟩,
  ⟨12, 12, .u8, .rw, false, 255, .yes, (.withinOr 0 31 255)⟩,
  ⟨13, 13, .u8, .rw, false, 0, .yes, (.within 0 127)⟩,
  ⟨14, 14, .i32, .rw, false, 0, .yes, (.within 0 2147483647)⟩,
  ⟨15, 15, .u16, .rw, false, 0, .no, (.within 0 65535)⟩,
  ⟨16, 16, .u32, .rw, false, 141421, .yes, (.within 1000 20000000)⟩,
  ⟨17, 17, .i32, .rw, false, 100000, .yes, .any⟩,
  ⟨32, 32, .u8, .rw, false, 60, .no, (.within 0 120)⟩,
  ⟨33, 33, .u8, .rw, false, 1, .no, (.within 0 1)⟩,
  ⟨34, 34, .u8, .rw, false, 4, .no, (.within 1 12)⟩,
  ⟨35, 35, .u16, .rw, false, 1200, .no, (.within 256 2000)⟩,
  ⟨36, 36, .u16, .rw, false, 200, .yes, (.within 1 1023)⟩,
  ⟨37, 37, .u8, .rw, false, 0, .yes, (.within 0 1)⟩,
  ⟨38, 38, .u8, .rw, false, 1, .yes, (.within 0 2)⟩,
  ⟨39, 39, .u32, .rw, false, 256, .yes, (.within 1 524287)⟩,
  ⟨40, 40, .u16, .rw, false, 4096, .yes, (.within 1 65535)⟩,
  ⟨41, 41, .u8, .rw, false, 0, .yes, (.within 0 31)⟩,
  ⟨42, 42, .u8, .rw, false, 16, .yes, (.within 1 32)⟩,
  ⟨43, 43, .u32, .rw, false, 0, .yes, .any⟩,
  ⟨44, 44, .u8, .rw, false, 1, .no, (.within 0 1)⟩,
  ⟨45, 45, .u32, .rw, false, 256, .no, (.within 1 523776)⟩,
  ⟨46, 46, .u16, .rw, false, 64, .no, (.within 0 511)⟩,
  ⟨47, 47, .u8, .rw, false, 0, .yes, (.within 0 1)⟩,
  ⟨48, 48, .u8, .rw, false, 8, .yes, (.within 1 32)⟩,
  ⟨49, 49, .u32, .rw, false, 25600, .yes, (.within 1 1048576)⟩,
  ⟨50, 50, .u8, .wo, false, 0, .yes, (.within 1 255)⟩,
  ⟨51, 51, .u8, .ro, true, 0, .no, .any⟩,
  ⟨52, 52, .u32, .ro, false, 0, .no, .any⟩,
  ⟨53, 53, (.dom 1024 1024 1), .ro, false, 0, .no, .any⟩]

/-- Rows of a path configuration (R136, R170, R208, R252), part 2. -/
def rows_path1 : List Row := [
  ⟨64, 64, .u16, .rw, false, 200, .yes, (.within 1 2047)⟩,
  ⟨65, 65, .u16, .rw, false, 2047, .yes, (.within 1 2047)⟩,
  ⟨66, 66, .u16, .rw, false, 100, .yes, (.within 5 500)⟩,
  ⟨67, 67, .u16, .rw, false, 0, .yes, (.within 0 16383)⟩,
  ⟨68, 68, .u16, .rw, false, 0, .yes, (.within 0 16383)⟩,
  ⟨69, 69, .u8, .ro, true, 0, .no, .any⟩,
  ⟨70, 70, .u8, .rw, false, 1, .yes, (.within 0 2)⟩,
  ⟨71, 71, .u8, .rw, false, 30, .yes, (.within 10 60)⟩,
  ⟨72, 72, .u8, .rw, false, 3, .yes, (.within 1 15)⟩,
  ⟨73, 73, .u8, .rw, false, 16, .yes, (.within 1 255)⟩,
  ⟨74, 74, .u8, .rw, false, 12, .yes, (.within 0 80)⟩,
  ⟨75, 75, .u8, .rw, false, 8, .no, (.within 0 255)⟩]

/-- All rows of a path configuration (R136, R170, R208, R252). -/
def rows_path : List Row := rows_path0 ++ rows_path1

/-- Rows of a path result (R137, R171, R209), part 1. -/
def rows_rec0 : List Row := [
  ⟨0, 0, .u8, .const, false, 85, .no, .any⟩,
  ⟨1, 1, .u64, .ro, true, 0, .no, .any⟩,
  ⟨2, 2, .u32, .ro, true, 0, .no, .any⟩,
  ⟨3, 3, .u8, .ro, true, 0, .no, .any⟩,
  ⟨4, 4, .u32, .ro, true, 0, .no, .any⟩,
  ⟨5, 5, .u32, .ro, true, 0, .no, .any⟩,
  ⟨6, 6, .i32, .ro, true, 0, .no, .any⟩,
  ⟨7, 7, .r32, .ro, true, 0, .no, .any⟩,
  ⟨8, 8, .i32, .ro, true, 0, .no, .any⟩,
  ⟨9, 9, .i32, .ro, true, 0, .no, .any⟩,
  ⟨10, 10, .u16, .ro, true, 0, .no, .any⟩,
  ⟨11, 11, .u32, .ro, true, 0, .no, .any⟩,
  ⟨12, 12, .u32, .ro, true, 0, .no, .any⟩,
  ⟨13, 13, .r32, .ro, true, 0, .no, .any⟩,
  ⟨32, 32, .u32, .ro, true, 0, .no, .any⟩,
  ⟨33, 33, .u32, .ro, true, 0, .no, .any⟩,
  ⟨34, 34, .i32, .ro, true, 0, .no, .any⟩,
  ⟨35, 35, .r32, .ro, true, 0, .no, .any⟩,
  ⟨36, 36, .r32, .ro, true, 0, .no, .any⟩,
  ⟨37, 37, .u16, .ro, true, 0, .no, .any⟩,
  ⟨38, 38, .u16, .ro, true, 0, .no, .any⟩,
  ⟨39, 39, .u8, .ro, true, 0, .no, .any⟩,
  ⟨40, 40, .u8, .ro, true, 0, .no, .any⟩,
  ⟨41, 41, .u8, .ro, true, 0, .no, .any⟩,
  ⟨42, 42, .u32, .ro, true, 0, .no, .any⟩,
  ⟨43, 43, .u32, .ro, true, 0, .no, .any⟩,
  ⟨44, 44, .u32, .ro, true, 0, .no, .any⟩,
  ⟨45, 45, .u32, .ro, true, 0, .no, .any⟩,
  ⟨46, 46, .u32, .ro, true, 0, .no, .any⟩,
  ⟨47, 47, .u32, .ro, true, 0, .no, .any⟩,
  ⟨48, 48, .u16, .ro, true, 0, .no, .any⟩,
  ⟨49, 49, .u32, .ro, true, 0, .no, .any⟩,
  ⟨50, 50, .u32, .ro, true, 0, .no, .any⟩,
  ⟨64, 64, .u16, .ro, true, 0, .no, .any⟩,
  ⟨65, 65, .u8, .ro, true, 0, .no, .any⟩,
  ⟨66, 66, .u8, .ro, true, 0, .no, .any⟩,
  ⟨67, 67, .u16, .ro, true, 0, .no, .any⟩,
  ⟨68, 68, .u16, .ro, true, 0, .no, .any⟩,
  ⟨69, 69, .u32, .ro, true, 0, .no, .any⟩,
  ⟨70, 70, .u32, .ro, true, 0, .no, .any⟩]

/-- Rows of a path result (R137, R171, R209), part 2. -/
def rows_rec1 : List Row := [
  ⟨71, 71, .u32, .ro, true, 0, .no, .any⟩,
  ⟨72, 72, .u32, .ro, true, 0, .no, .any⟩,
  ⟨73, 73, .u32, .ro, true, 0, .no, .any⟩,
  ⟨74, 74, .u32, .ro, true, 0, .no, .any⟩,
  ⟨75, 75, .u32, .ro, true, 0, .no, .any⟩,
  ⟨76, 76, .u32, .ro, true, 0, .no, .any⟩,
  ⟨77, 77, .u32, .ro, true, 0, .no, .any⟩,
  ⟨78, 78, .u32, .ro, true, 0, .no, .any⟩,
  ⟨80, 80, .i32, .ro, true, 0, .no, .any⟩,
  ⟨81, 81, .i32, .ro, true, 0, .no, .any⟩,
  ⟨82, 82, .i32, .ro, false, 0, .no, .any⟩,
  ⟨83, 83, .u32, .ro, false, 0, .no, .any⟩,
  ⟨84, 84, .u32, .ro, false, 0, .no, .any⟩,
  ⟨85, 85, .u64, .ro, false, 0, .no, .any⟩]

/-- All rows of a path result (R137, R171, R209). -/
def rows_rec : List Row := rows_rec0 ++ rows_rec1

/-- Rows of the device (R211, R288, R509, R563, R582, R625, R691). -/
def rows_dev : List Row := [
  ⟨16, 16, .u32, .rw, false, 614400, .no, (.within 24576 1474560000)⟩,
  ⟨17, 17, .u32, .ro, true, 0, .no, .any⟩,
  ⟨18, 18, .u8, .rw, false, 8, .no, (.within 1 255)⟩,
  ⟨32, 32, .u32, .rw, false, 24576, .no, (.within 77 24576000)⟩,
  ⟨33, 33, .u64, .ro, false, 0, .no, .any⟩,
  ⟨48, 55, .u16, .rw, false, 5000, .no, (.within 1 60000)⟩,
  ⟨64, 64, .u8, .ro, false, 0, .no, .any⟩,
  ⟨65, 65, .u8, .ro, false, 0, .no, .any⟩,
  ⟨66, 66, .u64, .ro, false, 0, .no, .any⟩,
  ⟨67, 67, .u32, .ro, false, 0, .no, .any⟩,
  ⟨68, 68, .u32, .ro, false, 4294967295, .no, .any⟩,
  ⟨69, 69, .u16, .rw, false, 1000, .no, (.within 10 10000)⟩,
  ⟨70, 70, .u32, .ro, false, 0, .no, .any⟩,
  ⟨71, 71, .u32, .ro, false, 0, .no, .any⟩,
  ⟨80, 80, .u16, .ro, false, 0, .no, .any⟩,
  ⟨96, 96, .u8, .rw, false, 2, .no, (.within 0 4)⟩,
  ⟨97, 97, .u8, .rw, false, 2, .no, (.within 0 4)⟩,
  ⟨98, 98, .u16, .rw, false, 875, .no, (.within 500 900)⟩,
  ⟨99, 99, .u16, .rw, false, 750, .no, (.within 500 900)⟩,
  ⟨100, 100, .u8, .rw, false, 0, .no, (.within 0 1)⟩,
  ⟨101, 101, .u16, .rw, false, 1000, .no, (.within 10 60000)⟩,
  ⟨102, 102, .u8, .rw, false, 0, .yes, (.within 0 2)⟩,
  ⟨103, 103, .u16, .rw, false, 10, .yes, (.within 2 3600)⟩,
  ⟨104, 104, .i32, .rw, false, 0, .yes, (.within (-50400) 50400)⟩,
  ⟨105, 105, .i32, .ro, true, 0, .no, .any⟩,
  ⟨106, 106, .u64, .ro, true, 0, .no, .any⟩,
  ⟨107, 107, .u16, .rw, true, 0, .no, (.w1c 2048)⟩,
  ⟨108, 108, .u16, .ro, false, 0, .no, .any⟩,
  ⟨109, 109, .u32, .ro, false, 0, .no, .any⟩,
  ⟨110, 110, .u32, .ro, false, 0, .no, .any⟩,
  ⟨111, 111, .u32, .ro, false, 0, .no, .any⟩,
  ⟨112, 112, .u32, .ro, false, 0, .no, .any⟩,
  ⟨113, 113, .u32, .ro, false, 0, .no, .any⟩,
  ⟨128, 128, .u8, .rw, false, 0, .yes, (.within 0 1)⟩]

/-- Rows of a section configuration (R212, R253, R315). -/
def rows_sect : List Row := [
  ⟨0, 0, .u8, .const, false, 70, .no, .any⟩,
  ⟨1, 1, .u32, .rw, false, 0, .yes, .any⟩,
  ⟨2, 2, .u8, .rw, false, 0, .yes, (.within 0 3)⟩,
  ⟨3, 3, .u32, .rw, false, 100000, .yes, (.within 10000 5000000)⟩,
  ⟨4, 4, .u8, .rw, false, 255, .yes, (.withinOr 0 31 255)⟩,
  ⟨5, 5, .i32, .rw, false, 1073741824, .yes, (.within 536870912 1610612736)⟩,
  ⟨6, 6, .u8, .rw, false, 255, .yes, (.withinOr 0 31 255)⟩,
  ⟨7, 7, .u32, .rw, false, 1000000, .yes, (.within 1 100000000)⟩,
  ⟨8, 8, .u8, .rw, false, 255, .yes, (.withinOr 0 127 255)⟩,
  ⟨9, 9, .i16, .rw, false, 2000, .yes, (.within (-5000) 20000)⟩,
  ⟨10, 10, .u8, .rw, false, 255, .yes, (.withinOr 0 127 255)⟩,
  ⟨11, 11, .u32, .rw, false, 101325, .yes, (.within 1000 25000000)⟩,
  ⟨12, 12, .u8, .rw, false, 1, .yes, (.within 1 32)⟩,
  ⟨13, 13, .u8, .rw, false, 6, .yes, (.within 0 12)⟩,
  ⟨14, 14, .u16, .rw, false, 80, .yes, (.within 1 65535)⟩,
  ⟨15, 15, .u32, .rw, false, 122880, .no, (.within 2049 245760000)⟩,
  ⟨16, 16, .u16, .rw, false, 60, .yes, (.within 1 3600)⟩,
  ⟨17, 17, .u64, .rw, false, 0, .yes, .any⟩,
  ⟨18, 18, .u64, .rw, false, 0, .yes, .any⟩,
  ⟨19, 19, .u64, .rw, false, 0, .yes, .any⟩,
  ⟨20, 20, .u16, .rw, false, 60, .yes, (.within 1 3600)⟩,
  ⟨21, 21, .u8, .rw, false, 0, .yes, (.within 0 1)⟩,
  ⟨22, 22, .u8, .rw, false, 255, .yes, (.withinOr 0 127 255)⟩,
  ⟨23, 23, .u8, .rw, false, 255, .yes, (.withinOr 0 127 255)⟩,
  ⟨24, 24, .u8, .rw, false, 0, .yes, (.within 0 1)⟩,
  ⟨25, 25, .u8, .rw, false, 255, .yes, (.withinOr 0 31 255)⟩,
  ⟨26, 26, .u8, .rw, false, 255, .yes, (.withinOr 0 31 255)⟩,
  ⟨27, 27, .u16, .rw, false, 20, .yes, (.within 0 1000)⟩,
  ⟨28, 28, .u16, .rw, false, 60, .yes, (.within 1 3600)⟩,
  ⟨29, 29, .u64, .ro, true, 0, .no, .any⟩,
  ⟨32, 63, .i32, .rw, false, 0, .yes, .any⟩,
  ⟨64, 64, .u16, .rw, false, 20, .no, (.within 1 65535)⟩,
  ⟨65, 65, .u16, .rw, false, 1, .no, (.within 1 65535)⟩,
  ⟨66, 66, .u16, .rw, false, 20, .yes, (.within 1 65535)⟩,
  ⟨67, 67, .u16, .rw, false, 60, .no, (.within 1 3600)⟩,
  ⟨68, 68, .u8, .rw, false, 0, .no, (.within 0 2)⟩,
  ⟨69, 69, .u8, .ro, true, 0, .no, .any⟩,
  ⟨70, 70, .u32, .ro, false, 0, .no, .any⟩]

/-- Rows of a section result (R254, R316). -/
def rows_res : List Row := [
  ⟨0, 0, .u8, .const, false, 63, .no, .any⟩,
  ⟨1, 1, .u64, .ro, true, 0, .no, .any⟩,
  ⟨2, 2, .u32, .ro, true, 0, .no, .any⟩,
  ⟨3, 3, .i64, .ro, true, 0, .no, .any⟩,
  ⟨4, 4, .r32, .ro, true, 0, .no, .any⟩,
  ⟨5, 5, .i64, .ro, true, 0, .no, .any⟩,
  ⟨6, 6, .r32, .ro, true, 0, .no, .any⟩,
  ⟨7, 7, .r32, .ro, true, 0, .no, .any⟩,
  ⟨8, 8, .r32, .ro, true, 0, .no, .any⟩,
  ⟨9, 9, .i32, .ro, true, 0, .no, .any⟩,
  ⟨10, 10, .u32, .ro, true, 0, .no, .any⟩,
  ⟨11, 11, .i16, .ro, true, 0, .no, .any⟩,
  ⟨12, 12, .u16, .ro, true, 0, .no, .any⟩,
  ⟨13, 13, .u32, .ro, true, 0, .no, .any⟩,
  ⟨14, 14, .u32, .ro, true, 0, .no, .any⟩,
  ⟨15, 15, .u32, .ro, true, 0, .no, .any⟩,
  ⟨16, 16, .u64, .ro, true, 0, .no, .any⟩,
  ⟨17, 17, .u64, .ro, true, 0, .no, .any⟩,
  ⟨18, 18, .u64, .ro, true, 0, .no, .any⟩,
  ⟨19, 19, .u64, .ro, true, 0, .no, .any⟩,
  ⟨20, 20, .u32, .ro, true, 0, .no, .any⟩,
  ⟨21, 21, .u64, .ro, true, 0, .no, .any⟩,
  ⟨22, 22, .u32, .ro, true, 0, .no, .any⟩,
  ⟨23, 23, .u64, .ro, true, 0, .no, .any⟩,
  ⟨24, 24, .u32, .ro, true, 0, .no, .any⟩,
  ⟨25, 25, .u64, .ro, true, 0, .no, .any⟩,
  ⟨26, 26, .u32, .ro, true, 0, .no, .any⟩,
  ⟨27, 27, .u32, .ro, false, 0, .no, .any⟩,
  ⟨28, 28, .u32, .ro, false, 0, .no, .any⟩,
  ⟨29, 29, .u32, .ro, false, 0, .no, .any⟩,
  ⟨30, 30, .r32, .ro, true, 0, .no, .any⟩,
  ⟨31, 31, .u16, .ro, true, 0, .no, .any⟩,
  ⟨32, 63, .i32, .ro, false, 1073741824, .no, .any⟩]

/-- Rows of the correction table, first half (R256). -/
def rows_tabA : List Row := [
  ⟨0, 0, .u8, .const, false, 192, .no, .any⟩,
  ⟨1, 192, .u64, .rw, false, 0, .table, .any⟩]

/-- Rows of the correction table, second half (R256). -/
def rows_tabB : List Row := [
  ⟨0, 0, .u8, .const, false, 192, .no, .any⟩,
  ⟨1, 192, .u64, .rw, false, 0, .table, .any⟩]

/-- Rows of the segment descriptors (R256). -/
def rows_seg : List Row := [
  ⟨0, 0, .u8, .const, false, 32, .no, .any⟩,
  ⟨1, 32, .u32, .rw, false, 0, .table, .any⟩]

/-- Rows of a sense channel (R286). -/
def rows_chan : List Row := [
  ⟨0, 0, .u8, .const, false, 42, .no, .any⟩,
  ⟨1, 1, .u8, .rw, false, 0, .yes, (.within 0 4)⟩,
  ⟨2, 2, .u8, .rw, false, 1, .yes, (.within 1 14)⟩,
  ⟨3, 3, .u8, .rw, false, 0, .yes, (.within 0 15)⟩,
  ⟨4, 4, .u8, .rw, false, 0, .yes, (.within 0 15)⟩,
  ⟨5, 5, .u8, .rw, false, 1, .yes, (.within 0 15)⟩,
  ⟨6, 6, .u8, .rw, false, 2, .yes, (.within 0 15)⟩,
  ⟨7, 7, .u8, .rw, false, 3, .yes, (.within 0 15)⟩,
  ⟨8, 8, .u8, .rw, false, 0, .yes, (.within 0 100)⟩,
  ⟨9, 9, .u8, .rw, false, 0, .yes, (.within 0 7)⟩,
  ⟨10, 10, .u8, .rw, false, 2, .yes, (.within 0 6)⟩,
  ⟨11, 11, .u16, .rw, false, 1000, .no, (.within 0 65000)⟩,
  ⟨12, 12, .u8, .rw, false, 1, .no, (.within 1 255)⟩,
  ⟨13, 13, .u8, .rw, false, 1, .no, (.within 0 3)⟩,
  ⟨14, 14, .u16, .rw, false, 100, .yes, (.within 0 3000)⟩,
  ⟨15, 15, .u16, .rw, false, 2700, .yes, (.within 0 3000)⟩,
  ⟨16, 16, .u8, .rw, false, 5, .yes, (.within 1 100)⟩,
  ⟨17, 17, .u16, .rw, false, 0, .yes, (.within 0 65535)⟩,
  ⟨18, 18, .u8, .rw, false, 255, .yes, (.withinOr 0 31 255)⟩,
  ⟨19, 19, .u8, .rw, false, 8, .yes, (.within 0 31)⟩,
  ⟨20, 20, .u8, .rw, false, 0, .yes, (.within 0 2)⟩,
  ⟨21, 21, .u8, .rw, false, 8, .no, (.within 0 255)⟩,
  ⟨32, 32, .i32, .ro, true, 0, .no, .any⟩,
  ⟨33, 33, .r32, .ro, true, 0, .no, .any⟩,
  ⟨34, 34, .r32, .ro, true, 0, .no, .any⟩,
  ⟨35, 35, .i32, .ro, true, 0, .no, .any⟩,
  ⟨36, 36, .u32, .ro, true, 0, .no, .any⟩,
  ⟨37, 37, .u16, .ro, true, 0, .no, .any⟩,
  ⟨38, 38, .u64, .ro, true, 0, .no, .any⟩,
  ⟨39, 39, .u32, .ro, false, 0, .no, .any⟩,
  ⟨40, 40, .u32, .ro, false, 0, .no, .any⟩,
  ⟨41, 41, .u32, .ro, false, 0, .no, .any⟩,
  ⟨42, 42, .u8, .ro, false, 0, .no, .any⟩]

/-- Rows of the pulse inputs (R318). -/
def rows_pin : List Row := [
  ⟨0, 0, .u8, .const, false, 128, .no, .any⟩,
  ⟨1, 32, .u32, .rw, false, 10, .pulseAdd, .any⟩,
  ⟨33, 64, .u64, .rw, false, 0, .pulseAdd, .any⟩,
  ⟨65, 96, .u32, .ro, true, 0, .no, .any⟩,
  ⟨97, 128, .u16, .rw, true, 0, .no, (.w1c 96)⟩]

/-- Rows of the lantern (R320). -/
def rows_lant : List Row := [
  ⟨0, 0, .u8, .const, false, 18, .no, .any⟩,
  ⟨1, 1, .u8, .rw, false, 0, .yes, (.within 0 1)⟩,
  ⟨2, 2, .u8, .rw, false, 0, .yes, (.within 0 3)⟩,
  ⟨3, 3, .u8, .rw, false, 0, .yes, (.within 0 7)⟩,
  ⟨4, 4, .u8, .rw, false, 10, .yes, (.within 2 60)⟩,
  ⟨5, 5, .u8, .rw, false, 33, .yes, (.within 33 50)⟩,
  ⟨6, 6, .i32, .rw, false, 1073741824, .yes, (.within 536870912 1610612736)⟩,
  ⟨7, 7, .u16, .rw, false, 2800, .yes, (.within 2000 3600)⟩,
  ⟨8, 8, .u32, .rw, false, 1000, .yes, .any⟩,
  ⟨9, 9, .u64, .ro, true, 0, .no, .any⟩,
  ⟨10, 10, .u64, .ro, true, 0, .no, .any⟩,
  ⟨11, 11, .u64, .ro, true, 0, .no, .any⟩,
  ⟨12, 12, .u64, .ro, true, 0, .no, .any⟩,
  ⟨13, 13, .u32, .ro, false, 0, .no, .any⟩,
  ⟨14, 14, .u32, .ro, false, 0, .no, .any⟩,
  ⟨15, 15, .u32, .ro, false, 0, .no, .any⟩,
  ⟨16, 16, .u32, .ro, false, 0, .no, .any⟩,
  ⟨17, 17, .u32, .ro, false, 0, .no, .any⟩,
  ⟨18, 18, .u16, .rw, true, 0, .no, (.w1c 24)⟩]

/-- Rows of a section's totals (R362). -/
def rows_tot : List Row := [
  ⟨0, 0, .u8, .const, false, 40, .no, .any⟩,
  ⟨1, 9, .u64, .ro, true, 0, .no, .any⟩,
  ⟨10, 10, .u64, .ro, true, 0, .no, .any⟩,
  ⟨11, 19, .u64, .ro, true, 0, .no, .any⟩,
  ⟨20, 20, .u64, .ro, true, 0, .no, .any⟩,
  ⟨21, 29, .u64, .ro, true, 0, .no, .any⟩,
  ⟨30, 30, .u64, .ro, true, 0, .no, .any⟩,
  ⟨31, 39, .u64, .ro, true, 0, .no, .any⟩,
  ⟨40, 40, .u64, .ro, true, 0, .no, .any⟩]

/-- Rows of a section's demand (R363). -/
def rows_dem : List Row := [
  ⟨0, 0, .u8, .const, false, 58, .no, .any⟩,
  ⟨1, 9, .u64, .ro, true, 0, .no, .any⟩,
  ⟨10, 18, .u32, .ro, true, 0, .no, .any⟩,
  ⟨19, 27, .u64, .ro, true, 0, .no, .any⟩,
  ⟨28, 36, .u32, .ro, true, 0, .no, .any⟩,
  ⟨37, 45, .u64, .ro, true, 0, .no, .any⟩,
  ⟨46, 54, .u32, .ro, true, 0, .no, .any⟩,
  ⟨55, 55, .u64, .ro, true, 0, .no, .any⟩,
  ⟨56, 56, .u64, .ro, true, 0, .no, .any⟩,
  ⟨57, 57, .u64, .ro, true, 0, .no, .any⟩,
  ⟨58, 58, .u32, .ro, true, 0, .no, .any⟩]

/-- Rows of the billing history (R364). -/
def rows_snap : List Row := [
  ⟨0, 0, .u8, .const, false, 14, .no, .any⟩,
  ⟨1, 1, .u8, .ro, true, 0, .no, .any⟩,
  ⟨2, 2, .u32, .ro, true, 0, .no, .any⟩,
  ⟨3, 3, .u32, .rw, false, 0, .no, .any⟩,
  ⟨4, 4, (.dom 64 64 1), .ro, false, 0, .no, .any⟩,
  ⟨5, 12, (.dom 704 704 1), .ro, false, 0, .no, .any⟩,
  ⟨13, 13, .u32, .ro, true, 0, .no, .any⟩,
  ⟨14, 14, .u8, .wo, false, 0, .no, (.within 1 1)⟩]

/-- Rows of the calendar (R365). -/
def rows_cal : List Row := [
  ⟨0, 0, .u8, .const, false, 103, .no, .any⟩,
  ⟨1, 1, .u8, .rw, false, 0, .yes, (.within 0 1)⟩,
  ⟨2, 2, .u8, .rw, false, 15, .yes, .any⟩,
  ⟨3, 3, .u8, .rw, false, 1, .yes, (.within 0 1)⟩,
  ⟨4, 4, .u8, .rw, false, 1, .yes, (.within 1 28)⟩,
  ⟨5, 5, .u8, .rw, false, 0, .yes, (.within 0 23)⟩,
  ⟨6, 9, .u32, .rw, false, 0, .yes, .any⟩,
  ⟨10, 17, .u32, .rw, false, 0, .yes, .any⟩,
  ⟨18, 33, (.dom 1 26 1), .rw, false, 0, .yes, .any⟩,
  ⟨34, 97, .u32, .rw, false, 0, .yes, .any⟩,
  ⟨98, 98, .u8, .ro, true, 0, .no, .any⟩,
  ⟨99, 99, .u8, .ro, false, 255, .no, .any⟩,
  ⟨100, 100, .u8, .ro, false, 0, .no, .any⟩,
  ⟨101, 101, .u16, .ro, true, 128, .no, .any⟩,
  ⟨102, 102, .u32, .ro, false, 0, .no, .any⟩,
  ⟨103, 103, .u32, .ro, false, 0, .no, .any⟩]

/-- Rows of the ember (R393). -/
def rows_emb : List Row := [
  ⟨0, 0, .u8, .const, false, 21, .no, .any⟩,
  ⟨1, 1, .u8, .rw, false, 0, .yes, (.within 0 1)⟩,
  ⟨2, 2, .u64, .ro, true, 0, .no, .any⟩,
  ⟨3, 3, .u64, .ro, true, 1103907258368, .no, .any⟩,
  ⟨4, 4, .u32, .wo, false, 0, .no, .any⟩,
  ⟨5, 5, .u64, .wo, false, 0, .no, .any⟩,
  ⟨6, 6, .i16, .rw, false, 0, .yes, (.within (-537) 537)⟩,
  ⟨7, 7, .u16, .rw, true, 104, .no, (.w1c 3486)⟩,
  ⟨8, 8, .u16, .rw, false, 0, .yes, .any⟩,
  ⟨9, 9, .u32, .rw, false, 0, .no, .any⟩,
  ⟨10, 10, .u8, .wo, false, 0, .no, (.within 1 2)⟩,
  ⟨11, 11, .u16, .ro, true, 0, .no, .any⟩,
  ⟨12, 12, .u32, .ro, true, 0, .no, .any⟩,
  ⟨13, 13, .u32, .ro, true, 0, .no, .any⟩,
  ⟨14, 14, .u16, .ro, true, 0, .no, .any⟩,
  ⟨15, 15, .u32, .ro, true, 0, .no, .any⟩,
  ⟨16, 16, .u32, .ro, true, 0, .no, .any⟩,
  ⟨17, 17, (.dom 64 64 1), .rw, false, 0, .no, .any⟩,
  ⟨18, 18, .u8, .wo, false, 0, .no, (.within 1 255)⟩,
  ⟨19, 19, .u64, .ro, false, 0, .no, .any⟩,
  ⟨20, 20, .u8, .ro, false, 0, .no, .any⟩,
  ⟨21, 21, .u32, .ro, false, 0, .no, .any⟩]

/-- Rows of the firings (R421). -/
def rows_fire : List Row := [
  ⟨0, 0, .u8, .const, false, 26, .no, .any⟩,
  ⟨1, 3, .u16, .wo, false, 0, .no, .any⟩,
  ⟨4, 6, .u16, .ro, true, 0, .no, .any⟩,
  ⟨7, 9, .u16, .ro, true, 0, .no, .any⟩,
  ⟨10, 12, .u32, .rw, false, 96, .no, (.within 96 24576000)⟩,
  ⟨13, 15, .u16, .rw, false, 60, .no, (.within 1 3600)⟩,
  ⟨16, 18, .u32, .ro, false, 0, .no, .any⟩,
  ⟨19, 19, .u16, .ro, true, 0, .no, .any⟩,
  ⟨20, 20, .u16, .ro, false, 0, .no, .any⟩,
  ⟨21, 21, .u8, .ro, true, 64, .no, .any⟩,
  ⟨22, 22, .u64, .ro, false, 0, .no, .any⟩,
  ⟨23, 23, .u32, .ro, false, 0, .no, .any⟩,
  ⟨24, 24, .u32, .ro, false, 0, .no, .any⟩,
  ⟨25, 25, .u32, .ro, false, 0, .no, .any⟩,
  ⟨26, 26, .u32, .ro, false, 0, .no, .any⟩]

/-- Rows of the store (R458). -/
def rows_st : List Row := [
  ⟨0, 0, .u8, .const, false, 20, .no, .any⟩,
  ⟨1, 1, .u8, .rw, false, 0, .no, (.within 0 7)⟩,
  ⟨2, 2, .u8, .rw, false, 6, .no, (.within 0 15)⟩,
  ⟨3, 3, .u16, .rw, false, 0, .no, .any⟩,
  ⟨4, 4, (.dom 256 256 1), .rw, false, 0, .no, .any⟩,
  ⟨5, 5, (.dom 10 10 1), .wo, false, 0, .no, .any⟩,
  ⟨6, 6, .u8, .wo, false, 0, .no, (.within 0 15)⟩,
  ⟨7, 7, (.dom 22 22 1), .wo, false, 0, .yes, .any⟩,
  ⟨8, 8, (.dom 64 64 1), .ro, false, 0, .no, .any⟩,
  ⟨9, 9, .u8, .rw, false, 30, .no, (.within 1 255)⟩,
  ⟨10, 10, .u16, .ro, true, 0, .no, .any⟩,
  ⟨11, 11, .u32, .ro, false, 0, .no, .any⟩,
  ⟨12, 12, .u32, .ro, false, 0, .no, .any⟩,
  ⟨13, 13, .u32, .ro, false, 0, .no, .any⟩,
  ⟨14, 14, .u32, .ro, false, 0, .no, .any⟩,
  ⟨15, 15, .u32, .ro, false, 0, .no, .any⟩,
  ⟨16, 16, .u32, .ro, false, 0, .no, .any⟩,
  ⟨17, 17, .u32, .ro, false, 0, .no, .any⟩,
  ⟨18, 18, .u32, .ro, false, 0, .no, .any⟩,
  ⟨19, 19, .u64, .ro, false, 0, .no, .any⟩,
  ⟨20, 20, .u64, .ro, false, 0, .no, .any⟩]

/-- Rows of power and ration (R542). -/
def rows_sup : List Row := [
  ⟨0, 0, .u8, .const, false, 47, .no, .any⟩,
  ⟨1, 1, .u8, .ro, false, 0, .no, .any⟩,
  ⟨2, 2, .u16, .ro, true, 0, .no, .any⟩,
  ⟨3, 3, .u16, .ro, true, 0, .no, .any⟩,
  ⟨4, 4, .u16, .ro, true, 0, .no, .any⟩,
  ⟨5, 5, .u16, .ro, true, 0, .no, .any⟩,
  ⟨6, 6, .u16, .ro, true, 0, .no, .any⟩,
  ⟨7, 7, .u32, .ro, true, 0, .no, .any⟩,
  ⟨8, 8, .u32, .ro, true, 0, .no, .any⟩,
  ⟨9, 9, .i32, .ro, true, 0, .no, .any⟩,
  ⟨10, 10, .u32, .ro, true, 0, .no, .any⟩,
  ⟨11, 11, .u16, .rw, false, 470, .yes, (.within 100 2200)⟩,
  ⟨12, 12, .u16, .ro, false, 0, .no, .any⟩,
  ⟨13, 13, .u8, .wo, false, 0, .no, (.within 1 1)⟩,
  ⟨14, 14, .u8, .rw, false, 120, .no, (.within 60 160)⟩,
  ⟨15, 15, .u8, .rw, false, 40, .yes, (.within 36 50)⟩,
  ⟨16, 16, .u8, .rw, false, 50, .no, (.within 40 150)⟩,
  ⟨17, 17, .u8, .ro, false, 0, .no, .any⟩,
  ⟨18, 18, .u16, .rw, false, 1500, .no, (.within 100 1500)⟩,
  ⟨19, 19, .u8, .rw, false, 0, .no, (.within 0 2)⟩,
  ⟨20, 20, .u16, .rw, false, 205, .no, (.within 128 256)⟩,
  ⟨21, 28, .u8, .rw, false, 128, .no, (.within 0 255)⟩,
  ⟨29, 29, .u32, .ro, false, 0, .no, .any⟩,
  ⟨30, 30, .u64, .ro, false, 0, .no, .any⟩,
  ⟨31, 31, .u64, .rw, false, 0, .no, .any⟩,
  ⟨32, 39, .u8, .rw, false, 255, .no, .any⟩,
  ⟨40, 47, .u8, .ro, true, 0, .no, .any⟩]

/-- Rows of the loop output (R662). -/
def rows_loop : List Row := [
  ⟨0, 0, .u8, .const, false, 6, .no, .any⟩,
  ⟨1, 1, .u32, .rw, false, 65536, .no, .any⟩,
  ⟨2, 2, .u8, .rw, false, 1, .yes, (.within 0 1)⟩,
  ⟨3, 3, .u16, .ro, true, 0, .no, .any⟩,
  ⟨4, 4, .u16, .ro, true, 0, .no, .any⟩,
  ⟨5, 5, .u16, .rw, false, 100, .no, (.within 10 2000)⟩,
  ⟨6, 6, .u16, .rw, true, 1, .no, (.w1c 48)⟩]

/-- Rows of the saggar (R664). -/
def rows_sag : List Row := [
  ⟨0, 0, .u8, .const, false, 201, .no, .any⟩,
  ⟨1, 64, .u8, .rw, false, 72, .loosening, (.within 0 72)⟩,
  ⟨65, 128, .u8, .rw, false, 160, .loosening, (.within 33 160)⟩,
  ⟨129, 192, .u32, .rw, false, 4000, .loosening, (.within 0 100000)⟩,
  ⟨193, 193, .u16, .rw, false, 683, .loosening, (.within 683 57685)⟩,
  ⟨194, 194, .u16, .rw, false, 57685, .loosening, (.within 683 57685)⟩,
  ⟨195, 195, .u16, .rw, false, 256, .loosening, (.within 1 65535)⟩,
  ⟨196, 196, .u16, .rw, false, 59392, .yes, (.within 59392 65535)⟩,
  ⟨197, 197, .u16, .rw, false, 200, .loosening, (.within 1 1000)⟩,
  ⟨198, 198, .u16, .rw, false, 1000, .loosening, (.within 100 60000)⟩,
  ⟨199, 199, .u8, .rw, false, 45, .loosening, (.within 40 150)⟩,
  ⟨200, 200, .u16, .rw, true, 0, .no, (.w1c 44)⟩,
  ⟨201, 201, .u32, .ro, false, 0, .no, .any⟩]

/-- Rows of security (R689). -/
def rows_sec : List Row := [
  ⟨0, 0, .u8, .const, false, 26, .no, .any⟩,
  ⟨1, 1, .u8, .ro, true, 0, .no, .any⟩,
  ⟨2, 2, .u32, .ro, true, 0, .no, .any⟩,
  ⟨3, 3, .u32, .ro, false, 0, .no, .any⟩,
  ⟨4, 4, .u16, .rw, true, 0, .no, (.w1c 10)⟩,
  ⟨5, 5, .u8, .ro, false, 0, .no, .any⟩,
  ⟨6, 6, .u8, .ro, false, 0, .no, .any⟩,
  ⟨7, 7, .u8, .wo, false, 0, .yes, (.within 1 1)⟩,
  ⟨8, 8, .u8, .ro, false, 255, .no, .any⟩,
  ⟨9, 9, .u8, .ro, false, 255, .no, .any⟩,
  ⟨10, 10, .u32, .ro, false, 0, .no, .any⟩,
  ⟨11, 11, .u32, .ro, false, 0, .no, .any⟩,
  ⟨12, 12, .u32, .ro, false, 0, .no, .any⟩,
  ⟨13, 13, .u8, .wo, false, 0, .no, (.within 1 2)⟩,
  ⟨14, 14, .u32, .rw, false, 0, .no, (.within 0 343808)⟩,
  ⟨15, 15, (.dom 256 1024 256), .wo, false, 0, .no, .any⟩,
  ⟨16, 16, .u8, .ro, false, 0, .no, .any⟩,
  ⟨17, 17, .u8, .ro, false, 0, .no, .any⟩,
  ⟨18, 18, (.dom 64 64 1), .const, false, 0, .no, .any⟩,
  ⟨19, 19, (.dom 64 64 1), .rw, false, 0, .yes, .any⟩,
  ⟨20, 20, (.dom 32 32 1), .wo, false, 0, .no, .any⟩,
  ⟨21, 21, .u8, .wo, false, 0, .no, (.within 1 1)⟩,
  ⟨22, 22, .u8, .ro, false, 0, .no, .any⟩,
  ⟨23, 23, .u8, .rw, false, 2, .no, (.within 1 3)⟩,
  ⟨24, 24, .u16, .rw, false, 0, .no, .any⟩,
  ⟨25, 25, (.dom 1 1024 1), .ro, false, 0, .no, .any⟩,
  ⟨26, 26, (.dom 64 64 1), .ro, false, 0, .no, .any⟩]

/-- Rows of the kiln log (R713). -/
def rows_log : List Row := [
  ⟨0, 0, .u8, .const, false, 13, .no, .any⟩,
  ⟨1, 1, .u32, .ro, false, 0, .no, .any⟩,
  ⟨2, 2, .u32, .ro, true, 0, .no, .any⟩,
  ⟨3, 3, .u32, .rw, false, 0, .no, .any⟩,
  ⟨4, 4, .u8, .rw, false, 32, .no, (.within 1 32)⟩,
  ⟨5, 5, (.dom 32 1024 32), .ro, false, 0, .no, .any⟩,
  ⟨6, 6, .u16, .rw, true, 0, .no, (.w1c 8)⟩,
  ⟨7, 7, .u32, .ro, true, 0, .no, .any⟩,
  ⟨8, 8, .u32, .wo, false, 0, .no, .any⟩,
  ⟨9, 9, .u32, .ro, false, 0, .no, .any⟩,
  ⟨10, 10, .u32, .ro, false, 0, .no, .any⟩,
  ⟨11, 11, .u32, .ro, false, 0, .no, .any⟩,
  ⟨12, 12, .u16, .ro, true, 0, .no, .any⟩,
  ⟨13, 13, .u32, .ro, true, 0, .no, .any⟩]

/-- The communication profile (R624). Default COB-IDs are those of R591 without the node ID, which a start adds. -/
def rows_1000 : List Row := [⟨0, 0, .u32, .const, false, 0, .no, .any⟩]
/-- 0x1001, the error register (R605). -/
def rows_1001 : List Row := [⟨0, 0, .u8, .ro, true, 0, .no, .any⟩]
/-- 0x1003, the pre-defined error field (R606). -/
def rows_1003 : List Row := [⟨0, 0, .u8, .rw, false, 0, .no, .within 0 0⟩, ⟨1, 16, .u32, .ro, false, 0, .no, .any⟩]
/-- One communication entry at sub-index 0. -/
def rows_comm (ty : Ty) (acc : Acc) (dflt : Nat) (rng : Rng) : List Row := [⟨0, 0, ty, acc, false, dflt, .no, rng⟩]
/-- An array of communication entries at sub-indices 1 to n. -/
def rows_arr (n : Nat) (ty : Ty) (acc : Acc) (dflt : Nat) : List Row :=
  [⟨0, 0, .u8, .const, false, n, .no, .any⟩, ⟨1, n, ty, acc, false, dflt, .no, .any⟩]
/-- An RPDO's communication parameters (R617, R624). -/
def rows_rpdo : List Row :=
  [⟨0, 0, .u8, .const, false, 2, .no, .any⟩, ⟨1, 1, .u32, .rw, false, 0x80000000, .no, .any⟩,
   ⟨2, 2, .u8, .rw, false, 255, .no, .any⟩]
/-- A PDO's mapping (R613, R615). -/
def rows_map : List Row :=
  [⟨0, 0, .u8, .rw, false, 0, .no, .within 0 16⟩, ⟨1, 16, .u32, .rw, false, 0, .no, .any⟩]
/-- A TPDO's communication parameters (R617, R624); sub-index 4 does not exist. -/
def rows_tpdo : List Row :=
  [⟨0, 0, .u8, .const, false, 6, .no, .any⟩, ⟨1, 1, .u32, .rw, false, 0x80000000, .no, .any⟩,
   ⟨2, 2, .u8, .rw, false, 255, .no, .any⟩, ⟨3, 3, .u16, .rw, false, 0, .no, .any⟩,
   ⟨5, 5, .u16, .rw, false, 0, .no, .any⟩, ⟨6, 6, .u8, .rw, false, 0, .no, .any⟩]
/-- 0x1018, the identity object. -/
def rows_1018 : List Row :=
  [⟨0, 0, .u8, .const, false, 4, .no, .any⟩, ⟨1, 1, .u32, .const, false, 0x59F, .no, .any⟩,
   ⟨2, 4, .u32, .const, false, 0, .no, .any⟩]

/-- The objects 0x1000 to 0x1FFF (R624). -/
def commObjects : List Obj := [
  ⟨0x1000, 1, .chip, rows_1000⟩, ⟨0x1001, 1, .chip, rows_1001⟩, ⟨0x1003, 1, .chip, rows_1003⟩,
  ⟨0x1005, 1, .chip, rows_comm .u32 .rw 0x80 .any⟩, ⟨0x1006, 1, .chip, rows_comm .u32 .rw 0 .any⟩,
  ⟨0x1007, 1, .chip, rows_comm .u32 .rw 0 .any⟩, ⟨0x1008, 1, .chip, rows_comm .str .const 0 .any⟩,
  ⟨0x1009, 2, .chip, rows_comm .str .const 0 .any⟩, ⟨0x1010, 2, .chip, rows_arr 2 .u32 .rw 1⟩,
  ⟨0x1012, 1, .chip, rows_comm .u32 .rw 0x100 .any⟩, ⟨0x1014, 1, .chip, rows_comm .u32 .const 0x80 .any⟩,
  ⟨0x1015, 1, .chip, rows_comm .u16 .rw 0 .any⟩, ⟨0x1016, 1, .chip, rows_arr 4 .u32 .rw 0⟩,
  ⟨0x1017, 1, .chip, rows_comm .u16 .rw 1000 .any⟩, ⟨0x1018, 1, .chip, rows_1018⟩,
  ⟨0x1019, 1, .chip, rows_comm .u8 .rw 0 .any⟩,
  ⟨0x1029, 1, .chip, [⟨0, 0, .u8, .const, false, 1, .no, .any⟩, ⟨1, 1, .u8, .rw, false, 0, .no, .within 0 2⟩]⟩,
  ⟨0x1200, 1, .chip, rows_arr 2 .u32 .const 0⟩, ⟨0x1400, 8, .chip, rows_rpdo⟩, ⟨0x1600, 8, .chip, rows_map⟩,
  ⟨0x1800, 16, .chip, rows_tpdo⟩, ⟨0x1A00, 16, .chip, rows_map⟩]

/-- The objects 0x2000 to 0x3000 (R620). -/
def deviceObjects : List Obj := [
  ⟨0x2000, 1, .chip, rows_dev⟩,
  ⟨0x2001, 8, .die, rows_die⟩,
  ⟨0x2100, 32, .path, rows_path⟩,
  ⟨0x2120, 32, .path, rows_rec⟩,
  ⟨0x2140, 64, .port, rows_port⟩,
  ⟨0x2200, 8, .sect, rows_sect⟩,
  ⟨0x2210, 8, .sect, rows_res⟩,
  ⟨0x2300, 128, .chan, rows_chan⟩,
  ⟨0x2400, 1, .chip, rows_pin⟩,
  ⟨0x2500, 1, .chip, rows_lant⟩,
  ⟨0x2600, 8, .sect, rows_tot⟩,
  ⟨0x2610, 8, .sect, rows_dem⟩,
  ⟨0x2620, 1, .chip, rows_snap⟩,
  ⟨0x2700, 1, .chip, rows_cal⟩,
  ⟨0x2800, 1, .chip, rows_emb⟩,
  ⟨0x2900, 1, .chip, rows_loop⟩,
  ⟨0x2A00, 1, .chip, rows_fire⟩,
  ⟨0x2B00, 1, .chip, rows_st⟩,
  ⟨0x2C00, 1, .chip, rows_log⟩,
  ⟨0x2D00, 1, .chip, rows_sec⟩,
  ⟨0x2E00, 1, .chip, rows_tabA⟩,
  ⟨0x2E01, 1, .chip, rows_tabB⟩,
  ⟨0x2E10, 1, .chip, rows_seg⟩,
  ⟨0x2F00, 1, .chip, rows_sag⟩,
  ⟨0x3000, 1, .chip, rows_sup⟩]

/-- The whole dictionary (R620): indices outside it are absent. -/
def dictionary : List Obj := commObjects ++ deviceObjects

/-- The object that holds an index. -/
def findObj (index : Nat) : Option Obj :=
  dictionary.find? (fun o => decide (o.base ≤ index) && decide (index < o.base + o.count))

/-- The row of a key, if the dictionary has one on any variant. -/
def findRow (key : Nat) : Option Row :=
  match findObj (key / 256) with
  | none => none
  | some o => o.rows.find? (fun r => decide (r.lo ≤ key % 256) && decide (key % 256 ≤ r.hi))

/-- What an entry reads as after reset: the Default column (R16). -/
def defaultOf (key : Nat) : Nat :=
  match findRow key with
  | none => 0
  | some r => r.dflt

/-- Width of a type in bytes; 0 for a string or a DOMAIN. -/
def tyBytes : Ty → Nat
  | .u8 => 1
  | .u16 => 2
  | .i16 => 2
  | .u32 => 4
  | .i32 => 4
  | .r32 => 4
  | .u64 => 8
  | .i64 => 8
  | .str => 0
  | .dom _ _ _ => 0

/-- A raw value of a type as a number: integers of signed types in two's complement. -/
def tyValue (t : Ty) (w : Nat) : Int :=
  match t with
  | .i16 => toSigned 16 w
  | .i32 => toSigned 32 w
  | .i64 => toSigned 64 w
  | _ => (w : Int)

end Sys2Proof.Machine
end

