-- ==== Sys2Proof/Machine/Tab.lean ====
section
/-! DEFINITION. A table in one canonical form: key and value pairs with strictly rising keys, and no pair whose value is
the key's default. What an unlisted key reads as is the default the caller names. Every register file, memory and
record store of the block is such a table, so equal contents are equal data. -/

namespace Sys2Proof.Machine

/-- Sparse data by key. -/
abbrev Tab (α : Type) := List (Nat × α)

/-- The value at a key; `d` is what an unlisted key reads as. -/
def Tab.look {α : Type} (t : Tab α) (d : α) (k : Nat) : α :=
  match t with
  | [] => d
  | (j, v) :: r => if j = k then v else Tab.look r d k

/-- Put a pair in place, keeping the keys rising. -/
def Tab.insertAt {α : Type} (t : Tab α) (k : Nat) (v : α) : Tab α :=
  match t with
  | [] => [(k, v)]
  | (j, w) :: r =>
    if k < j then (k, v) :: (j, w) :: r
    else if k = j then (k, v) :: r
    else (j, w) :: Tab.insertAt r k v

/-- Take a key's pairs out. -/
def Tab.erase {α : Type} (t : Tab α) (k : Nat) : Tab α :=
  match t with
  | [] => []
  | (j, w) :: r => if j = k then Tab.erase r k else (j, w) :: Tab.erase r k

/-- Store a value: the default value removes the pair, any other is put in place. -/
def Tab.store {α : Type} [DecidableEq α] (t : Tab α) (d : α) (k : Nat) (v : α) : Tab α :=
  if v = d then t.erase k else t.insertAt k v

/-- The keys rise strictly from `lo` on. -/
def Tab.rising {α : Type} (lo : Nat) (t : Tab α) : Bool :=
  match t with
  | [] => true
  | (j, _) :: r => decide (lo ≤ j) && Tab.rising (j + 1) r

/-- The canonical form: keys rise strictly, and no listed value is its key's default. -/
def Tab.wf {α : Type} [DecidableEq α] (dflt : Nat → α) (t : Tab α) : Bool :=
  Tab.rising 0 t && t.all (fun e => decide (e.2 ≠ dflt e.1))

/-- Keep only the pairs whose key satisfies `p`. -/
def Tab.keep {α : Type} (p : Nat → Bool) (t : Tab α) : Tab α := t.filter (fun e => p e.1)

end Sys2Proof.Machine
end

