-- ==== Sys2Proof/Syntax.lean ====
section
/-! DEFINITION. The commands of the block: one constructor per row of spec/opcode_table.json, with the operands each
event or access brings from outside the block. Measured quantities (a charge, a temperature, a received waveform, the
outcome of a signature check) are operands: the block senses them, it does not compute them. -/

namespace Sys2Proof

/-- Direction of a shot: downstream A to B, upstream B to A (R7). -/
inductive Dir where
  | dn | up
  deriving DecidableEq, Repr

/-- The originator of a write or of a firing (R397). -/
inductive Orig where
  | host | can | internal | boundary
  deriving DecidableEq, Repr

/-- A supply source that charges the canteen (R511). -/
inductive Source where
  | loop | bus
  deriving DecidableEq, Repr

/-- A rail of a die (R521). -/
inductive Rail where
  | vmain | vcore
  deriving DecidableEq, Repr

/-- The lane of a guy line: out runs from D0 to the follower, inward from the follower to D0 (R482). -/
inductive Lane where
  | out | inward
  deriving DecidableEq, Repr

/-- An end of a guy line (R493). -/
inductive LineEnd where
  | d0 | follower
  deriving DecidableEq, Repr

/-- What the analog chain and the TDC measured of one shot: the peak amplitude (R96), the three widths in ft (R101)
and the two calibration codes (R110). -/
structure ShotMeas where
  amp : Nat
  w1  : Nat
  w2  : Nat
  w3  : Nat
  u1  : Nat
  u2  : Nat
  deriving DecidableEq, Repr

/-- A whole shot as raw stops: coarse cycle from B and interpolator code of each accepted stop, and what was measured
of it. Used where the table has no row for the single stops (reference pairs, lantern pairs). -/
structure ShotRaw where
  stops : List (Nat × Nat)
  meas  : ShotMeas
  deriving DecidableEq, Repr

/-- What the sense block measures in one conversion phase: the code, the voltages of S+ and S− in mV at the end of the
phase, the local pins whose clamp conducted, and the currents leaving ES and arriving at ER in nA (R272, R277). -/
structure PhaseMeas where
  code   : Int
  spMv   : Int
  snMv   : Int
  clamps : List Nat
  iEs    : Int
  iEr    : Int
  deriving DecidableEq, Repr

/-- One sample of a pulse input: the resistance of a supervised line in Ω, or the logic level of an unsupervised one
(R299, R300). -/
inductive LineSample where
  | ohms (r : Nat)
  | level (high : Bool)
  deriving DecidableEq, Repr

/-- The result of one interpolator's full calibration: U_CAL, the 64 INL entries in ft/256, and whether U_CAL lies in
its production band (R112, R140). -/
structure CalRes where
  uCal   : Nat
  inl    : List Int
  inBand : Bool
  deriving DecidableEq, Repr

/-- Wrong bits of one word of a store line as it is read (R433): words 0 to 31 hold the line's bytes, word 32 its 8
check bytes. For 3 or more wrong bits, whether the inner code flags the word, and the bytes, 0 to 7, that it leaves
wrong if it does not. -/
structure WordErr where
  word    : Nat
  bits    : Nat
  flagged : Bool
  bytes   : List Nat
  deriving DecidableEq, Repr

/-- The requester of an SRAM access, in rank order (R467). -/
inductive Requester where
  | core | guyLine | dma
  deriving DecidableEq, Repr

/-- The kind of one SRAM access (R462, R463): a read, a whole-word write, or a write of n bytes at a byte offset. -/
inductive SramOp where
  | read
  | write (data : Nat)
  | partialWrite (offset bytes data : Nat)
  deriving DecidableEq, Repr

/-- One SRAM request as it is presented to the request stage, with the bits of its word that the array has upset since
the word's last access: bits 0 to 31 of the data, 32 to 38 of the code (R461). -/
structure SramReq where
  who  : Requester
  word : Nat
  op   : SramOp
  flips : Nat := 0
  deriving DecidableEq, Repr

/-- Wrong bits a restart finds in one slot of a ledger record (R442, R444): slot 0 A or 1 B, and the words, 0 to 15,
with the number of wrong bits of each. -/
structure SlotDamage where
  record : Nat
  slot   : Nat
  words  : List (Nat × Nat)
  deriving DecidableEq, Repr

/-- A read of a March run as the port returns it (R473): the word, the background, the element in the order of R473
counted from 0, and the 39 bits read. -/
structure MarchRead where
  word    : Nat
  checker : Bool
  element : Nat
  value   : Nat
  deriving DecidableEq, Repr

/-- How one die fares in the steps of a start (R547, R554, R556). `cause` is 0, or the die-loss cause 1 training, 5
image, 6 presence, 7 no ready report that the die shows; causes 2, 3 and 4 follow from its CYC_CHECK frames, its start
trim and its March run. Times count in cyc from the trigger. -/
structure DieStart where
  cause      : Nat
  /-- Reason of a rejection of the follower image, 0 for none (R673, R674). -/
  imgReason  : Nat
  /-- What its CYC differs by from D0's in each CYC_CHECK frame of its verification (R501). -/
  cycOff     : List Int
  /-- Start of the March run, and its reads that did not return what their element had written (R473, R475). -/
  marchAt    : Nat
  march      : List MarchRead
  /-- Lines whose scrub read was not clean, and what it found (R433, R435). -/
  scrub      : List (Nat × List WordErr)
  /-- Start of the TDC full calibration and its results; what a quick check measured (R112, R113). -/
  calAt      : Nat
  cal        : List CalRes
  quick      : List (List Int)
  /-- Mean by which its start edges differ from the reference edges, and the residual of the calibration; the residual a
  warm start's check measured (R505). -/
  edgeMean   : Int
  resid      : Int
  check      : Int
  deriving DecidableEq, Repr

/-- What a start finds outside the block: straps, the damage of D0's ledger, the voltage at RES in 0.1 V, the cycles
from the trigger to START_CYC and to F0 of a cold start (R500, R552), the ember cycles spent in DEEP (R503), the lines
whose ends did not keep their state (R554), and how each die fares, D0 first. -/
structure StartInfo where
  supmode   : Nat
  nodeId    : Nat
  ledger    : List SlotDamage
  resDv     : Nat
  cycles    : Nat
  f0Cycles  : Nat
  emberCycles : Nat
  resynced  : List Nat
  dies      : List DieStart
  deriving DecidableEq, Repr

/-- A command of the block: one constructor per row of the operation table. -/
inductive Instr where
  -- frames, slots, bursts and ports
  | frameBoundary
  | slotStart (die entry vdrvMv : Nat)
  | attemptStart (path vdrvMv : Nat)
  | seqSecondShot (path : Nat)
  | referencePairStart (path : Nat)
  | referencePairDone (path : Nat) (dn up : ShotRaw)
  | burstEnd (port charge : Nat)
  | bridgeOvercurrent (port charge : Nat)
  | impedanceCheckDone (port cMeas rMeas : Nat)
  | checkCmd (orig : Orig) (port : Nat)
  | recheckExpiry (port : Nat)
  | energyWindowBoundary
  -- receive chains, verdicts and records
  | comparatorArm (path : Nat) (dir : Dir)
  | stopAccepted (path : Nat) (dir : Dir) (code : Nat)
  | receiveWindowExpiry (path : Nat) (dir : Dir)
  | shotVerdict (path : Nat) (dir : Dir) (meas : ShotMeas)
  | captureDmaDone (path : Nat) (dir : Dir) (samples : List Int)
  | refinementStart (path : Nat)
  | refinementDone (path : Nat)
  | retryCancelDelivered (path : Nat)
  | pathRecordDelivered (path : Nat)
  | sectionResultTimeout (sect path : Nat)
  | holdTimerExpiry (sect : Nat)
  | sectionComputation (sect : Nat)
  -- sense block
  | scanStart (die : Nat)
  | phaseComplete (die : Nat) (meas : PhaseMeas)
  | clampHit (die pin : Nat)
  | clampStickyClear (orig : Orig) (die pin : Nat)
  | channelStartDelivered (chan : Nat)
  | channelResultDelivered (chan : Nat)
  | channelResultTimeout (sect chan : Nat)
  -- pulse inputs and lantern metering
  | pulseAccepted (input : Nat) (samples : List LineSample)
  | pulseLineFault (input : Nat) (samples : List LineSample)
  | pulseLineClear (input : Nat) (samples : List LineSample)
  | pulseProcess
  | lanternStart
  | lanternWake (vbatMv emberCycles : Nat)
  | lanternPairComplete (dn up : ShotRaw)
  -- calibration and learning
  | calCmdFull (orig : Orig) (die : Nat)
  | calCmdQuick (orig : Orig) (die : Nat)
  | calFullStart (die : Nat)
  | calFullDone (die : Nat) (results : List CalRes)
  | calQuickStart (die : Nat)
  | calQuickDone (die : Nat) (measured : List (List Int))
  | learn (orig : Orig) (path n : Nat)
  -- power
  | allowanceSample (vResMv vLoopMv vBusMv vBatMv pInUw pBaseUw : Nat) (busLimit : Bool)
  | allowanceDelivered (die : Nat)
  | governorForced (vResMv : Nat)
  | sourceLost (src : Source)
  | sourcePresent (src : Source) (vResMv : Nat)
  | powerFailCommit
  | d0VmainLow
  | resBelowVreg
  | cantCmd (orig : Orig) (value : Nat)
  | cantMeasDone (dropUv : Nat)
  | railExcursion (die : Nat) (rail : Rail)
  | railFaultClear (die : Nat) (rail : Rail)
  | coreWait (die : Nat)
  | interruptWake (die : Nat)
  | wakeCycCompare
  | wakeComplete (die : Nat)
  | hcsWake
  -- starts
  | coldStart (cause : Nat) (info : StartInfo)
  | warmStart (cause : Nat) (info : StartInfo)
  | followerPor (die : Nat) (info : DieStart)
  | watchdogExpiry (die : Nat)
  | followerReadyTimeout (die : Nat)
  | followerRestartRetry (die : Nat) (info : DieStart)
  | dieRestart (orig : Orig) (die : Nat) (info : DieStart)
  -- guy lines
  | glFrameStart (die : Nat) (lane : Lane)
  | glFrameReceived (die : Nat) (lane : Lane) (beats : List Nat)
  | glAckToggle (die : Nat) (lane : Lane)
  | glAckTimeout (die : Nat) (lane : Lane)
  | syncReqReceived (die : Nat) (at_ : LineEnd) (flushed : Nat)
  | syncAckReceived (die : Nat) (at_ : LineEnd) (flushed : Nat)
  | syncDoneReceived (die : Nat) (at_ : LineEnd)
  | syncFrameRepeat (die : Nat) (at_ : LineEnd)
  | resyncTimeout (die : Nat)
  | resyncRetry (die : Nat)
  | cycCheckSend (die : Nat)
  | cycCheckReceived (die value : Nat)
  | counterSend (die : Nat)
  | followerResponse (die : Nat)
  | followTmoExpiry (die : Nat)
  -- ember and RTC
  | bkcapPor
  | supplySwitch (vmainMv vbatMv : Nat)
  | cellDisconnect (vbatMv : Nat)
  | emberSecondTick (vbatMv : Nat)
  | wakeAccepted (high : Bool)
  | tamperEpisode (input : Nat) (high : Bool)
  | oscStopDetect
  | xchkCmd (orig : Orig) (n : Nat)
  | xchkGateClose (count : Nat)
  | emberAccess (subsec : Nat)
  | emberAccessDone
  | secondTickDelivered
  | alarmDelivered
  | wakeDelivered
  | tamperDelivered (input : Nat)
  | oscStopDelivered
  | clockValidityChange
  | demandIntervalCycExpiry
  | setBin (orig : Orig) (sec : Nat)
  | setCal (orig : Orig) (fields : Nat)
  | rtcModeWrite (orig : Orig) (mode : Nat)
  | trimWrite (orig : Orig) (trim : Int)
  | pwronRelease (orig : Orig)
  | pwronAssert (orig : Orig)
  -- billing and firings
  | billCmd (orig : Orig) (value : Nat)
  | boundaryFiringApply
  | fireOpen (orig : Orig)
  | fireCommit (orig : Orig)
  | fireAbort (orig : Orig)
  | fireTmoExpiry (orig : Orig)
  | commitStart
  | commitBroadcast
  | firingApply
  | firingRetire (orig : Orig)
  -- store, ledger and SRAM
  | gatherWaitExpiry (die : Nat)
  | gatherCommitDone (die : Nat)
  | scrubRead (die line : Nat) (errs : List WordErr)
  | unlock (orig : Orig) (bytes : List Nat)
  | relock (orig : Orig) (part : Nat)
  | partitionLockExpiry (die part : Nat)
  | partDef (orig : Orig) (bytes : List Nat)
  | lineDataWrite (orig : Orig) (bytes : List Nat)
  | lineDataRead (orig : Orig) (errs : List WordErr)
  | sramRequest (die : Nat) (reqs : List SramReq)
  | sramWriteBack (die : Nat)
  | marchDestructive (orig : Orig) (die : Nat)
  | marchTransparent (orig : Orig) (die : Nat)
  | marchStop (orig : Orig) (die : Nat)
  | marchRunDone (die : Nat) (reads : List MarchRead) (info : DieStart)
  -- die temperature and kiln log
  | dieTempMeasure (die : Nat) (temp : Int)
  | logEntryAccept (die : Nat)
  | logRead (orig : Orig)
  | logRelease (orig : Orig) (value : Nat)
  -- loop output
  | loopSlewMove
  | loopMeasure (microamps : Nat)
  | loopSetWrite (orig : Orig) (value : Nat)
  -- security
  | sealChange (isOpen : Bool)
  | imgData (orig : Orig) (bytes : List Nat)
  | imgBegin (orig : Orig)
  | imgVerify (orig : Orig)
  | imgVerifyDone (readable : Bool)
  | arbAdvance (orig : Orig) (value : Nat)
  | arbFusesDone
  | oemHashWrite (orig : Orig) (bytes : List Nat)
  | attNonce (orig : Orig) (bytes : List Nat)
  | attCmd (orig : Orig) (value : Nat)
  | attCapture
  | attSignDone
  | digestRecomputeDone
  | extestSelect
  -- host window
  | hostWriteFrame (cmd addr len : Nat) (words : List Nat) (bits : Nat)
  | hostReadFrame (cmd addr len bits : Nat)
  | odRead
  | odWrite
  | resetPtr
  | odDataWrite (word : Nat)
  | odDataRead
  | snapCtlWrite (value : Nat)
  | cycCapture
  | winKeyWrite (value : Nat)
  | winKeyExpiry
  | keyClose
  | deviceReset (info : StartInfo)
  | canResetComm
  | nmtPreop
  | nmtOperational
  | nmtStop
  -- field network
  | nmtStartNode (node : Nat)
  | nmtStopNode (node : Nat)
  | nmtEnterPreop (node : Nat)
  | nmtResetNode (node : Nat) (info : StartInfo)
  | nmtResetComm (node : Nat)
  | sdoDownloadInitiate (index sub : Nat) (size : Option Nat) (data : Option (List Nat))
  | sdoDownloadSegment (toggle last : Bool) (data : List Nat)
  | sdoUploadInitiate (index sub : Nat)
  | sdoUploadSegment (toggle : Bool)
  | sdoUnsupportedRequest
  | usdoDownloadInitiate (index sub : Nat) (size : Option Nat) (data : Option (List Nat))
  | usdoDownloadSegment (toggle last : Bool) (data : List Nat)
  | usdoUploadInitiate (index sub : Nat)
  | usdoUploadSegment (toggle : Bool)
  | sdoTmoExpiry
  | dictWrite (orig : Orig) (index sub : Nat) (data : List Nat)
  | rpdoReceived (rpdo : Nat) (data : List Nat)
  | syncReceived (counter : Nat)
  | syncProduce
  | syncWinExpiry
  | timeReceived (ms days : Nat)
  | tpdoEventTimer (tpdo : Nat)
  | tpdoInhibitEnd (tpdo : Nat)
  | heartbeatProduce
  | heartbeatReceived (node : Nat)
  | heartbeatConsumerTimeout (entry : Nat)
  | canErrorPassive
  | canBusOff
  | busoffHoldEnd
  | canBusoffRecovered
  | transmitWindowBoundary
  | emcySend
  | storeParameters (sub signature : Nat)
  | restoreDefaults (sub signature : Nat)
  | errorFieldClear (value : Nat)
  | firmwarePowerStateChange (die state : Nat)
  | canErrorActive
  | gpioInputChange (die levels : Nat)
  | tamperRearm (input : Nat) (high : Bool)
  | correctionPeriodStart
  deriving DecidableEq, Repr

end Sys2Proof
end

