-- ==== Sys2Proof/Machine/Records.lean ====
section
/-! DEFINITION. The records of the acoustic chain, the sections and the sense block that the dictionary does not show
but the rules name: what a burst, a shot, an attempt, a slot, a section's frame and a conversion have latched so far. -/

namespace Sys2Proof.Machine

/-- The last burst of a port: its reference edge B, the settings latched at B − 1 (R71), its release offset (R65), and
whether overcurrent has switched the bridge off (R86). -/
structure Burst where
  b       : Nat
  freq    : Nat
  pulses  : Nat
  damp    : Nat
  duty    : Nat
  bridge  : Nat
  driveR  : Nat
  release : Nat
  cut     : Bool := false
  deriving DecidableEq, Repr

/-- A transducer port beside its dictionary entries. -/
structure PortRt where
  /-- E_pred, the energy of the last burst in 0.1 µJ (R79). -/
  ePred    : Nat := 0
  /-- Completed bursts in a row with Q_LAST below Q_OPEN (R87). -/
  lowRun   : Nat := 0
  /-- Serial of the standing open or short fault, 0 for none (R88). -/
  serial   : Nat := 0
  /-- A burst is running, or has not been booked. -/
  bursting : Bool := false
  /-- The burst the bridge drives, until the port is released; none where no burst was driven in this energy window. -/
  burst    : Option Burst := none
  /-- VDRV of the running burst in mV, as compared at B − 1. -/
  burstMv  : Nat := 0
  /-- Number of the energy window the running burst started in (R77, R78). -/
  win      : Nat := 0
  /-- Cycle in which the RECHECK period ends, while OPEN or SHORT (R84). -/
  recheck  : Option Nat := none
  /-- First cycle of the running impedance check (R82). -/
  checkAt  : Nat := 0
  deriving DecidableEq, Repr

/-- The receive settings a shot latches at its B − 1 (R71, R103). -/
structure RxSet where
  thr       : Nat := 0
  winOpen   : Nat := 0
  winLen    : Nat := 0
  zcEdge    : Nat := 0
  stopFirst : Nat := 0
  stopCount : Nat := 0
  lockOfs   : Nat := 0
  ampMin    : Nat := 0
  ampMax    : Nat := 0
  capPre    : Nat := 0
  /-- FREQ of the transmitting port. -/
  freq      : Nat := 1
  deriving DecidableEq, Repr

/-- Where a shot stands. -/
inductive ShotPhase where
  | none | listening | complete | judged | notTaken
  deriving DecidableEq, Repr

/-- One shot of an attempt: what its chain has captured (R99 to R123) and, once judged, its values. -/
structure Shot where
  phase   : ShotPhase := .none
  /-- Cycle B of its burst reference edge. -/
  b       : Nat := 0
  set     : RxSet := {}
  /-- The listening chain: 0 X, 1 Y (R193). -/
  chain   : Nat := 0
  /-- Release offset of the listening port in cyc from B (R65). -/
  release : Nat := 0
  /-- Cycle from B in which the comparator armed. -/
  armedAt : Option Nat := none
  /-- Stops: coarse cycle from B and raw code. -/
  stops   : List (Nat × Nat) := []
  /-- A crossing was dropped (R102). -/
  drop    : Bool := false
  /-- Capture start from B; none where no capture is taken (R122 to R124). -/
  capS    : Option Nat := none
  /-- The capture has started: it was due and a buffer and a set were free (R124). -/
  capOn   : Bool := false
  /-- Cycle from B in which the shot completes (R108). -/
  doneAt  : Option Nat := none
  /-- The 512 samples DMA copied (R124). -/
  samples : List Int := []
  amp     : Nat := 0
  w1      : Nat := 0
  w2      : Nat := 0
  w3      : Nat := 0
  calErr  : Bool := false
  short   : Bool := false
  /-- a_zc in ft/256 (R116). -/
  aZc     : Int := 0
  presence : Bool := false
  guardApplied : Bool := false
  guardOk  : Bool := true
  guardInc : Bool := false
  skipLate : Bool := false
  skipEarly : Bool := false
  deriving DecidableEq, Repr

/-- Class of a completed attempt (R158). -/
inductive Cls where
  | V | H | L | S
  deriving DecidableEq, Repr

/-- One attempt of a slot: what is latched at its first B − 1 and what its shots gave. -/
structure Attempt where
  live     : Bool := false
  b        : Nat := 0
  frameNo  : Nat := 0
  /-- First burst cycle of its slot, and the ordinal of its frame (R36). -/
  b0       : Nat := 0
  frameSeq : Nat := 0
  idx      : Nat := 0
  seq      : Bool := false
  seqGap   : Nat := 0
  /-- Upstream shot first (R180). -/
  upFirst  : Bool := false
  role     : Nat := 0
  gain     : Nat := 0
  thrUsed  : Nat := 0
  fb       : Bool := false
  probe    : Bool := false
  learning : Bool := false
  refine   : Bool := false
  tplValid : Bool := false
  search   : Nat := 8
  agree    : Nat := 0
  capLost  : Bool := false
  bandOk   : Bool := false
  ref12    : Nat := 0
  ref13    : Nat := 0
  tol      : Nat := 0
  xamp     : Nat := 0
  zo       : Int := 0
  zoUnset  : Bool := false
  td       : Int := 0
  tdInv    : Bool := false
  tdFixed  : Bool := false
  active   : Bool := false
  /-- VDRV in mV as compared at B − 1, with which its bursts are booked (R77). -/
  vdrv     : Nat := 0
  /-- Cost in 0.1 µJ of the second sequential shot, to be returned when it is skipped (R189). -/
  refund   : Nat := 0
  seqSkipped : Bool := false
  /-- At least one of its bursts has started (R171, R209). -/
  sent     : Bool := false
  /-- A change that moves the arrival was made after its latch: it leaves the tracked arrivals (R122). -/
  moved    : Bool := false
  dn       : Shot := {}
  up       : Shot := {}
  cls      : Option Cls := none
  timeRange : Bool := false
  xampFail : Bool := false
  guardOff : Bool := false
  deriving DecidableEq, Repr

/-- The final record of a slot on its way to D0 (R192), with the CYC of its pair and slot (R36). -/
structure FinalRec where
  frameNo  : Nat
  /-- First burst cycle of its slot, and the ordinal of its frame. -/
  b0       : Nat
  frameSeq : Nat
  pairCyc  : Nat
  cls      : Cls
  /-- The record gives no corrected TOF (R203, R118). -/
  corRange : Bool
  tofDn    : Nat
  tofUp    : Nat
  dtCor    : Int
  fault    : Nat
  deriving DecidableEq, Repr

/-- The slot a path is in (R162, R164, R419: RETRY_MAX and PAIR_LEN latched at attempt 0). -/
structure Slot where
  live     : Bool := false
  b0       : Nat := 0
  frameNo  : Nat := 0
  frameSeq : Nat := 0
  retryMax : Nat := 0
  pairLen  : Nat := 0
  /-- Attempt most recently started. -/
  attempt  : Nat := 0
  /-- Class of the last completed attempt. -/
  last     : Option Cls := none
  /-- Attempt that was class V, for a reference pair that follows it (R195). -/
  validAt  : Option Nat := none
  /-- An attempt of the slot has transmitted (R195, R209). -/
  sent     : Bool := false
  /-- Record of its last completed attempt (R192). -/
  record   : Option FinalRec := none
  deriving DecidableEq, Repr

/-- A capture that a chain's buffer holds until DMA has copied it (R124): its shot's direction and B, and the cycle of
its first sample. -/
structure Capture where
  dir : Dir
  b   : Nat
  at_ : Nat
  deriving DecidableEq, Repr

/-- Learning of a path's template and band (R126, R127, R147). -/
structure Learn where
  n         : Nat
  collected : Nat := 0
  completed : Nat := 0
  /-- Sum of the shifted captures, 512 entries. -/
  sum       : List Int := []
  orgSum    : Int := 0
  /-- Ratios R12 and R13 of the collected shots whose widths are all non-zero. -/
  ratios    : List (Nat × Nat) := []
  /-- The fallback's state when learning was first started (R154). -/
  keptFb    : Bool := false
  deriving DecidableEq, Repr

/-- A running reference pair (R196). -/
structure RefPair where
  b         : Nat
  role      : Nat
  zcEdge    : Nat
  stopFirst : Nat
  stopCount : Nat
  freqA     : Nat
  freqB     : Nat
  lockOfs   : Nat
  /-- The template was invalidated while it ran: its result is discarded (R206). -/
  spoiled   : Bool := false
  deriving DecidableEq, Repr

/-- A path engine beside its dictionary entries. -/
structure PathRt where
  countdown : Nat := 0
  /-- The path shoots in the current frame (R183). -/
  shoots    : Bool := false
  /-- Its slot of the current frame has not begun yet. -/
  slotDue   : Bool := false
  /-- DIV in force (R183, R184). -/
  div       : Nat := 0
  slot      : Slot := {}
  att       : Attempt := {}
  /-- Class V attempts in or before the engine's correlation lane, oldest first (R132). -/
  lane      : List Attempt := []
  /-- The oldest of them is being refined. -/
  laneBusy  : Bool := false
  /-- Cycle in which that refinement ends. -/
  laneEnd   : Nat := 0
  /-- Class V attempts that wait for their captures in learning, oldest first (R126). -/
  learnWait : List Attempt := []
  /-- Captures in the buffers of chains X and Y that DMA has not copied (R124). -/
  bufX      : Option Capture := none
  bufY      : Option Capture := none
  /-- Final records travelling to D0. -/
  sent      : List FinalRec := []
  /-- Arrival of the last valid pair by direction (R122). -/
  prevDn    : Option Int := none
  prevUp    : Option Int := none
  /-- Transducer delay of the last valid pair (R309). -/
  tdValid   : Int := 0
  nextRole  : Nat := 0
  nextUp    : Bool := false
  /-- The fallback is active, its run of class S attempts and the attempts since engagement or probe (R152, R153). -/
  fbActive  : Bool := false
  fbRun     : Nat := 0
  fbProbe   : Nat := 0
  learn     : Option Learn := none
  /-- Consecutive failed slots and the kind of the last (R166, R167). -/
  failRun   : Nat := 0
  failKind  : Option Cls := none
  /-- Serial of the standing path fault, 0 for none. -/
  serial    : Nat := 0
  /-- Slots with a transmitted attempt, which SLOTS_RUN shows with the next record (R209). -/
  slotsRun  : Nat := 0
  /-- Slots transmitted since the last reference pair and the role of that pair (R195, R196). -/
  refSlots  : Nat := 0
  refDue    : Bool := false
  refLast   : Nat := 1
  refRun    : Option RefPair := none
  zoSet0    : Bool := false
  zoSet1    : Bool := false
  /-- Half-pairs in this and in the previous energy window (R161). -/
  halfNow   : Nat := 0
  halfPrev  : Nat := 0
  /-- GAIN was written by a user in this cycle (R134). -/
  gainCyc   : Option Nat := none
  /-- Cycle of the last AGC update and the GAIN before it: a latch in that cycle still takes it (R134). -/
  gainWas   : Option (Nat × Nat) := none
  /-- Cycle in which the fallback engaged: a latch in that cycle still takes THR (R169). -/
  fbCyc     : Option Nat := none
  /-- First burst cycle of the last slot that was reached, plus 1; 0 for none. -/
  slotSeen  : Nat := 0
  /-- OUTCOME_FAULT as D0 last received it with a record (R168). -/
  fault     : Nat := 0
  /-- Cancellations on their way to the engine's die: serial and slot (R44). -/
  cancels   : List (Nat × Nat) := []
  /-- The record D0 last took: ordinal of its frame, class and velocity (R221). -/
  taken     : Option (Nat × Cls × Option Rat) := none
  deriving DecidableEq, Repr

/-- How one armed result timeout of a section stands (R192, R219). -/
inductive Wait where
  | armed
  | expired (serial : Nat)
  | got (cls : Cls) (vel : Option Rat)
  deriving DecidableEq, Repr

/-- One path's result timeout in one frame of a section. -/
structure PathWait where
  path   : Nat
  /-- First burst cycle of the slot (R36). -/
  b0     : Nat
  expiry : Nat
  state  : Wait
  deriving DecidableEq, Repr

/-- A frame a section has to compute (R219). -/
structure FrameWork where
  frameNo : Nat
  /-- Ordinal of the frame. -/
  frameSeq : Nat
  epoch   : Nat
  /-- D0's RTC seconds at the epoch (R245). -/
  rtc     : Nat := 0xFFFFFFFF
  waits   : List PathWait
  deriving DecidableEq, Repr

/-- A section beside its dictionary entries. -/
structure SectRt where
  work      : List FrameWork := []
  /-- Expired timeouts of computed frames whose record may still come: path, slot and serial (R45, R46). -/
  late      : List (Nat × Nat × Nat) := []
  /-- Epoch of the previous computation; none for a first computation with Δt = 0 (R241). -/
  epoch     : Option Nat := none
  /-- Cut state; none before the first computation (R239). -/
  cut       : Option Bool := none
  carryFwd  : Nat := 0
  carryRev  : Nat := 0
  resFwd    : Nat := 0
  resRev    : Nat := 0
  ovfStart  : Option Nat := none
  overflow  : Bool := false
  failed    : Bool := false
  degraded  : Bool := false
  /-- Hold timer's expiry cycle (R186). -/
  hold      : Option Nat := none
  /-- The rate R185 and R186 call for, and its changes that wait for a frame boundary: cycle, rate, triggering path. -/
  auto      : Nat := 0
  trans     : List (Nat × Nat × Nat) := []
  /-- RATE_FORCE in force, and its changes that wait for a frame boundary: cycle, value (R187). -/
  force     : Nat := 0
  forceW    : List (Nat × Nat) := []
  /-- Channel result timeouts: channel, expiry cycle and serial once expired (R275). -/
  chanWait  : List (Nat × Nat × Nat) := []
  /-- nJ residues of heat and cool, and energy hold (R292, R295). -/
  heatRes   : Nat := 0
  coolRes   : Nat := 0
  eHold     : Bool := false
  deriving DecidableEq, Repr

end Sys2Proof.Machine
end

