-- ==== Sys2Proof/Machine/Records2.lean ====
section
/-! DEFINITION. The records of the sense and pulse blocks, the lantern, the dies, the guy lines, power, the store, the
SRAM, firings, the network, the host window, security and the ember: what the rules name beside dictionary entries. -/

namespace Sys2Proof.Machine

/-- A sense conversion in progress, with the settings of its start (R270). -/
structure Conv where
  kind    : Nat
  n       : Nat
  first   : Nat
  pins    : List Nat
  iexc    : Nat
  gain    : Nat
  cmLo    : Nat
  cmHi    : Nat
  tol     : Nat
  retry   : Nat
  monitored : Bool
  settle  : Nat := 0
  rate    : Nat := 2
  leadMax : Nat := 0
  /-- LIN_SEG and YSHIFT of its sensors, in order. -/
  lin     : List (Nat × Nat) := []
  /-- Phase being converted, from 0, and its repeats so far (R273). -/
  phase   : Nat := 0
  tries   : Nat := 0
  /-- First cycle of the phase, and the settling delays before its conversion (R24, R267). -/
  phaseAt : Nat := 0
  settles : Nat := 1
  codes   : List Int := []
  /-- CM_FAIL, OVR, CLAMP and IMON_FAIL seen so far in the conversion. -/
  cmFail  : Bool := false
  ovr     : Bool := false
  clamp   : Bool := false
  imon    : Bool := false
  deriving DecidableEq, Repr

/-- A channel's result record travelling to D0 (R280). -/
structure ChanRes where
  valid  : Bool
  value  : Rat
  resCyc : Nat
  /-- Channels whose results cross with this one, from the head on (R280). -/
  members : Nat
  deriving DecidableEq, Repr

/-- A sense channel beside its dictionary entries. -/
structure ChanRt where
  conv    : Option Conv := none
  /-- Start records, as the number of channels they start, and results travelling to D0 (R275, R280). -/
  starts  : List Nat := []
  results : List ChanRes := []
  /-- What consumers on D0 see: the last valid value, its RES_CYC, and whether the last delivered result was valid. -/
  val     : Option Rat := none
  valCyc  : Nat := 0
  /-- The last valid value above 0: as a pressure one of 0 or less counts as invalid (R227). -/
  positive : Option Rat := none
  lastOk  : Bool := false
  failRun : Nat := 0
  /-- Serial of the standing sensor fault, 0 for none (R283). -/
  serial  : Nat := 0
  /-- Serials of cancellations on their way to the channel's die (R44, R275). -/
  cancels : List Nat := []
  /-- KIND or CHAIN_N of the head was written during its conversion: members change afterwards (R285). -/
  rechain : Bool := false
  deriving DecidableEq, Repr

/-- A sense pin's standing cell faults (R281, R282). -/
structure PinRt where
  /-- Cycle of the last clamp hit, plus 1 (R285). -/
  hitAt : Nat := 0
  clampSerial : Nat := 0
  leadSerial  : Nat := 0
  deriving DecidableEq, Repr

/-- A pulse input beside its dictionary entries. -/
structure PulseRt where
  /-- Cycle of the last counted pulse (R299). -/
  lastPulse : Option Nat := none
  /-- Latch of the last boundary not yet processed, and the latch processed last (R302). -/
  latched   : Option Nat := none
  base      : Option Nat := none
  serial    : Nat := 0
  /-- Cycle of the last line-fault declaration, plus 1 (R313). -/
  faultAt   : Nat := 0
  /-- Samples of a change of level, and of a line fault or its end, come after these cycles: sampling began, or the last
  change was taken (R299, R301). -/
  levelFrom : Nat := 0
  lineFrom  : Nat := 0
  /-- Cycle plus 1 of the last sample a command has brought, 0 for none (R319). -/
  sampleAt  : Nat := 0
  deriving DecidableEq, Repr

/-- The lantern (R306 to R312): settings latched at the outage's start and what it holds. -/
structure LantRt where
  running : Bool := false
  stopped : Bool := false
  awake   : Bool := false
  path    : Nat := 0
  sect    : Nat := 0
  period  : Nat := 10
  vdrv    : Nat := 33
  k       : Nat := 0x40000000
  vbatMin : Nat := 0
  flagVol : Nat := 0
  /-- RTC seconds ticks to the next pair. -/
  nextIn  : Nat := 0
  /-- nL residues of LANT_FWD and LANT_REV, and of the outage values. -/
  resFwd  : Nat := 0
  resRev  : Nat := 0
  cut     : Option Bool := none
  /-- The main supply returned during a pair (R312). -/
  ending  : Bool := false
  /-- The attempt of the pair being taken (R309). -/
  att     : Attempt := {}
  deriving DecidableEq, Repr

/-- A kiln-log entry before and after acceptance (R696, R697). -/
structure LogEnt where
  no     : Nat := 0
  cyc    : Nat
  event  : Nat
  rtc    : Nat := 0xFFFFFFFF
  serial : Nat
  loc    : Nat
  level  : Nat
  kind   : Nat
  src    : Nat
  qdrop  : Bool := false
  freeze : Bool := false
  data   : List Nat
  /-- It has a place in the store ring (R701, R703). -/
  kept   : Bool := true
  /-- Cycle of its acceptance (R711). -/
  at_    : Nat := 0
  /-- EMCY code a network event sends at its acceptance (R602, R604). -/
  emcy   : Option Nat := none
  deriving DecidableEq, Repr

/-- A standing fault (R692): its serial, declaration event, and what the error register needs. -/
structure Standing where
  serial : Nat
  event  : Nat
  level  : Nat
  die    : Nat
  deriving DecidableEq, Repr

/-- A die beside its dictionary entries. -/
structure DieRt where
  /-- The die has started and is not lost. -/
  up        : Bool := false
  lost      : Bool := false
  /-- Serial of its standing die loss, and its cause. -/
  lossSerial : Nat := 0
  lossCause : Nat := 0
  /-- Declarations of this die: COUNT of R54. -/
  count     : Nat := 0
  /-- Log queue (R698) and whether an entry was dropped before the next one (R699). -/
  logQ      : List LogEnt := []
  qdrop     : Bool := false
  /-- Slot table in force, and written tables that wait for a frame boundary: cycle, SLOT_COUNT, SLOT0 to 3 (R177). -/
  slotCount : Nat := 0
  slots     : List Nat := [0, 0, 0, 0]
  slotPend  : List (Nat × Nat × List Nat) := []
  /-- Allowance left for the current frame and the delivered allowance of the next (R188). -/
  allowNow  : Nat := 0
  allowNext : Option Nat := none
  /-- TDC calibration requests and state (R114): full asked, quick asked, running 0 none 1 full 2 quick. -/
  calFull   : Bool := false
  calQuick  : Bool := false
  calRun    : Nat := 0
  calStart  : Nat := 0
  /-- U_CAL and INL of the eight interpolators (R112). -/
  interp    : List CalRes := []
  /-- Die temperature at the last full calibration, none until one is measured (R114). -/
  calTemp   : Option Int := none
  /-- The last full calibration failed (R139). -/
  calFailed : Bool := false
  /-- Over-temperature: consecutive hot and cool measurements and the standing serial (R695). -/
  hot       : Nat := 0
  cool      : Nat := 0
  otSerial  : Nat := 0
  /-- Cycle of the last over-temperature declaration (R711). -/
  otAt      : Nat := 0
  tempSeen  : Bool := false
  /-- Channels still to convert in the running scan, the running one first (R269). -/
  scanLeft  : List Nat := []
  scanOn    : Bool := false
  scanAt    : Nat := 0
  scanned   : Bool := false
  /-- A warm start has ended the running scan: a new one is due (R735). -/
  rescan    : Bool := false
  /-- Frame boundaries count for a die from this cycle on (R537). -/
  runFrom   : Nat := 0
  /-- An entry into SLEEP, DEEP or OFF that is due and deferred: the state and its cause (R534). -/
  entry     : Option (Nat × Nat) := none
  /-- Cycle in which a PWR_REQ was applied (R535). -/
  reqAt     : Option Nat := none
  /-- Cycle and ember count at entry into DEEP (R503). -/
  deepCyc   : Nat := 0
  waking    : Option Nat := none
  /-- Cycle plus 1 of the last wake request delivered while the die ran (R540). -/
  wakeAt    : Nat := 0
  /-- The core watchdog is armed, and the cycle it was armed in (R546). -/
  wdArmed   : Bool := false
  wdFrom    : Nat := 0
  /-- START_CAUSE of a trigger found and not yet served, 0 for none (R544). -/
  trigger   : Nat := 0
  /-- March run in progress (R475 to R477): 0 none, 1 destructive, 2 transparent; a stop was asked for; its first
  cycle. -/
  march     : Nat := 0
  marchStop : Bool := false
  marchFrom : Nat := 0
  /-- Serials of the standing rail faults, VMAIN and VCORE, and the cycles of the last excursions (R521). -/
  railMain  : Nat := 0
  railCore  : Nat := 0
  mainAt    : Nat := 0
  coreAt    : Nat := 0
  deriving DecidableEq, Repr

/-- What reaches the GPIO cells of a die: GP_OUT and GP_CFG0 to GP_CFG3 (R576, R577). -/
structure GpioRt where
  out : Nat := 0
  cfg : List Nat := [0, 0, 0, 0]
  deriving DecidableEq, Repr

/-- One lane of a guy line (R483 to R491). -/
structure LaneRt where
  /-- FIFO at the sending end, each word with the KIND of its frame, and FIFO at the receiving end. -/
  tx      : List (Nat × Nat) := []
  rx      : List Nat := []
  /-- Cycle plus 1 of the last write of the sending end's FIFO, and the words written in it, which can be read a cycle
  later (R483). -/
  txAt    : Nat := 0
  txNew   : Nat := 0
  /-- The last FREE the sender has seen: empty entries of the FIFO at the receiving end (R487). -/
  free    : Nat := 16
  /-- SEQ of the next new frame, and of the frame last accepted. -/
  seq     : Nat := 0
  lastSeq : Option Nat := none
  /-- Frame in flight: KIND, words, attempts so far, and the cycle L of its last CRC beat. -/
  flight  : Option (Nat × List Nat × Nat × Nat) := none
  /-- The receiver has toggled its acknowledgement and it is not delivered yet. -/
  ackDue  : Bool := false
  /-- First cycle in which the next frame may start (R488). -/
  idleFrom : Nat := 0
  deriving DecidableEq, Repr

/-- An access of D0 that waits for a follower's response (R492, R733). -/
structure FollowWait where
  key  : Nat
  who  : Orig
  exp  : Nat
  /-- What the response brings. -/
  abort : Nat := 0
  data : List Nat := []
  /-- The access is a stage, copied to the follower (R415). -/
  stage : Bool := false
  deriving DecidableEq, Repr

/-- A guy line (R482 to R496). -/
structure LineRt where
  outward : LaneRt := {}
  inward  : LaneRt := {}
  /-- Traffic may run. -/
  up      : Bool := false
  /-- Resynchronisation: the first end, the step it has reached (0 none, 1 SYNC_REQ sent, 2 SYNC_ACK sent, 3 SYNC_DONE
  sent), the cycle it began in, that of the last SYNC frame, and the words flushed so far. -/
  first   : LineEnd := .d0
  step    : Nat := 0
  began   : Nat := 0
  syncAt  : Nat := 0
  flushed : Nat := 0
  /-- Serial of the standing line fault 0x6011. -/
  serial  : Nat := 0
  /-- Cycle from which D0 next retries a lost die (R496, R556). -/
  retryAt : Option Nat := none
  /-- Cycle in which the follower last sent its counters (R498). -/
  countAt  : Nat := 0
  /-- CYC at which the follower last sent a CYC_CHECK that has not arrived (R502). -/
  cycSent : Option Nat := none
  /-- Requests of D0 waiting for the follower, oldest first, and serials of expired ones whose responses are still to
  come (R492). -/
  waits   : List FollowWait := []
  late    : List Nat := []
  deriving DecidableEq, Repr

/-- Power and ration (R510 to R543). -/
structure PowRt where
  /-- Sources present (R511). -/
  loopOn   : Bool := false
  busOn    : Bool := false
  /-- The governor is on; it was forced on under R526. -/
  govOn    : Bool := false
  forced   : Bool := false
  /-- The last source was lost since the last allowance sample: the next POOL has P_IN = 0 (R528). -/
  pinZero  : Bool := false
  /-- The power-fail commit is armed (R552), and one has ended since (R528). -/
  pfArmed  : Bool := false
  pfDone   : Bool := false
  /-- The bleed of R529 runs. -/
  bleed    : Bool := false
  rideFrom : Nat := 0
  /-- Allowances sent and not yet delivered, one higher, by die (R525). -/
  allowSent : Tab Nat := []
  /-- Serial of the standing hold-up fault (R519). -/
  holdSerial : Nat := 0
  /-- Cycle in which the capacitance measurement that runs began (R518). -/
  measAt   : Option Nat := none
  deriving DecidableEq, Repr

/-- The store and its controller on one die (R426 to R441). A line of a user partition that is not listed reads as
zeros; any other unlisted line as bytes the model does not know (log entry 15). -/
structure StoreRt where
  /-- Contents of lines, 256 bytes each, by line number; an empty list marks a line of a device object. -/
  lines    : Tab (List Nat) := []
  /-- Gather buffer: lines waiting and the cycle the first entered (R429); lines of the running commit (R430); device
  objects' lines that wait for a later commit, copy A before copy B (R437). -/
  buf      : List (Nat × List Nat) := []
  bufAt    : Nat := 0
  run      : List (Nat × List Nat) := []
  queued   : List (List (Nat × List Nat)) := []
  /-- Lines marked torn at a restart (R455), and lines of device objects that read as uncorrectable (R437). -/
  torn     : List Nat := []
  bad      : List Nat := []
  /-- Partition table: base and count of partitions 6 to 15, and their passwords (R428, R439). -/
  base     : Tab Nat := []
  count    : Tab Nat := []
  readPw   : Tab (List Nat) := []
  writePw  : Tab (List Nat) := []
  /-- Lockouts: wrong attempts, k, and the cycle the lock ends in plus 1, 0 for none (R441). -/
  wrong    : Tab Nat := []
  lockK    : Tab Nat := []
  lockEnd  : Tab Nat := []
  /-- Unlocks: originator (0 host, 1 CAN, 2 internal), partition, kind (R440). -/
  unlocked : List (Nat × Nat × Nat) := []
  /-- Counters of R458 and flags of R459. -/
  ce       : Nat := 0
  rs       : Nat := 0
  ue       : Nat := 0
  gathers  : Nat := 0
  ledgerCe : Nat := 0
  tie      : Nat := 0
  repair   : Nat := 0
  pf       : Nat := 0
  pfCyc    : Nat := 0
  scrub    : Bool := false
  recovering : Bool := false
  lineFail : Bool := false
  lineTorn : Bool := false
  /-- Scrubbing: SCRUB_DAYS, the next line of the pass, and the cycle its wait counts from (R435, R458). -/
  scrubDays : Nat := 30
  scrubLine : Nat := 0
  scrubAt  : Nat := 0
  /-- Records in the configuration log, 16 bytes each (R438). -/
  cfgRecs  : List (List Nat) := []
  /-- GEN of each copy of a device object, by the copy's first line; GEN of a write of a copy that is due or in
  progress, one higher; copies that hold lines of two writes, whose CRC fails (R436, R437). -/
  gens     : Tab Nat := []
  goals    : Tab Nat := []
  mixed    : List Nat := []
  /-- Lines the GATHER record still lists after a power-fail commit abandoned their commit (R454, R455). -/
  listed   : List Nat := []
  /-- Last line of copy B of the snapshot the staging area holds, plus 1; 0 while the area is free (R452). -/
  staging  : Nat := 0
  deriving DecidableEq, Repr

/-- The SRAM bank of one die (R461 to R481). -/
structure SramRt where
  /-- Words by address, one higher; a word that is not listed is 0, or what a loss of the contents left (log entry
  26). -/
  words   : Tab Nat := []
  /-- Number of the loss of contents that no March run has followed, 0 for none (R471). -/
  lost    : Nat := 0
  /-- Losses of contents so far. -/
  losses  : Nat := 0
  /-- Wrong bits of words, as a mask over the 39 bits (R461, R464). -/
  errs    : Tab Nat := []
  /-- The image region is locked against writes (R549). -/
  locked  : Bool := false
  /-- Requests waiting, in order of presentation (R467). -/
  waiting : List SramReq := []
  /-- Cycles the waiting DMA request has waited (R468). -/
  dmaWait : Nat := 0
  /-- Second cycle of a read-modify-write holds the port: the word and its merged value (R462). -/
  rmw     : Option (Nat × Nat) := none
  /-- Pending write-back: word and value (R465). -/
  wb      : Option (Nat × Nat) := none
  /-- Last uncorrectable word and its serial (R466). -/
  lastUe  : Option (Nat × Nat) := none
  /-- Cycle plus 1 of the last cycle of the request stage, and the cycles plus 1 in which the core has presented
  requests of late, with what each counts (R462, R468). -/
  cycleAt : Nat := 0
  coreAt  : List (Nat × Nat) := []
  /-- Data returned by the last granted read and the cycle in which they are (R462); the status told to core, guy line
  and DMA: 0 ok, 1 WLOST, 2 UE, 3 a write of the locked image region. -/
  dataOut : Nat := 0
  dataAt  : Nat := 0
  status  : List Nat := [0, 0, 0]
  deriving DecidableEq, Repr

/-- A staged action of a firing (R405, R406): key, value bytes, slots, and the cycle of its stage. -/
structure Stage where
  key   : Nat
  data  : List Nat
  slots : Nat
  cyc   : Nat
  persistent : Bool
  deriving DecidableEq, Repr

/-- What an applied firing holds until it retires (R415, R450): its slots, its journal bank, and its targets, whose
persistent values the store is to hold. -/
structure Held where
  slots : Nat
  bank  : Option Nat
  keys  : List Nat
  deriving DecidableEq, Repr

/-- One originator's general firing beside FIRE_STAT and FIRE_ID (R397 to R416). -/
structure FireRt where
  stages  : List Stage := []
  openAt  : Nat := 0
  lead    : Nat := 96
  tmo     : Nat := 60
  seq     : Nat := 0
  /-- COMMIT accepted and waiting for the kiln, since; its start cycle c; its broadcast cycle s; its apply cycle A. -/
  commitAt : Option Nat := none
  start   : Option Nat := none
  castAt  : Nat := 0
  applyAt : Nat := 0
  /-- Lowest stage index of a target written since its stage (R411). -/
  dirty   : Option Nat := none
  /-- Followers that were not lost at the broadcast (R415). -/
  there   : List Nat := []
  /-- RESULT that the cycle after A shows, 0 for none (R414). -/
  outcome : Nat := 0
  /-- Applied firings not yet retired, oldest first (R415). -/
  held    : List Held := []
  /-- Last stage was rejected (R408). -/
  stageRej : Bool := false
  /-- Journal bank of the commit that has started, where it has persistent actions (R450). -/
  bank     : Option Nat := none
  deriving DecidableEq, Repr

/-- A boundary firing's record (R352, R418, R451), with the moments its steps use. -/
structure Boundary where
  /-- Close the interval under the outgoing tariff; RTC seconds of the close minute. -/
  interval : Bool := false
  closeSec : Nat := 0xFFFFFFFF
  /-- Take a billing close with this cause, key, RTC seconds and number; the OUTAGE and SET_FWD flags it adds. -/
  billing  : Bool := false
  cause    : Nat := 0
  key      : Nat := 0
  closeRtc : Nat := 0xFFFFFFFF
  snapNo   : Nat := 0
  outage   : Bool := false
  setFwd   : Bool := false
  /-- Switch to a tariff. -/
  tariff   : Option Nat := none
  /-- Open an interval: its start in RTC seconds, the key of its aligned start, its scheduled end, and whether it is
  partial. -/
  opens    : Bool := false
  openSec  : Nat := 0xFFFFFFFF
  openKey  : Nat := 0
  openEnd  : Nat := 0xFFFFFFFF
  isPart   : Bool := false
  /-- Another close of the same processing follows (R354). -/
  more     : Bool := false
  /-- The last firing of a catch-up, with the number of its closes (R355). -/
  caught   : Option Nat := none
  /-- Commit start c, broadcast s and apply cycle A, once started; completed at a restart (R418). -/
  start    : Option Nat := none
  cast     : Bool := false
  applyAt  : Nat := 0
  deriving DecidableEq, Repr

/-- A transfer of the SDO or USDO server (R608, R609). -/
structure Transfer where
  upload : Bool
  usdo   : Bool
  key    : Nat
  size   : Option Nat
  data   : List Nat := []
  toggle : Bool := false
  expiry : Nat := 0
  deriving DecidableEq, Repr

/-- A CAN frame waiting to be sent or sent: identifier, data bytes, FD format. -/
structure CanFrame where
  id   : Nat
  data : List Nat
  fd   : Bool := false
  /-- 0 NMT error control, 1 SDO or USDO, 2 EMCY, 3 TPDO, 4 SYNC. -/
  cls  : Nat := 0
  pdo  : Nat := 0
  /-- Loop delay in 1/64 cyc measured on a bit-rate-switched frame once it is sent, and its secondary sample point: that
  delay plus the DATA_SP in force, none where there is none (R586, R732). -/
  delay : Option Nat := none
  ssp   : Option (Nat × Nat) := none
  deriving DecidableEq, Repr

/-- The CAN controller and protocol state (R584 to R626, R657, R658). -/
structure NetRt where
  /-- Frames waiting for the transmit budget, oldest first, and frames started, newest first. -/
  txQ      : List CanFrame := []
  sent     : List CanFrame := []
  /-- Transmissions started in the current window (R657). -/
  started  : Nat := 0
  heldInWin : Bool := false
  /-- Cycle plus 1 in which the current window opened. -/
  winAt    : Nat := 0
  /-- EMCY messages not yet sent: their 8 bytes (R603), and the cycle of the last one, plus 1 (R607). -/
  emcyQ    : List (List Nat) := []
  lastEmcy : Nat := 0
  xfer     : Option Transfer := none
  /-- An SDO or USDO access waits for a follower or the ember: upload or not, USDO or not. -/
  wait     : Option (Bool × Bool) := none
  /-- The access that waits is a read of LINE_DATA (R458). -/
  lineRead : Bool := false
  /-- Response to the last SDO or USDO request: abort code, 0 for success, and data. -/
  abort    : Nat := 0
  resp     : List Nat := []
  /-- SNAP_SEL, LOG_SEL and LOG_NUM of the SDO server (R351, R705). -/
  snapSel  : Nat := 0
  logSel   : Nat := 0
  logNum   : Nat := 32
  /-- BLOB_SEL and BLOB_OFS of this originator (R680). -/
  blobSel  : Nat := 2
  blobOfs  : Nat := 0
  /-- Armed heartbeat consumers: entry 0 to 3 and expiry cycle plus 1 (R598). -/
  hbTimers : Tab Nat := []
  /-- Node ID in force and rates in force (R587, R590). -/
  nodeId   : Nat := 0
  arbRate  : Nat := 2
  dataRate : Nat := 2
  /-- Sample points in force, in 0.1 % of the bit (R586, R587). -/
  arbSp    : Nat := 875
  dataSp   : Nat := 750
  /-- Controller held in reset (R575, R594). -/
  inReset  : Bool := true
  /-- Cycle of the last bus-off (R658). -/
  busoffAt : Option Nat := none
  /-- The hold has ended and the recovery sequence runs. -/
  recovering : Bool := false
  /-- Synchronous TPDO counters, changed flags, last transmission cycle plus 1, trigger waiting on the inhibit time. -/
  syncCnt  : Tab Nat := []
  dirty    : Tab Nat := []
  lastTx   : Tab Nat := []
  inhWait  : Tab Nat := []
  /-- Event timers: cycle of the next expiry plus 1 (R617). -/
  evtAt    : Tab Nat := []
  /-- RPDO data waiting for the next SYNC (R617). -/
  rpdoWait : Tab (List Nat) := []
  /-- End of the SYNC window (R618), and cycles of the next produced SYNC and heartbeat. -/
  syncWinEnd : Option Nat := none
  syncNext : Option Nat := none
  hbNext   : Option Nat := none
  /-- Cycles heartbeats and produced SYNCs count from: the boot-up message, and the last entry into pre-operational or
  operational (R596, R599). -/
  bootAt   : Nat := 0
  syncBase : Nat := 0
  syncCounter : Nat := 0
  /-- TPDOs that map an entry, as a bit mask by the entry's key, and those a write has triggered (R617). -/
  mapped   : Tab Nat := []
  trig     : Nat := 0
  /-- TPDOs that a SYNC or the end of an inhibit time calls for, captured at the end of the cycle (R618). -/
  due      : Nat := 0
  /-- Communication entries as last stored, and whether defaults are loaded at the next reset (R614). -/
  saved    : Tab Nat := []
  loadDefault : Bool := false
  /-- A TIME waits for its ember read: days and milliseconds (R600, R601). -/
  timeWait : Option (Nat × Nat) := none
  /-- A reset of communication waits for the end of the bus-off hold (R658). -/
  resetDue : Bool := false
  deriving DecidableEq, Repr

/-- The host window (R627 to R645). -/
structure HostRt where
  frameErr : Bool := false
  werr     : Nat := 0
  irqFlag  : Nat := 0
  irqMask  : Nat := 0
  /-- Flags set in the current cycle: cycle plus 1 and mask (R638). -/
  irqNow   : Nat × Nat := (0, 0)
  odIndex  : Nat := 0
  odSub    : Nat := 0
  odLen    : Nat := 0
  busy     : Bool := false
  /-- The running or last request is a READ. -/
  reading  : Bool := false
  /-- The running request is a read of LINE_DATA (R458). -/
  lineRead : Bool := false
  done     : Bool := false
  ovf      : Bool := false
  err      : Nat := 0
  mailbox  : List Nat := []
  ptr      : Nat := 0
  snapCtl  : Nat := 0
  snap     : List Nat := [0, 0, 0, 0, 0, 0, 0, 0]
  /-- Last capture of CYC and RTC seconds (R640). -/
  cycCap   : Nat := 0
  rtcCap   : Nat := 0xFFFFFFFF
  /-- Key sequence: 0 closed, 1 first word seen, 2 open, 3 open and first word seen again; and the cycle it opened in.
  -/
  key      : Nat := 0
  keyAt    : Nat := 0
  /-- SNAP_SEL, LOG_SEL and LOG_NUM of the host's mailbox (R351, R705). -/
  snapSel  : Nat := 0
  logSel   : Nat := 0
  logNum   : Nat := 32
  /-- BLOB_SEL and BLOB_OFS of this originator (R680). -/
  blobSel  : Nat := 2
  blobOfs  : Nat := 0
  /-- Words HMISO carried in the last read frame. -/
  miso     : List Nat := []
  /-- HIRQ is driven low (R638); cycle plus 1 of the last capture into SNAP0 to SNAP7, and into CYC and RTC_SEC (R639,
  R640). -/
  hirq     : Bool := false
  snapAt   : Nat := 0
  capAt    : Nat := 0
  /-- Cycle plus 1 of the last direct write, and the entries written in it (R611). -/
  wroteAt  : Nat := 0
  wroteKeys : List Nat := []
  deriving DecidableEq, Repr

/-- The loop output (R646 to R654). -/
structure LoopRt where
  /-- Cycle plus 1 in which SLEWING last cleared, 0 for none. -/
  slewEnd  : Nat := 0
  /-- Cycle plus 1 of the last direct write, which takes effect a cycle later, and the target until then (R652). -/
  wroteAt  : Nat := 0
  oldTarget : Nat := 0
  /-- Measurements in a row outside and within LOOP_TOL, and whether the mismatch has been logged (R654). -/
  bad      : Nat := 0
  good     : Nat := 0
  reported : Bool := false
  deriving DecidableEq, Repr

/-- One-time-programmable contents that commands change (R666 to R691). -/
structure Otp where
  /-- Anti-rollback fuses blown. -/
  arb      : Nat := 0
  oemHash  : List Nat := []
  deriving DecidableEq, Repr

/-- Firmware trust and attestation beside the entries of 0x2D00 (R666 to R691). -/
structure SecRt where
  /-- Header of the running image, 256 bytes, once one has booted (R669). -/
  header   : List Nat := []
  /-- Nonce of the next report, and whether it was written since the last request (R681). -/
  nonce    : List Nat := []
  fresh    : Bool := false
  /-- Captured report body, empty until the capture, and its signature (R681, R682). -/
  quote    : List Nat := []
  /-- Cycle plus 1 of that capture (R687). -/
  quoteAt  : Nat := 0
  signature : List Nat := []
  /-- CONFIG_DIGEST (R683). -/
  digest   : List Nat := []
  /-- Fuses being blown (R675): the count before, the count to reach, and the first cycle. -/
  arbOld   : Nat := 0
  arbGoal  : Nat := 0
  arbFrom  : Nat := 0
  /-- Cycle of the seal's last change, or of the last start: its samples count from there (R684). -/
  sealAt   : Nat := 0
  deriving DecidableEq, Repr

/-- An access of D0 at the ember's port (R381): the entry, what a write carries, and who waits for the answer. -/
structure EmberReq where
  key   : Nat
  write : Bool
  value : Nat := 0
  /-- Bytes of a SCRATCH write. -/
  bytes : List Nat := []
  who   : Orig
  deriving DecidableEq, Repr

/-- What the ember answered: the bytes read, and the clock before and after a time write. -/
structure EmberAns where
  data  : List Nat := []
  /-- RTC_BIN and RTC_CAL as captured. -/
  bin   : Nat := 0
  cal   : Nat := 0
  clock : Option (Nat × Nat) := none
  deriving DecidableEq, Repr

/-- The ember domain (R367 to R396). -/
structure EmberRt where
  /-- SEC and the fields of CAL mode in the layout of RTC_CAL (R373, R376); the mode in force (R380). -/
  sec      : Nat := 0
  cal      : Nat := 0x0000010106000000
  mode     : Nat := 0
  /-- The mode in force in the ember cycle of the last write of RTC_MODE, and that write's cycle, plus 1 (R380). -/
  modeWas  : Nat := 0
  modeAt   : Nat := 0
  /-- SUBSEC in the last ember cycle a command has told of (R373). -/
  subsec   : Nat := 0
  /-- TRIM of the running correction period and the one that follows (R374), and what SUBSEC reaches as the running
  period ends, counted on past 32 767 from its value now. -/
  trim     : Nat := 0
  trimNext : Nat := 0
  period   : Nat := 2 ^ 20
  onVbat   : Bool := false
  disconnected : Bool := false
  /-- Cycle of the last time write and of the last assertion of PWRON, plus 1 (R383, R386). -/
  wroteAt  : Nat := 0
  pwronAt  : Nat := 0
  /-- Accesses waiting at the port, in order of arrival; the ember's answer to the first once it has acted (R381). -/
  reqs     : List EmberReq := []
  ans      : Option EmberAns := none
  /-- Cross-check: seconds asked for while it waits for the next tick, and the seconds of the open gate (R389). -/
  xchkWait : Option Nat := none
  xchkOpen : Option Nat := none
  /-- Cycle in which the gate opened. -/
  xchkFrom : Nat := 0
  /-- Events counted at their source in the ember since D0 last saw the counter: seconds modulo 2^32, the others modulo
  2^8 (R506). -/
  ticks    : Nat := 0
  alarms   : Nat := 0
  wakes    : Nat := 0
  tamp0    : Nat := 0
  tamp1    : Nat := 0
  oscs     : Nat := 0
  years    : Nat := 0
  /-- A tamper input is armed for the next episode (R387). -/
  armed0   : Bool := true
  armed1   : Bool := true
  /-- D0 has declared the flag since it was last written (R388); CELL_LOW has been logged since it was set (R372). -/
  told0    : Bool := false
  told1    : Bool := false
  cellTold : Bool := false
  deriving DecidableEq, Repr

/-- One booking of a section (R323, R447): the fields of its BK record. BOOK_NO, TARIFF and RTC are set when it is
booked. -/
structure Booking where
  sect   : Nat
  no     : Nat := 0
  tariff : Nat := 0
  /-- Direction: 0 forward, 1 reverse, 0xFF no volume. -/
  dir    : Nat := 0xFF
  /-- Energy mode: 0 none, 1 heat, 2 cool. -/
  mode   : Nat := 0
  /-- TFLAGS: FAIL_TIME, GAP_TIME, E_HOLD_TIME, OVF. -/
  flags  : Nat := 0
  rtc    : Nat := 0xFFFFFFFF
  vol    : Nat := 0
  energy : Nat := 0
  time   : Nat := 0
  /-- New nL residue and carry of the direction, and new nJ residue of the mode. -/
  res    : Nat := 0
  carry  : Nat := 0
  resE   : Nat := 0
  deriving DecidableEq, Repr

/-- A record write of the ledger controller in progress (R442, R443): record, slot, the slot's 64 bytes, and its first
cycle. -/
structure RecWrite where
  record : Nat
  slot   : Nat
  bytes  : List Nat
  from_  : Nat
  deriving DecidableEq, Repr

/-- D0's ledger beside the registers it holds (R442 to R449). -/
structure LedgerRt where
  /-- Slots by twice the record plus 0 for A, 1 for B: 64 bytes. A slot not listed holds the record's initial value with
  SEQ 1 (R445); one of another length is torn (R454). -/
  slots : Tab (List Nat) := []
  /-- TAIL: record and slot of the last record write (R443). -/
  tail  : Option (Nat × Nat) := none
  /-- Records of sections to be written, in ascending order, and the write in progress. -/
  due   : List Nat := []
  write : Option RecWrite := none
  /-- LEDGER actions of a firing are among them (R452). -/
  fire  : Bool := false
  /-- Last booking of each section, by section (R447). -/
  bk    : Tab (Option Booking) := []
  /-- BOOK_NO of the last booking each record includes, by record (R448). -/
  no    : Tab Nat := []
  /-- The general journal banks, as the 16-byte entries written so far: header, records, seal (R450); the boundary bank:
  record and seal (R451). -/
  banks : Tab (List (List Nat)) := []
  bound : List (List Nat) := []
  /-- Residues of a section's last booking: nL forward and reverse, carry forward and reverse, nJ heat and cool. -/
  anc   : Tab (List Nat) := []
  /-- The ledger buffer: LOG_NOs of accepted kiln-log entries not yet copied, at most two, and the cycle the write of
  the first began in (R700). -/
  log     : List Nat := []
  logFrom : Nat := 0
  deriving DecidableEq, Repr

/-- Billing beside its dictionary entries (R322 to R365). -/
structure BillRt where
  /-- D0's count of RTC seconds; none while the clock is invalid (R329). -/
  rtc      : Option Nat := none
  tariff   : Nat := 0
  /-- Snapshots held, oldest first: number and bytes (64-byte header, then 704 bytes a section). -/
  snaps    : List (Nat × List Nat) := []
  /-- Boundary firings waiting or running, oldest first (R418); the applied one has not retired. -/
  queue    : List Boundary := []
  unretired : Bool := false
  /-- SEQ of boundary firings (R402). -/
  seq      : Nat := 0
  /-- CLOSE_RTC of the last snapshot (R349). -/
  prevRtc  : Nat := 0xFFFFFFFF
  /-- Aligned start key and scheduled end of the open interval (R355). -/
  intKey   : Nat := 0
  intEndRtc : Nat := 0xFFFFFFFF
  /-- Cycle in which a cycle-timed demand interval ends (R342). -/
  intEnd   : Option Nat := none
  /-- DEMAND_INT was written since the last minute tick (R340). -/
  demWritten   : Bool := false
  /-- BILL_MODE, BILL_DAY and BILL_HOUR still in force, where one was written since the last minute tick (R358). -/
  sched    : Option (Nat × Nat × Nat) := none
  /-- Cycle plus 1 in which a scheduled close, a manual close and a clock write were last processed (R356, R360). -/
  closedAt : Nat := 0
  manualAt : Nat := 0
  clockAt  : Nat := 0
  /-- A minute tick waits for the end of catch-up (R561). -/
  late     : Bool := false
  /-- Between two closes of one processing no booking is made (R354). -/
  hold     : Bool := false
  /-- Registers whose saturation has been logged (R325). -/
  held     : List Nat := []
  /-- Bookings that wait: while catch-up runs or closes follow one another (R354, R355), or for the ledger's record
  writes (R448, R452). -/
  waiting  : List Booking := []
  deriving DecidableEq, Repr

end Sys2Proof.Machine
end

