-- ==== Sys2Proof/Machine/State.lean ====
section
/-! DEFINITION. The state of the block: the cycle counter, the dictionary's entries, the records behind them, and the
queue of commands that wait. Plain data throughout. -/

namespace Sys2Proof.Machine

/-- Reasons a command stops the machine. The spec gives every event of the block an effect, so no command stops. -/
inductive Fault where
  /-- Raised by no command: an event of a resource the part does not carry does not occur (R1, R4), and a command that
  names one changes nothing. Safe. -/
  | absentResource
  deriving DecidableEq, Repr

/-- Reasons a command has no meaning. -/
inductive Refusal where
  /-- Raised only by an arm of `exec` whose command is not modelled yet. Safe. -/
  | notModelled (mnemonic : String)
  deriving DecidableEq, Repr

/-- The whole state. A table lists only what differs from its default, in canonical form (`Tab.wf`). -/
structure State where
  /-- Dies fitted: 2, 4 or 8 (R1). -/
  dies    : Nat := 8
  /-- The cycle counter (R11). -/
  cyc     : Nat := 0
  /-- Dictionary entries other than totals, by key; default: the Default column. -/
  od      : Tab Nat := []
  /-- Totals and demand registers 0x2600 and 0x2610, held in D0's ledger. -/
  led     : Tab Nat := []
  /-- The slots of D0's ledger records, and its writes (R442 to R449). -/
  ledger  : LedgerRt := {}
  /-- Contents of DOMAIN entries the dictionary keeps (templates, day profiles, scratch), by key. -/
  blobs   : Tab (List Nat) := []
  /-- What D0's copy still reads for follower counters that moved since their last send (R498). -/
  lag     : Tab Nat := []
  ports   : Tab PortRt := []
  paths   : Tab PathRt := []
  sects   : Tab SectRt := []
  chans   : Tab ChanRt := []
  pins    : Tab PinRt := []
  pulses  : Tab PulseRt := []
  dieRt   : Tab DieRt := []
  lines   : Tab LineRt := []
  /-- Settings of the GPIO cells by die (R577). -/
  gpio    : Tab GpioRt := []
  stores  : Tab StoreRt := []
  /-- Velocity D0 last formed for a path, with the ordinal of its frame (R217, R221). -/
  vel     : Tab (Option (Nat × Rat)) := []
  lant    : LantRt := {}
  pow     : PowRt := {}
  /-- Frame origin F0 and length in force, start of the current frame, and written FRAME_LENs that wait: cycle and
  value (R174, R175). -/
  f0      : Nat := 0
  frameLen : Nat := 614400
  frameAt : Nat := 0
  /-- Ordinal of the current frame since cold start, which no restart of FRAME_NO touches (R221). -/
  frameSeq : Nat := 0
  /-- D0's RTC seconds at that boundary (R245). -/
  frameRtc : Nat := 0xFFFFFFFF
  lenPend : List (Nat × Nat) := []
  /-- Frames run only after the first boundary (R552). -/
  framing : Bool := false
  /-- A start is complete (READY), the cause of a halt, and the cycle of the last watchdog warm start (R544, R558). -/
  ready   : Bool := false
  halt    : Nat := 0
  wdWarm  : Option Nat := none
  /-- The kiln log: entries held in the store ring and in the ledger copy, oldest first; originators that have read the
  freezing entry; drops since the freeze (R700 to R704). -/
  klog    : List LogEnt := []
  logRead : List Nat := []
  dropsAt : Nat := 0
  standing : List Standing := []
  /-- Events already logged in this energy window, as code and subject (R78). -/
  once    : List (Nat × Nat) := []
  /-- Firings by originator 0 to 2, the calendar's boundary firings, and journal banks in use (R397 to R418, R450). -/
  fires   : Tab FireRt := []
  bill    : BillRt := {}
  ember   : EmberRt := {}
  net     : NetRt := {}
  host    : HostRt := {}
  loop    : LoopRt := {}
  sec     : SecRt := {}
  otp     : Otp := {}
  /-- The SRAM banks by die. -/
  sram    : Tab SramRt := []
  /-- Configuration and templates the stores hold, as bytes by key, and values whose lines are not yet committed: die,
  first line, key and bytes (R436, R438). -/
  saved   : Tab (List Nat) := []
  unsaved : List (Nat × Nat × Nat × List Nat) := []
  /-- Abort code of the last direct dictionary access, 0 for success, and the bytes a read returned. -/
  resp    : Nat := 0
  respData : List Nat := []
  /-- The die the chip arbiter serves next (R27). -/
  arbiter : Nat := 1
  /-- Commands waiting, first in first out. -/
  pending : List Instr := []
  deriving DecidableEq, Repr

/-- The machine right after reset: every register at its Default, no start run yet, nothing queued. -/
def State.reset : State := {}

end Sys2Proof.Machine
end

