-- ==== Sys2Proof/Decode.lean ====
section
/-! DEFINITION. Words of the operation table: spec/opcode_table.json gives no row any bits, so no word spells a command.
-/

namespace Sys2Proof

/-- The command a word spells by the table's bits: none, for the block's commands are events and accesses. -/
def decodeTableWord (_nbits _w : Nat) : Option Instr := none

end Sys2Proof
end

