-- ==== Sys2Proof/Config.lean ====
section
/-! DEFINITION. What an implementation fixes and the free values: constants without a body, so that no proof can see
what they are and a claim that mentions one holds whatever it is. Each is named in the assumption log. -/

namespace Sys2Proof.Config

/-- Free value: which neighbour an inexact quotient is rounded to where the spec gives no direction (`site` names the
rounding, numerator and denominator the quotient). UNVERIFIED, log entry 12. -/
opaque roundUp : (site : Nat) → (num : Int) → (den : Nat) → Bool

/-- Free value: the position code of a stop whose two calibration codes are equal, which R110 does not state. Log
entry 13. -/
opaque freePhi : (u : Nat) → Int

/-- Free value: the sub-sample offset in Q1.15 where the denominator of R130 is 0. Log entry 13. -/
opaque freeDelta : (cm cp : Int) → Int

/-- Free value: a quotient of binary64 arithmetic whose divisor is 0 where the spec states no result. Log entry 13. -/
opaque freeQuot : (site : Nat) → (num : Int) → Int

/-- Constant of an implementation: R_INT of a die in mΩ, which its OTP holds and R268 gives only nominally. Log entry
21. -/
opaque rInt : (die : Nat) → Nat

/-- Free value: what an entry of a section's result holds that a FAIL computation did not form (R224, R254 state no
value), by entry and epoch. Log entry 19. -/
opaque freeUnformed : (key cyc : Nat) → Nat

/-- Free value: a whole number that the spec's formula puts outside the number format of its entry, by site. Log entry
20. -/
opaque freeBeyond : (site : Nat) → (v : Int) → Nat

/-- Free value: the class of a pulse input's sample at a cycle, where no command brings the sample (R299, R319). Log
entry 22. -/
opaque freeLine : (input cyc : Nat) → Nat

/-- Free value: what a capture shifted in learning holds at a sample the capture did not reach (R126 states none). Log
entry 79. -/
opaque freeSample : (b i : Nat) → Int

/-- Free value: the loop delay from CTX to CRX in 1/64 cyc that the controller measures on a bit-rate-switched frame it
starts in a cycle (R586, R732). Log entry 86. -/
opaque loopDelay : (cyc : Nat) → Nat

/-- Free value: SHAKE256 of a byte string, `len` bytes (the standard's function, uninterpreted). Log entry 14. -/
opaque shake256 : (msg : List Nat) → (len : Nat) → List Nat

/-- Free value: whether an ML-DSA-65 signature over a message verifies under a public key and a context string
(uninterpreted). Log entry 14. -/
opaque mldsaVerify : (key ctx msg sig : List Nat) → Bool

/-- Free value: the ML-DSA-65 signature of the identity private key over a message with a context string
(uninterpreted). Log entry 14. -/
opaque mldsaSign : (ctx msg : List Nat) → List Nat

/-- Free value: the text of the software version entry for an image's VERSION (R624 gives no format). Log entry 14. -/
opaque versionText : (version : Nat) → List Nat

/-- Constants of a device in its OTP (R624, R666): item 0 serial number, 1 revision, 2 text of the hardware version, 3
ROOT_HASH, 4 identity public key, 5 device certificate. Log entry 14. -/
opaque otp : (item : Nat) → List Nat

/-- Free value: what a byte of the store reads as that no commit has written. Log entry 15. -/
opaque storeBlank : (die line byte : Nat) → Nat

/-- Free value: what a word of a die's SRAM holds after the `loss`-th loss of its contents, before it is written. Log
entry 26. -/
opaque sramBlank : (die word loss : Nat) → Nat

/-- Constant of a device: the words of a die's SRAM that its image occupies (R549 gives no address). Log entry 88. -/
opaque imageWord : (die word : Nat) → Bool

/-- Free value: the controller's transmit and receive error counters in a cycle, which ISO 11898-1 forms from bus
traffic the block's commands do not carry. Log entry 30. -/
opaque freeTec : (cyc : Nat) → Nat

end Sys2Proof.Config
end

