-- ==== Sys2Proof/Machine/Arith.lean ====
section
/-! DEFINITION. The exact arithmetic behind the block's binary64 and REAL32 values (R119, R217, R222, R228): a binary64
value is the rational number it stands for, and each operation rounds to the nearest 53-bit value, ties to even. No
quantity of the spec comes near the ends of the exponent range, so no overflow or subnormal value of binary64 arises
(assumption log 11). REAL32 values are encoded with subnormals and overflow. -/

namespace Sys2Proof.Machine

/-- A quotient whose direction of rounding the spec leaves open: exact quotients are exact. -/
def roundOpen (site : Nat) (a : Int) (b : Nat) : Int :=
  if a % b = 0 then a / b else if Config.roundUp site a b then a / b + 1 else a / b

/-- Round half to even of a non-negative quotient. -/
def roundEven (a b : Nat) : Nat :=
  let q := a / b
  let r := a % b
  if 2 * r < b then q else if b < 2 * r then q + 1 else if q % 2 = 0 then q else q + 1

/-- 2 to an integer power, as a rational. -/
def pow2 (e : Int) : Rat := if 0 ≤ e then ((2 ^ e.toNat : Nat) : Rat) else 1 / ((2 ^ (-e).toNat : Nat) : Rat)

/-- Exponent e with 2^(p−1) ≤ n/d · 2^(−e) < 2^p, for positive n and d. -/
def scaleExp (p : Nat) (n d : Nat) : Int :=
  let e : Int := (Nat.log2 n : Int) - (Nat.log2 d : Int) - (p : Int)
  -- n/d lies between 2^(e+p-1) and 2^(e+p+1)
  let big : Bool := if 0 ≤ e + p then decide (d * 2 ^ (e + p).toNat ≤ n) else decide (d ≤ n * 2 ^ (-(e + p)).toNat)
  if big then e + 1 else e

/-- The significand of n/d at exponent e, rounded to nearest, ties to even. -/
def signif (n d : Nat) (e : Int) : Nat :=
  if 0 ≤ e then roundEven n (d * 2 ^ e.toNat) else roundEven (n * 2 ^ (-e).toNat) d

/-- Round a rational to the nearest binary64 value, ties to even. -/
def f64 (q : Rat) : Rat :=
  if q.num = 0 then 0
  else
    let n := q.num.natAbs
    let e := scaleExp 53 n q.den
    let m : Rat := (signif n q.den e : Rat) * pow2 e
    if q.num < 0 then -m else m

/-- The REAL32 encoding of a rational: nearest value, ties to even, with subnormals; overflow gives infinity. -/
def f32bits (q : Rat) : Nat :=
  if q.num = 0 then 0
  else
    let n := q.num.natAbs
    let e0 := scaleExp 24 n q.den
    let e : Int := if e0 < -149 then -149 else e0
    let m := signif n q.den e
    let sgn : Nat := if q.num < 0 then 0x80000000 else 0
    -- m < 2^23 is subnormal (e = -149); m = 2^24 carries into the exponent
    let expo : Int := e + 150
    let body : Int := if m < 2 ^ 23 then (m : Int) else (m : Int) - 2 ^ 23 + expo * 2 ^ 23
    if 255 * 2 ^ 23 ≤ body then sgn + 0x7F800000 else sgn + body.toNat

/-- The REAL32 nearest to a quotient of integers. -/
def f32quot (a : Int) (b : Nat) : Nat := f32bits (mkRat a b)

/-- π as its binary64 value. -/
def piF : Rat := mkRat 884279719003555 281474976710656

/-- Absolute value. -/
def rabs (q : Rat) : Rat := if q < 0 then -q else q

/-- Round half up of a rational to an integer. -/
def ratHalfUp (q : Rat) : Int := roundHalfUp q.num q.den

/-- Round half away from zero of a rational to an integer. -/
def ratHalfAway (q : Rat) : Int := roundHalfAway q.num q.den

/-- Decides 2·65536·log10(n/d) ≥ 2m − 1 for n/d ≥ 1 by whole powers: (n/d)^131072 ≥ 10^(2m−1). -/
def logAtLeast (n d m : Nat) : Bool :=
  if m = 0 then true else decide (10 ^ (2 * m - 1) * d ^ 131072 ≤ n ^ 131072)

/-- Binary search for the largest m below 2^k + base that `logAtLeast` admits. -/
def logSearch (n d : Nat) : (k base : Nat) → Nat
  | 0, base => base
  | k + 1, base => if logAtLeast n d (base + 2 ^ k) then logSearch n d k (base + 2 ^ k) else logSearch n d k base

/-- log10(max(q, 1)) in Q16.16, rounded half away from zero (R229, R237). -/
def log10Q16 (q : Rat) : Int := if q ≤ 1 then 0 else (logSearch q.num.natAbs q.den 22 0 : Nat)

/-- The gain step of R98 in half decibels: round(40 · log10(target / mean)) within ± lim, where mean = sum / cnt. The
rounding is decided by whole powers; an exact half cannot occur for whole AMP values. -/
def agcStep (target sum cnt lim : Nat) : Int :=
  if sum = 0 then lim
  else
    let a := target * cnt
    -- largest s with (a/sum)^80 ≥ 10^(2s-1)
    let up : Nat := (List.range lim).foldl (fun acc i => if 10 ^ (2 * (i + 1) - 1) * sum ^ 80 ≤ a ^ 80 then i + 1 else acc) (0 : Nat)
    let down : Nat := (List.range lim).foldl (fun acc i => if 10 ^ (2 * (i + 1) - 1) * a ^ 80 ≤ sum ^ 80 then i + 1 else acc) (0 : Nat)
    if a < sum then -(down : Int) else (up : Int)

/-- The crossed amplitude check of R156: |20·log10(a/b)| ≤ x · 0.5 dB, by whole powers. -/
def xampOk (a b x : Nat) : Bool :=
  let hi := max a b
  let lo := min a b
  decide (hi ^ 40 ≤ 10 ^ x * lo ^ 40)

/-- The operations of binary64: each result rounded once. -/
def fAdd (a b : Rat) : Rat := f64 (a + b)
def fSub (a b : Rat) : Rat := f64 (a - b)
def fMul (a b : Rat) : Rat := f64 (a * b)
/-- A quotient; by 0 where the spec states no result (log entry 13). -/
def fDiv (site : Nat) (a b : Rat) : Rat := if b = 0 then f64 (Config.freeQuot site a.num) else f64 (a / b)

/-- A sum of binary64 values from the first on. -/
def fSum (l : List Rat) : Rat := l.foldl fAdd 0

/-- The quotient of two whole numbers as a binary64 value. -/
def fOf (a : Int) (b : Nat) : Rat := f64 (mkRat a b)

/-- A signed whole number in `bits` bits; beyond them the spec states no result (log entry 20). -/
def fitS (site bits : Nat) (v : Int) : Int :=
  if -(2 ^ (bits - 1) : Int) ≤ v ∧ v < (2 ^ (bits - 1) : Int) then v
  else toSigned bits (Config.freeBeyond site v % 2 ^ bits)

/-- An unsigned whole number in `bits` bits; beyond them the spec states no result (log entry 20). -/
def fitU (site bits : Nat) (v : Int) : Nat :=
  if 0 ≤ v ∧ v < (2 ^ bits : Int) then v.toNat else Config.freeBeyond site v % 2 ^ bits

/-- Rounding of a rational whose direction the spec leaves open (log entry 12). -/
def ratOpen (site : Nat) (q : Rat) : Int := roundOpen site q.num q.den

end Sys2Proof.Machine
end

