-- ==== Sys2Proof/Machine/Keys.lean ====
section
/-! DEFINITION. The keys of the dictionary's entries under the names the spec's tables give them: `K.port_FREQ n` is
0x2140+n.01. A second argument counts the members of a run of entries. -/

namespace Sys2Proof.Machine

abbrev K.dev_FRAME_LEN : Nat := 0x200010
abbrev K.dev_FRAME_NO : Nat := 0x200011
abbrev K.dev_E_RX : Nat := 0x200012
abbrev K.dev_FOLLOW_TMO : Nat := 0x200020
abbrev K.dev_F0 : Nat := 0x200021
abbrev K.dev_CHAN_TMO (i : Nat) : Nat := 0x200030 + i
abbrev K.dev_START_KIND : Nat := 0x200040
abbrev K.dev_START_CAUSE : Nat := 0x200041
abbrev K.dev_START_CYC : Nat := 0x200042
abbrev K.dev_START_TIME : Nat := 0x200043
abbrev K.dev_FVF_TIME : Nat := 0x200044
abbrev K.dev_WD_TMO : Nat := 0x200045
abbrev K.dev_COLD_COUNT : Nat := 0x200046
abbrev K.dev_WARM_COUNT : Nat := 0x200047
abbrev K.dev_STRAP_STAT : Nat := 0x200050
abbrev K.dev_ARB_RATE : Nat := 0x200060
abbrev K.dev_DATA_RATE : Nat := 0x200061
abbrev K.dev_ARB_SP : Nat := 0x200062
abbrev K.dev_DATA_SP : Nat := 0x200063
abbrev K.dev_AUTO_OP : Nat := 0x200064
abbrev K.dev_SDO_TMO : Nat := 0x200065
abbrev K.dev_TIME_MODE : Nat := 0x200066
abbrev K.dev_TIME_TOL : Nat := 0x200067
abbrev K.dev_TIME_OFS : Nat := 0x200068
abbrev K.dev_TIME_DIFF : Nat := 0x200069
abbrev K.dev_SYNC_CYC : Nat := 0x20006A
abbrev K.dev_CAN_STAT : Nat := 0x20006B
abbrev K.dev_TEC : Nat := 0x20006C
abbrev K.dev_BUSOFF_COUNT : Nat := 0x20006D
abbrev K.dev_RPDO_REJ : Nat := 0x20006E
abbrev K.dev_TPDO_LATE : Nat := 0x20006F
abbrev K.dev_EMCY_DROP : Nat := 0x200070
abbrev K.dev_TIME_BAD : Nat := 0x200071
abbrev K.dev_BOOT_SLOT : Nat := 0x200080
abbrev K.die_VDRV_SET (n : Nat) : Nat := 0x200110 + 256 * n
abbrev K.die_VDRV_MEAS (n : Nat) : Nat := 0x200111 + 256 * n
abbrev K.die_VDRV_LOW_COUNT (n : Nat) : Nat := 0x200112 + 256 * n
abbrev K.die_CAL_CMD (n : Nat) : Nat := 0x200120 + 256 * n
abbrev K.die_CAL_STATUS (n : Nat) : Nat := 0x200121 + 256 * n
abbrev K.die_CAL_DRIFT (n : Nat) : Nat := 0x200122 + 256 * n
abbrev K.die_INL_MAX (n : Nat) : Nat := 0x200123 + 256 * n
abbrev K.die_CAL_SKIP (n : Nat) : Nat := 0x200124 + 256 * n
abbrev K.die_CAL_CYC (n : Nat) : Nat := 0x200125 + 256 * n
abbrev K.die_SLOT_COUNT (n : Nat) : Nat := 0x200140 + 256 * n
abbrev K.die_SLOT (n : Nat) (i : Nat) : Nat := 0x200141 + 256 * n + i
abbrev K.die_ALLOW_LEFT (n : Nat) : Nat := 0x200145 + 256 * n
abbrev K.die_ALLOW_MISS_COUNT (n : Nat) : Nat := 0x200146 + 256 * n
abbrev K.die_START_TRIM (n : Nat) : Nat := 0x200147 + 256 * n
abbrev K.die_TRIM_RESID (n : Nat) : Nat := 0x200148 + 256 * n
abbrev K.die_SCAN_PERIOD (n : Nat) : Nat := 0x200150 + 256 * n
abbrev K.die_SCAN_NO (n : Nat) : Nat := 0x200151 + 256 * n
abbrev K.die_PIN_STAT (n : Nat) (i : Nat) : Nat := 0x200152 + 256 * n + i
abbrev K.die_CLAMP_COUNT (n : Nat) (i : Nat) : Nat := 0x200162 + 256 * n + i
abbrev K.die_MARCH_CMD (n : Nat) : Nat := 0x200180 + 256 * n
abbrev K.die_MARCH_STAT (n : Nat) : Nat := 0x200181 + 256 * n
abbrev K.die_MARCH_FAIL_COUNT (n : Nat) : Nat := 0x200182 + 256 * n
abbrev K.die_MARCH_FIRST_FAIL (n : Nat) : Nat := 0x200183 + 256 * n
abbrev K.die_MARCH_CYC (n : Nat) : Nat := 0x200184 + 256 * n
abbrev K.die_MARCH_COLD (n : Nat) : Nat := 0x200185 + 256 * n
abbrev K.die_SRAM_CE_COUNT (n : Nat) : Nat := 0x200186 + 256 * n
abbrev K.die_SRAM_UE_COUNT (n : Nat) : Nat := 0x200187 + 256 * n
abbrev K.die_WLOST_GL_COUNT (n : Nat) : Nat := 0x200188 + 256 * n
abbrev K.die_WLOST_DMA_COUNT (n : Nat) : Nat := 0x200189 + 256 * n
abbrev K.die_DMA_WAIT_MAX (n : Nat) : Nat := 0x20018A + 256 * n
abbrev K.die_SRAM_STAT (n : Nat) : Nat := 0x20018B + 256 * n
abbrev K.die_LINK_STAT (n : Nat) : Nat := 0x200190 + 256 * n
abbrev K.die_CRC_ERR_COUNT (n : Nat) : Nat := 0x200191 + 256 * n
abbrev K.die_RETRY_COUNT (n : Nat) : Nat := 0x200192 + 256 * n
abbrev K.die_RESYNC_COUNT (n : Nat) : Nat := 0x200193 + 256 * n
abbrev K.die_FLUSH_COUNT (n : Nat) : Nat := 0x200194 + 256 * n
abbrev K.die_CYC_CHECK_COUNT (n : Nat) : Nat := 0x200195 + 256 * n
abbrev K.die_START_STAT (n : Nat) : Nat := 0x2001A0 + 256 * n
abbrev K.die_DIE_RESTART (n : Nat) : Nat := 0x2001A1 + 256 * n
abbrev K.die_WD_COUNT (n : Nat) : Nat := 0x2001A2 + 256 * n
abbrev K.die_GP_OUT (n : Nat) : Nat := 0x2001B0 + 256 * n
abbrev K.die_GP_CFG (n : Nat) (i : Nat) : Nat := 0x2001B1 + 256 * n + i
abbrev K.die_GP_IN (n : Nat) : Nat := 0x2001B5 + 256 * n
abbrev K.die_DIE_TEMP (n : Nat) : Nat := 0x2001C0 + 256 * n
abbrev K.die_TEMP_MAX (n : Nat) : Nat := 0x2001C1 + 256 * n
abbrev K.die_OT_COUNT (n : Nat) : Nat := 0x2001C2 + 256 * n
abbrev K.path_MODE (n : Nat) : Nat := 0x210001 + 256 * n
abbrev K.path_SEQ_ORDER (n : Nat) : Nat := 0x210002 + 256 * n
abbrev K.path_SEQ_GAP (n : Nat) : Nat := 0x210003 + 256 * n
abbrev K.path_PAIR_LEN (n : Nat) : Nat := 0x210004 + 256 * n
abbrev K.path_RETRY_MAX (n : Nat) : Nat := 0x210005 + 256 * n
abbrev K.path_SWAP (n : Nat) : Nat := 0x210006 + 256 * n
abbrev K.path_XT_GROUP (n : Nat) : Nat := 0x210007 + 256 * n
abbrev K.path_SOLO_DIV (n : Nat) : Nat := 0x210008 + 256 * n
abbrev K.path_REF_EVERY (n : Nat) : Nat := 0x210009 + 256 * n
abbrev K.path_ZO_SHIFT (n : Nat) : Nat := 0x21000A + 256 * n
abbrev K.path_ZERO_DT (n : Nat) : Nat := 0x21000B + 256 * n
abbrev K.path_TD_SEG (n : Nat) : Nat := 0x21000C + 256 * n
abbrev K.path_TD_CHAN (n : Nat) : Nat := 0x21000D + 256 * n
abbrev K.path_TD_FIX (n : Nat) : Nat := 0x21000E + 256 * n
abbrev K.path_ZO_ALARM (n : Nat) : Nat := 0x21000F + 256 * n
abbrev K.path_L (n : Nat) : Nat := 0x210010 + 256 * n
abbrev K.path_X (n : Nat) : Nat := 0x210011 + 256 * n
abbrev K.path_GAIN (n : Nat) : Nat := 0x210020 + 256 * n
abbrev K.path_AGC_MODE (n : Nat) : Nat := 0x210021 + 256 * n
abbrev K.path_AGC_STEP (n : Nat) : Nat := 0x210022 + 256 * n
abbrev K.path_AMP_TARGET (n : Nat) : Nat := 0x210023 + 256 * n
abbrev K.path_THR (n : Nat) : Nat := 0x210024 + 256 * n
abbrev K.path_THR_POL (n : Nat) : Nat := 0x210025 + 256 * n
abbrev K.path_ZC_EDGE (n : Nat) : Nat := 0x210026 + 256 * n
abbrev K.path_WIN_OPEN (n : Nat) : Nat := 0x210027 + 256 * n
abbrev K.path_WIN_LEN (n : Nat) : Nat := 0x210028 + 256 * n
abbrev K.path_STOP_FIRST (n : Nat) : Nat := 0x210029 + 256 * n
abbrev K.path_STOP_COUNT (n : Nat) : Nat := 0x21002A + 256 * n
abbrev K.path_LOCK_OFS (n : Nat) : Nat := 0x21002B + 256 * n
abbrev K.path_CAP_MODE (n : Nat) : Nat := 0x21002C + 256 * n
abbrev K.path_CAP_OPEN (n : Nat) : Nat := 0x21002D + 256 * n
abbrev K.path_CAP_PRE (n : Nat) : Nat := 0x21002E + 256 * n
abbrev K.path_REFINE (n : Nat) : Nat := 0x21002F + 256 * n
abbrev K.path_SEARCH (n : Nat) : Nat := 0x210030 + 256 * n
abbrev K.path_AGREE (n : Nat) : Nat := 0x210031 + 256 * n
abbrev K.path_LEARN (n : Nat) : Nat := 0x210032 + 256 * n
abbrev K.path_TPL_VALID (n : Nat) : Nat := 0x210033 + 256 * n
abbrev K.path_TPL_ORG (n : Nat) : Nat := 0x210034 + 256 * n
abbrev K.path_TEMPLATE (n : Nat) : Nat := 0x210035 + 256 * n
abbrev K.path_AMP_MIN (n : Nat) : Nat := 0x210040 + 256 * n
abbrev K.path_AMP_MAX (n : Nat) : Nat := 0x210041 + 256 * n
abbrev K.path_GUARD_TOL (n : Nat) : Nat := 0x210042 + 256 * n
abbrev K.path_REF12 (n : Nat) : Nat := 0x210043 + 256 * n
abbrev K.path_REF13 (n : Nat) : Nat := 0x210044 + 256 * n
abbrev K.path_BAND_VALID (n : Nat) : Nat := 0x210045 + 256 * n
abbrev K.path_FB_MODE (n : Nat) : Nat := 0x210046 + 256 * n
abbrev K.path_FB_FRAC (n : Nat) : Nat := 0x210047 + 256 * n
abbrev K.path_FB_ENTER (n : Nat) : Nat := 0x210048 + 256 * n
abbrev K.path_FB_PROBE (n : Nat) : Nat := 0x210049 + 256 * n
abbrev K.path_XAMP_DB (n : Nat) : Nat := 0x21004A + 256 * n
abbrev K.path_FAULT_SLOTS (n : Nat) : Nat := 0x21004B + 256 * n
abbrev K.rec_PAIR_CYC (n : Nat) : Nat := 0x212001 + 256 * n
abbrev K.rec_FRAME_NO (n : Nat) : Nat := 0x212002 + 256 * n
abbrev K.rec_ATTEMPT (n : Nat) : Nat := 0x212003 + 256 * n
abbrev K.rec_TOF_DN_COR (n : Nat) : Nat := 0x212004 + 256 * n
abbrev K.rec_TOF_UP_COR (n : Nat) : Nat := 0x212005 + 256 * n
abbrev K.rec_DT_COR (n : Nat) : Nat := 0x212006 + 256 * n
abbrev K.rec_DT_COR_PS (n : Nat) : Nat := 0x212007 + 256 * n
abbrev K.rec_TD_USED (n : Nat) : Nat := 0x212008 + 256 * n
abbrev K.rec_ZO_USED (n : Nat) : Nat := 0x212009 + 256 * n
abbrev K.rec_SCHED_FLAGS (n : Nat) : Nat := 0x21200A + 256 * n
abbrev K.rec_SLOTS_RUN (n : Nat) : Nat := 0x21200B + 256 * n
abbrev K.rec_GRANT_WITHHELD (n : Nat) : Nat := 0x21200C + 256 * n
abbrev K.rec_V_PATH (n : Nat) : Nat := 0x21200D + 256 * n
abbrev K.rec_TOF_DN (n : Nat) : Nat := 0x212020 + 256 * n
abbrev K.rec_TOF_UP (n : Nat) : Nat := 0x212021 + 256 * n
abbrev K.rec_DT_RAW (n : Nat) : Nat := 0x212022 + 256 * n
abbrev K.rec_DT_PS (n : Nat) : Nat := 0x212023 + 256 * n
abbrev K.rec_TOF_US (n : Nat) : Nat := 0x212024 + 256 * n
abbrev K.rec_AMP_DN (n : Nat) : Nat := 0x212025 + 256 * n
abbrev K.rec_AMP_UP (n : Nat) : Nat := 0x212026 + 256 * n
abbrev K.rec_GAIN_USED (n : Nat) : Nat := 0x212027 + 256 * n
abbrev K.rec_NSTOP_DN (n : Nat) : Nat := 0x212028 + 256 * n
abbrev K.rec_NSTOP_UP (n : Nat) : Nat := 0x212029 + 256 * n
abbrev K.rec_W1_DN (n : Nat) : Nat := 0x21202A + 256 * n
abbrev K.rec_W2_DN (n : Nat) : Nat := 0x21202B + 256 * n
abbrev K.rec_W3_DN (n : Nat) : Nat := 0x21202C + 256 * n
abbrev K.rec_W1_UP (n : Nat) : Nat := 0x21202D + 256 * n
abbrev K.rec_W2_UP (n : Nat) : Nat := 0x21202E + 256 * n
abbrev K.rec_W3_UP (n : Nat) : Nat := 0x21202F + 256 * n
abbrev K.rec_TDC_FLAGS (n : Nat) : Nat := 0x212030 + 256 * n
abbrev K.rec_REF_DIS_COUNT (n : Nat) : Nat := 0x212031 + 256 * n
abbrev K.rec_CAP_LOST_COUNT (n : Nat) : Nat := 0x212032 + 256 * n
abbrev K.rec_QUAL_FLAGS (n : Nat) : Nat := 0x212040 + 256 * n
abbrev K.rec_OUTCOME (n : Nat) : Nat := 0x212041 + 256 * n
abbrev K.rec_OUTCOME_FAULT (n : Nat) : Nat := 0x212042 + 256 * n
abbrev K.rec_THR_USED (n : Nat) : Nat := 0x212043 + 256 * n
abbrev K.rec_AMP_AVG (n : Nat) : Nat := 0x212044 + 256 * n
abbrev K.rec_PAIRS_OK (n : Nat) : Nat := 0x212045 + 256 * n
abbrev K.rec_HALF_DN_COUNT (n : Nat) : Nat := 0x212046 + 256 * n
abbrev K.rec_HALF_UP_COUNT (n : Nat) : Nat := 0x212047 + 256 * n
abbrev K.rec_LOST_COUNT (n : Nat) : Nat := 0x212048 + 256 * n
abbrev K.rec_SKIP_COUNT (n : Nat) : Nat := 0x212049 + 256 * n
abbrev K.rec_XAMP_COUNT (n : Nat) : Nat := 0x21204A + 256 * n
abbrev K.rec_RETRY_COUNT (n : Nat) : Nat := 0x21204B + 256 * n
abbrev K.rec_SLOT_FAIL_COUNT (n : Nat) : Nat := 0x21204C + 256 * n
abbrev K.rec_CANCEL_COUNT (n : Nat) : Nat := 0x21204D + 256 * n
abbrev K.rec_FB_COUNT (n : Nat) : Nat := 0x21204E + 256 * n
abbrev K.rec_ZO0 (n : Nat) : Nat := 0x212050 + 256 * n
abbrev K.rec_ZO1 (n : Nat) : Nat := 0x212051 + 256 * n
abbrev K.rec_DT_REF (n : Nat) : Nat := 0x212052 + 256 * n
abbrev K.rec_REF_COUNT (n : Nat) : Nat := 0x212053 + 256 * n
abbrev K.rec_REF_FAIL_COUNT (n : Nat) : Nat := 0x212054 + 256 * n
abbrev K.rec_REF_CYC (n : Nat) : Nat := 0x212055 + 256 * n
abbrev K.port_FREQ (n : Nat) : Nat := 0x214001 + 256 * n
abbrev K.port_PULSES (n : Nat) : Nat := 0x214002 + 256 * n
abbrev K.port_DAMP (n : Nat) : Nat := 0x214003 + 256 * n
abbrev K.port_DUTY (n : Nat) : Nat := 0x214004 + 256 * n
abbrev K.port_BRIDGE (n : Nat) : Nat := 0x214005 + 256 * n
abbrev K.port_DRIVE_R (n : Nat) : Nat := 0x214006 + 256 * n
abbrev K.port_IDLE_TERM (n : Nat) : Nat := 0x214007 + 256 * n
abbrev K.port_C_MIN (n : Nat) : Nat := 0x214008 + 256 * n
abbrev K.port_C_MAX (n : Nat) : Nat := 0x214009 + 256 * n
abbrev K.port_R_MIN (n : Nat) : Nat := 0x21400A + 256 * n
abbrev K.port_Q_OPEN (n : Nat) : Nat := 0x21400B + 256 * n
abbrev K.port_RECHECK (n : Nat) : Nat := 0x21400C + 256 * n
abbrev K.port_CHECK_CMD (n : Nat) : Nat := 0x21400D + 256 * n
abbrev K.port_C_MEAS (n : Nat) : Nat := 0x21400E + 256 * n
abbrev K.port_R_MEAS (n : Nat) : Nat := 0x21400F + 256 * n
abbrev K.port_STATUS (n : Nat) : Nat := 0x214010 + 256 * n
abbrev K.port_Q_LAST (n : Nat) : Nat := 0x214011 + 256 * n
abbrev K.port_E_WINDOW (n : Nat) : Nat := 0x214012 + 256 * n
abbrev K.port_BURSTS (n : Nat) : Nat := 0x214013 + 256 * n
abbrev K.port_WITHHELD (n : Nat) : Nat := 0x214014 + 256 * n
abbrev K.port_CAP_PULSES (n : Nat) : Nat := 0x214015 + 256 * n
abbrev K.port_CAP_VDRV (n : Nat) : Nat := 0x214016 + 256 * n
abbrev K.port_CAP_ENERGY (n : Nat) : Nat := 0x214017 + 256 * n
abbrev K.sect_PATH_MASK (n : Nat) : Nat := 0x220001 + 256 * n
abbrev K.sect_MEDIUM (n : Nat) : Nat := 0x220002 + 256 * n
abbrev K.sect_DIAM (n : Nat) : Nat := 0x220003 + 256 * n
abbrev K.sect_K_SEG (n : Nat) : Nat := 0x220004 + 256 * n
abbrev K.sect_K_FIX (n : Nat) : Nat := 0x220005 + 256 * n
abbrev K.sect_NU_SEG (n : Nat) : Nat := 0x220006 + 256 * n
abbrev K.sect_NU_FIX (n : Nat) : Nat := 0x220007 + 256 * n
abbrev K.sect_T_CHAN (n : Nat) : Nat := 0x220008 + 256 * n
abbrev K.sect_T_FIX (n : Nat) : Nat := 0x220009 + 256 * n
abbrev K.sect_P_CHAN (n : Nat) : Nat := 0x22000A + 256 * n
abbrev K.sect_P_FIX (n : Nat) : Nat := 0x22000B + 256 * n
abbrev K.sect_MIN_PATHS (n : Nat) : Nat := 0x22000C + 256 * n
abbrev K.sect_PR_SHIFT (n : Nat) : Nat := 0x22000D + 256 * n
abbrev K.sect_AGE_MAX (n : Nat) : Nat := 0x22000E + 256 * n
abbrev K.sect_SECT_TMO (n : Nat) : Nat := 0x22000F + 256 * n
abbrev K.sect_GAP_MAX (n : Nat) : Nat := 0x220010 + 256 * n
abbrev K.sect_Q_CUT (n : Nat) : Nat := 0x220011 + 256 * n
abbrev K.sect_Q_HYST (n : Nat) : Nat := 0x220012 + 256 * n
abbrev K.sect_Q_S (n : Nat) : Nat := 0x220013 + 256 * n
abbrev K.sect_T_OVF (n : Nat) : Nat := 0x220014 + 256 * n
abbrev K.sect_ENERGY_EN (n : Nat) : Nat := 0x220015 + 256 * n
abbrev K.sect_TF_CHAN (n : Nat) : Nat := 0x220016 + 256 * n
abbrev K.sect_TR_CHAN (n : Nat) : Nat := 0x220017 + 256 * n
abbrev K.sect_METER_SIDE (n : Nat) : Nat := 0x220018 + 256 * n
abbrev K.sect_RHO_SEG (n : Nat) : Nat := 0x220019 + 256 * n
abbrev K.sect_H_SEG (n : Nat) : Nat := 0x22001A + 256 * n
abbrev K.sect_DEADBAND (n : Nat) : Nat := 0x22001B + 256 * n
abbrev K.sect_T_AGE_MAX (n : Nat) : Nat := 0x22001C + 256 * n
abbrev K.sect_E_HOLD_TIME (n : Nat) : Nat := 0x22001D + 256 * n
abbrev K.sect_W (n : Nat) (i : Nat) : Nat := 0x220020 + 256 * n + i
abbrev K.sect_REST_DIV (n : Nat) : Nat := 0x220040 + 256 * n
abbrev K.sect_ACT_DIV (n : Nat) : Nat := 0x220041 + 256 * n
abbrev K.sect_V_DETECT (n : Nat) : Nat := 0x220042 + 256 * n
abbrev K.sect_HOLD (n : Nat) : Nat := 0x220043 + 256 * n
abbrev K.sect_RATE_FORCE (n : Nat) : Nat := 0x220044 + 256 * n
abbrev K.sect_RATE_STATE (n : Nat) : Nat := 0x220045 + 256 * n
abbrev K.sect_ESC_COUNT (n : Nat) : Nat := 0x220046 + 256 * n
abbrev K.res_EPOCH_CYC (n : Nat) : Nat := 0x221001 + 256 * n
abbrev K.res_FRAME_NO (n : Nat) : Nat := 0x221002 + 256 * n
abbrev K.res_Q_NLS (n : Nat) : Nat := 0x221003 + 256 * n
abbrev K.res_Q_M3H (n : Nat) : Nat := 0x221004 + 256 * n
abbrev K.res_Q_RAW_NLS (n : Nat) : Nat := 0x221005 + 256 * n
abbrev K.res_V_W (n : Nat) : Nat := 0x221006 + 256 * n
abbrev K.res_V_MEAN (n : Nat) : Nat := 0x221007 + 256 * n
abbrev K.res_RE (n : Nat) : Nat := 0x221008 + 256 * n
abbrev K.res_K_USED (n : Nat) : Nat := 0x221009 + 256 * n
abbrev K.res_NU_USED (n : Nat) : Nat := 0x22100A + 256 * n
abbrev K.res_T_USED (n : Nat) : Nat := 0x22100B + 256 * n
abbrev K.res_SECT_FLAGS (n : Nat) : Nat := 0x22100C + 256 * n
abbrev K.res_MASK_V (n : Nat) : Nat := 0x22100D + 256 * n
abbrev K.res_MASK_H (n : Nat) : Nat := 0x22100E + 256 * n
abbrev K.res_MASK_F (n : Nat) : Nat := 0x22100F + 256 * n
abbrev K.res_OVF_VOL (n : Nat) : Nat := 0x221010 + 256 * n
abbrev K.res_FAIL_TIME (n : Nat) : Nat := 0x221011 + 256 * n
abbrev K.res_GAP_TIME (n : Nat) : Nat := 0x221012 + 256 * n
abbrev K.res_PEAK_FWD_INT (n : Nat) : Nat := 0x221013 + 256 * n
abbrev K.res_PEAK_FWD_INT_T (n : Nat) : Nat := 0x221014 + 256 * n
abbrev K.res_PEAK_REV_INT (n : Nat) : Nat := 0x221015 + 256 * n
abbrev K.res_PEAK_REV_INT_T (n : Nat) : Nat := 0x221016 + 256 * n
abbrev K.res_PEAK_FWD_BP (n : Nat) : Nat := 0x221017 + 256 * n
abbrev K.res_PEAK_FWD_BP_T (n : Nat) : Nat := 0x221018 + 256 * n
abbrev K.res_PEAK_REV_BP (n : Nat) : Nat := 0x221019 + 256 * n
abbrev K.res_PEAK_REV_BP_T (n : Nat) : Nat := 0x22101A + 256 * n
abbrev K.res_COMPUTE_COUNT (n : Nat) : Nat := 0x22101B + 256 * n
abbrev K.res_DEGRADED_COUNT (n : Nat) : Nat := 0x22101C + 256 * n
abbrev K.res_FAIL_COUNT (n : Nat) : Nat := 0x22101D + 256 * n
abbrev K.res_POWER_W (n : Nat) : Nat := 0x22101E + 256 * n
abbrev K.res_E_FLAGS (n : Nat) : Nat := 0x22101F + 256 * n
abbrev K.res_PR (n : Nat) (i : Nat) : Nat := 0x221020 + 256 * n + i
abbrev K.chan_KIND (n : Nat) : Nat := 0x230001 + 256 * n
abbrev K.chan_CHAIN_N (n : Nat) : Nat := 0x230002 + 256 * n
abbrev K.chan_FIRST_PIN (n : Nat) : Nat := 0x230003 + 256 * n
abbrev K.chan_PIN_ES (n : Nat) : Nat := 0x230004 + 256 * n
abbrev K.chan_PIN_ER (n : Nat) : Nat := 0x230005 + 256 * n
abbrev K.chan_PIN_SP (n : Nat) : Nat := 0x230006 + 256 * n
abbrev K.chan_PIN_SN (n : Nat) : Nat := 0x230007 + 256 * n
abbrev K.chan_IEXC (n : Nat) : Nat := 0x230008 + 256 * n
abbrev K.chan_GAIN (n : Nat) : Nat := 0x230009 + 256 * n
abbrev K.chan_RATE (n : Nat) : Nat := 0x23000A + 256 * n
abbrev K.chan_SETTLE (n : Nat) : Nat := 0x23000B + 256 * n
abbrev K.chan_EVERY (n : Nat) : Nat := 0x23000C + 256 * n
abbrev K.chan_CONV_RETRY (n : Nat) : Nat := 0x23000D + 256 * n
abbrev K.chan_CM_LO (n : Nat) : Nat := 0x23000E + 256 * n
abbrev K.chan_CM_HI (n : Nat) : Nat := 0x23000F + 256 * n
abbrev K.chan_IMON_TOL (n : Nat) : Nat := 0x230010 + 256 * n
abbrev K.chan_LEAD_MAX (n : Nat) : Nat := 0x230011 + 256 * n
abbrev K.chan_LIN_SEG (n : Nat) : Nat := 0x230012 + 256 * n
abbrev K.chan_YSHIFT (n : Nat) : Nat := 0x230013 + 256 * n
abbrev K.chan_UNIT (n : Nat) : Nat := 0x230014 + 256 * n
abbrev K.chan_FAULT_CONV (n : Nat) : Nat := 0x230015 + 256 * n
abbrev K.chan_RAW (n : Nat) : Nat := 0x230020 + 256 * n
abbrev K.chan_XVAL (n : Nat) : Nat := 0x230021 + 256 * n
abbrev K.chan_VALUE (n : Nat) : Nat := 0x230022 + 256 * n
abbrev K.chan_VALUE_Q (n : Nat) : Nat := 0x230023 + 256 * n
abbrev K.chan_LEAD_R (n : Nat) : Nat := 0x230024 + 256 * n
abbrev K.chan_CH_FLAGS (n : Nat) : Nat := 0x230025 + 256 * n
abbrev K.chan_RES_CYC (n : Nat) : Nat := 0x230026 + 256 * n
abbrev K.chan_CONV_COUNT (n : Nat) : Nat := 0x230027 + 256 * n
abbrev K.chan_FAIL_COUNT (n : Nat) : Nat := 0x230028 + 256 * n
abbrev K.chan_RETRY_COUNT (n : Nat) : Nat := 0x230029 + 256 * n
abbrev K.chan_PRIV (n : Nat) : Nat := 0x23002A + 256 * n
abbrev K.pin_PI_CFG (i : Nat) : Nat := 0x240001 + i
abbrev K.pin_PI_VOL (i : Nat) : Nat := 0x240021 + i
abbrev K.pin_PI_COUNT (i : Nat) : Nat := 0x240041 + i
abbrev K.pin_PI_STAT (i : Nat) : Nat := 0x240061 + i
abbrev K.lant_LANT_EN : Nat := 0x250001
abbrev K.lant_LANT_PATH : Nat := 0x250002
abbrev K.lant_LANT_SECT : Nat := 0x250003
abbrev K.lant_LANT_PERIOD : Nat := 0x250004
abbrev K.lant_LANT_VDRV : Nat := 0x250005
abbrev K.lant_LANT_K : Nat := 0x250006
abbrev K.lant_LANT_VBAT_MIN : Nat := 0x250007
abbrev K.lant_LANT_FLAG_VOL : Nat := 0x250008
abbrev K.lant_LANT_FWD : Nat := 0x250009
abbrev K.lant_LANT_REV : Nat := 0x25000A
abbrev K.lant_LANT_OUT_FWD : Nat := 0x25000B
abbrev K.lant_LANT_OUT_REV : Nat := 0x25000C
abbrev K.lant_LANT_START : Nat := 0x25000D
abbrev K.lant_LANT_END : Nat := 0x25000E
abbrev K.lant_LANT_OUTAGES : Nat := 0x25000F
abbrev K.lant_LANT_PAIRS : Nat := 0x250010
abbrev K.lant_LANT_FAILS : Nat := 0x250011
abbrev K.lant_LANT_STAT : Nat := 0x250012
abbrev K.tot_FWD_T (n : Nat) (i : Nat) : Nat := 0x260001 + 256 * n + i
abbrev K.tot_FWD_TOTAL (n : Nat) : Nat := 0x26000A + 256 * n
abbrev K.tot_REV_T (n : Nat) (i : Nat) : Nat := 0x26000B + 256 * n + i
abbrev K.tot_REV_TOTAL (n : Nat) : Nat := 0x260014 + 256 * n
abbrev K.tot_HEAT_T (n : Nat) (i : Nat) : Nat := 0x260015 + 256 * n + i
abbrev K.tot_HEAT_TOTAL (n : Nat) : Nat := 0x26001E + 256 * n
abbrev K.tot_COOL_T (n : Nat) (i : Nat) : Nat := 0x26001F + 256 * n + i
abbrev K.tot_COOL_TOTAL (n : Nat) : Nat := 0x260028 + 256 * n
abbrev K.dem_MDV_T (n : Nat) (i : Nat) : Nat := 0x261001 + 256 * n + i
abbrev K.dem_MDV_TIME_T (n : Nat) (i : Nat) : Nat := 0x26100A + 256 * n + i
abbrev K.dem_MDH_T (n : Nat) (i : Nat) : Nat := 0x261013 + 256 * n + i
abbrev K.dem_MDH_TIME_T (n : Nat) (i : Nat) : Nat := 0x26101C + 256 * n + i
abbrev K.dem_MDC_T (n : Nat) (i : Nat) : Nat := 0x261025 + 256 * n + i
abbrev K.dem_MDC_TIME_T (n : Nat) (i : Nat) : Nat := 0x26102E + 256 * n + i
abbrev K.dem_INT_FWD (n : Nat) : Nat := 0x261037 + 256 * n
abbrev K.dem_INT_HEAT (n : Nat) : Nat := 0x261038 + 256 * n
abbrev K.dem_INT_COOL (n : Nat) : Nat := 0x261039 + 256 * n
abbrev K.dem_INT_START (n : Nat) : Nat := 0x26103A + 256 * n
abbrev K.snap_SNAP_COUNT : Nat := 0x262001
abbrev K.snap_SNAP_LAST_NO : Nat := 0x262002
abbrev K.snap_SNAP_SEL : Nat := 0x262003
abbrev K.snap_SNAP_HDR : Nat := 0x262004
abbrev K.snap_SNAP_SECT (i : Nat) : Nat := 0x262005 + i
abbrev K.snap_LAST_BKEY : Nat := 0x26200D
abbrev K.snap_BILL_CMD : Nat := 0x26200E
abbrev K.cal_CAL_EN : Nat := 0x270001
abbrev K.cal_DEMAND_INT : Nat := 0x270002
abbrev K.cal_BILL_MODE : Nat := 0x270003
abbrev K.cal_BILL_DAY : Nat := 0x270004
abbrev K.cal_BILL_HOUR : Nat := 0x270005
abbrev K.cal_SEASON (i : Nat) : Nat := 0x270006 + i
abbrev K.cal_WEEK (i : Nat) : Nat := 0x27000A + i
abbrev K.cal_DAYPROF (i : Nat) : Nat := 0x270012 + i
abbrev K.cal_SPECIAL (i : Nat) : Nat := 0x270022 + i
abbrev K.cal_TARIFF_NOW : Nat := 0x270062
abbrev K.cal_SEASON_NOW : Nat := 0x270063
abbrev K.cal_DAYPROF_NOW : Nat := 0x270064
abbrev K.cal_CAL_STAT : Nat := 0x270065
abbrev K.cal_NOW_KEY : Nat := 0x270066
abbrev K.cal_NEXT_BKEY : Nat := 0x270067
abbrev K.emb_RTC_MODE : Nat := 0x280001
abbrev K.emb_RTC_BIN : Nat := 0x280002
abbrev K.emb_RTC_CAL : Nat := 0x280003
abbrev K.emb_SET_BIN : Nat := 0x280004
abbrev K.emb_SET_CAL : Nat := 0x280005
abbrev K.emb_TRIM : Nat := 0x280006
abbrev K.emb_EMBER_STAT : Nat := 0x280007
abbrev K.emb_EMBER_CFG : Nat := 0x280008
abbrev K.emb_ALARM_SEC : Nat := 0x280009
abbrev K.emb_PWRON_CTL : Nat := 0x28000A
abbrev K.emb_TAMP0_COUNT : Nat := 0x28000B
abbrev K.emb_TAMP0_FIRST : Nat := 0x28000C
abbrev K.emb_TAMP0_LAST : Nat := 0x28000D
abbrev K.emb_TAMP1_COUNT : Nat := 0x28000E
abbrev K.emb_TAMP1_FIRST : Nat := 0x28000F
abbrev K.emb_TAMP1_LAST : Nat := 0x280010
abbrev K.emb_SCRATCH : Nat := 0x280011
abbrev K.emb_XCHK_CMD : Nat := 0x280012
abbrev K.emb_XCHK_COUNT : Nat := 0x280013
abbrev K.emb_XCHK_STAT : Nat := 0x280014
abbrev K.emb_SEC_AT_POR_DETECT : Nat := 0x280015
abbrev K.loop_LOOP_SET : Nat := 0x290001
abbrev K.loop_LOOP_EN : Nat := 0x290002
abbrev K.loop_LOOP_OUT : Nat := 0x290003
abbrev K.loop_LOOP_MEAS : Nat := 0x290004
abbrev K.loop_LOOP_TOL : Nat := 0x290005
abbrev K.loop_LOOP_STAT : Nat := 0x290006
abbrev K.fire_FIRE_CTL (i : Nat) : Nat := 0x2A0001 + i
abbrev K.fire_FIRE_STAT (i : Nat) : Nat := 0x2A0004 + i
abbrev K.fire_FIRE_ID (i : Nat) : Nat := 0x2A0007 + i
abbrev K.fire_COMMIT_LEAD (i : Nat) : Nat := 0x2A000A + i
abbrev K.fire_FIRE_TMO (i : Nat) : Nat := 0x2A000D + i
abbrev K.fire_LAST_REJECT (i : Nat) : Nat := 0x2A0010 + i
abbrev K.fire_BOUND_STAT : Nat := 0x2A0013
abbrev K.fire_BOUND_ID : Nat := 0x2A0014
abbrev K.fire_GREEN_FREE : Nat := 0x2A0015
abbrev K.fire_APPLY_CYC : Nat := 0x2A0016
abbrev K.fire_APPLIED_COUNT : Nat := 0x2A0017
abbrev K.fire_CONFLICT_COUNT : Nat := 0x2A0018
abbrev K.fire_CHECK_FAIL_COUNT : Nat := 0x2A0019
abbrev K.fire_RECOVER_COUNT : Nat := 0x2A001A
abbrev K.st_DIE_SEL : Nat := 0x2B0001
abbrev K.st_PART_SEL : Nat := 0x2B0002
abbrev K.st_LINE_SEL : Nat := 0x2B0003
abbrev K.st_LINE_DATA : Nat := 0x2B0004
abbrev K.st_UNLOCK : Nat := 0x2B0005
abbrev K.st_RELOCK : Nat := 0x2B0006
abbrev K.st_PART_DEF : Nat := 0x2B0007
abbrev K.st_PART_TABLE : Nat := 0x2B0008
abbrev K.st_SCRUB_DAYS : Nat := 0x2B0009
abbrev K.st_STORE_STAT : Nat := 0x2B000A
abbrev K.st_CE_COUNT : Nat := 0x2B000B
abbrev K.st_RS_COUNT : Nat := 0x2B000C
abbrev K.st_UE_COUNT : Nat := 0x2B000D
abbrev K.st_GATHER_COUNT : Nat := 0x2B000E
abbrev K.st_LEDGER_CE : Nat := 0x2B000F
abbrev K.st_LEDGER_TIE_COUNT : Nat := 0x2B0010
abbrev K.st_LEDGER_REPAIR_COUNT : Nat := 0x2B0011
abbrev K.st_PF_COUNT : Nat := 0x2B0012
abbrev K.st_PF_CYC : Nat := 0x2B0013
abbrev K.st_LOCK_STAT : Nat := 0x2B0014
abbrev K.log_LOG_FIRST : Nat := 0x2C0001
abbrev K.log_LOG_LAST : Nat := 0x2C0002
abbrev K.log_LOG_SEL : Nat := 0x2C0003
abbrev K.log_LOG_NUM : Nat := 0x2C0004
abbrev K.log_LOG_READ : Nat := 0x2C0005
abbrev K.log_LOG_STAT : Nat := 0x2C0006
abbrev K.log_FREEZE_NO : Nat := 0x2C0007
abbrev K.log_LOG_RELEASE : Nat := 0x2C0008
abbrev K.log_DROP_COUNT : Nat := 0x2C0009
abbrev K.log_QUEUE_DROP : Nat := 0x2C000A
abbrev K.log_FAULT_COUNT : Nat := 0x2C000B
abbrev K.log_STANDING : Nat := 0x2C000C
abbrev K.log_LAST_SERIAL : Nat := 0x2C000D
abbrev K.sec_SEAL_STATE : Nat := 0x2D0001
abbrev K.sec_AUDIT : Nat := 0x2D0002
abbrev K.sec_SEAL_OPENS : Nat := 0x2D0003
abbrev K.sec_SEC_STAT : Nat := 0x2D0004
abbrev K.sec_BOOT_USED : Nat := 0x2D0005
abbrev K.sec_ARB_COUNT : Nat := 0x2D0006
abbrev K.sec_ARB_ADVANCE : Nat := 0x2D0007
abbrev K.sec_SVN_A : Nat := 0x2D0008
abbrev K.sec_SVN_B : Nat := 0x2D0009
abbrev K.sec_VERSION_A : Nat := 0x2D000A
abbrev K.sec_VERSION_B : Nat := 0x2D000B
abbrev K.sec_LEGAL_ID : Nat := 0x2D000C
abbrev K.sec_IMG_CMD : Nat := 0x2D000D
abbrev K.sec_IMG_OFS : Nat := 0x2D000E
abbrev K.sec_IMG_DATA : Nat := 0x2D000F
abbrev K.sec_IMG_STAT : Nat := 0x2D0010
abbrev K.sec_IMG_REASON : Nat := 0x2D0011
abbrev K.sec_ROOT_HASH : Nat := 0x2D0012
abbrev K.sec_OEM_HASH : Nat := 0x2D0013
abbrev K.sec_ATT_NONCE : Nat := 0x2D0014
abbrev K.sec_ATT_CMD : Nat := 0x2D0015
abbrev K.sec_ATT_STAT : Nat := 0x2D0016
abbrev K.sec_BLOB_SEL : Nat := 0x2D0017
abbrev K.sec_BLOB_OFS : Nat := 0x2D0018
abbrev K.sec_BLOB_DATA : Nat := 0x2D0019
abbrev K.sec_CONFIG_DIGEST : Nat := 0x2D001A
abbrev K.tabA_ENTRY (i : Nat) : Nat := 0x2E0001 + i
abbrev K.tabB_ENTRY (i : Nat) : Nat := 0x2E0101 + i
abbrev K.seg_SEG (i : Nat) : Nat := 0x2E1001 + i
abbrev K.sag_CAP_PULSES (i : Nat) : Nat := 0x2F0001 + i
abbrev K.sag_CAP_VDRV (i : Nat) : Nat := 0x2F0041 + i
abbrev K.sag_CAP_ENERGY (i : Nat) : Nat := 0x2F0081 + i
abbrev K.sag_LOOP_CLAMP_LO : Nat := 0x2F00C1
abbrev K.sag_LOOP_CLAMP_HI : Nat := 0x2F00C2
abbrev K.sag_LOOP_SLEW : Nat := 0x2F00C3
abbrev K.sag_ALARM_HI : Nat := 0x2F00C4
abbrev K.sag_CAN_BUDGET : Nat := 0x2F00C5
abbrev K.sag_BUSOFF_HOLD : Nat := 0x2F00C6
abbrev K.sag_RSV_MIN : Nat := 0x2F00C7
abbrev K.sag_SAG_STAT : Nat := 0x2F00C8
abbrev K.sag_TRIP_COUNT : Nat := 0x2F00C9
abbrev K.sup_SUPMODE : Nat := 0x300001
abbrev K.sup_SUP_STAT : Nat := 0x300002
abbrev K.sup_V_RES : Nat := 0x300003
abbrev K.sup_V_LOOP : Nat := 0x300004
abbrev K.sup_V_BUS : Nat := 0x300005
abbrev K.sup_V_BAT : Nat := 0x300006
abbrev K.sup_P_IN : Nat := 0x300007
abbrev K.sup_P_BASE : Nat := 0x300008
abbrev K.sup_E_AVAIL : Nat := 0x300009
abbrev K.sup_POOL_U : Nat := 0x30000A
abbrev K.sup_CANT_C : Nat := 0x30000B
abbrev K.sup_CANT_MEAS : Nat := 0x30000C
abbrev K.sup_CANT_CMD : Nat := 0x30000D
abbrev K.sup_CANT_VMAX : Nat := 0x30000E
abbrev K.sup_PF_LEVEL : Nat := 0x30000F
abbrev K.sup_RSV_SET : Nat := 0x300010
abbrev K.sup_RSV_MIN : Nat := 0x300011
abbrev K.sup_BUS_PMAX : Nat := 0x300012
abbrev K.sup_GOV_MODE : Nat := 0x300013
abbrev K.sup_GOV_EFF : Nat := 0x300014
abbrev K.sup_SHARE (i : Nat) : Nat := 0x300015 + i
abbrev K.sup_SUPPLY_LOSS_COUNT : Nat := 0x30001D
abbrev K.sup_RIDE_CYC : Nat := 0x30001E
abbrev K.sup_WAKE_CYC : Nat := 0x30001F
abbrev K.sup_PWR_REQ (i : Nat) : Nat := 0x300020 + i
abbrev K.sup_PWR_STATE (i : Nat) : Nat := 0x300028 + i
abbrev K.comm_DEVTYPE : Nat := 0x100000
abbrev K.comm_ERRREG : Nat := 0x100100
abbrev K.comm_ERRFIELD (i : Nat) : Nat := 0x100300 + i
abbrev K.comm_COB_SYNC : Nat := 0x100500
abbrev K.comm_SYNC_PERIOD : Nat := 0x100600
abbrev K.comm_SYNC_WIN : Nat := 0x100700
abbrev K.comm_STORE (i : Nat) : Nat := 0x101000 + i
abbrev K.comm_RESTORE (i : Nat) : Nat := 0x101100 + i
abbrev K.comm_COB_TIME : Nat := 0x101200
abbrev K.comm_COB_EMCY : Nat := 0x101400
abbrev K.comm_EMCY_INH : Nat := 0x101500
abbrev K.comm_HB_CONS (i : Nat) : Nat := 0x101600 + i
abbrev K.comm_HB_PROD : Nat := 0x101700
abbrev K.comm_IDENT (i : Nat) : Nat := 0x101800 + i
abbrev K.comm_SYNC_OVF : Nat := 0x101900
abbrev K.comm_ERR_BEHAV : Nat := 0x102901
abbrev K.comm_RPDO_COB (n : Nat) : Nat := 0x140001 + 256 * n
abbrev K.comm_RPDO_TYPE (n : Nat) : Nat := 0x140002 + 256 * n
abbrev K.comm_RPDO_MAP (n : Nat) (i : Nat) : Nat := 0x160000 + 256 * n + i
abbrev K.comm_TPDO_COB (n : Nat) : Nat := 0x180001 + 256 * n
abbrev K.comm_TPDO_TYPE (n : Nat) : Nat := 0x180002 + 256 * n
abbrev K.comm_TPDO_INH (n : Nat) : Nat := 0x180003 + 256 * n
abbrev K.comm_TPDO_EVT (n : Nat) : Nat := 0x180005 + 256 * n
abbrev K.comm_TPDO_START (n : Nat) : Nat := 0x180006 + 256 * n
abbrev K.comm_TPDO_MAP (n : Nat) (i : Nat) : Nat := 0x1A0000 + 256 * n + i

end Sys2Proof.Machine
end

