-- ==== Sys2Proof/Machine/Ops.lean ====
section
/-! DEFINITION. The named operations on the state: entries of the dictionary, time, the records of resources, and the
kiln log's raising of entries, declarations and ending events. -/

namespace Sys2Proof.Machine

/-- The outcome of a command. -/
abbrev Out := Host.Outcome State Fault Refusal

-- entries

/-- Totals and demand registers lie in D0's ledger (R362, R363). -/
def isLedKey (k : Nat) : Bool := decide (0x260000 ≤ k) && decide (k < 0x262000) && decide (k % 256 ≠ 0)

/-- The raw value of an entry. -/
def State.g (s : State) (k : Nat) : Nat := if isLedKey k then s.led.look 0 k else s.od.look (defaultOf k) k

/-- The TPDOs that map a written entry are triggered (R617). -/
def NetRt.touch (n : NetRt) (k : Nat) : NetRt :=
  if n.mapped.look 0 k = 0 then n else { n with trig := Nat.lor n.trig (n.mapped.look 0 k) }

/-- Write the raw value of an entry. A total is not written here. -/
def State.p (s : State) (k v : Nat) : State :=
  if isLedKey k then s
  else { s with od := s.od.store (defaultOf k) k v, net := s.net.touch k }

/-- Write a ledger-held total or demand register, saturated at 2^64 − 1 (R325). -/
def State.pLed (s : State) (k v : Nat) : State :=
  if isLedKey k then { s with led := s.led.store 0 k (satAt (two64 - 1) v), net := s.net.touch k } else s

/-- An entry of a signed type. -/
def State.gi (bits : Nat) (s : State) (k : Nat) : Int := toSigned bits (s.g k)

/-- Write an entry of a signed type. -/
def State.pi (bits : Nat) (s : State) (k : Nat) (v : Int) : State := s.p k (ofSigned bits v)

/-- Write several entries in order. -/
def State.ps (s : State) (l : List (Nat × Nat)) : State := l.foldl (fun t e => t.p e.1 e.2) s

-- resources (R1, R5)

def State.nPaths (s : State) : Nat := 4 * s.dies
def State.nPorts (s : State) : Nat := 8 * s.dies
def State.nChans (s : State) : Nat := 16 * s.dies
def State.nInputs (s : State) : Nat := 4 * s.dies
/-- Sections S0 to S3 on the SQF-8420, S0 to S7 otherwise. -/
def State.nSects (s : State) : Nat := if s.dies = 2 then 4 else 8

/-- The die whose resource an index belongs to; D0 for the chip's own (R5). -/
def keyDie (k : Nat) : Nat :=
  let i := k / 256
  if 0x2001 ≤ i ∧ i ≤ 0x2008 then i - 0x2001
  else if 0x2100 ≤ i ∧ i < 0x2120 then (i - 0x2100) / 4
  else if 0x2120 ≤ i ∧ i < 0x2140 then (i - 0x2120) / 4
  else if 0x2140 ≤ i ∧ i < 0x2180 then (i - 0x2140) / 8
  else if 0x2300 ≤ i ∧ i < 0x2380 then (i - 0x2300) / 16
  else if i = 0x2400 ∧ 1 ≤ k % 256 then (k % 256 - 1) % 32 / 4
  else if i = 0x2F00 ∧ 1 ≤ k % 256 ∧ k % 256 ≤ 0xC0 then (k % 256 - 1) % 64 / 8
  else 0

/-- Increment a 32-bit counter that wraps to 0. While D0's copy of a follower's counter has not been sent anew, the
value it last received is kept beside it, one higher so that 0 means none (R498). -/
def State.inc (s : State) (k : Nat) : State :=
  let t := s.p k (wrap32 (s.g k + 1))
  if keyDie k = 0 ∨ s.lag.look 0 k ≠ 0 then t else { t with lag := s.lag.store 0 k (s.g k + 1) }

/-- Increment a 32-bit counter of a path record, which D0's copy takes with the record (R137, R209). -/
def State.bump (s : State) (k : Nat) : State := s.p k (wrap32 (s.g k + 1))

/-- Add to a 32-bit counter. -/
def State.addTo (s : State) (k n : Nat) : State := s.p k (wrap32 (s.g k + n))

/-- Set or clear one bit of an entry. -/
def State.bitTo (s : State) (k n : Nat) (b : Bool) : State := s.p k (setBit (s.g k) n b)

/-- One bit of an entry. -/
def State.bit (s : State) (k n : Nat) : Bool := bitAt (s.g k) n

-- records of resources

def State.port (s : State) (n : Nat) : PortRt := s.ports.look {} n
def State.setPort (s : State) (n : Nat) (r : PortRt) : State := { s with ports := s.ports.store {} n r }
def State.path (s : State) (n : Nat) : PathRt := s.paths.look {} n
def State.setPath (s : State) (n : Nat) (r : PathRt) : State := { s with paths := s.paths.store {} n r }
def State.sect (s : State) (n : Nat) : SectRt := s.sects.look {} n
def State.setSect (s : State) (n : Nat) (r : SectRt) : State := { s with sects := s.sects.store {} n r }
def State.chan (s : State) (n : Nat) : ChanRt := s.chans.look {} n
def State.setChan (s : State) (n : Nat) (r : ChanRt) : State := { s with chans := s.chans.store {} n r }
def State.pin (s : State) (n : Nat) : PinRt := s.pins.look {} n
def State.setPin (s : State) (n : Nat) (r : PinRt) : State := { s with pins := s.pins.store {} n r }
def State.pulse (s : State) (n : Nat) : PulseRt := s.pulses.look {} n
def State.setPulse (s : State) (n : Nat) (r : PulseRt) : State := { s with pulses := s.pulses.store {} n r }
def State.die (s : State) (n : Nat) : DieRt := s.dieRt.look {} n
def State.setDie (s : State) (n : Nat) (r : DieRt) : State := { s with dieRt := s.dieRt.store {} n r }
def State.line (s : State) (n : Nat) : LineRt := s.lines.look {} n
def State.setLine (s : State) (n : Nat) (r : LineRt) : State := { s with lines := s.lines.store {} n r }
def State.store (s : State) (n : Nat) : StoreRt := s.stores.look {} n
def State.setStore (s : State) (n : Nat) (r : StoreRt) : State := { s with stores := s.stores.store {} n r }
def State.fire (s : State) (n : Nat) : FireRt := s.fires.look {} n
def State.setFire (s : State) (n : Nat) (r : FireRt) : State := { s with fires := s.fires.store {} n r }
def State.bank (s : State) (n : Nat) : SramRt := s.sram.look {} n
def State.setBank (s : State) (n : Nat) (r : SramRt) : State := { s with sram := s.sram.store {} n r }

-- time

/-- A cycle value plus n, modulo 2^48 (R11). -/
def cycPlus (a n : Nat) : Nat := (a + n) % two48

/-- The energy window that a cycle lies in begins at this cycle's window number (R78). -/
def State.windowStart (s : State) : Bool := decide (s.cyc % cycPerSecond = 0)

/-- D0's count of RTC seconds; 0xFFFFFFFF while the clock is invalid (R640). -/
def State.rtcNow (s : State) : Nat := s.bill.rtc.getD 0xFFFFFFFF

/-- RTC seconds as the ember holds them; 0xFFFFFFFF while the clock is invalid (R307, R372, R395). -/
def State.emberRtc (s : State) : Nat :=
  if s.bit K.emb_EMBER_STAT 3 || s.bit K.emb_EMBER_STAT 5 then 0xFFFFFFFF else s.ember.sec

/-- Power state of a die (R532). -/
def State.pstate (s : State) (d : Nat) : Nat := s.g (K.sup_PWR_STATE d)

/-- D0 is awake for a lantern pair: only the path engine of LANT_PATH, its ledger and the ember crossing are active
(R308). -/
def State.lanternOnly (s : State) (d : Nat) : Bool := s.lant.awake && decide (d = 0)

/-- The die is fitted, started, not lost and in RUN or IDLE, and not awake for a lantern pair alone: it shoots and
converts (R308, R532, R538). -/
def State.dieRuns (s : State) (d : Nat) : Bool :=
  decide (d < s.dies) && (s.die d).up && decide (s.pstate d ≤ 1) && !s.lanternOnly d

/-- Cycles between two samples of a pulse input, 0.5 ms (R299). -/
abbrev pulseSample : Nat := 12288

/-- Pulse sampling runs on the die (R532): not while no source is present, nor in a lantern wake (R305, R308). -/
def State.dieSamples (s : State) (d : Nat) : Bool :=
  decide (d < s.dies) && (s.die d).up && decide (s.pstate d ≤ 2) && (s.pow.loopOn || s.pow.busOn) && !s.lanternOnly d

/-- PI_STAT of an input as it reads: LINE is the class of the last sample, which no command need have brought (R319; log
entry 22). -/
def State.inputStat (s : State) (i : Nat) : Nat :=
  let w := s.g (K.pin_PI_STAT i)
  let cfg := s.g (K.pin_PI_CFG i)
  let last := s.cyc / pulseSample * pulseSample
  if !(bitAt cfg 15 && s.dieSamples (i / 4)) || decide ((s.pulse i).sampleAt = last + 1) then w
  else setField w 2 1 (Config.freeLine i last % (if bitAt cfg 9 then 4 else 2))

-- what D0 answers reads from (R733)

/-- The value of an entry that the part, its OTP or its straps fix, or that D0 holds beside the table: the device type,
the identity, the identifiers of R591, ARB_COUNT and the PWR_STATE of an absent die. -/
def State.fixedValue (s : State) (k : Nat) : Option Nat :=
  if k = K.comm_DEVTYPE then some (s.dies * 2 ^ 16)
  else if k = K.comm_IDENT 2 then some (0x8400 + 16 * s.dies)
  else if k = K.comm_IDENT 3 then some (leNat (Config.otp 1) % two32)
  else if k = K.comm_IDENT 4 then some (leNat (Config.otp 0) % two32)
  else if k = K.comm_COB_EMCY then some (0x80 + s.net.nodeId)
  else if k = 0x120001 then some (0x600 + s.net.nodeId)
  else if k = 0x120002 then some (0x580 + s.net.nodeId)
  else if k = K.sec_ARB_COUNT then some s.otp.arb
  else if K.sup_PWR_STATE s.dies ≤ k ∧ k ≤ K.sup_PWR_STATE 7 then some 0xFF
  else none

/-- The head of a channel's chain, or the channel itself: members follow their head without a gap (R262). -/
def State.headOf (s : State) (c : Nat) : Nat :=
  if s.g (K.chan_KIND c) ≠ 3 then c
  else ((List.range c).filter (fun h => s.g (K.chan_KIND h) != 3 && decide (h / 16 = c / 16))).getLastD c

/-- The key an entry reads from: 0x2300+c.02 to .11 of a chain's member read the head's (R262). -/
def State.readKey (s : State) (k : Nat) : Nat :=
  let c := k / 256 - 0x2300
  if 0x2300 ≤ k / 256 ∧ c < 128 ∧ 2 ≤ k % 256 ∧ k % 256 ≤ 17 ∧ s.g (K.chan_KIND c) = 3 then
    k - 256 * (c - s.headOf c)
  else k

/-- What D0's copy of an entry reads (R498, R733). -/
def State.copyOf (s : State) (k : Nat) : Nat :=
  match s.fixedValue k with
  | some v => v
  | none =>
    if s.lag.look 0 k ≠ 0 then s.lag.look 0 k - 1
    else if K.pin_PI_STAT 0 ≤ k ∧ k ≤ K.pin_PI_STAT 31 then s.inputStat (k - K.pin_PI_STAT 0)
    else s.g (s.readKey k)

-- the kiln log

/-- Locations of R20 to R22. -/
def locPort (n : Nat) : Nat := 32 * (n / 8) + n % 8
def locPin (n : Nat) : Nat := 32 * (n / 16) + 8 + n % 16
def locInput (n : Nat) : Nat := 32 * (n / 4) + 24 + n % 4
def locPath (n : Nat) : Nat := 8 * (n / 4) + n % 4
def locSense (d : Nat) : Nat := 8 * d + 4

/-- Put an entry into its die's queue of 16 (R698); a full queue drops it (R699). -/
def State.enqueue (s : State) (e : LogEnt) : State :=
  let d := s.die e.src
  if 16 ≤ d.logQ.length then
    ((s.setDie e.src { d with qdrop := true }).inc K.log_QUEUE_DROP).bitTo K.log_LOG_STAT 3 true
  else s.setDie e.src { d with qdrop := false, logQ := d.logQ ++ [{ e with qdrop := d.qdrop }] }

/-- Raise an entry (R696 to R698). -/
def State.raise (s : State) (src level loc event kind serial : Nat) (data : List Nat) : State :=
  s.enqueue { cyc := s.cyc, event := event, serial := serial, loc := loc, level := level, kind := kind, src := src,
              data := data }

/-- A plain event (KIND 0). -/
def State.ev (s : State) (src level loc event : Nat) (data : List Nat) : State := s.raise src level loc event 0 0 data

/-- A plain event at chip level. -/
def State.evChip (s : State) (event : Nat) (data : List Nat) : State := s.ev 0 3 0 event data

/-- A network event that sends an EMCY message of its own (R602, R604). -/
def State.evNet (s : State) (event code : Nat) (data : List Nat) : State :=
  s.enqueue { cyc := s.cyc, event := event, serial := 0, loc := 0, level := 3, kind := 0, src := 0, data := data,
              emcy := some code }

/-- A reaction under a standing serial (KIND 2, R57). -/
def State.react (s : State) (src level loc event serial : Nat) (data : List Nat) : State :=
  s.raise src level loc event 2 serial data

/-- An event logged at most once per subject and energy window (R78). -/
def State.onceEv (s : State) (subject src level loc event : Nat) (data : List Nat) : State :=
  if (event, subject) ∈ s.once then s
  else ({ s with once := s.once ++ [(event, subject)] }).ev src level loc event data

/-- Declarations whose row of R708 names an ending event. -/
def hasEnding (event : Nat) : Bool :=
  event ∈ [0x1001, 0x1002, 0x1003, 0x2001, 0x2002, 0x2030, 0x2031, 0x1021, 0x1022, 0x1023, 0x2010, 0x6011, 0x6050,
           0x5006, 0x5008, 0x6020]

/-- The error-register bit of a declaration event (R604). -/
def errBit (event : Nat) : Nat :=
  if event = 0x5006 ∨ event = 0x5008 then 2
  else if event = 0x6050 then 3
  else if event ∈ [0x4002, 0x4005, 0x4014, 0x6041, 0x6044, 0x6035] then 0
  else 7

/-- The error register 0x1001 (R605): faults that stand, the controller's error state and HB_LOST. -/
def State.errReg (s : State) : Nat :=
  let has (b : Nat) : Bool := s.standing.any (fun f => errBit f.event == b)
  let can := decide (field (s.g K.dev_CAN_STAT) 9 8 = 1) || decide (field (s.g K.dev_CAN_STAT) 9 8 = 2) ||
    bitAt (s.g K.dev_CAN_STAT) 11
  let w := 4 * b01 (has 2) + 8 * b01 (has 3) + 16 * b01 can + 128 * b01 (has 7)
  if w ≠ 0 ∨ has 0 then w + 1 else 0

/-- Write STANDING and the error register anew (R605, R692). -/
def State.syncErr (s : State) : State :=
  (s.p K.log_STANDING s.standing.length).p K.comm_ERRREG s.errReg

/-- The next COUNT of a die (R55). -/
def nextCount (c : Nat) : Nat := if 0x1FFFFFFF ≤ c then 1 else c + 1

/-- The serial a die assigns next (R53). -/
def State.nextSerial (s : State) (d : Nat) : Nat := d * 2 ^ 29 + nextCount (s.die d).count

/-- Declare a fault (R53 to R57): the die's COUNT advances, the declaration is raised, and the fault stands unless its
row of R708 names no ending event (R692). The new serial is `nextSerial` of the state before. -/
def State.declare (s : State) (d level loc event : Nat) (data : List Nat) : State :=
  let serial := s.nextSerial d
  let s1 := s.setDie d { s.die d with count := nextCount (s.die d).count }
  let s2 := if hasEnding event then
      { s1 with standing := s1.standing ++ [{ serial := serial, event := event, level := level, die := d }] }
    else s1
  (s2.raise d level loc event 1 serial data).syncErr

/-- End a standing fault and log its ending event under its serial (KIND 3). -/
def State.endFault (s : State) (serial src level loc event : Nat) (data : List Nat) : State :=
  ({ s with standing := s.standing.filter (fun f => f.serial != serial) }.raise src level loc event 3 serial data).syncErr

/-- A fault stands under a serial. -/
def State.stands (s : State) (serial : Nat) : Bool := s.standing.any (fun f => f.serial == serial)

/-- Set a flag of the host window's IRQ_FLAG; one set in the cycle of a clearing write stays (R638). -/
def State.irq (s : State) (n : Nat) : State :=
  let h := s.host
  let now := if h.irqNow.1 = s.cyc + 1 then h.irqNow.2 else 0
  { s with host := { h with irqFlag := setBit h.irqFlag n true, irqNow := (s.cyc + 1, setBit now n true) } }

end Sys2Proof.Machine
end

