-- ==== Sys2Proof/Machine/Can.lean ====
section
/-! DEFINITION. What the CAN controller sends: frames against the transmit budget (R657), TPDO captures (R613, R617,
R618), and how a command's outcome is formed. -/

namespace Sys2Proof.Machine

/-- NMT state in heartbeat codes (R626). -/
def State.nmt (s : State) : Nat := field (s.g K.dev_CAN_STAT) 6 0

/-- ERR_STATE of CAN_STAT: 0 active, 1 passive, 2 bus-off, 3 controller in reset. -/
def State.canErr (s : State) : Nat := field (s.g K.dev_CAN_STAT) 9 8

/-- Hold a frame for the next transmit window: CAN_HELD, and event 0x8023 at most once per energy window (R657). -/
def State.holdFrame (s : State) (f : CanFrame) : State :=
  let fresh := !decide ((0x8023, 0) ∈ s.once)
  let s1 : State := { s with net := { s.net with txQ := s.net.txQ ++ [f] } }
  if s.net.heldInWin then s1
  else
    let s2 : State := { s1.bitTo K.sag_SAG_STAT 3 true with net := { s1.net with heldInWin := true } }
    let s3 := s2.onceEv 0 0 3 0 0x8023 []
    if fresh then s3.inc K.sag_TRIP_COUNT else s3

-- bit timing (R584, R586, R732)

/-- Rates of the codes of ARB_RATE and DATA_RATE in kbit/s; 0 for no data phase (R584). -/
def arbKbit (code : Nat) : Nat := [125, 250, 500, 800, 1000].getD code 0
def dataKbit (code : Nat) : Nat := [0, 1000, 2000, 4000, 5000].getD code 0

/-- Boundary of the n-th bit of a frame at a rate, in 1/64 cyc from the first: no error beyond 1/64 cyc accumulates
(R585). -/
def bitEdge (kbit n : Nat) : Nat := n * 64 * 24576 / kbit

/-- Sample point of the n-th bit, `sp` in 0.1 % of the bit (R585, R586). -/
def samplePoint (kbit sp n : Nat) : Nat := (n * 1000 + sp) * 64 * 24576 / (kbit * 1000)

/-- Resynchronisation jump width in 0.1 % of the bit: the part after the sample point (R586). -/
def jumpWidth (sp : Nat) : Nat := 1000 - sp

/-- A loop delay in 1/64 cyc lies above 400 ns (R732). -/
def loopTooLong (d : Nat) : Bool := decide (400 * 64 * 24576 < d * 10 ^ 6)

/-- A frame starts: on one with bit-rate switching the loop delay is measured, and with a data phase of 2 Mbit/s or more
and a delay up to 400 ns it has a secondary sample point (R586, R732). -/
def State.timeFrame (s : State) (f : CanFrame) : CanFrame :=
  if !f.fd || decide (s.net.dataRate = 0) then f
  else
    let d := Config.loopDelay s.cyc
    { f with delay := some d
             ssp := if 2000 ≤ dataKbit s.net.dataRate ∧ loopTooLong d = false then some (d, s.net.dataSp) else none }

/-- Start the frames that wait, oldest first, as far as the budget of a new window allows (R657). -/
def drainFrames : Nat → List CanFrame → List CanFrame × List CanFrame
  | 0, q => ([], q)
  | _ + 1, [] => ([], [])
  | n + 1, f :: q => let r := drainFrames n q; (f :: r.1, r.2)

/-- Frames that wait start, oldest first, as far as the budget of the window allows (R657). -/
def State.drain (s : State) : State :=
  let r := drainFrames (s.g K.sag_CAN_BUDGET - s.net.started) s.net.txQ
  { s with net := { s.net with
    txQ := r.2, sent := (r.1.map s.timeFrame).reverse ++ s.net.sent, started := s.net.started + r.1.length } }

/-- The controller can transmit: it is on the bus and D0 does not sleep (R532, R539, R575). -/
def State.transmitting (s : State) : Bool :=
  !s.net.inReset && decide (s.canErr ≤ 1) && (s.die 0).up && decide (s.pstate 0 ≤ 1) && s.ready

/-- A new transmit window: frames start up to the budget, and one that must wait on is held again (R657). -/
def State.newTxWindow (s : State) : State :=
  let s1 : State := { s with net := { s.net with started := 0, heldInWin := false, winAt := s.cyc + 1 } }
  if !s.transmitting then s1
  else
    let s2 := s1.drain
    match s2.net.txQ with
    | [] => s2
    | f :: rest =>
      let t := ({ s2 with net := { s2.net with txQ := [] } }).holdFrame f
      { t with net := { t.net with txQ := f :: rest } }

/-- A window starts in this cycle and has not opened yet. -/
def State.windowDue (s : State) : Bool := decide (s.cyc % 2457600 = 0) && decide (s.net.winAt ≠ s.cyc + 1)

/-- The new window opens before a frame that starts in its first cycle (R657). -/
def State.windowFirst (s : State) : State :=
  if s.windowDue && s.pending.contains .transmitWindowBoundary then s.newTxWindow else s

/-- Start a transmission, or hold the frame where the budget is spent or frames already wait (R657). -/
def State.startFrame (s0 : State) (f : CanFrame) : State :=
  let s := s0.windowFirst
  if s.net.txQ = [] ∧ s.net.started < s.g K.sag_CAN_BUDGET then
    { s with net := { s.net with sent := s.timeFrame f :: s.net.sent, started := s.net.started + 1 } }
  else s.holdFrame f

/-- Send a frame. A controller in reset sends nothing; in bus-off only EMCY messages are kept (R589, R594). While D0
sleeps CTX stays recessive (R539), and a frame waits until it runs again. -/
def State.sendFrame (s : State) (f : CanFrame) : State :=
  if s.net.inReset then s
  else if 2 ≤ s.pstate 0 then { s with net := { s.net with txQ := s.net.txQ ++ [f] } }
  else if s.canErr = 2 then (if f.cls = 2 then { s with net := { s.net with txQ := s.net.txQ ++ [f] } } else s)
  else s.startFrame f

/-- CAN FD data lengths (R613). -/
def fdLen (n : Nat) : Nat :=
  if n ≤ 8 then n else if n ≤ 12 then 12 else if n ≤ 16 then 16 else if n ≤ 20 then 20 else if n ≤ 24 then 24
  else if n ≤ 32 then 32 else if n ≤ 48 then 48 else 64

/-- The mapping entries of a PDO in force: those up to sub-index 0. -/
def State.mapOf (s : State) (mapKey : Nat) : List Nat := (List.range (s.g mapKey)).map (fun i => s.g (mapKey + 1 + i))

/-- Bytes of a mapped entry: LENGTH bits of its value, least significant byte first (R613, R615). -/
def State.mapBytes (s : State) (m : Nat) : List Nat := leBytes (m % 256 / 8) (s.copyOf (m / 256))

/-- A TPDO's contents as they stand, padded with zeros to a CAN FD length (R613, R618). -/
def State.pdoData (s : State) (t : Nat) : List Nat :=
  let d := (s.mapOf (K.comm_TPDO_MAP t 0)).flatMap s.mapBytes
  d ++ List.replicate (fdLen d.length - d.length) 0

/-- A PDO is valid: bit 31 of its COB-ID is 0 (R615). -/
def State.tpdoValid (s : State) (t : Nat) : Bool := !bitAt (s.g (K.comm_TPDO_COB t)) 31

/-- Replace a TPDO that still waits by its new capture and count it late (R618). -/
def replaceWaiting (f : CanFrame) : List CanFrame → List CanFrame
  | [] => []
  | x :: r => if x.cls = 3 ∧ x.pdo = f.pdo then f :: r else x :: replaceWaiting f r

/-- Capture and send a TPDO. -/
def State.sendTpdo (s : State) (t : Nat) : State :=
  let f : CanFrame := { id := s.g (K.comm_TPDO_COB t) % 2048, data := s.pdoData t,
                        fd := decide (s.net.dataRate ≠ 0), cls := 3, pdo := t }
  let s1 : State := { s with net := { s.net with
    lastTx := s.net.lastTx.store 0 t (s.cyc + 1), dirty := s.net.dirty.store 0 t 0, inhWait := s.net.inhWait.store 0 t 0 } }
  if s1.net.txQ.any (fun x => x.cls == 3 && x.pdo == t) then
    ({ s1 with net := { s1.net with txQ := replaceWaiting f s1.net.txQ } }).inc K.dev_TPDO_LATE
  else s1.sendFrame f

/-- The inhibit time of a TPDO has passed since its last transmission (R617); 100 µs are 2457.6 cyc. -/
def State.inhibitOver (s : State) (t : Nat) : Bool :=
  let last := s.net.lastTx.look 0 t
  last == 0 || decide ((s.g (K.comm_TPDO_INH t) * 24576 + 9) / 10 ≤ cycDiff s.cyc (last - 1))

/-- What a write of a mapped entry does for one TPDO: an event-driven one is sent or waits on its inhibit time, one of
type 0 is marked changed (R617). -/
def State.touchTpdo (s : State) (t : Nat) : State :=
  let ty := s.g (K.comm_TPDO_TYPE t)
  if !s.tpdoValid t || decide (s.nmt ≠ 5) then s
  else if 254 ≤ ty then
    if s.inhibitOver t then s.sendTpdo t else { s with net := { s.net with inhWait := s.net.inhWait.store 0 t 1 } }
  else if ty = 0 then { s with net := { s.net with dirty := s.net.dirty.store 0 t 1 } }
  else s

/-- A capture that a SYNC, or the end of an inhibit time, calls for (R617, R618): one of type 0 only where a mapped
entry was written, an event-driven one only where it still waits. -/
def State.sendDue (s : State) (t : Nat) : State :=
  let ty := s.g (K.comm_TPDO_TYPE t)
  if !s.tpdoValid t || decide (s.nmt ≠ 5) then s
  else if ty = 0 then (if s.net.dirty.look 0 t = 1 then s.sendTpdo t else s)
  else if ty ≤ 240 ∨ s.net.inhWait.look 0 t = 1 then s.sendTpdo t
  else s

/-- At the end of a cycle the TPDOs that its writes triggered, then those due, are captured and sent (R617, R618). -/
def State.flushPdo (s : State) : State :=
  if s.net.trig = 0 ∧ s.net.due = 0 then s
  else
    let t := (maskBits s.net.trig 16).foldl (fun t i => t.touchTpdo i) { s with net := { s.net with trig := 0, due := 0 } }
    (maskBits s.net.due 16).foldl (fun t i => t.sendDue i) t

/-- A capture of a TPDO is due at the end of this cycle (R618). -/
def State.callTpdo (s : State) (t : Nat) : State := { s with net := { s.net with due := Nat.lor s.net.due (2 ^ t) } }

-- outcomes

/-- What a command of the ordinary families leaves as it was: the part's dies, CYC, the totals, the
one-time-programmable contents, the SRAM banks and the queue. -/
def State.keepCore (s t : State) : State :=
  { t with dies := s.dies, cyc := s.cyc, led := s.led, otp := s.otp, sram := s.sram, pending := s.pending }

/-- The outcome of a command of the ordinary families. -/
def confined (s t : State) : Out := .next (s.keepCore t)

/-- The outcome of a command that books totals or moves them in the ledger: dies, CYC, the one-time-programmable
contents, the SRAM banks and the queue stay. -/
def booking (s t : State) : Out :=
  .next { t with dies := s.dies, cyc := s.cyc, otp := s.otp, sram := s.sram, pending := s.pending }

/-- The outcome of a command that works on the SRAM banks: dies, CYC, totals, one-time-programmable contents and queue
stay. -/
def banking (s t : State) : Out :=
  .next { t with dies := s.dies, cyc := s.cyc, led := s.led, otp := s.otp, pending := s.pending }

/-- The outcome of a command that blows fuses: dies, CYC, totals, SRAM banks and queue stay. -/
def fusing (s t : State) : Out :=
  .next { t with dies := s.dies, cyc := s.cyc, led := s.led, sram := s.sram, pending := s.pending }

/-- The outcome of a start or a wake, which may change everything but the dies fitted, the fuses and the queue. -/
def starting (s t : State) : Out := .next { t with dies := s.dies, otp := s.otp, pending := s.pending, cyc := t.cyc % two48 }

/-- A resource the part does not carry has no events (R1, R4): a command that names one changes nothing (log entry 4).
-/
def ifFitted (s : State) (c : Bool) (o : Out) : Out := if c then o else .next s

/-- A command whose condition does not hold has no effect. -/
def whenTrue (c : Bool) (s t : State) : State := if c then t else s

end Sys2Proof.Machine
end

