-- ==== Sys2Proof/Machine/Port.lean ====
section
/-! DEFINITION. Transducer ports and burst excitation (R59 to R95): bursts, energy booking, saggar hold, the impedance
check and the port's faults. -/

namespace Sys2Proof.Machine

/-- Bits of STATUS (R94). -/
abbrev stOPEN : Nat := 0
abbrev stSHORT : Nat := 1
abbrev stPEND : Nat := 2
abbrev stRUN : Nat := 3
abbrev stHOLD : Nat := 4
abbrev stWITHHELD : Nat := 5
abbrev stROVER : Nat := 6
abbrev stSILENT : Nat := 7

/-- One bit of a port's STATUS. -/
def State.st (s : State) (n b : Nat) : Bool := s.bit (K.port_STATUS n) b

/-- Form SILENT anew: no bursts with PULSES = 0, in hold, OPEN or SHORT (R60, R76, R88, R94). -/
def State.syncSilent (s : State) (n : Nat) : State :=
  s.bitTo (K.port_STATUS n) stSILENT
    (decide (s.g (K.port_PULSES n) = 0) || s.st n stHOLD || s.st n stOPEN || s.st n stSHORT)

/-- The port's settings lie within its caps (R74, R75). -/
def State.inCaps (s : State) (n : Nat) : Bool :=
  decide (s.g (K.port_PULSES n) + s.g (K.port_DAMP n) ≤ s.g (K.sag_CAP_PULSES n)) &&
  (decide (s.g (K.port_PULSES n) = 0) || decide (s.g (K.die_VDRV_SET (n / 8)) ≤ s.g (K.sag_CAP_VDRV n)))

/-- PORT_HOLD of the saggar: at least one port is in hold (R665). -/
def State.syncHold (s : State) : State :=
  s.bitTo K.sag_SAG_STAT 1 ((List.range s.nPorts).any (fun n => s.st n stHOLD))

/-- Place a port in saggar hold: the hold is entered and logged once (R76). -/
def State.enterHold (s : State) (n : Nat) : State :=
  if s.st n stHOLD then s
  else ((((s.bitTo (K.port_STATUS n) stHOLD true).syncSilent n).ev (n / 8) 0 (locPort n) 0x1006 []).inc
    K.sag_TRIP_COUNT).syncHold

/-- Leave saggar hold (R76). -/
def State.leaveHold (s : State) (n : Nat) : State :=
  if s.st n stHOLD then ((s.bitTo (K.port_STATUS n) stHOLD false).syncSilent n).syncHold else s

/-- After a write to the port or a tightening of its caps: enter hold when the settings exceed the caps, and leave it
when they lie within them. While a burst runs the hold waits for the next burst's start (R90). -/
def State.reHold (s : State) (n : Nat) : State :=
  if s.inCaps n then s.leaveHold n else if (s.port n).bursting then s else s.enterHold n

/-- After a write of its settings: a port leaves hold where the write brought them within its caps (R76). -/
def State.holdWritten (s old : State) (n : Nat) : State := if old.inCaps n && s.inCaps n then s else s.reHold n

/-- After a cap's tightening: only the entry into hold. -/
def State.tightHold (s : State) (n : Nat) : State := if s.inCaps n then s else s.reHold n

/-- The port transmits in a pair that starts now (R60, R76, R88); during an impedance check its bridge is off (R82). -/
def State.transmits (s : State) (n : Nat) : Bool := !s.st n stSILENT && !s.st n stRUN

-- the burst's waveform

/-- Active and return edge of pulse `n`, in 1/64 cyc from the burst reference edge, truncated (R62, R64). -/
def activeEdge (freq n : Nat) : Nat := n * 64 * 2 ^ 24 / freq
def returnEdge (freq duty n : Nat) : Nat := (n * 64 + duty) * 2 ^ 24 / freq

/-- End of a burst in 1/64 cyc from B: the return edge of its last pulse (R65). -/
def burstEnd64 (freq pulses damp duty : Nat) : Nat := returnEdge freq duty (pulses + damp - 1)

/-- Release offset in cyc from B of a port that transmits: the first cycle boundary at least 2 cyc after the end of the
burst (R65, R106). -/
def releaseOffset (freq pulses damp duty : Nat) : Nat :=
  if pulses = 0 then 0 else (burstEnd64 freq pulses damp duty + 63) / 64 + 2

/-- What drives a ball of the port. -/
inductive Drive where
  | vdrv | gnd | off | receive | test
  deriving DecidableEq, Repr

/-- What stands at the balls TPnnP and TPnnN: what drives them, the series resistance of a bridge output that drives
them in Ω (R69), and in receive the termination of each line to GND in Ω, 0 for high impedance (R68). -/
structure PortLines where
  p      : Drive
  n      : Drive
  series : Nat := 0
  term   : Nat := 0
  deriving DecidableEq, Repr

/-- Series resistance in Ω that DRIVE_R selects (R69). -/
def driveOhm (r : Nat) : Nat := 5 * 2 ^ r

/-- The pulse of a burst that is active `t` 1/64 cyc after its reference edge (R64). -/
def Burst.pulseAt (x : Burst) (t : Nat) : Option Nat :=
  (List.range (x.pulses + x.damp)).find? (fun n =>
    decide (activeEdge x.freq n ≤ t) && decide (t < returnEdge x.freq x.duty n))

/-- The outputs of the bridge `t` 1/64 cyc after the reference edge: a drive pulse puts TPnnP at VDRV, a damping pulse,
inverted, TPnnN; the other output and both between the pulses are at GND, in both bridge modes (R59, R67, R68). After
an overcurrent both outputs are off (R86). -/
def Burst.outputs (x : Burst) (t : Nat) : Drive × Drive :=
  if x.cut then (.off, .off)
  else match x.pulseAt t with
    | none => (.gnd, .gnd)
    | some n => if n < x.pulses then (.vdrv, .gnd) else (.gnd, .vdrv)

/-- Peak-to-peak voltage at the transducer in mV of a burst's active and damping pulses, or of its active pulses alone
(R67). -/
def peakToPeak (bridge mv : Nat) (damped : Bool) : Nat := if bridge = 1 ∧ damped = false then mv else 2 * mv

/-- The port's balls `sub` 1/64 cyc into the current cycle: a check feeds its test current into TPnnP and holds TPnnN at
GND (R82); from B to its release a burst's bridge drives both; otherwise the receive chain is connected, terminated as
IDLE_TERM says (R65, R68). On a die in OFF they float, and before its start is complete they are at GND through 2 kΩ
(R539, R572). -/
def State.portLines (s : State) (n sub : Nat) : PortLines :=
  let idle : PortLines := { p := .receive, n := .receive, term := if s.g (K.port_IDLE_TERM n) = 0 then 0 else 2000 }
  if s.pstate (n / 8) = 4 then { p := .off, n := .off }
  else if !(s.die (n / 8)).up then { p := .off, n := .off, term := 2000 }
  else if s.st n stRUN then { p := .test, n := .gnd }
  else match (s.port n).burst with
    | none => idle
    | some x =>
      if x.release ≤ cycDiff s.cyc x.b then idle
      else
        let o := x.outputs (64 * cycDiff s.cyc x.b + sub)
        { p := o.1, n := o.2, series := driveOhm x.driveR }

/-- Release offset of a port by its settings (R106). -/
def State.release (s : State) (n : Nat) : Nat :=
  releaseOffset (s.g (K.port_FREQ n)) (s.g (K.port_PULSES n)) (s.g (K.port_DAMP n)) (s.g (K.port_DUTY n))

/-- The burst a port's settings give, with its reference edge in the next cycle (R63, R71). -/
def State.nextBurst (s : State) (n : Nat) : Burst :=
  { b := cycPlus s.cyc 1, freq := s.g (K.port_FREQ n), pulses := s.g (K.port_PULSES n), damp := s.g (K.port_DAMP n)
    duty := s.g (K.port_DUTY n), bridge := s.g (K.port_BRIDGE n), driveR := s.g (K.port_DRIVE_R n)
    release := s.release n }

/-- Start a burst on a port whose reference edge is in the next cycle (R63, R77, R93). -/
def State.startBurst (s : State) (n mv : Nat) : State :=
  (s.setPort n { s.port n with
    bursting := true, burst := some (s.nextBurst n), burstMv := mv
    win := cycPlus s.cyc 1 / cycPerSecond }).inc (K.port_BURSTS n)

/-- The running burst has reached the cycle of its end, the return edge of its last pulse (R65). -/
def State.burstOver (s : State) (n : Nat) : Bool :=
  (s.port n).bursting && (match (s.port n).burst with
    | none => true
    | some x => cycReached s.cyc (cycPlus x.b (burstEnd64 x.freq x.pulses x.damp x.duty / 64)))

/-- Energy of a charge at VDRV in 0.1 µJ (R77): nC · mV / 100 000. The spec gives no rounding (log entry 12). -/
def burstEnergy (charge mv : Nat) : Nat := (roundOpen 1 (charge * mv : Nat) 100000).toNat

/-- Book a finished or abandoned burst: Q_LAST, the energy in the window it started in, and E_pred (R77, R79, R93).
E_pred is the E of the last burst also where a setting was changed while it ran (DESIGN CHOICE, log entry 77). -/
def State.bookBurst (s : State) (n charge : Nat) : State :=
  let r := s.port n
  let e := burstEnergy charge r.burstMv
  let s1 := s.p (K.port_Q_LAST n) (satAt 65535 charge)
  let s2 := if s.cyc / cycPerSecond = r.win then s1.addTo (K.port_E_WINDOW n) e else s1
  s2.setPort n { r with bursting := false, ePred := e }

/-- Ask for an impedance check: requests before it starts are merged (R84). -/
def State.askCheck (s : State) (n : Nat) : State := s.bitTo (K.port_STATUS n) stPEND true

/-- Arm the RECHECK period of a port in OPEN or SHORT from a cycle on (R84). -/
def State.armRecheck (s : State) (n from_ : Nat) : State :=
  let t := s.g (K.port_RECHECK n)
  s.setPort n { s.port n with recheck := if t = 0 then none else some (cycPlus from_ (t * cycPerSecond)) }

/-- The port is in OPEN or SHORT (R88). -/
def State.failing (s : State) (n : Nat) : Bool := s.st n stOPEN || s.st n stSHORT

/-- A write of RECHECK: the period of a port in OPEN or SHORT counts from the write (R84; log entry 77). -/
def State.recheckWritten (s : State) (n : Nat) : State := if s.failing n then s.armRecheck n s.cyc else s

/-- A completed burst: the port is released, its energy booked, and the live-open rule of R87 judged. -/
def State.burstEnd (s : State) (n charge : Nat) : State :=
  if !s.burstOver n then s
  else
    let s1 := s.bookBurst n charge
    let low := decide (0 < s.g (K.port_Q_OPEN n)) && decide (satAt 65535 charge < s.g (K.port_Q_OPEN n))
    let run := if low then min 3 ((s.port n).lowRun + 1) else 0
    let s2 := s1.setPort n { s1.port n with lowRun := run }
    if run = 3 then s2.askCheck n else s2

/-- Enter OPEN or SHORT; with PULSES > 0 the fault is declared, or logged again as a reaction while it stands (R88,
R89). The RECHECK period counts from the entry, and a further failing check does not restart it (R84; DESIGN CHOICE,
log entry 77). -/
def State.portFails (s : State) (n : Nat) (isOpen : Bool) (event : Nat) : State :=
  let s1 := ((s.bitTo (K.port_STATUS n) stOPEN isOpen).bitTo (K.port_STATUS n) stSHORT (!isOpen)).syncSilent n
  let s2 := if s.failing n then s1 else s1.armRecheck n s.cyc
  let r := s2.port n
  if r.serial ≠ 0 then s2.react (n / 8) 0 (locPort n) event r.serial []
  else if s2.g (K.port_PULSES n) = 0 then s2
  else (s2.declare (n / 8) 0 (locPort n) event []).setPort n { r with serial := s2.nextSerial (n / 8) }

/-- A bridge current above 2.0 A: the burst is abandoned and booked, and the port enters SHORT (R86). -/
def State.overcurrent (s : State) (n charge : Nat) : State :=
  if !(s.port n).bursting then s
  else
    let s1 := s.bookBurst n charge
    let r := s1.port n
    (s1.setPort n { r with burst := r.burst.map (fun x => { x with cut := true }) }).portFails n false 0x1002

/-- A passing check clears OPEN and SHORT and ends a standing fault (R88). -/
def State.portPasses (s : State) (n : Nat) : State :=
  let s1 := ((s.bitTo (K.port_STATUS n) stOPEN false).bitTo (K.port_STATUS n) stSHORT false).syncSilent n
  let r := s1.port n
  let s2 := s1.setPort n { r with serial := 0, recheck := none }
  if r.serial = 0 then s2 else s2.endFault r.serial (n / 8) 0 (locPort n) 0x1004 []

/-- The running check of a port has taken its 24 576 cyc (R82). -/
def State.checkOver (s : State) (n : Nat) : Bool :=
  s.st n stRUN && cycReached s.cyc (cycPlus (s.port n).checkAt 24576)

/-- What a check finds: open, or a short, or neither (R85). -/
def State.checkFinds (s : State) (n cm rm : Nat) : Option Bool :=
  let rMin := s.g (K.port_R_MIN n)
  if (0 < rMin ∧ rm < rMin) ∨ s.g (K.port_C_MAX n) < cm then some false
  else if cm < s.g (K.port_C_MIN n) then some true
  else none

/-- Measured values within their ranges (R83). -/
def cMeasOf (c : Nat) : Nat := max 10 (satAt 65535 c)
def rMeasOf (r : Nat) : Nat := max 10 (satAt 10000000 r)

/-- The fault of a port ends later in this cycle (R711). -/
def State.portEnds (s : State) (n : Nat) : Bool :=
  s.pending.any (fun i => match i with
    | .impedanceCheckDone p c r => decide (p = n) && s.checkOver n && decide (s.checkFinds n (cMeasOf c) (rMeasOf r) = none)
    | _ => false)

/-- A finished impedance check: measured values within their ranges (R83), and the first matching row of R85. A value
beyond its range is held at the range's end and judged so; R83 says so only of a resistance above it (DESIGN CHOICE,
log entry 77). -/
def State.checkDone (s : State) (n c r : Nat) : State :=
  if !s.checkOver n then s
  else
    let cm := cMeasOf c
    let rm := rMeasOf r
    let s1 := (((s.bitTo (K.port_STATUS n) stRUN false).p (K.port_C_MEAS n) cm).p (K.port_R_MEAS n) rm).bitTo
      (K.port_STATUS n) stROVER (decide (10000000 < r))
    match s.checkFinds n cm rm with
    | some isOpen => s1.portFails n isOpen (if isOpen then 0x1001 else 0x1003)
    | none => s1.portPasses n

/-- The RECHECK period ends: a check is asked for and the period armed again while the port is OPEN or SHORT (R84). -/
def State.recheckDue (s : State) (n : Nat) : State :=
  match (s.port n).recheck with
  | none => s
  | some t =>
    if !cycReached s.cyc t then s
    else if s.failing n then (s.askCheck n).armRecheck n t
    else s.setPort n { s.port n with recheck := none }

/-- A write that leaves PULSES > 0 on a port in OPEN or SHORT without a declared fault declares it (R89). -/
def State.declareIfDriven (s : State) (n : Nat) : State :=
  if 0 < s.g (K.port_PULSES n) ∧ (s.port n).serial = 0 ∧ s.failing n then
    (s.declare (n / 8) 0 (locPort n) (if s.st n stOPEN then 0x1001 else 0x1003) []).setPort n
      { s.port n with serial := s.nextSerial (n / 8) }
  else s

/-- The port's predicted energy restarts from 0 (R79). -/
def State.clearPred (s : State) (n : Nat) : State := s.setPort n { s.port n with ePred := 0 }

/-- A new energy window: E_window restarts, WITHHELD_WIN clears, once-per-window limits reset, and the half-pairs of
the window become those of the previous one (R78, R94, R161). A burst whose port was released is forgotten. -/
def State.newWindow (s : State) : State :=
  let s1 := (List.range s.nPorts).foldl
    (fun t n =>
      let r := t.port n
      let u := if r.bursting then t else t.setPort n { r with burst := r.burst.filter (fun x =>
        decide (cycDiff s.cyc x.b < x.release)) }
      (u.p (K.port_E_WINDOW n) 0).bitTo (K.port_STATUS n) stWITHHELD false) s
  let s2 := (List.range s.nPaths).foldl
    (fun t n => t.setPath n { t.path n with halfPrev := (t.path n).halfNow, halfNow := 0 }) s1
  { s2 with once := [] }

/-- Where CYC has moved past the start of an energy window without its command, as over DEEP or a start, the window is
new all the same (R78). -/
def State.passWindows (s t : State) : State := if s.cyc / cycPerSecond = t.cyc / cycPerSecond then t else t.newWindow

/-- BURST_END (R65, R77, R87). -/
def execBurstEnd (port charge : Nat) (s : State) : Out :=
  ifFitted s (decide (port < s.nPorts)) (confined s (s.burstEnd port charge))

/-- BRIDGE_OVERCURRENT (R86, R88). -/
def execBridgeOvercurrent (port charge : Nat) (s : State) : Out :=
  ifFitted s (decide (port < s.nPorts)) (confined s (s.overcurrent port charge))

/-- IMPEDANCE_CHECK_DONE (R83, R85, R88, R89). -/
def execImpedanceCheckDone (port cMeas rMeas : Nat) (s : State) : Out :=
  ifFitted s (decide (port < s.nPorts)) (confined s (s.checkDone port cMeas rMeas))

/-- RECHECK_EXPIRY (R84). -/
def execRecheckExpiry (port : Nat) (s : State) : Out :=
  ifFitted s (decide (port < s.nPorts)) (confined s (s.recheckDue port))

/-- ENERGY_WINDOW_BOUNDARY: in the first cycle of a window (R78). -/
def execEnergyWindowBoundary (s : State) : Out := confined s (if s.windowStart then s.newWindow else s)

end Sys2Proof.Machine
end

