-- ==== Sys2Proof/Machine/Segment.lean ====
section
/-! DEFINITION. The correction table and its segments (R230 to R238), and what consumers read of a sense channel
(R227, R279, R280). -/

namespace Sys2Proof.Machine

/-- The key of table entry i, 0 to 383 (R256). -/
def entryKey (i : Nat) : Nat := if i < 192 then K.tabA_ENTRY i else K.tabB_ENTRY (i - 192)

/-- Abscissa and ordinate of a table entry (R230). -/
def State.entX (s : State) (i : Nat) : Int := toSigned 32 (s.g (entryKey i) / two32)
def State.entY (s : State) (i : Nat) : Int := toSigned 32 (s.g (entryKey i) % two32)

/-- Fields of a segment descriptor (R231). -/
def segBase (d : Nat) : Nat := field d 8 0
def segCount (d : Nat) : Nat := field d 17 9
def segExtrap (d : Nat) : Bool := bitAt d 30
def segSeal (d : Nat) : Bool := bitAt d 31

/-- What an evaluation gives: the ordinate and whether any flag was raised (R237). -/
structure SegVal where
  y    : Int
  flag : Bool
  deriving DecidableEq, Repr

/-- The largest index from `lo` on, at most `n` further, whose abscissa is at or below x. -/
def State.segFind (s : State) (x : Int) : (n lo : Nat) → Nat
  | 0, lo => lo
  | n + 1, lo => if s.entX (lo + 1) ≤ x then s.segFind x n (lo + 1) else lo

/-- Evaluate a segment at x in Q16.16 (R237). -/
def State.evalSeg (s : State) (seg : Nat) (x : Int) : SegVal :=
  let d := s.g (K.seg_SEG seg)
  let lo := segBase d
  let hi := lo + segCount d - 1
  let below := decide (x < s.entX lo)
  let above := decide (s.entX hi < x)
  if x = s.entX lo then ⟨s.entY lo, false⟩
  else if x = s.entX hi then ⟨s.entY hi, false⟩
  else if below && !segExtrap d then ⟨s.entY lo, true⟩
  else if above && !segExtrap d then ⟨s.entY hi, true⟩
  else
    let k := if below then lo else if above then hi - 1 else s.segFind x (hi - 1 - lo) lo
    let r := s.entY k + roundHalfUp ((s.entY (k + 1) - s.entY k) * (x - s.entX k)) (s.entX (k + 1) - s.entX k).toNat
    let c := clampInt (-(2 ^ 31)) (2 ^ 31 - 1) r
    ⟨c, below || above || decide (c ≠ r)⟩

/-- A quantity in Q16.16, rounded half away from zero and saturated (R237). -/
def toQ16 (q : Rat) : Int := clampInt (-(2 ^ 31)) (2 ^ 31 - 1) (ratHalfAway (q * 65536))

/-- The temperature a consumer reads of a channel: its last valid result, none where it never delivered one or its
UNIT is not °C (R279). -/
def State.chanTemp (s : State) (c : Nat) : Option Rat := if s.g (K.chan_UNIT c) = 1 then (s.chan c).val else none

/-- The pressure a consumer reads of a channel: its last valid result above 0 (R227, R279). -/
def State.chanPress (s : State) (c : Nat) : Option Rat :=
  if s.g (K.chan_UNIT c) = 2 then (s.chan c).positive else none

/-- The sections that use a path: their PATH_MASK names it (R213). -/
def State.sectsOf (s : State) (n : Nat) : List Nat :=
  (List.range s.nSects).filter (fun i => bitAt (s.g (K.sect_PATH_MASK i)) n)

/-- A section's divider in force (R184, R212). -/
def State.sectDiv (s : State) (i : Nat) : Nat :=
  if s.g (K.sect_RATE_STATE i) = 1 then s.g (K.sect_ACT_DIV i) else s.g (K.sect_REST_DIV i)

/-- DIV of a path: the smallest divider among its sections, or SOLO_DIV (R183). -/
def State.pathDiv (s : State) (n : Nat) : Nat :=
  match (s.sectsOf n).map s.sectDiv with
  | [] => s.g (K.path_SOLO_DIV n)
  | d :: r => r.foldl min d

/-- ACTIVE of SCHED_FLAGS: a section at its active rate gives the path's DIV (R210). -/
def State.pathActive (s : State) (n : Nat) : Bool :=
  (s.sectsOf n).any (fun i => s.g (K.sect_RATE_STATE i) == 1 && s.sectDiv i == s.pathDiv n)

/-- Y of a transducer-delay segment in ft/256: Y · 192 / 125, rounded half up (R201). -/
def tdOf (y : Int) : Int := roundHalfUp (y * 192) 125

end Sys2Proof.Machine
end

