-- ==== Sys2Proof/Machine/Receive.lean ====
section
/-! DEFINITION. Receive chains and the time-to-digital converter (R96 to R140): the shot from the listening side, stops,
first-pass arithmetic, captures, the correlation refinement and calibration of the interpolators. -/

namespace Sys2Proof.Machine

/-- End A and end B of a path (R6). -/
def endA (n : Nat) : Nat := 2 * n
def endB (n : Nat) : Nat := 2 * n + 1

/-- Transmitting and listening port of a shot (R7). -/
def txPort (n : Nat) (d : Dir) : Nat := match d with | .dn => endA n | .up => endB n
def rxPort (n : Nat) (d : Dir) : Nat := match d with | .dn => endB n | .up => endA n

/-- The listening chain, 0 X or 1 Y: in role 0 chain X serves end A and Y end B; in role 1 exchanged (R193). -/
def chainOf (role : Nat) (d : Dir) : Nat :=
  match d with
  | .dn => if role = 0 then 1 else 0
  | .up => if role = 0 then 0 else 1

/-- The shot of a direction. -/
def Attempt.shot (a : Attempt) (d : Dir) : Shot := match d with | .dn => a.dn | .up => a.up
def Attempt.setShot (a : Attempt) (d : Dir) (x : Shot) : Attempt :=
  match d with | .dn => { a with dn := x } | .up => { a with up := x }

/-- The receive settings a shot latches at its B − 1 (R103). -/
def State.rxSet (s : State) (n : Nat) (d : Dir) (thr : Nat) : RxSet :=
  { thr := thr, winOpen := s.g (K.path_WIN_OPEN n), winLen := s.g (K.path_WIN_LEN n), zcEdge := s.g (K.path_ZC_EDGE n),
    stopFirst := s.g (K.path_STOP_FIRST n), stopCount := s.g (K.path_STOP_COUNT n), lockOfs := s.g (K.path_LOCK_OFS n),
    ampMin := s.g (K.path_AMP_MIN n), ampMax := s.g (K.path_AMP_MAX n), capPre := s.g (K.path_CAP_PRE n)
    freq := s.g (K.port_FREQ (txPort n d)) }

/-- Capture start in cyc from B (R122, R123). -/
def State.capStart (s : State) (n : Nat) (d : Dir) (release : Nat) : Nat :=
  let prev := match d with | .dn => (s.path n).prevDn | .up => (s.path n).prevUp
  let raw : Int :=
    if s.g (K.path_CAP_MODE n) = 0 then s.g (K.path_CAP_OPEN n)
    else match prev with
      | none => s.g (K.path_CAP_OPEN n)
      | some a => (a + 2 ^ 20) / 2 ^ 21 - s.g (K.path_CAP_PRE n)
  if raw < release then release else raw.toNat

/-- A shot latched at the end of B − 1. -/
def State.newShot (s : State) (n : Nat) (d : Dir) (b role thr : Nat) (rxDrives capture : Bool) : Shot :=
  let rel := if rxDrives then s.release (rxPort n d) else 0
  { phase := .listening, b := b, set := s.rxSet n d thr, chain := chainOf role d, release := rel,
    capS := if capture then some (s.capStart n d rel) else none }

/-- Cycles since the shot's B. -/
def State.shotAt (s : State) (x : Shot) : Nat := cycDiff s.cyc x.b

/-- The last cycle of the receive window, from B (R104). -/
def Shot.winEnd (x : Shot) : Nat := x.set.winOpen + x.set.winLen - 1

/-- A cycle from B in which the comparator and the stops work: inside the window and not before the release (R104,
R105). -/
def Shot.inWindow (x : Shot) (k : Nat) : Bool :=
  decide (x.set.winOpen ≤ k) && decide (k ≤ x.winEnd) && decide (x.release ≤ k)

/-- When the stops are complete at cycle k, the shot completes with the capture's last sample, or at once without one,
but not after the window has passed (R108). -/
def Shot.completeAt (x : Shot) (k : Nat) : Nat :=
  let e := match x.capS with | none => k | some c => max k (c + 511)
  min e (x.winEnd + 1)

/-- The shot listens in cycle k: it is not complete, or the expiry of its window has been taken in this cycle, which
what is delivered in it still precedes (R37, R105). -/
def Shot.listens (x : Shot) (k : Nat) : Bool :=
  decide (x.phase = .listening) ||
    (decide (x.phase = .complete) && decide (k = x.winEnd) && decide (x.doneAt = some (x.winEnd + 1)))

/-- The comparator arms in a window cycle (R99, R105). -/
def Shot.arm (x : Shot) (k : Nat) : Shot :=
  if x.listens k ∧ x.armedAt = none ∧ x.inWindow k then { x with armedAt := some k } else x

/-- A qualifying crossing in cycle k: at most one stop a cycle, none in the arming cycle, and no more than
STOP_FIRST + STOP_COUNT (R100, R102, R105, R108, R115). -/
def Shot.stop (x : Shot) (k code : Nat) : Shot :=
  let cap := x.set.stopFirst + x.set.stopCount
  match x.armedAt with
  | none => x
  | some a =>
    if !x.listens k ∨ !x.inWindow k ∨ k ≤ a ∨ cap ≤ x.stops.length then
      -- a crossing in the cycle of the last stop is dropped even when that stop was the last one
      if x.inWindow k ∧ a < k ∧ (x.stops.getLast?.map (·.1)) = some k then { x with drop := true } else x
    else if (x.stops.getLast?.map (·.1)) = some k then { x with drop := true }
    else
      let st := x.stops ++ [(k, code)]
      if st.length = cap then { x with stops := st, phase := .complete, doneAt := some (x.completeAt k) }
      else { x with stops := st }

/-- The receive window has passed: the shot completes with the stops it has (R104, R108). -/
def Shot.expire (x : Shot) : Shot :=
  if x.phase = .listening then { x with phase := .complete, doneAt := some (x.winEnd + 1) } else x

/-- The interpolator a chain uses: 2·k + c of the die (R135). -/
def interpOf (n chain : Nat) : Nat := 2 * (n % 4) + chain

/-- Calibration data of an interpolator. -/
def State.interp (s : State) (n chain : Nat) : CalRes :=
  ((s.die (n / 4)).interp[interpOf n chain]?).getD { uCal := 0, inl := [], inBand := true }

/-- u2 − u1 differs by more than 12.5 % from U_CAL (R111). -/
def calErrOf (uCal u1 u2 : Nat) : Bool :=
  let d : Int := (u2 : Int) - u1 - uCal
  decide ((uCal : Int) < 8 * (if d < 0 then -d else d))

/-- Time of a stop in ft/256 from its coarse cycle and code (R109, R110). -/
def stopTime (cal : CalRes) (u1 u2 k u : Nat) : Int :=
  let den : Int := (u2 : Int) - u1
  let lin : Rat :=
    if den = 0 then mkRat (Config.freePhi u) 64 else 1 - mkRat (((u : Int) - u1) * (if den < 0 then -1 else 1)) den.natAbs
  let seg := (clampInt 0 63 ((lin * 64).floor)).toNat
  let phi : Rat := lin + mkRat (cal.inl.getD seg 0) (2 ^ 21)
  let phi := if phi < 0 then 0 else if 1 ≤ phi then 1 - mkRat 1 (2 ^ 21) else phi
  (k : Int) * 2 ^ 21 + ratHalfUp (phi * (2 ^ 21 : Nat))

/-- Ts in ft/256 (R116). -/
def tsOf (zcEdge freq : Nat) : Int := roundHalfUp (if zcEdge = 2 then 2 ^ 44 else 2 ^ 45) freq

/-- First-pass arrival a_zc (R116): the mean over the counted stops of t_j − j · Ts, rounded half up. -/
def arrival (times : List Int) (first count : Nat) (ts : Int) : Int :=
  roundHalfUp (sumInt ((List.range count).map (fun i => times.getD (first + i) 0 - ((first + i : Nat) : Int) * ts))) count

/-- The widths W1 to W3 of a shot as measured, 0 where the excursion is not complete by the last window cycle (R101). An
excursion that began before the window opened may be longer than the window; every other one starts in or after the
arming cycle, and each after the one before it. -/
def Shot.widths (x : Shot) (m : ShotMeas) : Nat × Nat × Nat :=
  match x.armedAt with
  | none => (0, 0, 0)
  | some a =>
    let room := 8192 * (x.winEnd + 1 - a)
    let early := decide (a ≤ max x.set.winOpen x.release)
    let w1 := if m.w1 ≤ (if early then min (8192 * (x.winEnd + 1)) (two32 - 1) else room) then m.w1 else 0
    let from2 := if early then 0 else w1
    let w2 := if w1 ≠ 0 ∧ from2 + m.w2 ≤ room then m.w2 else 0
    let w3 := if w2 ≠ 0 ∧ from2 + w2 + m.w3 ≤ room then m.w3 else 0
    (w1, w2, w3)

/-- AMP: the largest absolute ADC code, 0 to 2047 (R96). -/
def ampOf (m : ShotMeas) : Nat := satAt 2047 m.amp

/-- The values of a completed shot before the guard (R96, R101, R111, R116, R120, R141). -/
def State.measureShot (s : State) (n : Nat) (x : Shot) (m : ShotMeas) : Shot :=
  let cal := s.interp n x.chain
  let short := decide (x.stops.length < x.set.stopFirst + x.set.stopCount)
  let err := calErrOf cal.uCal m.u1 m.u2
  let times := x.stops.map (fun t => stopTime cal m.u1 m.u2 t.1 t.2)
  let w := x.widths m
  { x with
    phase := .judged, amp := ampOf m, w1 := w.1, w2 := w.2.1, w3 := w.2.2, calErr := err, short := short,
    aZc := if short ∨ err then 0 else arrival times x.set.stopFirst x.set.stopCount (tsOf x.set.zcEdge x.set.freq)
    presence := !err && !short && decide (x.set.ampMin ≤ ampOf m) && decide (ampOf m ≤ x.set.ampMax) }

/-- TOF in ft/256 from an arrival (R117). -/
def tofOf (x : Shot) (a : Int) : Int := a - (x.set.lockOfs : Int) * 256

/-- A TOF in ft/256 that is negative or above 2^32 − 1 ft (R118). -/
def tofRange (t : Int) : Bool := decide (t < 0) || decide ((2 ^ 32 - 1) * 256 < t)

/-- TIME_RANGE: a TOF or ΔT out of its range (R118). -/
def timeRangeOf (dn up : Int) : Bool :=
  tofRange dn || tofRange up || decide (up - dn < -(2 ^ 31)) || decide (2 ^ 31 - 1 < up - dn)

/-- The correlation at lag m over 512 samples (R129). -/
def correlate (x p : List Int) (m : Int) : Int :=
  sumInt ((List.range 512).map (fun (n : Nat) =>
    let j := (n : Int) - m
    if 0 ≤ j ∧ j < 512 then x.getD n 0 * p.getD j.toNat 0 else 0))

/-- The peak lag among m0 − r to m0 + r: the largest c, then nearer m0, then lower (R130). -/
def peakLag (c : Int → Int) (m0 : Int) (r : Nat) : Int :=
  (List.range r).foldl (fun best i =>
    let lo := m0 - ((i : Int) + 1)
    let hi := m0 + ((i : Int) + 1)
    let b := if c best < c lo then lo else best
    if c b < c hi then hi else b) m0

/-- A sub-sample offset in Q1.15 (R130); the spec states no rounding and no result for a zero denominator. -/
def deltaQ15 (cm c0 cp : Int) : Int :=
  let den := 2 * (cm - 2 * c0 + cp)
  if den = 0 then Config.freeDelta cm cp
  else if den < 0 then roundOpen 3 (-(cm - cp) * 32768) den.natAbs else roundOpen 3 ((cm - cp) * 32768) den.natAbs

/-- Refine one shot against the template: the refined arrival, or none where refinement fails (R129, R130). -/
def refineShot (x : Shot) (tpl : List Int) (org : Nat) (search : Nat) : Option Int :=
  let sPos : Int := ((x.capS.getD 0 : Nat) : Int)
  let m0 := roundHalfUp (x.aZc - sPos * 2 ^ 21 - org) (2 ^ 21)
  let c := correlate x.samples tpl
  let m := peakLag c m0 search
  if m = m0 - search ∨ m = m0 + search then none
  else some ((sPos + m) * 2 ^ 21 + deltaQ15 (c (m - 1)) (c m) (c (m + 1)) * 64 + org)

/-- INTEGER16 samples of a stored template, least significant byte first (R125). -/
def tplSamples (bytes : List Nat) : List Int := (List.range 512).map (fun i => toSigned 16 (leAt bytes (2 * i) 2))
def tplBytes (v : List Int) : List Nat := v.flatMap (fun x => leBytes 2 (ofSigned 16 x))

/-- COMPARATOR_ARM (R99, R105). -/
def execComparatorArm (path : Nat) (d : Dir) (s : State) : Out :=
  ifFitted s (decide (path < s.nPaths)) <|
    let r := s.path path
    let x := r.att.shot d
    confined s (if r.att.live then s.setPath path { r with att := r.att.setShot d (x.arm (s.shotAt x)) } else s)

/-- STOP_ACCEPTED (R100, R102, R109). -/
def execStopAccepted (path : Nat) (d : Dir) (code : Nat) (s : State) : Out :=
  ifFitted s (decide (path < s.nPaths)) <|
    let r := s.path path
    let x := r.att.shot d
    confined s (if r.att.live then s.setPath path { r with att := r.att.setShot d (x.stop (s.shotAt x) code) } else s)

/-- A stop of the shot is delivered by a command that waits for the current cycle (R37, R108). -/
def State.stopComing (s : State) (n : Nat) (d : Dir) : Bool :=
  s.pending.any (fun i => match i with | .stopAccepted m e _ => decide (m = n) && decide (e = d) | _ => false)

/-- RECEIVE_WINDOW_EXPIRY: from the last window cycle on, in which a stop suppresses it (R104, R108). -/
def execReceiveWindowExpiry (path : Nat) (d : Dir) (s : State) : Out :=
  ifFitted s (decide (path < s.nPaths)) <|
    let r := s.path path
    let x := r.att.shot d
    confined s (if r.att.live && decide (x.winEnd ≤ s.shotAt x) && !(decide (x.winEnd = s.shotAt x) && s.stopComing path d) then
      s.setPath path { r with att := r.att.setShot d x.expire } else s)

-- calibration of the interpolators (R112 to R114, R139, R140)

/-- Ask for a full calibration; requests of the same or a lesser kind during one are merged (R114). -/
def State.askFull (s : State) (d : Nat) : State :=
  if (s.die d).calRun = 1 then s else s.setDie d { s.die d with calFull := true }

/-- Ask for a quick check (R114). -/
def State.askQuick (s : State) (d : Nat) : State :=
  if (s.die d).calRun ≠ 0 then s else s.setDie d { s.die d with calQuick := true }

/-- No pair of the die is in progress (R114). -/
def State.dieQuiet (s : State) (d : Nat) : Bool :=
  (List.range 4).all (fun k => !(s.path (4 * d + k)).att.live && (s.path (4 * d + k)).refRun.isNone)

/-- A full calibration starts: CAL_STATUS 1, CAL_CYC, and waiting requests are served by it (R112, R139). -/
def State.startFull (s : State) (d : Nat) : State :=
  let r := s.die d
  ((s.setDie d { r with
    calFull := false, calQuick := false, calRun := 1, calStart := s.cyc
    calTemp := if r.tempSeen then some (s.gi 16 (K.die_DIE_TEMP d)) else none }).p (K.die_CAL_STATUS d) 1).p
      (K.die_CAL_CYC d) s.cyc

/-- The largest magnitude of the INL entries. -/
def inlMax (rs : List CalRes) : Nat := (rs.flatMap (·.inl)).foldl (fun m v => max m v.natAbs) 0

/-- What a full calibration yields: U_CAL and 64 INL entries of each of the eight interpolators (R112). -/
def calResultsOk (rs : List CalRes) : Bool := decide (rs.length = 8) && rs.all (fun r => decide (r.inl.length = 64))

/-- No calibration runs any more: CAL_STATUS is idle, or tells that the last full one failed (R139). -/
def State.calIdle (s : State) (d : Nat) : State :=
  (s.setDie d { s.die d with calRun := 0 }).p (K.die_CAL_STATUS d) (if (s.die d).calFailed then 3 else 0)

/-- A full calibration ends (R112, R140): a U_CAL out of band keeps the previous tables and logs the interpolator. -/
def State.endFull (s : State) (d : Nat) (rs : List CalRes) : State :=
  match indexOf (fun r => !r.inBand) rs with
  | some i =>
    ((s.setDie d { s.die d with calFailed := true }).calIdle d).ev d 2 d 0x1011 [i]
  | none =>
    (((s.setDie d { s.die d with calFailed := false, interp := rs }).calIdle d).p (K.die_INL_MAX d)
      (satAt 65535 (inlMax rs))).ev d 2 d 0x1011 [0xFF]

/-- Every measured INL segment lies within 64 ft/256 of the stored entry (R113). -/
def quickPasses (stored : List CalRes) (measured : List (List Int)) : Bool :=
  (List.range measured.length).all (fun i =>
    let m := measured.getD i []
    let t := (stored.getD i { uCal := 0, inl := [], inBand := true }).inl
    (List.range m.length).all (fun j => decide ((m.getD j 0 - t.getD j 0).natAbs ≤ 64)))

/-- What a quick check measures: up to 64 INL segments of each of the eight interpolators (R113). -/
def quickOk (m : List (List Int)) : Bool := decide (m.length = 8) && m.all (fun l => decide (l.length ≤ 64))

/-- The first interpolator that fails a quick check. -/
def quickFailing (stored : List CalRes) (measured : List (List Int)) : Nat :=
  (indexOf (fun i => !quickPasses [stored.getD i { uCal := 0, inl := [], inBand := true }] [measured.getD i []])
    (List.range measured.length)).getD 0xFF

/-- A quick check ends: a failing one logs 0x1012 and a full calibration starts at once (R113). -/
def State.endQuick (s : State) (d : Nat) (measured : List (List Int)) : State :=
  let st := (s.die d).interp
  if quickPasses st measured then s.calIdle d
  else (s.ev d 2 d 0x1012 [quickFailing st measured]).startFull d

/-- A calibration starts at a slot boundary of the die, the first burst cycle of one of its slots, or at a frame
boundary with SLOT_COUNT = 0 (R114). -/
def State.calPlace (s : State) (d : Nat) : Bool :=
  let r := s.die d
  let frame := decide (s.cyc = s.frameAt) || decide (s.cyc = cycPlus s.frameAt s.frameLen)
  if r.slotCount = 0 then frame
  else (List.range r.slotCount).any (fun i =>
    let ofs := field (r.slots.getD i 0) 35 4
    decide (s.cyc = cycPlus s.frameAt ofs) || (frame && decide (ofs = 0)))

/-- A requested calibration takes the boundary of the next cycle: no pair of the die is in progress (R114). -/
def State.calTakes (s : State) (d : Nat) : Bool :=
  ((s.die d).calFull || (s.die d).calQuick) && decide ((s.die d).calRun = 0) && s.dieQuiet d

/-- CAL_FULL_START (R112, R114). -/
def execCalFullStart (die : Nat) (s : State) : Out :=
  ifFitted s (decide (die < s.dies)) <|
    confined s (if (s.die die).calFull && decide ((s.die die).calRun = 0) && s.dieQuiet die && s.calPlace die then
      s.startFull die else s)

/-- CAL_FULL_DONE: 1 048 576 cyc after its start (R112, R140). -/
def execCalFullDone (die : Nat) (results : List CalRes) (s : State) : Out :=
  ifFitted s (decide (die < s.dies)) <|
    confined s (if decide ((s.die die).calRun = 1) && cycReached s.cyc (cycPlus (s.die die).calStart 1048576)
      && calResultsOk results then s.endFull die results else s)

/-- CAL_QUICK_START (R113, R114). -/
def execCalQuickStart (die : Nat) (s : State) : Out :=
  ifFitted s (decide (die < s.dies)) <|
    confined s (if (s.die die).calQuick && !(s.die die).calFull && decide ((s.die die).calRun = 0) && s.dieQuiet die
        && s.calPlace die then
      (s.setDie die { s.die die with calQuick := false, calRun := 2, calStart := s.cyc }).p (K.die_CAL_STATUS die) 2
    else s)

/-- CAL_QUICK_DONE: 16 384 cyc after its start (R113). -/
def execCalQuickDone (die : Nat) (measured : List (List Int)) (s : State) : Out :=
  ifFitted s (decide (die < s.dies)) <|
    confined s (if decide ((s.die die).calRun = 2) && cycReached s.cyc (cycPlus (s.die die).calStart 16384)
      && quickOk measured then s.endQuick die measured else s)

end Sys2Proof.Machine
end

