-- ==== Sys2Proof/Machine/Journal.lean ====
section
/-! DEFINITION. The entries of the kiln's journal (R450, R451), 16 bytes each; the configuration log keeps its records
in the same format (R438). -/

namespace Sys2Proof.Machine

/-- An entry: 12 bytes and a CRC-32C over what its layout names (R450). -/
def journalEntry (body covered : List Nat) : List Nat := body ++ leBytes 4 (crc32c covered)

/-- The first 12 bytes and the CRC of an entry. -/
def entryBody (e : List Nat) : List Nat := e.take 12
def entryCrc (e : List Nat) : List Nat := bytesAt e 12 4

/-- The body of a header, with COMMIT_CYC, and of a seal, with APPLY_CYC: FIRE_ID, P and a cycle (R450). -/
def cycleBody (id p cyc : Nat) : List Nat := leBytes 2 id ++ [p, 0] ++ leBytes 6 cyc ++ [0, 0]

/-- A bank's header (R450). -/
def journalHeader (id p cyc : Nat) : List Nat := journalEntry (cycleBody id p cyc) (cycleBody id p cyc)

/-- One record: an entry's index and sub-index, PART and 8 bytes of its value (R450). -/
def journalRecord (id key part : Nat) (data : List Nat) : List Nat :=
  let b := leBytes 2 (key / 256) ++ [key % 256, part] ++ bytesAt data (8 * part) 8
  journalEntry b (leBytes 2 id ++ b)

/-- The records of one action, one for each slot (R398, R450). -/
def journalRecords (id key : Nat) (data : List Nat) : List (List Nat) :=
  (List.range (max 1 ((data.length + 7) / 8))).map (fun j => journalRecord id key j data)

/-- The CRC of a seal covers the header's body where there is one, every record's CRC in order, and the seal's body
(R450; DEDUCED for the boundary bank, log entry 87). -/
def sealEntry (header : List Nat) (records : List (List Nat)) (id p cyc : Nat) : List Nat :=
  let b := cycleBody id p cyc
  journalEntry b (entryBody header ++ records.flatMap entryCrc ++ b)

/-- A header is valid and names a firing: its CRC matches (R450, R455). -/
def bankHeaderOk (id : Nat) (h : List Nat) : Bool :=
  decide (h.length = 16) && decide (leAt h 0 2 = id) && decide (entryCrc h = leBytes 4 (crc32c (entryBody h)))

/-- A sealed bank of a firing is valid: P records between its header and its seal, whose CRC covers them (R450). -/
def bankSealed (id : Nat) (bank : List (List Nat)) : Bool :=
  match bank with
  | [] => false
  | h :: rest =>
    let p := h.getD 2 0
    let e := rest.getD p []
    bankHeaderOk id h && decide (e.length = 16) && decide (entryBody e = cycleBody id p (leAt e 4 6)) &&
      decide (entryCrc e = leBytes 4 (crc32c (entryBody h ++ (rest.take p).flatMap entryCrc ++ entryBody e)))

/-- The boundary record (R418, R451). -/
def boundaryRecord (snapNo key cause tIn tOut steps : Nat) : List Nat :=
  let b := [steps, 0, tOut + 16 * tIn, cause] ++ leBytes 4 key ++ leBytes 4 snapNo
  journalEntry b b

/-- The boundary bank is valid: its record's CRC and its seal's match (R451, R455). -/
def boundSealed (bound : List (List Nat)) : Bool :=
  match bound with
  | [r, e] =>
    decide (entryCrc r = leBytes 4 (crc32c (entryBody r))) &&
      decide (entryCrc e = leBytes 4 (crc32c (entryCrc r ++ entryBody e)))
  | _ => false

-- firings and their banks (R413, R418, R450)

/-- Slots a firing has staged, and those of its persistent actions (R398, R413). -/
def FireRt.slots (f : FireRt) : Nat := f.stages.foldl (fun a g => a + g.slots) 0
def FireRt.pSlots (f : FireRt) : Nat := (f.stages.filter (·.persistent)).foldl (fun a g => a + g.slots) 0

/-- Free a journal bank: its header takes FIRE_ID 0x0000 (R450). -/
def State.freeBank (s : State) (bank : Option Nat) : State :=
  match bank with
  | none => s
  | some n =>
    let b := match s.ledger.banks.look [] n with
      | [] => []
      | h :: rest => (0 :: 0 :: h.drop 2) :: rest
    { s with ledger := { s.ledger with banks := s.ledger.banks.store [] n b } }

/-- Journal banks in use (R450): those of commits that have started, and of applied firings not yet retired. -/
def State.banksTaken (s : State) : List Nat :=
  [0, 1, 2].flatMap (fun o => (s.fire o).bank.toList ++ (s.fire o).held.filterMap (·.bank))

/-- A free journal bank (R450). -/
def State.bankFree (s : State) : Option Nat := [0, 1, 2].find? (fun n => decide (n ∉ s.banksTaken))

/-- The whole journal of a firing: header, a record for each slot of its persistent actions, and seal (R413, R450). -/
def State.journal (s : State) (o : Nat) : List (List Nat) :=
  let f := s.fire o
  let id := s.g (K.fire_FIRE_ID o)
  let h := journalHeader id f.pSlots (f.start.getD 0)
  let rs := (f.stages.filter (·.persistent)).flatMap (fun g => (List.range g.slots).map (fun j => journalRecord id g.key j g.data))
  h :: rs ++ [sealEntry h rs id f.pSlots (cycPlus f.castAt f.lead)]

/-- Journal entries of a commit written by now, 16 cycles each after its checks (R413). -/
def State.journalled (s : State) (o : Nat) : Nat :=
  let f := s.fire o
  match f.start with
  | none => 0
  | some c => (cycDiff s.cyc c - 2 * f.slots) / 16

/-- A bank holds the entries written by now (R413). -/
def State.journalBank (s : State) (o : Nat) : State :=
  match (s.fire o).bank with
  | none => s
  | some n =>
    let k := min (s.journalled o) (2 + (s.fire o).pSlots)
    if k ≤ (s.ledger.banks.look [] n).length then s
    else { s with ledger := { s.ledger with banks := s.ledger.banks.store [] n ((s.journal o).take k) } }

/-- The boundary record and its seal (R418, R451). Without a tariff switch T_IN is the tariff in force. -/
def State.boundaryEntries (s : State) (b : Boundary) : List (List Nat) :=
  let r := boundaryRecord b.snapNo b.key b.cause (b.tariff.getD s.bill.tariff) s.bill.tariff
    (ofBits [b.interval, b.billing, b.tariff.isSome, b.opens])
  [r, sealEntry [] [r] (s.g K.fire_BOUND_ID) 1 b.applyAt]

/-- The boundary bank holds what is written by now: the record and the seal, 16 cycles each (R418). -/
def State.journalBound (s : State) : State :=
  match s.bill.queue with
  | [] => s
  | b :: _ =>
    match b.start with
    | none => s
    | some c =>
      let k := min 2 (cycDiff s.cyc c / 16)
      if k ≤ s.ledger.bound.length then s
      else { s with ledger := { s.ledger with bound := (s.boundaryEntries b).take k } }

/-- One cycle of the kiln's journal (R413, R418). -/
def State.journalStep (s : State) : State := ([0, 1, 2].foldl (fun t o => t.journalBank o) s).journalBound

end Sys2Proof.Machine
end

