-- ==== Sys2Proof/Machine/Store.lean ====
section
/-! DEFINITION. The store of a die (R426 to R441): partitions, the gather buffer, line reads, scrubbing and passwords.
An operation that answers an access gives its abort code, 0 for success. -/

namespace Sys2Proof.Machine

-- abort codes (R612)

abbrev abNone : Nat := 0
abbrev abRange : Nat := 0x06090030
abbrev abRel : Nat := 0x06040043
abbrev abState : Nat := 0x08000022
abbrev abSeal : Nat := 0x08000021
abbrev abPass : Nat := 0x08000020
abbrev abLock : Nat := 0x06010000
abbrev abNoData : Nat := 0x08000024
abbrev abFollow : Nat := 0x06060000

/-- The number of an originator (R397). -/
def origNo : Orig → Nat | .host => 0 | .can => 1 | .internal => 2 | .boundary => 3

-- partitions

/-- Base line of a partition's plane 0 run, and its number of lines with both planes (R427, R428). -/
def State.partBase (s : State) (d p : Nat) : Nat :=
  match p with
  | 0 => 4
  | 1 => 2052
  | 2 => 1348
  | 3 => 1900
  | 4 => 1920
  | 5 => 1984
  | _ => (s.store d).base.look 0 p

/-- Lines of a partition in one run (R427, R428): on a follower partitions 0, 1, 2 and 5 do not exist. -/
def State.partRun (s : State) (d p : Nat) : Nat :=
  if d ≠ 0 ∧ (p = 0 ∨ p = 1 ∨ p = 2 ∨ p = 5) then 0
  else match p with
    | 0 => 1344
    | 1 => 1344
    | 2 => 552
    | 3 => 20
    | 4 => 64
    | 5 => 64
    | _ => (s.store d).count.look 0 p

/-- Partitions 2 to 5 have a second run 2048 lines higher (R427). -/
def twoRuns (p : Nat) : Bool := decide (2 ≤ p) && decide (p ≤ 5)

/-- Lines of a partition. -/
def State.partLines (s : State) (d p : Nat) : Nat := if twoRuns p then 2 * s.partRun d p else s.partRun d p

/-- The store line of a line of a partition: the second run follows the first (DESIGN CHOICE, log entry 23). -/
def State.partLine (s : State) (d p i : Nat) : Nat :=
  if s.partRun d p ≤ i then s.partBase d p + 2048 + (i - s.partRun d p) else s.partBase d p + i

/-- The partition a store line lies in. -/
def State.partOf (s : State) (d line : Nat) : Option Nat :=
  (List.range 16).find? (fun p =>
    let inRun (b : Nat) : Bool := decide (b ≤ line) && decide (line < b + s.partRun d p)
    inRun (s.partBase d p) || (twoRuns p && inRun (s.partBase d p + 2048)))

/-- PART_TABLE: base and count of the 16 partitions (R458); an absent partition reads as zeros. -/
def State.partTable (s : State) (d : Nat) : List Nat :=
  (List.range 16).flatMap (fun p =>
    let c := s.partRun d p
    if c = 0 then [0, 0, 0, 0] else leBytes 2 (s.partBase d p) ++ leBytes 2 c)

-- the entries of the selected die

/-- STORE_STAT of a die (R459). -/
def StoreRt.stat (r : StoreRt) : Nat :=
  ofBits [decide (r.run ≠ []), r.scrub, decide (r.staging ≠ 0), r.recovering, r.lineFail, r.lineTorn]

/-- Write the entries of 0x2B00 that describe the die DIE_SEL names (R458). -/
def State.syncStore (s : State) : State :=
  let r := s.store (s.g K.st_DIE_SEL)
  s.ps [(K.st_STORE_STAT, r.stat), (K.st_CE_COUNT, r.ce), (K.st_RS_COUNT, r.rs), (K.st_UE_COUNT, r.ue),
    (K.st_GATHER_COUNT, r.gathers), (K.st_LEDGER_CE, r.ledgerCe), (K.st_LEDGER_TIE_COUNT, r.tie),
    (K.st_LEDGER_REPAIR_COUNT, r.repair), (K.st_PF_COUNT, r.pf), (K.st_PF_CYC, r.pfCyc), (K.st_SCRUB_DAYS, r.scrubDays)]

/-- Replace a die's store and its entries. -/
def State.putStore (s : State) (d : Nat) (r : StoreRt) : State := (s.setStore d r).syncStore

-- the gather buffer

/-- Cycles of the gather wait, 1 ms (R429). -/
abbrev gatherWait : Nat := 24576

/-- Put a line into the buffer: a line already there is replaced (R429). -/
def bufPut (buf : List (Nat × List Nat)) (line : Nat) (data : List Nat) : List (Nat × List Nat) :=
  if buf.any (fun e => e.1 == line) then buf.map (fun e => if e.1 = line then (line, data) else e)
  else buf ++ [(line, data)]

/-- The lines of a commit in the order they are written: plane 0 ascending, then plane 1 (R430). -/
def planeOrder (l : List (Nat × List Nat)) : List (Nat × List Nat) := sortBy (fun a b => decide (a.1 ≤ b.1)) l

/-- Begin the commit of the first eight lines (R429, R430). -/
def StoreRt.begin (r : StoreRt) (now : Nat) : StoreRt :=
  { r with run := planeOrder (r.buf.take 8), buf := r.buf.drop 8, bufAt := now }

/-- Write a line: an eighth distinct line commits the buffer, unless a commit runs (R429). -/
def StoreRt.write (r : StoreRt) (now line : Nat) (data : List Nat) : StoreRt :=
  let r1 := { r with buf := bufPut r.buf line data, bufAt := if r.buf = [] then now else r.bufAt }
  if 8 ≤ r1.buf.length ∧ r1.run = [] then r1.begin now else r1

/-- Ask for a flush: the buffer commits at once, or after the running commit. -/
def StoreRt.flush (r : StoreRt) (now : Nat) : StoreRt :=
  if r.buf ≠ [] ∧ r.run = [] then r.begin now else { r with bufAt := cycDiff now gatherWait }

/-- A write of one line on a die. -/
def State.gatherLine (s : State) (d line : Nat) (data : List Nat) : State :=
  s.putStore d ((s.store d).write s.cyc line data)

/-- Lines in groups of eight. -/
def groups8 : Nat → List (Nat × List Nat) → List (List (Nat × List Nat))
  | 0, _ => []
  | n + 1, l => if l = [] then [] else l.take 8 :: groups8 n (l.drop 8)

/-- Lines that wait for commits of their own, eight at a time, behind what waits already. -/
def State.queueLines (s : State) (d : Nat) (l : List (Nat × List Nat)) : State :=
  let batches := groups8 l.length l
  let r := s.store d
  if r.run = [] ∧ r.buf = [] ∧ r.queued = [] then
    match batches with
    | [] => s
    | b :: rest => s.putStore d ({ r with buf := b, queued := rest }.begin s.cyc)
  else s.putStore d { r with queued := r.queued ++ batches }

-- device objects in two copies (R436, R437)

/-- A device object of a store: first line of copy A, lines of a copy, and its OBJ code; copy B begins 2048 lines above.
-/
structure StoreObj where
  first : Nat
  lines : Nat
  code  : Nat
  deriving DecidableEq, Repr

/-- First line of the configuration base and of the configuration log (R427, R438). -/
abbrev cfgBase : Nat := 1920
abbrev cfgLog : Nat := 1968

/-- The device object a line belongs to (R427, R428, R436): snapshots on D0 alone. -/
def objAt (d line : Nat) : Option StoreObj :=
  let l := line % 2048
  if d = 0 ∧ 1348 ≤ l ∧ l < 1900 then some { first := 1348 + (l - 1348) / 23 * 23, lines := 23, code := 1 }
  else if 1900 ≤ l ∧ l < 1920 then some { first := 1900 + (l - 1900) / 5 * 5, lines := 5, code := 2 }
  else if cfgBase ≤ l ∧ l < cfgLog then some { first := cfgBase, lines := 48, code := 3 }
  else none

/-- First line of the copy that holds a line. -/
def StoreObj.copy (o : StoreObj) (line : Nat) : Nat := if line < 2048 then o.first else o.first + 2048

/-- The lines of a copy, whose bytes the model does not know. -/
def StoreObj.all (o : StoreObj) (copy : Nat) : List (Nat × List Nat) := (List.range o.lines).map (fun i => (copy + i, []))

/-- GEN of a copy (R436). -/
def StoreRt.gen (r : StoreRt) (copy : Nat) : Nat := r.gens.look 0 copy

/-- A copy is valid: none of its lines reads as uncorrectable, and its CRC matches (R437). -/
def StoreRt.copyOk (r : StoreRt) (o : StoreObj) (copy : Nat) : Bool :=
  decide (copy ∉ r.mixed) && r.bad.all (fun l => !(decide (copy ≤ l) && decide (l < copy + o.lines)))

/-- An object is written at the next GEN: copy A first, copy B only after its commits (R436, R437). -/
def State.writeObject (s : State) (d : Nat) (o : StoreObj) : State :=
  let r := s.store d
  let g := wrap32 (max (r.gen o.first) (r.gen (o.first + 2048)) + 1)
  (((s.setStore d { r with goals := (r.goals.store 0 o.first (g + 1)).store 0 (o.first + 2048) (g + 1) }).queueLines d
    (o.all o.first))).queueLines d (o.all (o.first + 2048))

/-- A copy is rewritten from the other one, which is the one used, and event 0x4003 is logged (R437). -/
def State.rewriteCopy (s : State) (d : Nat) (o : StoreObj) (copy used : Nat) : State :=
  let r := s.store d
  ((s.setStore d { r with goals := r.goals.store 0 copy (r.gen used + 1) }).queueLines d (o.all copy)).ev d 2 d 0x4003
    [o.code]

/-- Neither copy is valid: the object is lost, and what it held with it (R437). -/
def State.loseObject (s : State) (d : Nat) (o : StoreObj) : State :=
  let t := s.declare d 2 d 0x4005 [o.code]
  if o.code = 1 then
    let snaps := s.bill.snaps.filter (fun e => decide ((e.1 + 23) % 24 ≠ (o.first - 1348) / 23))
    ({ t with bill := { t.bill with snaps := snaps } }).p K.snap_SNAP_COUNT snaps.length
  else if o.code = 2 then { t with saved := t.saved.store [] (K.path_TEMPLATE (4 * d + (o.first - 1900) / 5)) [] }
  else { t with saved := t.saved.keep (fun k => decide (k ∈ (List.range 32).map K.path_TEMPLATE)) }

/-- The copies of an object are compared (R437): the valid one with the higher GEN is used, and the other one is
rewritten from it where it is invalid or older. A copy whose write is due is left to it. -/
def State.resolveObject (s : State) (d : Nat) (o : StoreObj) : State :=
  let r := s.store d
  let a := o.first
  let b := o.first + 2048
  let aOk := r.copyOk o a
  let bOk := r.copyOk o b
  if r.goals.look 0 a ≠ 0 ∨ r.goals.look 0 b ≠ 0 then s
  else if aOk && (!bOk || decide (r.gen b < r.gen a)) then s.rewriteCopy d o b a
  else if bOk && (!aOk || decide (r.gen a < r.gen b)) then s.rewriteCopy d o a b
  else if !aOk && !bOk then s.loseObject d o
  else s

/-- The gather wait has passed (R429). -/
def State.gatherDue (s : State) (d : Nat) : State :=
  let r := s.store d
  if r.buf ≠ [] ∧ r.run = [] ∧ gatherWait ≤ cycDiff s.cyc r.bufAt then s.putStore d (r.begin s.cyc) else s

/-- GATHER_WAIT_EXPIRY (R429, R430). -/
def execGatherWaitExpiry (die : Nat) (s : State) : Out :=
  ifFitted s (decide (die < s.dies)) (confined s (s.gatherDue die))

/-- A line of a copy is in the array: with the last line of its write the copy has the new GEN, before it holds lines of
two writes (R436, R437). -/
def StoreRt.landLine (r : StoreRt) (d line : Nat) : StoreRt :=
  match objAt d line with
  | none => r
  | some o =>
    let c := o.copy line
    let g := r.goals.look 0 c
    if g = 0 then r
    else if line + 1 = c + o.lines then
      { r with gens := r.gens.store 0 c (g - 1), goals := r.goals.store 0 c 0, mixed := r.mixed.filter (· != c) }
    else { r with mixed := insertNat c r.mixed }

/-- Put committed lines into the array. -/
def StoreRt.land (r0 : StoreRt) (d : Nat) : StoreRt :=
  let r := r0.run.foldl (fun t e => t.landLine d e.1) r0
  { r with
    lines := r.run.foldl (fun t e => t.store [] e.1 e.2) r.lines
    torn := r.torn.filter (fun l => r.run.all (fun e => e.1 != l))
    bad := r.bad.filter (fun l => r.run.all (fun e => e.1 != l))
    run := [], gathers := wrap32 (r.gathers + 1)
    staging := if r.run.any (fun e => e.1 + 1 == r.staging) then 0 else r.staging }

/-- What follows a commit: an object's next lines, or a full or overdue buffer (R429, R437). -/
def StoreRt.next (r : StoreRt) (now : Nat) : StoreRt :=
  if 8 ≤ r.buf.length ∨ (r.buf ≠ [] ∧ gatherWait ≤ cycDiff now r.bufAt) then r.begin now
  else match r.queued with
    | [] => r
    | b :: rest => { r with run := planeOrder b, queued := rest }

/-- Values whose lines a commit has put into the array are held in the store (R436, R438). -/
def State.settle (s : State) (d : Nat) (lines : List Nat) : State :=
  let mine (e : Nat × Nat × Nat × List Nat) : Bool := decide (e.1 = d) && decide (e.2.1 ∈ lines)
  { s with
    saved := (s.unsaved.filter mine).foldl (fun t e => t.store [] e.2.2.1 e.2.2.2) s.saved
    unsaved := s.unsaved.filter (fun e => !mine e) }

/-- GATHER_COMMIT_DONE: the GATHER record returns to idle (R430). -/
def execGatherCommitDone (die : Nat) (s : State) : Out :=
  ifFitted s (decide (die < s.dies)) <|
    let r := s.store die
    confined s (if r.run = [] then s
      else (s.putStore die ((r.land die).next s.cyc)).settle die (r.run.map (·.1)))

/-- A line of the configuration log's copy A, sixteen records (R438). -/
def cfgLogLine (recs : List (List Nat)) (i : Nat) : List Nat := padTo 256 ((recs.drop (16 * i)).take 16).flatten

/-- The configuration log is cleared once a new base that merges it is written, copy A first (R438). -/
def State.newBase (s : State) : State :=
  let zero (l : Nat) : Nat × List Nat := (l, List.replicate 256 0)
  let t := s.writeObject 0 { first := cfgBase, lines := 48, code := 3 }
  ((t.setStore 0 { t.store 0 with cfgRecs := [] }).queueLines 0 ((List.range 16).map (fun i => zero (cfgLog + i)))).queueLines 0
    ((List.range 16).map (fun i => zero (cfgLog + 2048 + i)))

/-- Append a value to the configuration log, as the records of one action of the firing `id`, 0 for a direct write: copy
A and then copy B; with fewer than 64 free records left a new base is written (R438). -/
def State.appendLog (s : State) (id key : Nat) (bytes : List Nat) : State :=
  let r := s.store 0
  let recs := r.cfgRecs ++ journalRecords id key bytes
  let lines := ((List.range 16).drop (r.cfgRecs.length / 16)).take ((recs.length - 1) / 16 + 1 - r.cfgRecs.length / 16)
  let last := cfgLog + (recs.length - 1) / 16
  let s1 : State := { s with unsaved := s.unsaved ++ [(0, last, key, bytes)] }
  let s2 := lines.foldl (fun t i => t.gatherLine 0 (cfgLog + i) (cfgLogLine recs i)) s1
  let s3 := s2.putStore 0 { s2.store 0 with
    queued := (s2.store 0).queued ++ [lines.map (fun i => (cfgLog + 2048 + i, cfgLogLine recs i))], cfgRecs := recs }
  if 192 < recs.length then s3.newBase else s3

/-- A template is written to the store of its die (R427, R436). -/
def State.storeTemplate (s : State) (path : Nat) : State :=
  let d := path / 4
  let line := 1900 + 5 * (path % 4)
  let k := K.path_TEMPLATE path
  { s with unsaved := s.unsaved ++ [(d, line + 4, k, s.blobs.look [] k)] }.writeObject d { first := line, lines := 5, code := 2 }

-- decoding a line (R433)

/-- The outcome of decoding a store line (R434): the words the inner code corrected, the bytes the outer code
corrected, or an uncorrectable line. -/
inductive LineOutcome where
  | ok (innerWords : Nat) (outerBytes : Nat)
  | uncorrectable
  deriving DecidableEq, Repr

/-- SECDED (72,64) flags a word with two wrong bits; with more it flags it or takes it for corrected, as its operand
says (DEDUCED, log entry 83). -/
def wordFlagged (w : WordErr) : Bool := decide (w.bits = 2) || (decide (3 ≤ w.bits) && w.flagged)

/-- It takes a word for corrected: one with a single wrong bit, and one with more that it does not flag. -/
def wordCorrected (w : WordErr) : Bool := decide (w.bits ≠ 0) && !wordFlagged w

/-- Byte errors a word brings into the codeword of the even bytes, 0, or of the odd ones, 1 (R433). -/
def wordErrors (w : WordErr) (c : Nat) : Nat :=
  if 3 ≤ w.bits ∧ wordFlagged w = false then (w.bytes.dedup.filter (fun b => decide (b < 8) && decide (b % 2 = c))).length else 0

/-- Byte errors e and erasures f of a codeword: a flagged word is 4 erasures in each (R433). -/
def codewordErrors (l : List WordErr) (c : Nat) : Nat := l.foldl (fun n w => n + wordErrors w c) 0
def erasures (l : List WordErr) : Nat := 4 * l.countP wordFlagged

/-- A codeword corrects e errors and f erasures with 2e + f ≤ 4 (R433). -/
def codewordOk (l : List WordErr) (c : Nat) : Bool := decide (2 * codewordErrors l c + erasures l ≤ 4)

/-- The inner code, then the two interleaved codewords of the outer code (R433). -/
def decodeLine (l : List WordErr) : LineOutcome :=
  if codewordOk l 0 && codewordOk l 1 then
    .ok (l.countP wordCorrected) (codewordErrors l 0 + codewordErrors l 1 + 2 * erasures l)
  else .uncorrectable

/-- The words of a line, each named once (R433). -/
def errsOk (l : List WordErr) : Bool :=
  decide (l.map (·.word)).Nodup && l.all (fun w => decide (w.word ≤ 32) && decide (w.bits ≤ 72))

-- reading lines

/-- A line of a device object is uncorrectable: its copy is not valid (R437). -/
def State.lineLost (s : State) (d line : Nat) : State :=
  match objAt d line with
  | none => s
  | some o => (s.setStore d { s.store d with bad := insertNat line (s.store d).bad }).resolveObject d o

/-- What a line holds: the gather buffer's content, the running commit's, or the array's (R431). -/
def State.lineData (s : State) (d line : Nat) : List Nat :=
  let r := s.store d
  match (r.buf.find? (fun e => e.1 == line)).or (r.run.find? (fun e => e.1 == line)) with
  | some e => if e.2 = [] then (List.range 256).map (Config.storeBlank d line) else e.2
  | none =>
    let c := r.lines.look [] line
    if c ≠ [] then c
    else match s.partOf d line with
      | some p => if 6 ≤ p then List.replicate 256 0 else (List.range 256).map (Config.storeBlank d line)
      | none => (List.range 256).map (Config.storeBlank d line)

/-- A line is read from the array and decoded (R434): the state, and whether data is returned. A scrub rewrites a line
of which the inner code corrected 4 or more words (R435). -/
def State.readLine (s : State) (d line : Nat) (o : LineOutcome) (scrub : Bool) : State × Bool :=
  let r := s.store d
  let rewrite (t : State) : State :=
    let q := t.store d
    if q.buf.any (fun e => e.1 == line) || q.run.any (fun e => e.1 == line) then t
    else t.putStore d (q.write t.cyc line (q.lines.look [] line))
  match o with
  | .ok inner outer =>
    if outer = 0 then
      let s1 := s.putStore d { r with ce := wrap32 (r.ce + inner) }
      (if scrub && decide (4 ≤ inner) then rewrite s1 else s1, true)
    else
      let part := (s.partOf d line).getD 16
      let s1 := (s.putStore d { r with rs := wrap32 (r.rs + 1) }).onceEv (32 * d + part) d 2 d 0x4001 (leBytes 2 line)
      (rewrite s1, true)
  | .uncorrectable =>
    let s1 := (s.putStore d { r with ue := wrap32 (r.ue + 1) }).declare d 2 d 0x4002 (leBytes 2 line)
    (s1.lineLost d line, false)

/-- The die's store can be read: the die is up and powered (R471, R532). -/
def State.storeRuns (s : State) (d : Nat) : Bool := decide (d < s.dies) && (s.die d).up && decide (s.pstate d ≤ 2)

/-- Cycles between two lines of a scrub pass: 4096 lines in SCRUB_DAYS days, at a steady rate (R435). -/
def StoreRt.scrubStep (r : StoreRt) : Nat := r.scrubDays * (86400 * cycPerSecond / 4096)

/-- The next line of a pass is due. -/
def State.scrubDue (s : State) (d line : Nat) : Bool :=
  let r := s.store d
  s.storeRuns d && decide (line = r.scrubLine) && cycReached s.cyc (cycPlus r.scrubAt r.scrubStep)

/-- SCRUB_READ: the next line of a scrub pass (R435). -/
def execScrubRead (die line : Nat) (errs : List WordErr) (s : State) : Out :=
  ifFitted s (decide (die < s.dies) && decide (line < 4096) && errsOk errs) <|
    if !s.scrubDue die line then confined s s
    else
      let s1 := (s.readLine die line (decodeLine errs) true).1
      confined s (s1.putStore die { s1.store die with
        scrub := decide (line < 4095), scrubLine := (line + 1) % 4096, scrubAt := s.cyc })

-- passwords

/-- A partition is locked in this cycle: the lock has ended in its expiry cycle (R441). -/
def State.partLocked (s : State) (d p : Nat) : Bool :=
  let e := (s.store d).lockEnd.look 0 p
  decide (e ≠ 0) && !cycReached s.cyc (e - 1)

/-- A password of eight zero bytes means none (R439). -/
def noPassword (pw : List Nat) : Bool := pw.all (· == 0)

/-- The password of a kind: 1 read, 2 write. -/
def StoreRt.password (r : StoreRt) (p kind : Nat) : List Nat :=
  if kind = 1 then r.readPw.look [] p else r.writePw.look [] p

/-- An originator may use a kind of raw access (R439, R440). -/
def State.partOpen (s : State) (who d p kind : Nat) : Bool :=
  noPassword ((s.store d).password p kind) || (s.store d).unlocked.any (fun u => u == (who, p, kind))

/-- Eight bytes equal to the password; eight zeros are the password of a partition without one. -/
def samePassword (pw bytes : List Nat) : Bool := if noPassword pw then noPassword bytes else pw == bytes

/-- A wrong password: counted, and the third in a row locks the partition (R440, R441). -/
def State.wrongPassword (s : State) (d p : Nat) : State :=
  let r := s.store d
  let s1 := s.ev d 2 d 0x4007 [p]
  let n := r.wrong.look 0 p + 1
  if n < 3 then s1.putStore d { r with wrong := r.wrong.store 0 p n }
  else
    let k := r.lockK.look 0 p
    let secs := 60 * 2 ^ k
    (s1.putStore d { r with
      wrong := r.wrong.store 0 p 0, lockK := r.lockK.store 0 p (min 10 (k + 1))
      lockEnd := r.lockEnd.store 0 p (cycPlus s.cyc (secs * cycPerSecond) + 1) }).ev d 2 d 0x4006 (p :: leBytes 4 secs)

/-- UNLOCK of a partition (R440, R441): the state and the abort code. -/
def State.unlockPart (s : State) (who d : Nat) (bytes : List Nat) : State × Nat :=
  let p := bytes.getD 0 0
  let kind := bytes.getD 1 0
  if 15 < p ∨ (kind ≠ 1 ∧ kind ≠ 2) then (s, abRange)
  else if s.partLocked d p then (s, abSeal)
  else
    let r := s.store d
    if samePassword (r.password p kind) (bytesAt bytes 2 8) then
      (s.putStore d { r with
        wrong := r.wrong.store 0 p 0, lockK := r.lockK.store 0 p 0
        unlocked := if (who, p, kind) ∈ r.unlocked then r.unlocked else r.unlocked ++ [(who, p, kind)] }, abNone)
    else (s.wrongPassword d p, abPass)

/-- RELOCK of a partition for its originator (R440). -/
def State.relockPart (s : State) (who d p : Nat) : State :=
  let r := s.store d
  s.putStore d { r with unlocked := r.unlocked.filter (fun u => !(u.1 == who && u.2.1 == p)) }

/-- PARTITION_LOCK_EXPIRY (R441). -/
def execPartitionLockExpiry (die part : Nat) (s : State) : Out :=
  ifFitted s (decide (die < s.dies) && decide (part < 16)) <|
    let r := s.store die
    let e := r.lockEnd.look 0 part
    confined s (if e ≠ 0 ∧ cycReached s.cyc (e - 1) then
      s.putStore die { r with lockEnd := r.lockEnd.store 0 part 0 } else s)

/-- LOCK_STAT as an originator reads it (R460). -/
def State.lockStat (s : State) (who d : Nat) : Nat :=
  let bits (f : Nat → Bool) : Nat := ofBits ((List.range 16).map f)
  let opened (kind : Nat) : Nat → Bool := fun p => (s.store d).unlocked.any (fun u => u == (who, p, kind))
  bits (s.partLocked d) + 2 ^ 16 * bits (opened 1) + 2 ^ 32 * bits (opened 2)

-- user partitions

/-- The runs of the free area (R428). -/
def freeRuns : List (Nat × Nat) := [(4, 1899), (1984, 2047), (2052, 3947), (4032, 4095)]

/-- PART_DEF (R428, R458): the state and the abort code. -/
def State.definePart (s : State) (who d : Nat) (bytes : List Nat) : State × Nat :=
  let p := bytes.getD 0 0
  let base := leAt bytes 2 2
  let n := leAt bytes 4 2
  let r := s.store d
  let old := r.count.look 0 p
  if d = 0 ∨ p < 6 ∨ 15 < p ∨ n = 0 ∨ 1896 < n then (s, abRange)
  else if !freeRuns.any (fun f => decide (f.1 ≤ base) && decide (base + n ≤ f.2 + 1)) then (s, abRel)
  else if (List.range 10).any (fun i => decide (i + 6 ≠ p) && decide (r.count.look 0 (i + 6) ≠ 0)
      && decide (base < r.base.look 0 (i + 6) + r.count.look 0 (i + 6)) && decide (r.base.look 0 (i + 6) < base + n)) then
    (s, abRel)
  else if decide (old ≠ 0) && !s.partOpen who d p 2 then (s, abLock)
  else
    let clear (t : Tab (List Nat)) : Tab (List Nat) :=
      if old = 0 then t.keep (fun l => !(decide (base ≤ l) && decide (l < base + n))) else t
    (s.putStore d { r with
      base := r.base.store 0 p base, count := r.count.store 0 p n
      readPw := r.readPw.store [] p (bytesAt bytes 6 8), writePw := r.writePw.store [] p (bytesAt bytes 14 8)
      lines := clear r.lines }, abNone)

-- raw access

/-- A write of LINE_DATA by an originator, 256 bytes (R439, R458): the state and the abort code. -/
def State.writeLineData (s : State) (who : Nat) (bytes : List Nat) : State × Nat :=
  let d := s.g K.st_DIE_SEL
  let p := s.g K.st_PART_SEL
  if s.partLines d p ≤ s.g K.st_LINE_SEL then (s, abRange)
  else if p < 6 then (s, abState)
  else if !s.partOpen who d p 2 then (s, abLock)
  else (s.gatherLine d (s.partLine d p (s.g K.st_LINE_SEL)) bytes, abNone)

/-- A read of LINE_DATA by an originator (R431, R434, R439, R458): the state, the abort code and the bytes. -/
def State.readLineData (s : State) (who : Nat) (o : LineOutcome) : State × Nat × List Nat :=
  let d := s.g K.st_DIE_SEL
  let p := s.g K.st_PART_SEL
  if s.partLines d p ≤ s.g K.st_LINE_SEL then (s, abRange, [])
  else if !s.partOpen who d p 1 then (s, abLock, [])
  else
    let line := s.partLine d p (s.g K.st_LINE_SEL)
    let r := s.store d
    let data := s.lineData d line
    if r.buf.any (fun e => e.1 == line) || r.run.any (fun e => e.1 == line) then
      (s.putStore d { r with lineFail := false, lineTorn := false }, abNone, data)
    else
      let a := s.readLine d line o false
      let t := a.1.putStore d { a.1.store d with lineFail := !a.2, lineTorn := decide (line ∈ r.torn) }
      if a.2 then (t, abNone, data) else (t, abNoData, [])

end Sys2Proof.Machine
end

