-- ==== Sys2Proof/Machine/Qualify.lean ====
section
/-! DEFINITION. Echo qualification (R141 to R173): the guard, the class of an attempt, gain control, the fallback,
learning, the path record, and failed slots and path faults. -/

namespace Sys2Proof.Machine

/-- A target is locked by a firing whose commit has started (R410). -/
def State.locked (s : State) (k : Nat) : Bool :=
  [0, 1, 2].any (fun o => (s.fire o).start.isSome && (s.fire o).stages.any (fun g => g.key == k))

/-- A write of an entry after it was staged makes its firing conflict; the lowest such stage is kept (R411). A write in
the stage's own cycle counts as earlier. -/
def State.noteWrite (s : State) (k : Nat) : State :=
  [0, 1, 2].foldl (fun t o =>
    let f := t.fire o
    if f.start.isSome then t
    else match indexOf (fun g => g.key == k && g.cyc != t.cyc) f.stages with
      | none => t
      | some i => t.setFire o { f with dirty := some (f.dirty.elim i (min i)) }) s

/-- A device-internal update of an entry: dropped on a locked target, and a write for the conflict check otherwise
(R410, R411). -/
def State.internal (s : State) (k v : Nat) : State := if s.locked k then s else (s.noteWrite k).p k v

/-- Ratio of two widths in unsigned Q4.12, truncated and saturated (R144). -/
def ratioQ12 (a b : Nat) : Nat := satAt 65535 (a * 4096 / b)

/-- Half-width of a reference band (R145). -/
def bandHalf (ref tol : Nat) : Nat := ref * tol / 1000

/-- A ratio against its band: below 0, within 1, above 2 (R145). -/
def bandSide (r ref tol : Nat) : Nat :=
  let h := bandHalf ref tol
  if r + h < ref then 0 else if ref + h < r then 2 else 1

/-- Judge a measured shot by the cycle-skip guard (R143, R144, R146). -/
def Attempt.guard (a : Attempt) (x : Shot) : Shot :=
  if !(x.presence && a.bandOk && !a.fb && !a.learning) then { x with guardApplied := false, guardOk := true }
  else if x.w1 = 0 ∨ x.w2 = 0 ∨ x.w3 = 0 then { x with guardApplied := true, guardOk := false, guardInc := true }
  else
    let s12 := bandSide (ratioQ12 x.w1 x.w2) a.ref12 a.tol
    let s13 := bandSide (ratioQ12 x.w1 x.w3) a.ref13 a.tol
    let ok := decide (s12 = 1) && decide (s13 = 1)
    let late := decide (s12 = 2) || (decide (s12 = 1) && decide (s13 = 2))
    { x with guardApplied := true, guardOk := ok, skipLate := !ok && late, skipEarly := !ok && !late }

/-- A shot was taken and fails the presence checks. -/
def Shot.fails (x : Shot) : Bool := decide (x.phase = .judged) && !x.presence

/-- A shot was taken and fails the guard. -/
def Shot.guardFails (x : Shot) : Bool := decide (x.phase = .judged) && !x.guardOk

/-- First-pass TOF of a direction in ft/256 (R117). -/
def Attempt.tof (a : Attempt) (d : Dir) : Int := tofOf (a.shot d) (a.shot d).aZc

/-- A shot has a TOF: it was taken, and is marked neither CAL_ERR nor STOP_SHORT (R111, R120). -/
def Shot.timed (x : Shot) : Bool := decide (x.phase = .judged) && !x.calErr && !x.short

/-- TIME_RANGE of an attempt: a TOF it has is out of range, or the ΔT of two (R118). -/
def Attempt.outOfTime (a : Attempt) : Bool :=
  (a.dn.timed && tofRange (a.tof .dn)) || (a.up.timed && tofRange (a.tof .up)) ||
    (a.dn.timed && a.up.timed && timeRangeOf (a.tof .dn) (a.tof .up))

/-- The crossed amplitude check fails (R156). -/
def Attempt.xampFails (a : Attempt) : Bool :=
  !a.seq && a.dn.presence && a.up.presence && decide (a.xamp ≠ 0) && !xampOk a.dn.amp a.up.amp a.xamp

/-- The class of a completed attempt: the first matching row (R158). -/
def Attempt.classOf (a : Attempt) : Cls :=
  if a.dn.fails && a.up.fails then .L
  else if a.dn.fails || a.up.fails then .H
  else if a.dn.guardFails || a.up.guardFails then .S
  else if a.outOfTime then .L
  else if a.xampFails then .H
  else .V

/-- The attempt with its class and the flags of its decision. -/
def Attempt.decided (a : Attempt) : Attempt :=
  { a with live := false, cls := some a.classOf, timeRange := a.outOfTime, xampFail := a.xampFails,
           guardOff := (a.dn.presence && !a.dn.guardApplied) || (a.up.presence && !a.up.guardApplied) }

/-- The counter a class increments (R158): row 2 by the failing direction, row 5 XAMP_COUNT. -/
def clsCounter (n : Nat) (a : Attempt) : Nat :=
  match a.classOf with
  | .L => K.rec_LOST_COUNT n
  | .S => K.rec_SKIP_COUNT n
  | .V => K.rec_PAIRS_OK n
  | .H => if a.dn.fails then K.rec_HALF_DN_COUNT n else if a.up.fails then K.rec_HALF_UP_COUNT n
          else K.rec_XAMP_COUNT n

/-- Numbers of the classes in OUTCOME (R171) and in event 0x102A and OUTCOME_FAULT (R167, R171). -/
def clsOutcome : Cls → Nat | .V => 0 | .H => 1 | .L => 2 | .S => 3
def clsKind : Cls → Nat | .V => 0 | .L => 1 | .H => 2 | .S => 3

/-- AMP of the shots taken: sum and number (R98). -/
def Attempt.ampSum (a : Attempt) : Nat × Nat :=
  if a.dn.phase = .judged ∧ a.up.phase = .judged then (a.dn.amp + a.up.amp, 2)
  else if a.dn.phase = .judged then (a.dn.amp, 1) else (a.up.amp, 1)

/-- Gain control after a completed pair (R98). A user's write of GAIN in the same cycle stands (R134). -/
def State.agc (s : State) (n : Nat) (a : Attempt) : State :=
  if s.g (K.path_AGC_MODE n) = 0 ∨ (s.path n).gainCyc = some s.cyc then s
  else
    let step := agcStep (s.g (K.path_AMP_TARGET n)) a.ampSum.1 a.ampSum.2 (s.g (K.path_AGC_STEP n))
    s.internal (K.path_GAIN n) (clampInt 0 120 (s.g (K.path_GAIN n) + step)).toNat

/-- THR_FB (R150). -/
def State.thrFb (s : State) (n : Nat) : Nat :=
  (clampInt 1 1023 (s.g (K.rec_AMP_AVG n) * s.g (K.path_FB_FRAC n) / 200 : Nat)).toNat

/-- The fallback's own update by a completed attempt (R152 to R155). While it is suspended by learning or FB_MODE is not
1, no attempt counts towards engagement, but one of another class still resets the run (R152, R154). -/
def State.fallback (s : State) (n : Nat) (a : Attempt) : State :=
  let r := s.path n
  if s.g (K.path_FB_MODE n) ≠ 1 ∨ r.learn.isSome ∨ a.learning then
    if a.classOf = .S ∨ r.fbActive then s else s.setPath n { r with fbRun := 0 }
  else if r.fbActive then
    if !a.probe then s
    else if a.classOf = .V then
      (s.setPath n { r with fbActive := false, fbProbe := 0, fbRun := 0 }).ev (n / 4) 1 (locPath n) 0x1026
        (leBytes 2 (s.thrFb n))
    else s.setPath n { r with fbProbe := 0 }
  else
    let run := if a.classOf = .S then r.fbRun + 1 else 0
    if s.g (K.path_FB_ENTER n) ≤ run ∧ s.g (K.rec_AMP_AVG n) ≠ 0 then
      ((s.setPath n { r with fbActive := true, fbRun := 0, fbProbe := 0 }).inc (K.rec_FB_COUNT n)).ev (n / 4) 1
        (locPath n) 0x1025 (leBytes 2 (s.thrFb n))
    else s.setPath n { r with fbRun := run }

/-- A half-pair: counted, and logged at the window's first with the previous window's number (R161). -/
def State.halfPair (s : State) (n : Nat) : State :=
  let r := s.path n
  (s.setPath n { r with halfNow := r.halfNow + 1 }).onceEv n (n / 4) 1 (locPath n) 0x1020 (leBytes 2 r.halfPrev)

-- captures (R121 to R124)

/-- The buffer of a chain, 0 X or 1 Y. -/
def PathRt.buffer (r : PathRt) (chain : Nat) : Option Capture := if chain = 0 then r.bufX else r.bufY
def PathRt.setBuffer (r : PathRt) (chain : Nat) (c : Option Capture) : PathRt :=
  if chain = 0 then { r with bufX := c } else { r with bufY := c }

/-- An attempt's captures are no longer awaited. -/
def Attempt.dropCaps (a : Attempt) : Attempt :=
  { a with dn := { a.dn with capS := none, capOn := false }, up := { a.up with capS := none, capOn := false } }

/-- Buffers that hold a capture of an attempt are free again. -/
def PathRt.freeBuffers (r : PathRt) (a : Attempt) : PathRt :=
  let mine (c : Capture) : Bool := (a.shot c.dir).capOn && decide ((a.shot c.dir).b = c.b)
  { r with bufX := r.bufX.filter (fun c => !mine c), bufY := r.bufY.filter (fun c => !mine c) }

/-- A shot whose capture is not taken, known in cycle k from B: where its stops are all there it no longer waits for the
capture's last sample (R108). -/
def Shot.loseCap (x : Shot) (k : Nat) : Shot :=
  let full := decide (x.phase = .complete) && decide (x.stops.length = x.set.stopFirst + x.set.stopCount)
  let last := (x.stops.getLast?.map (·.1)).getD 0
  { x with capS := none, capOn := false, doneAt := if full then x.doneAt.map (fun e => min e (max k last)) else x.doneAt }

/-- A pair's captures are not taken: CAP_LOST (R124). -/
def Attempt.loseCaps (a : Attempt) (cyc : Nat) : Attempt :=
  { a with capLost := true, dn := a.dn.loseCap (cycDiff cyc a.dn.b), up := a.up.loseCap (cycDiff cyc a.up.b) }

-- the record

/-- TDC_FLAGS of a record (R138); TPL_INV only where the row of R131 for an invalid template is the first to match;
`ref` adds the bits the refinement row gives (R131). -/
def Attempt.tdcFlags (a : Attempt) (refBits : Nat) : Nat :=
  ofBits [a.dn.calErr, a.up.calErr, a.dn.short, a.up.short,
          decide (a.dn.phase = .judged) && decide (2047 ≤ a.dn.amp),
          decide (a.up.phase = .judged) && decide (2047 ≤ a.up.amp),
          a.capLost, a.refine && !a.learning && !a.tplValid, false, false, false, a.timeRange, a.dn.drop || a.up.drop, a.learning]
    + refBits

/-- Amplitude flags of a shot that was taken. -/
def Shot.lo (x : Shot) : Bool := decide (x.phase = .judged) && decide (x.amp < x.set.ampMin)
def Shot.hi (x : Shot) : Bool := decide (x.phase = .judged) && decide (x.set.ampMax < x.amp)

/-- FB_ACTIVE and FB_WAIT as they stand (R172). -/
def State.fbActiveNow (s : State) (n : Nat) : Bool :=
  (s.path n).learn.isNone &&
  ((decide (s.g (K.path_FB_MODE n) = 1) && (s.path n).fbActive) ||
   (decide (s.g (K.path_FB_MODE n) = 2) && decide (s.g (K.rec_AMP_AVG n) ≠ 0)))
def State.fbWaitNow (s : State) (n : Nat) : Bool :=
  decide (s.g (K.path_FB_MODE n) = 1) && !(s.path n).fbActive && decide (s.g (K.path_FB_ENTER n) ≤ (s.path n).fbRun)
    && decide (s.g (K.rec_AMP_AVG n) = 0)

/-- QUAL_FLAGS of a record (R172). -/
def State.qualFlags (s : State) (n : Nat) (a : Attempt) : Nat :=
  ofBits [a.dn.lo, a.dn.hi, a.up.lo, a.up.hi, a.dn.skipEarly, a.dn.skipLate, a.up.skipEarly, a.up.skipLate,
          a.dn.guardInc, a.up.guardInc, a.xampFail, a.seqSkipped, a.guardOff, a.probe, s.fbActiveNow n, s.fbWaitNow n]

/-- SCHED_FLAGS of a record (R210). -/
def State.schedFlags (s : State) (n : Nat) (a : Attempt) (corRange : Bool) : Nat :=
  ofBits [a.active, decide (a.role = 1), a.seq, a.seq && a.upFirst, (s.path n).refDue,
          decide (s.g (K.path_RETRY_MAX n) = 0) && decide (0 < s.g (K.path_REF_EVERY n)), a.zoUnset, a.tdFixed, a.tdInv, corRange]

/-- Picoseconds of a time in ft/256 as REAL32 (R119): DT · 10^12 / (24 576 000 · 2^21). -/
def psBits (dt : Int) : Nat := f32quot (dt * 10 ^ 12) (cycPerSecond * 2 ^ 21)

/-- TOF_US (R119). -/
def usBits (dn up : Nat) : Nat := f32quot (((dn + up : Nat) : Int) * 10 ^ 6) (2 * cycPerSecond * 8192)

/-- AMP_AVG after a valid pair (R149): the first sets it, each later one moves it by an eighth, rounded half up once. -/
def ampAvgNext (avg sum cnt : Nat) : Nat :=
  if avg = 0 then (roundHalfUp (sum : Int) cnt).toNat
  else (roundHalfUp (7 * (avg : Int) * cnt + sum) (8 * cnt)).toNat

/-- The entries every record writes, CAP_LOST_COUNT and SLOTS_RUN among them (R137, R160, R171, R209). -/
def State.writeCommon (s : State) (n : Nat) (a : Attempt) (refBits : Nat) (corRange : Bool) : State :=
  (if a.capLost then s.bump (K.rec_CAP_LOST_COUNT n) else s).ps [(K.rec_SLOTS_RUN n, (s.path n).slotsRun),
    (K.rec_PAIR_CYC n, a.b), (K.rec_FRAME_NO n, a.frameNo), (K.rec_ATTEMPT n, a.idx),
    (K.rec_TD_USED n, ofSigned 32 a.td), (K.rec_ZO_USED n, ofSigned 32 a.zo),
    (K.rec_AMP_DN n, a.dn.amp), (K.rec_AMP_UP n, a.up.amp), (K.rec_GAIN_USED n, a.gain),
    (K.rec_NSTOP_DN n, a.dn.stops.length), (K.rec_NSTOP_UP n, a.up.stops.length),
    (K.rec_W1_DN n, a.dn.w1), (K.rec_W2_DN n, a.dn.w2), (K.rec_W3_DN n, a.dn.w3),
    (K.rec_W1_UP n, a.up.w1), (K.rec_W2_UP n, a.up.w2), (K.rec_W3_UP n, a.up.w3),
    (K.rec_TDC_FLAGS n, a.tdcFlags refBits), (K.rec_QUAL_FLAGS n, s.qualFlags n a),
    (K.rec_OUTCOME n, match a.cls with | none => 2 | some c => clsOutcome c), (K.rec_THR_USED n, a.thrUsed),
    (K.rec_SCHED_FLAGS n, s.schedFlags n a corRange)]

/-- A corrected TOF in ft: the unrounded TOF less TD, rounded half up; none out of range (R203). -/
def corrected (tof td : Int) : Option Nat :=
  let v := roundHalfUp (tof - td) 256
  if v < 0 ∨ 2 ^ 32 - 1 < v then none else some v.toNat

/-- The values a class V pair leaves for later ones: the arrivals that the capture tracks, unless a change has moved
them since its latch (R122), and its transducer delay (R309). -/
def State.track (s : State) (n : Nat) (a : Attempt) (aDn aUp : Int) : State :=
  let r := s.path n
  s.setPath n (if a.moved then { r with tdValid := a.td }
    else { r with prevDn := some aDn, prevUp := some aUp, tdValid := a.td })

/-- The record of a class V attempt with the arrivals it reports (R117 to R119, R199, R203). Refined arrivals that are
out of range mark it TIME_RANGE, and it has no TOF and no ΔT (R118). -/
def State.writeValid (s : State) (n : Nat) (a : Attempt) (aDn aUp : Int) (refBits : Nat) : State :=
  let tDn := tofOf a.dn aDn
  let tUp := tofOf a.up aUp
  let dt := tUp - tDn
  let ftDn := (roundHalfUp tDn 256).toNat
  let ftUp := (roundHalfUp tUp 256).toNat
  let cor := fitS 1 32 (dt - a.zo - s.gi 32 (K.path_ZERO_DT n))
  let s1 := s.ps [(K.rec_AMP_AVG n, ampAvgNext (s.g (K.rec_AMP_AVG n)) a.ampSum.1 a.ampSum.2)]
  let c := (corrected tDn a.td, corrected tUp a.td)
  let range := timeRangeOf tDn tUp
  let s2 := s1.writeCommon n { a with timeRange := range } refBits (c.1.isNone || c.2.isNone)
  let s3 := if range then s2 else s2.ps [(K.rec_TOF_DN n, ftDn), (K.rec_TOF_UP n, ftUp), (K.rec_DT_RAW n, ofSigned 32 dt),
    (K.rec_DT_PS n, psBits dt), (K.rec_TOF_US n, usBits ftDn ftUp), (K.rec_DT_COR n, ofSigned 32 cor),
    (K.rec_DT_COR_PS n, psBits cor)]
  let s4 := match range, c with
    | false, (some x, some y) => s3.ps [(K.rec_TOF_DN_COR n, x), (K.rec_TOF_UP_COR n, y)]
    | _, _ => s3
  s4.track n a aDn aUp

/-- The record of an attempt as the path's result object holds it in the cycle it is written (R192), with the CYC of its
pair and slot (R36). -/
def State.finalOf (s : State) (n : Nat) (a : Attempt) : FinalRec :=
  { frameNo := a.frameNo, b0 := a.b0, frameSeq := a.frameSeq, pairCyc := a.b,
    cls := match s.g (K.rec_OUTCOME n) with | 0 => .V | 1 => .H | 2 => .L | _ => .S,
    corRange := bitAt (s.g (K.rec_SCHED_FLAGS n)) 9 || bitAt (s.g (K.rec_TDC_FLAGS n)) 11,
    tofDn := s.g (K.rec_TOF_DN_COR n), tofUp := s.g (K.rec_TOF_UP_COR n), dtCor := s.gi 32 (K.rec_DT_COR n),
    fault := s.g (K.rec_OUTCOME_FAULT n) }

/-- Send a final record to D0, with OUTCOME_FAULT as it stands (R168, R192). -/
def State.sendFinal (s : State) (n : Nat) (f : FinalRec) : State :=
  s.setPath n { s.path n with sent := (s.path n).sent ++ [{ f with fault := s.g (K.rec_OUTCOME_FAULT n) }] }

/-- Send the record of the slot's last completed attempt, if there is one (R163, R165, R192). -/
def State.sendLast (s : State) (n : Nat) : State :=
  match (s.path n).slot.record with
  | none => s
  | some f => s.sendFinal n f

-- faults of a path

/-- The serial of a cell fault that stands on a port beyond this cycle, or 0 (R693, R711). -/
def State.portSerial (s : State) (n : Nat) : Nat := if s.portEnds n then 0 else (s.port n).serial

/-- A cell fault's serial standing on either port of the path (R693); the lower port's first. -/
def State.cellSerial (s : State) (n : Nat) : Nat :=
  if s.portSerial (endA n) ≠ 0 then s.portSerial (endA n) else s.portSerial (endB n)

/-- Declaration event of a failed slot's kind (R166). -/
def kindEvent : Cls → Nat | .L => 0x1021 | .H => 0x1022 | _ => 0x1023

/-- A failed slot (R164, R166, R167, R693). -/
def State.failSlot (s : State) (n : Nat) (c : Cls) : State :=
  let r := s.path n
  let s1 := (s.inc (K.rec_SLOT_FAIL_COUNT n)).setPath n { r with failRun := r.failRun + 1, failKind := some c }
  if r.serial ≠ 0 then
    if r.failKind ≠ some c then s1.react (n / 4) 1 (locPath n) 0x102A r.serial [clsKind c] else s1
  else if s.g (K.path_FAULT_SLOTS n) = 0 ∨ r.failRun + 1 < s.g (K.path_FAULT_SLOTS n) then s1
  else
    let cell := s1.cellSerial n
    let s2 := s1.p (K.rec_OUTCOME_FAULT n) (clsKind c)
    if cell ≠ 0 then
      (s2.react (n / 4) 1 (locPath n) (kindEvent c) cell []).setPath n { s2.path n with serial := cell }
    else
      (s2.declare (n / 4) 1 (locPath n) (kindEvent c) []).setPath n
        { s2.path n with serial := s2.nextSerial (n / 4) }

/-- A standing serial belongs to a path's own declaration. -/
def State.ownPathFault (s : State) (serial : Nat) : Bool :=
  s.standing.any (fun f => f.serial == serial && (f.event == 0x1021 || f.event == 0x1022 || f.event == 0x1023))

/-- A valid slot resets the run and ends a standing path fault (R166, R167, R693). -/
def State.validSlot (s : State) (n : Nat) : State :=
  let r := s.path n
  let s1 := s.setPath n { r with failRun := 0, failKind := none, serial := 0 }
  if r.serial = 0 then s1
  else
    let s2 := s1.p (K.rec_OUTCOME_FAULT n) 0
    if s2.ownPathFault r.serial then s2.endFault r.serial (n / 4) 1 (locPath n) 0x1024 []
    else s2.react (n / 4) 1 (locPath n) 0x1024 r.serial []

-- learning

/-- A capture shifted so that round(a_zc) falls on sample CAP_PRE, as the shot latched it (R103), and its start in cyc
from B (R126). What a shifted capture holds beyond the 512 samples is free (DESIGN CHOICE, log entry 79). -/
def shiftedCapture (x : Shot) : List Int × Int :=
  let sPos : Int := ((x.capS.getD 0 : Nat) : Int)
  let start := (x.aZc + 2 ^ 20) / 2 ^ 21 - x.set.capPre
  ((List.range 512).map (fun (i : Nat) =>
    let j := (i : Int) + start - sPos
    if 0 ≤ j ∧ j < 512 then x.samples.getD j.toNat 0 else clampInt (-2048) 2047 (Config.freeSample x.b i)), start)

/-- Collect both shots of a class V pair (R126, R147). -/
def Learn.collect (l : Learn) (a : Attempt) : Learn :=
  let add (l : Learn) (x : Shot) : Learn :=
    let c := shiftedCapture x
    { l with
      sum := (List.range 512).map (fun i => l.sum.getD i 0 + c.1.getD i 0)
      orgSum := l.orgSum + (x.aZc - c.2 * 2 ^ 21)
      ratios := if x.w1 = 0 ∨ x.w2 = 0 ∨ x.w3 = 0 then l.ratios
                else l.ratios ++ [(ratioQ12 x.w1 x.w2, ratioQ12 x.w1 x.w3)] }
  let l2 := add (add l a.dn) a.up
  { l2 with collected := l.collected + 1 }

/-- Mean of learned ratios, rounded half up; 0 of none. -/
def meanOf (l : List Nat) : Nat := if l = [] then 0 else (roundHalfUp (l.foldl (· + ·) 0 : Nat) l.length).toNat

/-- Spread of learned ratios, largest minus smallest. -/
def spreadOf (l : List Nat) : Nat := l.foldl max 0 - l.foldl min (l.foldl max 0)

/-- The learned band, or none where R147 lets learning fail. -/
def Learn.band (l : Learn) (tol : Nat) : Option (Nat × Nat) :=
  let a := l.ratios.map (·.1)
  let b := l.ratios.map (·.2)
  let ra := meanOf a
  let rb := meanOf b
  if l.ratios.length < l.n ∨ ra = 0 ∨ 16383 < ra ∨ rb = 0 ∨ 16383 < rb ∨ bandHalf ra tol < spreadOf a ∨
     bandHalf rb tol < spreadOf b then none
  else some (ra, rb)

/-- Learning fails: event 0x1014, and the fallback returns to its state of when learning was first started (R127,
R154). -/
def State.learnFails (s : State) (n : Nat) (l : Learn) : State :=
  (s.setPath n { s.path n with learn := none, learnWait := [], fbActive := l.keptFb, fbRun := 0 }).ev (n / 4) 1
    (locPath n) 0x1014 [0xFF]

/-- Learning succeeds: template, origin and band are set, the fallback hands back, and event 0x1013 (R126, R127, R147,
R154). The spec gives no rounding of the averages (log entry 12), and no TPL_ORG where their mean is negative (log
entry 79). -/
def State.learnSucceeds (s : State) (n : Nat) (l : Learn) (b : Nat × Nat) : State :=
  let m := 2 * l.collected
  let tpl := l.sum.map (fun v => roundOpen 4 v m)
  let s1 : State := { s with blobs := s.blobs.store [] (K.path_TEMPLATE n) (tplBytes tpl) }
  let s2 := s1.ps [(K.path_TPL_VALID n, 1), (K.path_TPL_ORG n, fitU 28 32 (roundOpen 5 l.orgSum m)),
    (K.path_REF12 n, b.1), (K.path_REF13 n, b.2), (K.path_BAND_VALID n, 1)]
  let s3 := s2.setPath n { s2.path n with learn := none, learnWait := [], fbActive := false, fbRun := 0, fbProbe := 0 }
  (s3.storeTemplate n).ev (n / 4) 1 (locPath n) 0x1013 [0xFF]

/-- After a pair: learning ends when N pairs are collected, or after 4·N completed pairs without them (R127). -/
def State.learnCheck (s : State) (n : Nat) (l : Learn) : State :=
  if l.n ≤ l.collected then
    match l.band (s.g (K.path_GUARD_TOL n)) with
    | some b => s.learnSucceeds n l b
    | none => s.learnFails n l
  else if 4 * l.n ≤ l.completed ∧ (s.path n).learnWait = [] then s.learnFails n l
  else s.setPath n { s.path n with learn := some l }

/-- Both captures of an attempt are in SRAM. -/
def Attempt.captured (a : Attempt) : Bool := decide (a.dn.samples ≠ []) && decide (a.up.samples ≠ [])

/-- A pair completed while learning: counted, and a class V pair collected once its captures are copied (R126). A class
V pair marked CAP_LOST has none and is counted as completed only (DESIGN CHOICE, log entry 79). -/
def State.learnPair (s : State) (n : Nat) (a : Attempt) : State :=
  match (s.path n).learn with
  | none => s
  | some l =>
    let l1 := { l with completed := l.completed + 1 }
    if a.classOf = .V ∧ !a.capLost then
      if a.captured then s.learnCheck n (l1.collect a)
      else s.setPath n { s.path n with
        learn := some l1, learnWait := (s.path n).learnWait ++ [a], att := (s.path n).att.dropCaps }
    else s.learnCheck n l1

end Sys2Proof.Machine
end

