-- ==== Sys2Proof/Machine/Sched.lean ====
section
/-! DEFINITION. Path scheduling (R174 to R212): frames, slot tables and rates, the slot and its attempts, reference
pairs, verdicts, captures, refinement and cancellation. -/

namespace Sys2Proof.Machine

-- frame boundaries

/-- Changes applied at least 96 cyc before the boundary `b`, and those that must wait (R175, R177, R185 to R187). -/
def dueBy (b : Nat) (l : List (Nat × α)) : List (Nat × α) := l.filter (fun e => decide (96 ≤ cycDiff b e.1))
def notDueBy (b : Nat) (l : List (Nat × α)) : List (Nat × α) := l.filter (fun e => !decide (96 ≤ cycDiff b e.1))

/-- The cycle of the next frame boundary (R174). -/
def State.nextBoundary (s : State) : Nat := if s.framing then cycPlus s.frameAt s.frameLen else s.f0

/-- FRAME_LEN and FRAME_NO at the boundary `b`: a due FRAME_LEN makes it the new F0 (R174, R175). -/
def State.adoptLen (s : State) (b : Nat) : State :=
  match (dueBy b s.lenPend).getLast? with
  | none => s.p K.dev_FRAME_NO (if s.framing then wrap32 (s.g K.dev_FRAME_NO + 1) else 0)
  | some e =>
    let t : State := { s with frameLen := e.2, f0 := b, lenPend := notDueBy b s.lenPend }
    let u := (t.p K.dev_FRAME_NO 0).p K.dev_F0 b
    (List.range s.nPaths).foldl (fun v n => v.setPath n { v.path n with countdown := 0 }) u

/-- A die's slot table at the boundary `b` (R177). -/
def State.adoptSlots (s : State) (b d : Nat) : State :=
  let r := s.die d
  match (dueBy b r.slotPend).getLast? with
  | none => s
  | some e => s.setDie d { r with slotCount := e.2.1, slots := e.2.2, slotPend := notDueBy b r.slotPend }

/-- The rate a section's RATE_FORCE gives (R187). -/
def forcedRate (force auto : Nat) : Nat := if force = 1 then 0 else if force = 2 then 1 else auto

/-- A section's rate at the boundary `b` (R185 to R187, R212). -/
def State.adoptRate (s : State) (b i : Nat) : State :=
  let r := s.sect i
  let force := match (dueBy b r.forceW).getLast? with | none => r.force | some e => e.2
  let due := (dueBy b r.trans).getLast?
  let auto := match due with | none => r.auto | some e => e.2.1
  let byPath := match due with | none => 0xFF | some e => if force = 0 then e.2.2 else 0xFF
  let rate := forcedRate force auto
  let t := s.setSect i { r with
    force := force, auto := auto, forceW := notDueBy b r.forceW, trans := notDueBy b r.trans }
  if rate = s.g (K.sect_RATE_STATE i) then t
  else
    let u := t.p (K.sect_RATE_STATE i) rate
    if rate = 1 then (u.inc (K.sect_ESC_COUNT i)).evChip 0x1032 [i, byPath] else u.evChip 0x1033 [i]

/-- A path's countdown at a boundary (R183, R184). -/
def State.serveCountdown (s : State) (n : Nat) : State :=
  let r := s.path n
  let div := s.pathDiv n
  let cd := if div = r.div then r.countdown else 0
  if div = 0 then s.setPath n { r with div := 0, countdown := 0, shoots := false }
  else if cd = 0 then s.setPath n { r with div := div, countdown := div - 1, shoots := true }
  else s.setPath n { r with div := div, countdown := cd - 1, shoots := false }

/-- Paths shoot from the first boundary at least 96 cyc after START_CYC; their countdowns start there (R552). -/
def State.shootsFrom (s : State) (b : Nat) : Bool := cycReached b (cycPlus (s.g K.dev_START_CYC) 96)

/-- What a frame boundary does to the schedule. A slot at OFS 0 looks ahead to it in the cycle before (R206). -/
def State.adopt (s : State) (b : Nat) : State :=
  let s1 := s.adoptLen b
  let s2 := (List.range s.dies).foldl (fun t d => t.adoptSlots b d) s1
  let s3 := (List.range s.nSects).foldl (fun t i => t.adoptRate b i) s2
  let s4 := if s.shootsFrom b then (List.range s.nPaths).foldl (fun t n => t.serveCountdown n) s3 else s3
  { s4 with frameAt := b, framing := true, frameSeq := s.frameSeq + 1 }

/-- Start offset and mask of a slot entry (R176). -/
def slotOfs (w : Nat) : Nat := field w 35 4
def slotMask (w : Nat) : Nat := field w 3 0

/-- Entries of a die's slot table in force. -/
def State.slotTable (s : State) (d : Nat) : List Nat := (s.die d).slots.take (s.die d).slotCount

/-- The engine of a path is named in its die's slot table (R176). -/
def State.named (s : State) (n : Nat) : Bool :=
  (s.slotTable (n / 4)).any (fun w => bitAt (slotMask w) (n % 4))

/-- Slots of the new frame that are still to come; one at OFS 0 has been reached already. -/
def State.markSlots (s : State) : State :=
  (List.range s.nPaths).foldl (fun t n =>
    let r := t.path n
    t.setPath n { r with slotDue := r.shoots && t.named n && decide (r.slotSeen ≠ s.frameAt + 1) }) s

-- checks before a burst

/-- VDRV within VDRV_SET ± 3 %: VDRV in mV, VDRV_SET in units of 0.1 V (R70). -/
def vdrvOk (mv set : Nat) : Bool := decide (mv ≤ 103 * set) && decide (97 * set ≤ mv)

/-- The energy test of a port, with the window the burst will be booked in (R80). -/
def State.energyOk (s : State) (n : Nat) : Bool :=
  let w := if (s.cyc + 1) % cycPerSecond = 0 then 0 else s.g (K.port_E_WINDOW n)
  decide (w + (s.port n).ePred ≤ 10 * s.g (K.sag_CAP_ENERGY n))

/-- A port that fails the energy test: WITHHELD, and event 0x1005 once in its energy window (R81). -/
def State.withhold (s : State) (n : Nat) : State :=
  if s.energyOk n then s
  else
    let t := (s.inc (K.port_WITHHELD n)).bitTo (K.port_STATUS n) stWITHHELD true
    if (0x1005, n) ∈ t.once then t else (t.onceEv n (n / 8) 0 (locPort n) 0x1005 []).inc K.sag_TRIP_COUNT

/-- What a port's burst is predicted to cost: nothing for a port that stays silent (R189). -/
def State.portCost (s : State) (n : Nat) : Nat := if s.transmits n then (s.port n).ePred else 0

/-- Cost of an attempt (R189). -/
def State.attemptCost (s : State) (n : Nat) : Nat :=
  s.portCost (endA n) + s.portCost (endB n) + 2 * s.g K.dev_E_RX

/-- The allowance left for this frame or, for a first burst cycle at the boundary, the next (R188). -/
def State.allowance (s : State) (d : Nat) (next : Bool) : Nat :=
  if next then ((s.die d).allowNext).getD 0 else (s.die d).allowNow

/-- Set the allowance left. -/
def State.setAllowance (s : State) (d : Nat) (next : Bool) (v : Nat) : State :=
  if next then s.setDie d { s.die d with allowNext := some v }
  else (s.setDie d { s.die d with allowNow := v }).p (K.die_ALLOW_LEFT d) v

/-- Ask the governor's allowance for a cost: granted and deducted, or refused and counted (R189, R190). -/
def State.grant (s : State) (n cost : Nat) (next : Bool) : State × Bool :=
  if !s.pow.govOn then (s, true)
  else if cost ≤ s.allowance (n / 4) next then (s.setAllowance (n / 4) next (s.allowance (n / 4) next - cost), true)
  else (s.inc (K.rec_GRANT_WITHHELD n), false)

/-- A burst start forms saggar hold anew: the first one after a loosening of the caps leaves it, and one after a
tightening while the burst before ran enters it (R76, R90). -/
def State.holdAtStart (s : State) (n : Nat) : State := if s.inCaps n then s.leaveHold n else s.enterHold n

/-- The three checks of an attempt at B − 1, in their order: VDRV, energy, grant (R70, R80, R90, R189). Only a granted
attempt is a burst start for R76. VDRV_MEAS is measured here (R95; DESIGN CHOICE, log entry 77). -/
def State.checkAttempt (s : State) (n mv : Nat) (next : Bool) : State × Bool :=
  let d := n / 4
  let s1 := s.p (K.die_VDRV_MEAS d) (satAt 255 (roundOpen 2 (mv : Nat) 100).toNat)
  let okV := vdrvOk mv (s1.g (K.die_VDRV_SET d))
  let okE := s1.energyOk (endA n) && s1.energyOk (endB n)
  let s2 := if okV then s1 else s1.inc (K.die_VDRV_LOW_COUNT d)
  let s3 := (s2.withhold (endA n)).withhold (endB n)
  let s4 := (s3.holdAtStart (endA n)).holdAtStart (endB n)
  let cost := s4.attemptCost n
  let g := s4.grant n cost next
  if !(okV && okE) then (s3, false) else if g.2 then g else s3.grant n cost next

-- latching an attempt

/-- Transducer delay at a latch: the delay in ft/256, TD_INV and TD_FIXED (R201, R202). -/
def State.tdNow (s : State) (n : Nat) : Int × Bool × Bool :=
  let fix := s.gi 32 (K.path_TD_FIX n)
  if s.g (K.path_TD_SEG n) = 255 then (fix, false, true)
  else match s.chanTemp (s.g (K.path_TD_CHAN n)) with
    | none => (fix, true, false)
    | some t => (tdOf (s.evalSeg (s.g (K.path_TD_SEG n)) (toQ16 t)).y, false, false)

/-- GAIN at a latch: an AGC update of this cycle does not apply yet (R97, R134). -/
def State.gainNow (s : State) (n : Nat) : Nat :=
  match (s.path n).gainWas with
  | some (c, g) => if c = s.cyc then g else s.g (K.path_GAIN n)
  | none => s.g (K.path_GAIN n)

/-- The fallback is active at a latch (R151, R152, R154, R169). -/
def State.fbAtLatch (s : State) (n : Nat) : Bool := s.fbActiveNow n && decide ((s.path n).fbCyc ≠ some s.cyc)

/-- The attempt is a probe: every FB_PROBE-th while the automatic fallback is active (R153). -/
def State.probeAtLatch (s : State) (n : Nat) : Bool :=
  s.fbAtLatch n && decide (s.g (K.path_FB_MODE n) = 1) && decide (s.g (K.path_FB_PROBE n) ≤ (s.path n).fbProbe + 1)

/-- Zero-flow offset of a role and whether it is unset (R197, R198). -/
def State.zoOf (s : State) (n role : Nat) : Int × Bool :=
  if role = 0 then (s.gi 32 (K.rec_ZO0 n), !(s.path n).zoSet0) else (s.gi 32 (K.rec_ZO1 n), !(s.path n).zoSet1)

/-- Everything an attempt latches at the end of its first B − 1 (R71, R97, R103, R128, R150, R169, R193, R199, R202). -/
def State.latch (s : State) (n b idx mv : Nat) (sl : Slot) (active : Bool) : Attempt :=
  let r := s.path n
  let role := if s.g (K.path_SWAP n) = 1 then r.nextRole else 0
  let seq := decide (s.g (K.path_MODE n) = 1)
  let upFirst := seq && (match s.g (K.path_SEQ_ORDER n) with | 0 => false | 1 => true | _ => r.nextUp)
  let learning := r.learn.isSome
  let probe := s.probeAtLatch n
  let fb := s.fbAtLatch n && !probe
  let thr := if fb then s.thrFb n else s.g (K.path_THR n)
  let td := s.tdNow n
  let zo := s.zoOf n role
  let txA := s.transmits (endA n)
  let txB := s.transmits (endB n)
  let a : Attempt := {
    live := true, b := b, frameNo := sl.frameNo, b0 := sl.b0, frameSeq := sl.frameSeq, idx := idx, seq := seq
    seqGap := s.g (K.path_SEQ_GAP n),
    upFirst := upFirst, role := role, gain := s.gainNow n, thrUsed := thr, fb := fb, probe := probe,
    learning := learning, refine := decide (s.g (K.path_REFINE n) = 1),
    tplValid := decide (s.g (K.path_TPL_VALID n) = 1), search := s.g (K.path_SEARCH n),
    agree := s.g (K.path_AGREE n),
    bandOk := decide (s.g (K.path_REF12 n) ≠ 0) && decide (s.g (K.path_REF13 n) ≠ 0),
    ref12 := s.g (K.path_REF12 n), ref13 := s.g (K.path_REF13 n), tol := s.g (K.path_GUARD_TOL n),
    xamp := s.g (K.path_XAMP_DB n), zo := zo.1, zoUnset := zo.2, td := td.1, tdInv := td.2.1, tdFixed := td.2.2,
    active := active, vdrv := mv,
    refund := if s.pow.govOn then s.portCost (if upFirst then endA n else endB n) + s.g K.dev_E_RX else 0 }
  if seq then
    let d := if upFirst then Dir.up else Dir.dn
    a.setShot d (s.newShot n d b role thr false true)
  else (a.setShot .dn (s.newShot n .dn b role thr txB true)).setShot .up (s.newShot n .up b role thr txA true)

/-- The first burst or bursts of an attempt (R63, R179, R180). -/
def State.fireBursts (s : State) (n : Nat) (a : Attempt) : State :=
  let one (t : State) (port : Nat) : State := if t.transmits port then t.startBurst port a.vdrv else t
  if a.seq then one s (if a.upFirst then endB n else endA n) else one (one s (endA n)) (endB n)

/-- A burst of an attempt in the slot has started: the first of a retry counts it in RETRY_COUNT, the first of a slot
counts the slot, towards SLOTS_RUN and the next reference pair (R171, R195, R209). -/
def State.noteSent (s : State) (n : Nat) : State :=
  let r := s.path n
  let s1 := if !r.att.sent && decide (0 < r.att.idx) then s.inc (K.rec_RETRY_COUNT n) else s
  let every := s.g (K.path_REF_EVERY n)
  s1.setPath n (
    if r.slot.sent then { r with att := { r.att with sent := true } }
    else { r with
      att := { r.att with sent := true }, slot := { r.slot with sent := true }
      slotsRun := wrap32 (r.slotsRun + 1), refSlots := r.refSlots + 1
      refDue := r.refDue || (decide (0 < every) && decide (every ≤ r.refSlots + 1)) })

/-- The first burst or bursts of an attempt transmit. -/
def State.firstSends (s : State) (n : Nat) (a : Attempt) : Bool :=
  if a.seq then s.transmits (if a.upFirst then endB n else endA n) else s.transmits (endA n) || s.transmits (endB n)

/-- Start a granted attempt: latch it, log what its latch logs, and start its bursts (R153, R202). -/
def State.startAttempt (s : State) (n b idx mv : Nat) (active : Bool) : State :=
  let a := s.latch n b idx mv (s.path n).slot active
  let r := s.path n
  let probeCount := if s.fbAtLatch n && decide (s.g (K.path_FB_MODE n) = 1) then r.fbProbe + 1 else r.fbProbe
  let s1 := s.setPath n { r with att := a, fbProbe := probeCount }
  let s2 := if a.tdInv then s1.onceEv n (n / 4) 1 (locPath n) 0x1035 [] else s1
  let s3 := s2.fireBursts n a
  if s.firstSends n a then s3.noteSent n else s3

-- slots

/-- Add a timeout to its frame's work, in frame order. -/
def addWait (w : PathWait) (f0 : FrameWork) : List FrameWork → List FrameWork
  | [] => [{ f0 with waits := [w] }]
  | f :: r => if f.epoch = f0.epoch then { f with waits := f.waits ++ [w] } :: r else f :: addWait w f0 r

/-- Arm the section result timeout of every section that uses the path (R38, R192, R219). The RTC seconds of a frame
that has not begun follow at its boundary (R245). -/
def State.armSections (s : State) (n b0 : Nat) (f : FrameWork) : State :=
  (s.sectsOf n).foldl (fun t i =>
    let r := t.sect i
    let w : PathWait := { path := n, b0 := b0, expiry := cycPlus s.cyc (t.g (K.sect_SECT_TMO i)), state := .armed }
    t.setSect i { r with work := addWait w f r.work }) s

/-- The die takes the slots of a frame that begins in cycle `b`: it runs, and the wait of its start or wake was over by
then (R532, R537, R552). -/
def State.takesSlots (s : State) (d b : Nat) : Bool := s.dieRuns d && cycReached b (s.die d).runFrom

/-- An impedance check in place of the pair, from B on: requests become running checks (R82, R84). -/
def State.startCheck (s : State) (port : Nat) : State :=
  if s.st port stPEND then
    ((s.bitTo (K.port_STATUS port) stPEND false).bitTo (K.port_STATUS port) stRUN true).setPort port
      { s.port port with checkAt := cycPlus s.cyc 1 }
  else s

/-- An over-temperature stands that was not declared in this very cycle (R695, R711). -/
def State.tooHot (s : State) (d : Nat) : Bool :=
  decide ((s.die d).otSerial ≠ 0) && decide ((s.die d).otAt ≠ s.cyc)

/-- Attempt 0 of a path's slot at B0 − 1 in a frame (R84, R114, R164, R188, R192, R695): `active` is the path's rate in
that frame, `next` that the frame has not begun. A slot that falls due while a calibration runs, or whose boundary a
requested calibration takes, is skipped for it (R114). -/
def State.beginSlot (s : State) (n b0 mv : Nat) (f : FrameWork) (active next : Bool) : State :=
  let d := n / 4
  let s0 := s.setPath n { s.path n with slotDue := false, slotSeen := b0 + 1 }
  if !s.takesSlots d f.epoch then s0
  else if (s.die d).calRun ≠ 0 ∨ s.calTakes d then s0.inc (K.die_CAL_SKIP d)
  else if s.tooHot d then s0
  else if s.st (endA n) stPEND || s.st (endB n) stPEND then (s0.startCheck (endA n)).startCheck (endB n)
  else
    let c := s0.checkAttempt n mv next
    if !c.2 then c.1
    else
      let s1 := c.1.armSections n b0 f
      let s2 := s1.setPath n { s1.path n with
        slot := { live := true, b0 := b0, frameNo := f.frameNo, frameSeq := f.frameSeq
                  retryMax := s1.g (K.path_RETRY_MAX n), pairLen := s1.g (K.path_PAIR_LEN n) } }
      s2.startAttempt n b0 0 mv active

/-- The engines a slot entry starts, in ascending order (R176, R189). -/
def slotPaths (d w : Nat) : List Nat := (maskBits (slotMask w) 4).map (fun k => 4 * d + k)

/-- A retry that is withheld ends the slot and sends the last record (R163, R192). -/
def State.endWithheld (s : State) (n : Nat) : State :=
  let r := s.path n
  (s.setPath n { r with slot := { r.slot with live := false } }).sendLast n

/-- Attempt a of a live slot is due: its predecessor has a class other than V and the cycle is B − 1 (R162). -/
def State.retryDue (s : State) (n : Nat) : Bool :=
  let r := s.path n
  r.slot.live && !r.att.live && decide (r.slot.last ≠ none) && decide (r.slot.last ≠ some .V)
    && decide (r.slot.attempt + 1 ≤ r.slot.retryMax)
    && decide (cycPlus s.cyc 1 = cycPlus r.slot.b0 ((r.slot.attempt + 1) * r.slot.pairLen))

/-- A first burst cycle in the next cycle lies in the next frame (R188). -/
def State.inNextFrame (s : State) : Bool := decide (cycPlus s.cyc 1 = s.nextBoundary)

/-- A retry at its own B − 1 (R162, R163, R171). -/
def State.retry (s : State) (n mv : Nat) : State :=
  if !s.retryDue n then s
  else
    let d := n / 4
    if !s.dieRuns d || decide ((s.die d).calRun ≠ 0) || s.tooHot d then s.endWithheld n
    else
      let c := s.checkAttempt n mv s.inNextFrame
      if !c.2 then c.1.endWithheld n
      else
        let r := c.1.path n
        let s1 := c.1.setPath n { r with slot := { r.slot with attempt := r.slot.attempt + 1 } }
        s1.startAttempt n (cycPlus s.cyc 1) (r.slot.attempt + 1) mv (s1.pathActive n)

/-- The directions of the first and the second shot of a sequential attempt (R180). -/
def Attempt.firstDir (a : Attempt) : Dir := if a.upFirst then .up else .dn
def Attempt.secondDir (a : Attempt) : Dir := if a.upFirst then .dn else .up

/-- The second shot of a sequential attempt is due: the cycle is its own B − 1 (R180, R181). -/
def State.secondDue (s : State) (a : Attempt) : Bool :=
  a.live && a.seq && !a.seqSkipped && decide ((a.shot a.secondDir).phase = .none)
    && decide (cycPlus s.cyc 1 = cycPlus a.b a.seqGap)

/-- The second shot of an attempt, latched at its own B − 1 with the pair's GAIN and VDRV (R97, R180, R181), and its
burst. -/
def State.takeSecond (s : State) (n : Nat) (a : Attempt) : State × Attempt :=
  let d := a.secondDir
  let s1 := s.holdAtStart (txPort n d)
  let thr := if a.fb then s1.thrFb n else s1.g (K.path_THR n)
  let a1 := a.setShot d (s1.newShot n d (cycPlus a.b a.seqGap) a.role thr false (!a.capLost))
  (if s1.transmits (txPort n d) then s1.startBurst (txPort n d) a.vdrv else s1, a1)

/-- The second shot of the path's attempt, or of a lantern pair on it (R309). -/
def State.secondShot (s : State) (n : Nat) : State :=
  let r := s.path n
  if s.secondDue r.att then
    let c := s.takeSecond n r.att
    let s1 := c.1.setPath n { r with att := c.2 }
    if s1.transmits (txPort n c.2.secondDir) then s1.noteSent n else s1
  else if s.lant.awake && decide (s.lant.path = n) && s.secondDue s.lant.att then
    let c := s.takeSecond n s.lant.att
    { c.1 with lant := { c.1.lant with att := c.2 } }
  else s

/-- SEQ_SECOND_SHOT (R180, R181). -/
def execSeqSecondShot (path : Nat) (s : State) : Out :=
  ifFitted s (decide (path < s.nPaths)) (confined s (s.secondShot path))

-- verdicts and records

/-- The rows of R131 that give a class V attempt a refinement: it waits for the correlation lane. -/
def Attempt.isRefined (a : Attempt) : Bool := a.refine && !a.learning && a.tplValid && !a.capLost

/-- A class V attempt sets the next role and order (R180, R194). -/
def State.afterValid (s : State) (n : Nat) (a : Attempt) : State :=
  let r := s.path n
  s.setPath n { r with
    nextRole := if s.g (K.path_SWAP n) = 1 then 1 - a.role else r.nextRole
    nextUp := if a.seq && decide (s.g (K.path_SEQ_ORDER n) = 2) then !a.upFirst else r.nextUp }

/-- The record of a decided attempt: written now, or held for the lane (R132, R137, R192). -/
def State.recordOf (s : State) (n : Nat) (a : Attempt) (final : Bool) : State :=
  if a.cls = some .V ∧ a.isRefined then
    s.setPath n { s.path n with lane := (s.path n).lane ++ [a], att := (s.path n).att.dropCaps }
  else
    let s1 := if a.cls = some .V then s.writeValid n a a.dn.aZc a.up.aZc 0 else s.writeCommon n a 0 false
    let f := s1.finalOf n a
    let s2 := s1.setPath n { s1.path n with slot := { (s1.path n).slot with record := some f } }
    if final then s2.sendFinal n f else s2

/-- An attempt has both verdicts: class, counters, gain, fallback, learning, slot outcome and record (R98, R152 to
R167). A pair that completes while learning runs is reported with LEARNING (R126, R131). -/
def State.complete (s : State) (n : Nat) (a0 : Attempt) : State :=
  let a := { a0.decided with learning := a0.learning || (s.path n).learn.isSome }
  let c := a0.classOf
  let g := s.g (K.path_GAIN n)
  let s1 := (s.setPath n { s.path n with att := a }).inc (clsCounter n a0)
  let s2 := if c = .H then s1.halfPair n else s1
  let s3 := s2.agc n a
  let s4 := if s3.g (K.path_GAIN n) = g then s3 else s3.setPath n { s3.path n with gainWas := some (s.cyc, g) }
  let wasFb := (s4.path n).fbActive
  let s5 := s4.fallback n a
  let s6 := if !wasFb && (s5.path n).fbActive then s5.setPath n { s5.path n with fbCyc := some s.cyc } else s5
  let s7 := if c = .V then s6.afterValid n a else s6
  let sl := (s7.path n).slot
  let last := decide (sl.attempt = sl.retryMax)
  let s8 := if !sl.live then s7
    else if c = .V then
      (s7.setPath n { s7.path n with slot := { sl with live := false, last := some c, validAt := some a.idx } }).validSlot n
    else if last then
      (s7.setPath n { s7.path n with slot := { sl with live := false, last := some c } }).failSlot n c
    else s7.setPath n { s7.path n with slot := { sl with last := some c } }
  let s9 := s8.recordOf n a (sl.live && (decide (c = .V) || last))
  s9.learnPair n a

/-- The cycle in which a completed shot's verdict is formed, 24 cyc after its completion (R157). -/
def State.verdictNow (s : State) (x : Shot) : Bool :=
  decide (x.phase = .complete) &&
    (match x.doneAt with | none => false | some k => decide (s.cyc = cycPlus x.b (k + 24)))

/-- A shot marked CAL_ERR: event 0x1010, once per chain and energy window (R111). -/
def State.noteCalErr (s : State) (n : Nat) (y : Shot) : State :=
  if y.calErr then s.onceEv (2 * n + y.chain) (n / 4) 1 (locPath n) 0x1010 [y.chain] else s

/-- A shot's verdict (R111, R141, R143, R157). -/
def State.verdict (s : State) (n : Nat) (d : Dir) (m : ShotMeas) : State :=
  let r := s.path n
  let a := r.att
  let x := a.shot d
  if !(a.live && s.verdictNow x) then s
  else
    let y := a.guard (s.measureShot n x m)
    let a1 := a.setShot d y
    let s1 := s.noteCalErr n y
    let e := a.secondDir
    let skip := a.seq && decide (d ≠ e) && decide ((a.shot e).phase = .none) && (y.fails || y.guardFails)
      && decide (cycDiff s.cyc a.b + 2 ≤ a.seqGap)
    let a2 := if skip then { a1.setShot e { a1.shot e with phase := .notTaken } with seqSkipped := true } else a1
    let s2 := if skip && s.pow.govOn && decide (cycDiff s.cyc a.b ≤ cycDiff s.cyc s.frameAt) then
        s1.setAllowance (n / 4) false ((s1.die (n / 4)).allowNow + a.refund) else s1
    let s3 := s2.setPath n { s2.path n with att := a2 }
    let settled (x : Shot) : Bool := decide (x.phase = .judged) || decide (x.phase = .notTaken)
    if settled a2.dn && settled a2.up then s3.complete n a2 else s3

/-- SHOT_VERDICT (R157, R158). -/
def execShotVerdict (path : Nat) (d : Dir) (m : ShotMeas) (s : State) : Out :=
  ifFitted s (decide (path < s.nPaths)) (confined s (s.verdict path d m))

-- captures

/-- The directions of an attempt whose capture is due in this cycle (R122, R123). -/
def Attempt.capsDue (a : Attempt) (cyc : Nat) : List Dir :=
  [Dir.dn, Dir.up].filter (fun d =>
    let x := a.shot d
    !x.capOn && (match x.capS with | none => false | some k => decide (cyc = cycPlus x.b k)))

/-- The captures that are due start: each in its chain's buffer. They are lost where a buffer has not been copied, or
where neither set is free for the pair's first one (R124). -/
def PathRt.startCaps (r : PathRt) (a : Attempt) (cyc : Nat) : PathRt × Attempt :=
  let due := a.capsDue cyc
  let noSet := !a.dn.capOn && !a.up.capOn && decide (2 ≤ (r.lane.filter (fun y => y.b != a.b)).length)
  if due = [] then (r, a)
  else if noSet || due.any (fun d => (r.buffer (a.shot d).chain).isSome) then (r.freeBuffers a, a.loseCaps cyc)
  else due.foldl (fun p d =>
    let x := p.2.shot d
    (p.1.setBuffer x.chain (some { dir := d, b := x.b, at_ := cyc }), p.2.setShot d { x with capOn := true })) (r, a)

/-- Event 0x1015: captures not taken (R124). -/
def State.noteCapLost (s : State) (n : Nat) : State := s.onceEv n (n / 4) 1 (locPath n) 0x1015 [0xFF]

/-- Captures of the engine's last attempt that are due in this cycle. -/
def State.startAttCaps (s : State) (n : Nat) : State :=
  let r := s.path n
  let p := r.startCaps r.att s.cyc
  let t := s.setPath n { p.1 with att := p.2 }
  if p.2.capLost && !r.att.capLost then t.noteCapLost n else t

/-- Captures of a pair that waits for refinement. One that loses them is not refined: its record is written now. -/
def State.startLaneCaps (s : State) (n : Nat) (a : Attempt) : State :=
  let r := s.path n
  let p := r.startCaps a s.cyc
  if p.2.capLost then
    let t := (s.setPath n { p.1 with lane := r.lane.filter (fun y => y.b != a.b) }).noteCapLost n
    let u := t.writeValid n p.2 a.dn.aZc a.up.aZc 0
    u.sendFinal n (u.finalOf n p.2)
  else s.setPath n { p.1 with lane := r.lane.map (fun y => if y.b = a.b then p.2 else y) }

/-- Captures of a pair that waits for them in learning. One that loses them is not collected. -/
def State.startLearnCaps (s : State) (n : Nat) (a : Attempt) : State :=
  let r := s.path n
  let p := r.startCaps a s.cyc
  if p.2.capLost then
    let t := (s.setPath n { p.1 with learnWait := r.learnWait.filter (fun y => y.b != a.b) }).noteCapLost n
    match r.learn with | some l => t.learnCheck n l | none => t
  else s.setPath n { p.1 with learnWait := r.learnWait.map (fun y => if y.b = a.b then p.2 else y) }

/-- Everything of a path engine's captures that falls in the current cycle, once what the cycle delivers is done: a
capture that is due starts or is lost (R124, R134). -/
def State.startCaptures (s : State) (n : Nat) : State :=
  let r := s.path n
  let due (a : Attempt) : Bool := decide (a.capsDue s.cyc ≠ [])
  let s1 := (r.lane.filter due).foldl (fun t a => t.startLaneCaps n a) s
  let s2 := (r.learnWait.filter due).foldl (fun t a => t.startLearnCaps n a) s1
  if due r.att then s2.startAttCaps n else s2

/-- Put a copied capture into the attempt whose shot it belongs to. -/
def Attempt.putCapture (a : Attempt) (c : Capture) (smp : List Int) : Attempt :=
  let x := a.shot c.dir
  if x.b = c.b ∧ x.capOn ∧ x.samples = [] then a.setShot c.dir { x with samples := smp } else a

/-- The oldest whole capture of a direction that waits in a buffer, with its chain (R121, R124). -/
def PathRt.oldestCapture (r : PathRt) (d : Dir) (cyc : Nat) : Option (Nat × Capture) :=
  let whole (n : Nat) : Option (Nat × Capture) :=
    (r.buffer n).bind (fun c => if c.dir = d ∧ cycReached cyc (cycPlus c.at_ 512) then some (n, c) else none)
  match whole 0, whole 1 with
  | some x, some y => if cycDiff cyc x.2.at_ < cycDiff cyc y.2.at_ then some y else some x
  | some x, none => some x
  | none, y => y

/-- DMA has copied a chain's capture into a set (R124); a learning pair that waited for it is collected (R126). -/
def State.captureDone (s : State) (n : Nat) (d : Dir) (smp : List Int) : State :=
  let r := s.path n
  match r.oldestCapture d s.cyc with
  | none => s
  | some (chain, c) =>
    let r0 := r.setBuffer chain none
    let r1 := { r0 with
      att := r.att.putCapture c smp
      lane := r.lane.map (fun (a : Attempt) => a.putCapture c smp)
      learnWait := r.learnWait.map (fun (a : Attempt) => a.putCapture c smp) }
    match r1.learnWait.find? Attempt.captured, r1.learn with
    | some a, some l =>
      (s.setPath n { r1 with learnWait := r1.learnWait.filter (fun y => y.b != a.b) }).learnCheck n (l.collect a)
    | _, _ => s.setPath n r1

/-- A capture is 512 samples of a 12-bit converter (R96, R121). -/
def captureOk (smp : List Int) : Bool :=
  decide (smp.length = 512) && smp.all (fun v => decide (-2048 ≤ v) && decide (v ≤ 2047))

/-- CAPTURE_DMA_DONE (R124). -/
def execCaptureDmaDone (path : Nat) (d : Dir) (samples : List Int) (s : State) : Out :=
  ifFitted s (decide (path < s.nPaths)) <|
    if captureOk samples then confined s (s.captureDone path d samples) else .next s

/-- Cycles of the refinement of one pair (R132). -/
def refineTime (search : Nat) : Nat := 2 * ((2 * search + 1) * 512 + 256)

/-- REFINEMENT_START (R129, R132). -/
def execRefinementStart (path : Nat) (s : State) : Out :=
  ifFitted s (decide (path < s.nPaths)) <|
    let r := s.path path
    confined s (match r.lane with
      | [] => s
      | a :: _ =>
        if r.laneBusy || !a.captured then s
        else s.setPath path { r with laneBusy := true, laneEnd := cycPlus s.cyc (refineTime a.search) })

/-- The reported arrivals of a refined pair and the flag bits of its row of R131. -/
def refineResult (a : Attempt) (tpl : List Int) (org : Nat) : Int × Int × Nat :=
  match refineShot a.dn tpl org a.search, refineShot a.up tpl org a.search with
  | some x, some y =>
    let first := tofOf a.up a.up.aZc - tofOf a.dn a.dn.aZc
    let refined := tofOf a.up y - tofOf a.dn x
    if (refined - first).natAbs ≤ a.agree then (x, y, 0x100) else (a.dn.aZc, a.up.aZc, 0x200)
  | _, _ => (a.dn.aZc, a.up.aZc, 0x400)

/-- The upstream shot's refinement ends: the record is written and sent (R131, R132, R192). While learning runs it
reports the first pass with LEARNING (R126). -/
def State.refined (s : State) (n : Nat) : State :=
  let r := s.path n
  match r.lane with
  | [] => s
  | a :: rest =>
    if !(r.laneBusy && cycReached s.cyc r.laneEnd) then s
    else
      let tpl := tplSamples (s.blobs.look [] (K.path_TEMPLATE n))
      let v := if r.learn.isSome then (a.dn.aZc, a.up.aZc, 0) else refineResult a tpl (s.g (K.path_TPL_ORG n))
      let s1 := s.setPath n { r with lane := rest, laneBusy := false }
      let s2 := if v.2.2 = 0x200 then
          (s1.bump (K.rec_REF_DIS_COUNT n)).onceEv n (n / 4) 1 (locPath n) 0x1016 [0xFF] else s1
      let s3 := s2.writeValid n { a with learning := r.learn.isSome } v.1 v.2.1 v.2.2
      s3.sendFinal n (s3.finalOf n a)

/-- REFINEMENT_DONE (R131, R132). -/
def execRefinementDone (path : Nat) (s : State) : Out :=
  ifFitted s (decide (path < s.nPaths)) (confined s (s.refined path))

/-- An upper-timeout cancellation of the slot at `b0` takes effect on the engine's die under a serial; a slot that has
ended is not cancelled (R44, R164, R165). -/
def State.cancelPath (s : State) (n serial b0 : Nat) : State :=
  let r := s.path n
  let live := r.slot.live && decide (r.slot.b0 = b0)
  let k := if live then (r.slot.retryMax - r.slot.attempt) + b01 r.att.live else 0
  let s1 := if live then
      (s.setPath n { r.freeBuffers r.att with
        slot := { r.slot with live := false }, att := { r.att.dropCaps with live := false } }).inc (K.rec_CANCEL_COUNT n)
    else s
  let s2 := match live, r.slot.last with
    | true, some c => if c = Cls.V then s1 else (s1.failSlot n c).sendLast n
    | _, _ => s1
  s2.react (n / 4) 1 (locPath n) 0x1028 serial [k]

/-- RETRY_CANCEL_DELIVERED: the oldest cancellation on its way to the die (R44, R165). -/
def execRetryCancelDelivered (path : Nat) (s : State) : Out :=
  ifFitted s (decide (path < s.nPaths)) <|
    let r := s.path path
    confined s (match r.cancels with
      | [] => s
      | c :: rest => (s.setPath path { r with cancels := rest }).cancelPath path c.1 c.2)

-- reference pairs

/-- A reference pair is due and its place after the slot's valid attempt has come (R195). -/
def State.refPlace (s : State) (n : Nat) : Bool :=
  let r := s.path n
  r.refDue && r.refRun.isNone && !r.slot.live && !r.att.live &&
  (match r.slot.validAt with
    | none => false
    | some a => decide (a + 1 ≤ r.slot.retryMax)
        && decide (cycPlus s.cyc 1 = cycPlus r.slot.b0 ((a + 1) * r.slot.pairLen)))

/-- What a reference pair of a role latches at its B − 1 (R196). -/
def State.refOf (s : State) (n role : Nat) : RefPair :=
  { b := cycPlus s.cyc 1, role := role, zcEdge := s.g (K.path_ZC_EDGE n), stopFirst := s.g (K.path_STOP_FIRST n),
    stopCount := s.g (K.path_STOP_COUNT n), freqA := s.g (K.port_FREQ (endA n)),
    freqB := s.g (K.port_FREQ (endB n)), lockOfs := s.g (K.path_LOCK_OFS n) }

/-- Start a due reference pair (R195, R196). -/
def State.startRef (s : State) (n : Nat) : State :=
  if !(s.refPlace n && s.dieRuns (n / 4) && decide ((s.die (n / 4)).calRun = 0)) then s
  else
    let g := s.grant n (2 * s.g K.dev_E_RX) s.inNextFrame
    let r := g.1.path n
    let r1 := { r with slot := { r.slot with validAt := none } }
    if !g.2 then g.1.setPath n r1
    else g.1.setPath n { r1 with
      refSlots := 0
      refLast := 1 - r.refLast
      refRun := some (s.refOf n (1 - r.refLast)) }

-- one cycle's grants, in ascending engine order (R23, R189)

/-- What asks for a grant in this cycle. -/
inductive Want where
  | slot (n b0 mv : Nat) (f : FrameWork) (active next : Bool)
  | retry (n mv : Nat)
  | ref (n : Nat)
  deriving DecidableEq, Repr

def Want.path : Want → Nat | .slot n _ _ _ _ _ => n | .retry n _ => n | .ref n => n

/-- The slots that entry `e` of die `d` begins: the cycle is B0 − 1 of the current frame or, for OFS 0, of the next one
(R176, R188). -/
def State.slotWants (s : State) (d e mv : Nat) : List Want :=
  let w := (s.slotTable d).getD e 0
  let here := s.framing && decide (e < (s.die d).slotCount) && decide (0 < slotOfs w)
    && decide (cycPlus s.cyc 1 = cycPlus s.frameAt (slotOfs w))
  if here then
    let f : FrameWork := { frameNo := s.g K.dev_FRAME_NO, frameSeq := s.frameSeq, epoch := s.frameAt, rtc := s.frameRtc, waits := [] }
    ((slotPaths d w).filter (fun n => (s.path n).shoots && (s.path n).slotDue)).map (fun n =>
      .slot n (cycPlus s.cyc 1) mv f (s.pathActive n) false)
  else if cycPlus s.cyc 1 = s.nextBoundary then
    let a := s.adopt s.nextBoundary
    let w' := (a.slotTable d).getD e 0
    let f : FrameWork := { frameNo := a.g K.dev_FRAME_NO, frameSeq := a.frameSeq, epoch := s.nextBoundary, waits := [] }
    if e < (a.die d).slotCount ∧ slotOfs w' = 0 then
      ((slotPaths d w').filter (fun n => (a.path n).shoots)).map (fun n =>
        .slot n s.nextBoundary mv f (a.pathActive n) true)
    else []
  else []

/-- What a command asks grants for on die `d`. -/
def State.wants (s : State) (d : Nat) : Instr → List Want
  | .slotStart d' e mv => if d' = d then s.slotWants d e mv else []
  | .attemptStart n mv => if n / 4 = d then [.retry n mv] else []
  | .referencePairStart n => if n / 4 = d then [.ref n] else []
  | _ => []

/-- Grant or refuse what is asked for; a slot that has begun does not begin again. -/
def State.serveWant (s : State) : Want → State
  | .slot n b0 mv f active next => if (s.path n).slotSeen = b0 + 1 then s else s.beginSlot n b0 mv f active next
  | .retry n mv => s.retry n mv
  | .ref n => s.startRef n

/-- Serve a command's attempts on its die. Lower engines whose command waits in this cycle's queue come first: attempts
with the same B − 1 are decided in ascending PE order whatever order their commands come in (R23, R189, R206). -/
def State.serveAttempts (s : State) (d : Nat) (c : Instr) : State :=
  let mine := s.wants d c
  let all := mine ++ s.pending.flatMap (s.wants d)
  (List.range 4).foldl (fun t k =>
    if mine.any (fun w => decide (k ≤ w.path % 4)) then
      (all.filter (fun w => decide (w.path = 4 * d + k))).foldl State.serveWant t
    else t) s

/-- SLOT_START (R176, R188, R192). -/
def execSlotStart (die entry vdrvMv : Nat) (s : State) : Out :=
  ifFitted s (decide (die < s.dies) && decide (entry < 4)) (confined s (s.serveAttempts die (.slotStart die entry vdrvMv)))

/-- ATTEMPT_START (R162, R163). -/
def execAttemptStart (path vdrvMv : Nat) (s : State) : Out :=
  ifFitted s (decide (path < s.nPaths)) (confined s (s.serveAttempts (path / 4) (.attemptStart path vdrvMv)))

/-- REFERENCE_PAIR_START (R195, R196). -/
def execReferencePairStart (path : Nat) (s : State) : Out :=
  ifFitted s (decide (path < s.nPaths)) (confined s (s.serveAttempts (path / 4) (.referencePairStart path)))

/-- A shot of a reference pair or a lantern pair, given whole: presence and first-pass arrival (R116, R141, R196). -/
def State.rawShot (s : State) (n : Nat) (x0 : Shot) (raw : ShotRaw) : Shot :=
  let kept := (raw.stops.filter (fun t => x0.inWindow t.1)).take (x0.set.stopFirst + x0.set.stopCount)
  s.measureShot n { x0 with stops := kept, armedAt := some (max x0.set.winOpen x0.release) } raw.meas

/-- The settings of one shot of a reference pair (R196). -/
def RefPair.shot (p : RefPair) (d : Dir) : Shot :=
  { phase := .complete, b := p.b, chain := chainOf p.role d
    set := { winOpen := 8, winLen := 1024, zcEdge := p.zcEdge, stopFirst := p.stopFirst, stopCount := p.stopCount,
             lockOfs := p.lockOfs, ampMin := 64, ampMax := 2047,
             freq := match d with | .dn => p.freqA | .up => p.freqB } }

/-- ZO of a role after a passing reference pair (R197). -/
def zoNext (zo dt : Int) (unset : Bool) (shift : Nat) : Int :=
  if unset then dt else roundHalfUp (zo * 2 ^ shift + (dt - zo)) (2 ^ shift)

/-- A passing reference pair (R197, R200). -/
def State.refPasses (s : State) (n : Nat) (p : RefPair) (dt : Int) : State :=
  let zo := s.zoOf n p.role
  let alarm := s.g (K.path_ZO_ALARM n)
  let s1 := if !zo.2 && decide (0 < alarm) && decide (alarm < (dt - zo.1).natAbs) then
      s.ev (n / 4) 1 (locPath n) 0x1031 (leBytes 4 (ofSigned 32 (fitS 2 32 (dt - zo.1)))) else s
  let s2 := s1.pi 32 (if p.role = 0 then K.rec_ZO0 n else K.rec_ZO1 n) (zoNext zo.1 dt zo.2 (s1.g (K.path_ZO_SHIFT n)))
  let r := s2.path n
  let s3 := s2.setPath n { r with
    refRun := none, refDue := false, zoSet0 := r.zoSet0 || decide (p.role = 0), zoSet1 := r.zoSet1 || decide (p.role ≠ 0) }
  ((s3.pi 32 (K.rec_DT_REF n) dt).p (K.rec_REF_CYC n) p.b).inc (K.rec_REF_COUNT n)

/-- A reference pair completes; one whose template was invalidated meanwhile is discarded (R197, R206). -/
def State.refDone (s : State) (n : Nat) (dn up : ShotRaw) : State :=
  match (s.path n).refRun with
  | none => s
  | some p =>
    if p.spoiled then s.setPath n { s.path n with refRun := none }
    else
      let x := s.rawShot n (p.shot .dn) dn
      let y := s.rawShot n (p.shot .up) up
      let tx := tofOf x x.aZc
      let ty := tofOf y y.aZc
      let t := (s.noteCalErr n x).noteCalErr n y
      if x.presence && y.presence && !timeRangeOf tx ty then t.refPasses n p (ty - tx)
      else
        (((t.setPath n { t.path n with refRun := none }).inc (K.rec_REF_COUNT n)).inc (K.rec_REF_FAIL_COUNT n)).onceEv n
          (n / 4) 1 (locPath n) 0x1030 []

/-- REFERENCE_PAIR_DONE (R197, R200). -/
def execReferencePairDone (path : Nat) (dn up : ShotRaw) (s : State) : Out :=
  ifFitted s (decide (path < s.nPaths)) (confined s (s.refDone path dn up))

end Sys2Proof.Machine
end

