-- ==== Sys2Proof/Machine/Ledger.lean ====
section
/-! DEFINITION. D0's ledger (R442 to R449): the two slots of a record, the ledger controller's record writes, and the
bookings of sections. A register holds what its record's newer slot holds, unless a write of the record is due. -/

namespace Sys2Proof.Machine

-- slots (R442, R443)

/-- Number of record r of section i (R446). -/
def recNo (i r : Nat) : Nat := 5 + 20 * i + r

/-- A slot: payload, SEQ and CRC. -/
def recBytes (payload : List Nat) (seq : Nat) : List Nat :=
  let b := (padTo 56 payload).take 56 ++ leBytes 4 seq
  b ++ leBytes 4 (crc32c b)

def recSeq (b : List Nat) : Nat := leAt b 56 4
def recCrc (b : List Nat) : Nat := leAt b 60 4

/-- What a slot of a record holds. -/
def State.slotAt (s : State) (n x : Nat) : List Nat :=
  let b := s.ledger.slots.look [] (2 * n + x)
  if b = [] then recBytes [] 1 else b

/-- SECDED (39,32) corrects one wrong bit of a word and finds two (R442); a word with more counts as uncorrectable
(DEDUCED, log entry 90). -/
def badWords (words : List (Nat × Nat)) : Nat := words.countP (fun w => decide (2 ≤ w.2))
def fixedWords (words : List (Nat × Nat)) : Nat := words.countP (fun w => decide (w.2 = 1))

/-- A slot is valid: no uncorrectable word, and its CRC matches (R443). -/
def recValid (b : List Nat) (bad : Bool) : Bool :=
  !bad && decide (b.length = 64) && decide (recCrc b = crc32c (b.take 60))

/-- A SEQ is newer than another (R443). -/
def seqNewer (x y : Nat) : Bool :=
  let d := wrap32 (x + two32 - y)
  decide (1 ≤ d) && decide (d < 2 ^ 31)

/-- How the slots of a record resolve (R444). -/
inductive Resolved where
  | use (slot : Nat)
  | tie (slot : Nat)
  | repair (slot : Nat)
  | lost
  deriving DecidableEq, Repr

/-- The table of R444, with the slot TAIL names. -/
def resolveSlots (a b : List Nat) (badA badB : Bool) (tail : Option Nat) : Resolved :=
  match recValid a badA, recValid b badB with
  | true, true =>
    if recSeq a ≠ recSeq b then .use (b01 (seqNewer (recSeq b) (recSeq a)))
    else if a = b then .use 0
    else .tie (tail.getD 0)
  | true, false => .repair 0
  | false, true => .repair 1
  | false, false => .lost

/-- The slot TAIL names of a record. -/
def State.tailOf (s : State) (n : Nat) : Option Nat :=
  match s.ledger.tail with
  | some (m, x) => if m = n then some x else none
  | none => none

/-- The slot whose content is in force: the newer valid one. -/
def State.newerSlot (s : State) (n : Nat) : Nat :=
  match resolveSlots (s.slotAt n 0) (s.slotAt n 1) false false (s.tailOf n) with
  | .use x => x
  | .tie x => x
  | .repair x => x
  | .lost => 1

/-- Put a slot's content into the ledger. -/
def State.putSlot (s : State) (n x : Nat) (b : List Nat) : State :=
  { s with ledger := { s.ledger with slots := s.ledger.slots.store [] (2 * n + x) b } }

-- registers of sections and their records (R446, R448)

/-- The first tariff register and the grand total of a quantity: 0 FWD, 1 REV, 2 HEAT, 3 COOL (R362). -/
def totKey (sect q : Nat) : Nat := K.tot_FWD_T sect (10 * q)

/-- The n-th of a section's 27 maximum demands (R363). -/
def mdKey (i n : Nat) : Nat := K.dem_MDV_T i 0 + 18 * (n / 9) + n % 9

/-- A section's booked residue: 0, 1 nL forward and reverse; 2, 3 carries; 4, 5 nJ heat and cool. -/
def State.ancOf (s : State) (i j : Nat) : Nat := (s.ledger.anc.look [] i).getD j 0

/-- A BK record (R447). -/
def Booking.bytes (b : Booking) : List Nat :=
  leBytes 8 b.no ++ [b.tariff, b.dir, b.mode, b.flags] ++ leBytes 4 b.rtc ++ leBytes 8 b.vol ++ leBytes 8 b.energy ++
    leBytes 8 b.time ++ leBytes 4 b.res ++ leBytes 4 b.carry ++ leBytes 4 b.resE ++ [0, 0, 0, 0]

/-- The booking a BK record holds; none with BOOK_NO 0. -/
def bookingOf (i : Nat) (p : List Nat) : Option Booking :=
  if leAt p 0 8 = 0 then none
  else some { sect := i, no := leAt p 0 8, tariff := p.getD 8 0, dir := p.getD 9 0, mode := p.getD 10 0, flags := p.getD 11 0
              rtc := leAt p 12 4, vol := leAt p 16 8, energy := leAt p 24 8, time := leAt p 32 8, res := leAt p 40 4
              carry := leAt p 44 4, resE := leAt p 48 4 }

/-- Registers of a section's record 1 to 8 and 10 to 19 with their widths in bytes, in the order of R446 (log entry
90). -/
def recKeys (i r : Nat) : List (Nat × Nat) :=
  if 1 ≤ r ∧ r ≤ 8 then (List.range 5).map (fun j => (totKey i ((r - 1) / 2) + (if r % 2 = 1 then 0 else 5) + j, 8))
  else if r = 10 then [(K.res_FAIL_TIME i, 8), (K.res_GAP_TIME i, 8), (K.sect_E_HOLD_TIME i, 8)]
  else if r = 11 then [(K.dem_INT_FWD i, 8), (K.dem_INT_HEAT i, 8), (K.dem_INT_COOL i, 8), (K.dem_INT_START i, 4)]
  else if r = 12 then
    [(K.res_PEAK_FWD_INT i, 8), (K.res_PEAK_FWD_INT_T i, 4), (K.res_PEAK_FWD_BP i, 8), (K.res_PEAK_FWD_BP_T i, 4),
     (K.res_PEAK_REV_INT i, 8), (K.res_PEAK_REV_INT_T i, 4), (K.res_PEAK_REV_BP i, 8), (K.res_PEAK_REV_BP_T i, 4)]
  else if 13 ≤ r then
    (((List.range 4).map (fun j => 4 * (r - 13) + j)).filter (· < 27)).flatMap (fun n => [(mdKey i n, 8), (mdKey i n + 9, 4)])
  else []

/-- BOOK_NO that begins every totals, ANC and DEM record (R448). -/
def bookHead (r : Nat) : Nat := if r ≤ 11 then 8 else 0

/-- The payload a record has with the registers as they stand (R446 to R448). -/
def State.payload (s : State) (i r : Nat) : List Nat :=
  if r = 0 then (match s.ledger.bk.look none i with | some b => b.bytes | none => [])
  else
    (if bookHead r = 0 then [] else leBytes 8 (s.ledger.no.look 0 (recNo i r))) ++
      (if r = 9 then (List.range 6).flatMap (fun j => leBytes 4 (s.ancOf i j)) ++ leBytes 8 (s.g (K.res_OVF_VOL i))
       else (recKeys i r).flatMap (fun e => leBytes e.2 (s.g e.1)))

/-- Write a register of a section, in the ledger's table or the dictionary's. -/
def State.putReg (s : State) (k v : Nat) : State := if isLedKey k then s.pLed k v else s.p k v

/-- Registers take their values from a payload, in order from an offset. -/
def State.loadKeys (s : State) (p : List Nat) : List (Nat × Nat) → Nat → State
  | [], _ => s
  | e :: rest, o => (s.putReg e.1 (leAt p o e.2)).loadKeys p rest (o + e.2)

/-- The registers of a record take their values from its payload. -/
def State.loadRecord (s : State) (i r : Nat) (p : List Nat) : State :=
  let l := s.ledger
  if r = 0 then { s with ledger := { l with bk := l.bk.store none i (bookingOf i p) } }
  else
    let s1 : State := if bookHead r = 0 then s else
      { s with ledger := { l with no := l.no.store 0 (recNo i r) (leAt p 0 8) } }
    if r = 9 then
      ({ s1 with ledger := { s1.ledger with anc := s1.ledger.anc.store [] i ((List.range 6).map (fun j => leAt p (8 + 4 * j) 4)) } }).p
        (K.res_OVF_VOL i) (leAt p 32 8)
    else s1.loadKeys p (recKeys i r) (bookHead r)

-- the ledger controller (R443, R448, R452)

/-- Records of a section are to be written. -/
def State.markRecs (s : State) (i : Nat) (rs : List Nat) : State :=
  { s with ledger := { s.ledger with due := rs.foldl (fun l r => insertNat (recNo i r) l) s.ledger.due } }

/-- The slot and bytes of a write of a record: the slot that is not the newer valid one, with SEQ one above the newer
one's (R443). -/
def State.nextWrite (s : State) (n : Nat) : Nat × List Nat :=
  let x := s.newerSlot n
  let seq := if recValid (s.slotAt n x) false then wrap32 (recSeq (s.slotAt n x) + 1) else 1
  (1 - x, recBytes (s.payload ((n - 5) / 20) ((n - 5) % 20)) seq)

/-- Begin the write of the first record due: the TAIL entry first (R443). -/
def State.startWrite (s : State) : State :=
  let l := s.ledger
  match l.due with
  | [] => if l.fire then { s with ledger := { l with fire := false } } else s
  | n :: rest =>
    let w := s.nextWrite n
    { s with ledger := { l with
      due := rest, tail := some (n, w.1), write := some { record := n, slot := w.1, bytes := w.2, from_ := s.cyc } } }

/-- Cycles of a record write: four words of the TAIL entry and sixteen of the slot, 4 cyc each (R442, R443, R446). -/
abbrev recCycles : Nat := 80

/-- A record write ends: its slot holds the new content. -/
def State.landWrite (s : State) (w : RecWrite) : State :=
  let t := s.putSlot w.record w.slot w.bytes
  { t with ledger := { t.ledger with write := none } }

/-- One cycle of the ledger controller. -/
def State.ledgerStep (s : State) : State :=
  match s.ledger.write with
  | some w => if cycReached s.cyc (cycPlus w.from_ recCycles) then (s.landWrite w).startWrite else s
  | none => s.startWrite

/-- Write one record whole. -/
def State.landRec (s : State) (n : Nat) : State :=
  let w := s.nextWrite n
  let t := s.putSlot n w.1 w.2
  { t with ledger := { t.ledger with tail := some (n, w.1), due := t.ledger.due.filter (· != n) } }

/-- The write in progress of a record that `p` picks, and the due ones, are carried through. -/
def State.landWhere (s : State) (p : Nat → Bool) : State :=
  let s1 := match s.ledger.write with | some w => if p w.record then s.landWrite w else s | none => s
  (s1.ledger.due.filter p).foldl (fun t n => t.landRec n) s1

/-- Everything due is written. -/
def State.landAll (s : State) : State :=
  let t := s.landWhere (fun _ => true)
  { t with ledger := { t.ledger with fire := false } }

/-- A write in progress is abandoned: past its TAIL entry it leaves its slot torn (R454). -/
def State.tearWrite (s : State) : State :=
  match s.ledger.write with
  | none => s
  | some w =>
    let t := if cycDiff s.cyc w.from_ < 16 then s else s.putSlot w.record w.slot [0]
    { t with ledger := { t.ledger with write := none } }

/-- Kiln-log entries the ledger buffer holds are lost; LOG_LAST is the highest that was copied (R700, R702). -/
def State.dropLog (s : State) : State :=
  if s.ledger.log = [] then s
  else
    let held := s.klog.filter (fun e => !s.ledger.log.contains e.no)
    ({ s with klog := held, ledger := { s.ledger with log := [] } }).ps
      [(K.log_LOG_LAST, match held.getLast? with | some e => e.no | none => 0),
       (K.log_LOG_FIRST, match held with | e :: _ => e.no | [] => 0)]

/-- Records that are due or in progress fall back to what their newer valid slot holds, and what waits to be booked is
lost (R449, R454). -/
def State.abandonLedger (s : State) : State :=
  let back := (match s.ledger.write with | some w => [w.record] | none => []) ++ s.ledger.due
  let s1 := s.tearWrite.dropLog
  let s2 := back.foldl (fun t n =>
    t.loadRecord ((n - 5) / 20) ((n - 5) % 20) (t.slotAt n (t.newerSlot n))) s1
  { s2 with ledger := { s2.ledger with due := [], fire := false }, bill := { s2.bill with waiting := [] } }

-- booking (R323, R339, R447, R448)

/-- Add to one register: it holds at 2^64 − 1, and the first excess is logged once for it (R325). -/
def State.addTotal (s : State) (sect q tariff inc : Nat) : State :=
  let k := totKey sect q + tariff
  let v := s.g k + inc
  let t := s.pLed k v
  if two64 ≤ v ∧ k ∉ s.bill.held then
    ({ t with bill := { t.bill with held := k :: t.bill.held } }).evChip 0x3014 [sect, q, tariff]
  else t

/-- The tariff register a booking goes to: T0 while the clock is invalid (R324, R329). -/
def State.bookTariff (s : State) : Nat := if s.bit K.cal_CAL_STAT 7 then 0 else s.bill.tariff

/-- What a booking adds to a quantity: 0 FWD, 1 REV, 2 HEAT, 3 COOL. -/
def Booking.amount (b : Booking) (q : Nat) : Nat :=
  (if q = b.dir then b.vol else 0) + (if 2 ≤ q ∧ q = b.mode + 1 then b.energy else 0)

/-- The records beside BK that a booking touches, in the order they are written (R448): totals, ANC1, ANC2, DEM. -/
def Booking.touches (b : Booking) : List Nat :=
  (List.range 8).filterMap (fun j =>
    let q := j / 2
    if b.amount q ≠ 0 ∧ (j % 2 = 1 ∨ b.tariff ≤ 4) then some (j + 1) else none) ++
  (if b.dir ≤ 1 ∨ b.mode ≠ 0 ∨ bitAt b.flags 3 then [9] else []) ++
  (if b.flags % 8 ≠ 0 then [10] else []) ++
  (if b.amount 0 ≠ 0 ∨ b.amount 2 ≠ 0 ∨ b.amount 3 ≠ 0 then [11] else [])

/-- Add to an entry of time or volume that the spec gives no end (log entry 20). -/
def State.addOpen (s : State) (site k v : Nat) : State := s.p k (fitU site 64 ((s.g k + v : Nat) : Int))

/-- A booking's residues: those of its direction and of its mode are set (R449). -/
def Booking.residues (b : Booking) (s : State) : List Nat :=
  (List.range 6).map (fun j =>
    if j = b.dir then b.res else if 2 ≤ j ∧ j ≤ 3 ∧ j - 2 = b.dir then b.carry
    else if 4 ≤ j ∧ j - 3 = b.mode then b.resE else s.ancOf b.sect j)

/-- A booking enters one record of its section: amounts are added, residues set (R323, R339, R448, R449). -/
def State.enterBooking (s : State) (b : Booking) (r : Nat) : State :=
  let i := b.sect
  let s1 : State := { s with ledger := { s.ledger with no := s.ledger.no.store 0 (recNo i r) b.no } }
  if 1 ≤ r ∧ r ≤ 8 then
    let q := (r - 1) / 2
    let t := if (if r % 2 = 1 then b.tariff ≤ 4 else 5 ≤ b.tariff) then s1.addTotal i q b.tariff (b.amount q) else s1
    if r % 2 = 0 then t.addTotal i q 9 (b.amount q) else t
  else if r = 9 then
    let t : State := { s1 with ledger := { s1.ledger with anc := s1.ledger.anc.store [] i (b.residues s1) } }
    if bitAt b.flags 3 then t.addOpen 5 (K.res_OVF_VOL i) b.vol else t
  else if r = 10 then
    let t := if bitAt b.flags 0 then s1.addOpen 8 (K.res_FAIL_TIME i) b.time else s1
    let u := if bitAt b.flags 1 then t.addOpen 8 (K.res_GAP_TIME i) b.time else t
    if bitAt b.flags 2 then u.addOpen 3 (K.sect_E_HOLD_TIME i) b.time else u
  else if r = 11 then
    [(K.dem_INT_FWD i, b.amount 0), (K.dem_INT_HEAT i, b.amount 2), (K.dem_INT_COOL i, b.amount 3)].foldl
      (fun t e => if e.2 = 0 then t else t.pLed e.1 (t.g e.1 + e.2)) s1
  else s1

/-- BOOK_NO of a section's last booking, 0 for none. -/
def State.bookNo (s : State) (i : Nat) : Nat := ((s.ledger.bk.look none i).map (·.no)).getD 0

/-- Book one booking: every register it changes in one cycle, and its BK record and the records it touches to be written
(R323, R327, R448). -/
def State.bookNow (s : State) (b0 : Booking) : State :=
  let i := b0.sect
  let b := { b0 with no := s.bookNo i + 1, tariff := s.bookTariff, rtc := s.rtcNow }
  let s1 : State := { s with ledger := { s.ledger with bk := s.ledger.bk.store none i (some b) } }
  (b.touches.foldl (fun t r => t.enterBooking b r) s1).markRecs i (0 :: b.touches)

/-- A record a booking of section i writes: BK, totals, ANC1, ANC2 or DEM. -/
def isBooked (i n : Nat) : Bool := decide (recNo i 0 ≤ n) && decide (n ≤ recNo i 11)

/-- A firing's LEDGER action has replaced a total: its record takes the BOOK_NO of the section's BK and is to be written
(R452). -/
def State.markTotal (s : State) (key : Nat) : State :=
  let i := key / 256 - 0x2600
  let j := key % 256 - 1
  let r := 1 + 2 * (j / 10) + j % 10 / 5
  if key < 0x260000 ∨ 0x260800 ≤ key then s
  else
    let l := s.ledger
    ({ s with ledger := { l with no := l.no.store 0 (recNo i r) (s.bookNo i), fire := true } }).markRecs i [r]

/-- Record writes of a section's last booking have not ended (R448). -/
def State.sectWriting (s : State) (i : Nat) : Bool :=
  s.ledger.due.any (isBooked i) || (match s.ledger.write with | some w => isBooked i w.record | none => false)

/-- What waits is booked, each booking of a section after the record writes of the one before (R327, R448). -/
def State.bookAll (s : State) : State :=
  s.bill.waiting.foldl (fun t b => (t.landWhere (isBooked b.sect)).bookNow b)
    { s with bill := { s.bill with waiting := [] } }

/-- The number is that of a section's BK record. -/
def isBk (n : Nat) : Bool := decide (5 ≤ n) && decide ((n - 5) % 20 = 0)

/-- Sections with a booking that BK does not hold yet (R453 step 5). -/
def State.bksDue (s : State) : Nat :=
  (s.ledger.due.filter isBk).length + (match s.ledger.write with | some w => b01 (isBk w.record) | none => 0)

/-- The ledger at the power-fail commit (R327, R449, R453, R454): bookings that wait go into BK, BK records are written,
every other record write is abandoned. The record writes of a boundary sequence or of a firing's LEDGER actions, which a
restart repeats from their sealed journal, count as made (R452, R455). -/
def State.failLedger (s : State) : State × Nat :=
  let t := s.bookAll
  (if t.bill.unretired || t.ledger.fire then t.landAll else (t.landWhere isBk).abandonLedger, t.bksDue)

/-- Catch-up is running (R355, R366). -/
def State.catchUp (s : State) : Bool := s.bit K.cal_CAL_STAT 2

/-- A booking of a section can be made now: not while catch-up runs or closes follow one another (R354, R355), during a
boundary sequence or a firing's LEDGER writes (R452, R456), or before the record writes of the section's last booking
have ended (R448). -/
def State.booksNow (s : State) (i : Nat) : Bool :=
  !s.catchUp && !s.bill.hold && !s.bill.unretired && !s.ledger.fire && !s.sectWriting i

/-- Book, or wait: behind a booking of the section that waits, too. -/
def State.book (s : State) (b : Booking) : State :=
  if s.booksNow b.sect && !s.bill.waiting.any (fun w => w.sect == b.sect) then s.bookNow b
  else { s with bill := { s.bill with waiting := s.bill.waiting ++ [b] } }

/-- Waiting bookings that can be made are made, in order. -/
def State.flushBookings (s : State) : State :=
  if s.bill.waiting = [] then s
  else s.bill.waiting.foldl (fun t b => t.book b) { s with bill := { s.bill with waiting := [] } }

end Sys2Proof.Machine
end

