-- ==== Sys2Proof/Machine/Book.lean ====
section
/-! DEFINITION. Heat energy (R290 to R297). -/

namespace Sys2Proof.Machine

/-- What a computation's energy is formed from (R292 to R294). -/
structure Heat where
  /-- Energy hold: no energy (R292). -/
  hold  : Bool
  /-- 0 dead band, 1 heating, 2 cooling. -/
  mode  : Nat
  rho   : Rat
  dh    : Rat
  clamp : Bool
  deriving DecidableEq, Repr

/-- A pair channel's temperature, none where R292 puts the computation in energy hold. -/
def State.pairTemp (s : State) (i c : Nat) : Option Rat :=
  if (s.chan c).lastOk && decide (cycDiff s.cyc (s.chan c).valCyc ≤ s.g (K.sect_T_AGE_MAX i) * cycPerSecond) then
    s.chanTemp c
  else none

/-- Density in kg/m³ of a RHO_SEG ordinate, and enthalpy in J/kg of an H_SEG ordinate (R293). -/
def rhoOf (y : Int) : Rat := f64 (mkRat (y * 1024) (2 ^ 30))
def enthalpyOf (y : Int) : Rat := f64 (mkRat (y * 512000) (2 ^ 30))

/-- Form the energy inputs of section `i` as they stand (R292 to R294). -/
def State.heat (s : State) (i : Nat) : Heat :=
  match s.pairTemp i (s.g (K.sect_TF_CHAN i)), s.pairTemp i (s.g (K.sect_TR_CHAN i)) with
  | some tf, some tr =>
    let hf := s.evalSeg (s.g (K.sect_H_SEG i)) (toQ16 tf)
    let hr := s.evalSeg (s.g (K.sect_H_SEG i)) (toQ16 tr)
    let ro := s.evalSeg (s.g (K.sect_RHO_SEG i)) (toQ16 (if s.g (K.sect_METER_SIDE i) = 0 then tf else tr))
    let d := fSub tf tr
    let db := fOf (s.g (K.sect_DEADBAND i)) 100
    let mode := if db < d then 1 else if d < -db then 2 else 0
    let dh := if mode = 1 then fSub (enthalpyOf hf.y) (enthalpyOf hr.y)
      else if mode = 2 then fSub (enthalpyOf hr.y) (enthalpyOf hf.y) else 0
    { hold := false, mode := mode, rho := rhoOf ro.y, dh := dh, clamp := hf.flag || hr.flag || ro.flag }
  | _, _ => { hold := true, mode := 0, rho := 0, dh := 0, clamp := false }

/-- DH_BAD: Δh of 0 or less in heating or cooling (R294). -/
def Heat.bad (h : Heat) : Bool := decide (h.mode ≠ 0) && decide (h.dh ≤ 0)

/-- E_FLAGS (R317). -/
def Heat.flags (h : Heat) (rev : Bool) : Nat :=
  ofBits [true, decide (h.mode = 1), decide (h.mode = 2), !h.hold && decide (h.mode = 0), h.hold, rev, h.clamp, h.bad]

/-- nJ of a volume in nL (R295). -/
def Heat.nJ (h : Heat) (dv : Nat) : Nat :=
  (ratHalfUp (fDiv 9 (fMul (fMul (dv : Rat) h.rho) h.dh) 1000)).toNat

/-- Add the energy of `dv` nL to the section's residue, and the whole J to its booking (R295). -/
def State.addEnergy (s : State) (dv : Nat) (h : Heat) (b : Booking) : State × Booking :=
  if h.hold || decide (h.mode = 0) || h.bad || decide (dv = 0) then (s, b)
  else
    let r := s.sect b.sect
    let e := h.nJ dv + (if h.mode = 1 then r.heatRes else r.coolRes)
    let rest := e % 10 ^ 9
    (s.setSect b.sect (if h.mode = 1 then { r with heatRes := rest } else { r with coolRes := rest }),
      { b with mode := h.mode, energy := e / 10 ^ 9, resE := rest })

/-- Enter or leave energy hold (R292). -/
def State.holdEnergy (s : State) (i : Nat) (hold : Bool) : State :=
  let r := s.sect i
  let s1 := s.setSect i { r with eHold := hold }
  if hold && !r.eHold then s1.evChip 0x1049 [i] else s1

/-- Log a clamped ρ or h once per section and energy window (R293). -/
def State.noteClamp (s : State) (i : Nat) (h : Heat) : State := if h.clamp then s.onceEv i 0 3 0 0x104A [i] else s

end Sys2Proof.Machine
end

