-- ==== Sys2Proof/Machine/Calendar.lean ====
section
/-! DEFINITION. The real-time clock's fields (R375 to R379, R394), boundary keys (R330), the calendar's tariff (R331 to
R336) and the scheduled billing boundaries (R344, R345). -/

namespace Sys2Proof.Machine

/-- Date and time fields, in binary. -/
structure Moment where
  year   : Nat
  month  : Nat
  day    : Nat
  wday   : Nat
  hour   : Nat
  minute : Nat
  second : Nat
  deriving DecidableEq, Repr

/-- BCD of one byte, and back. -/
def bcdOf (v : Nat) : Nat := v / 10 * 16 + v % 10
def ofBcd (b : Nat) : Nat := b / 16 % 16 * 10 + b % 16

/-- Fields of the RTC_CAL layout (R394). -/
def calFields (w : Nat) : Moment :=
  { year := ofBcd (field w 55 48), month := ofBcd (field w 47 40), day := ofBcd (field w 39 32),
    wday := field w 31 24, hour := ofBcd (field w 23 16), minute := ofBcd (field w 15 8), second := ofBcd (field w 7 0) }

/-- The RTC_CAL layout of fields (R394). -/
def calWord (m : Moment) : Nat :=
  bcdOf m.second + 2 ^ 8 * bcdOf m.minute + 2 ^ 16 * bcdOf m.hour + 2 ^ 24 * m.wday + 2 ^ 32 * bcdOf m.day +
    2 ^ 40 * bcdOf m.month + 2 ^ 48 * bcdOf m.year

/-- Last day of a month; month 0 has 31 days; years divisible by 4 are leap years (R376, R377). -/
def lastDay (y m : Nat) : Nat :=
  if m = 2 then (if y % 4 = 0 then 29 else 28)
  else if m = 4 ∨ m = 6 ∨ m = 9 ∨ m = 11 then 30 else 31

/-- Days of the months before `m` in a non-leap year (R379). -/
def cumDays (m : Nat) : Nat := [0, 31, 59, 90, 120, 151, 181, 212, 243, 273, 304, 334].getD (m - 1) 0

/-- SEC of fields by the calculation of R379: month 0 counts as January, day 0 as day 1. -/
def secOf (f : Moment) : Nat :=
  let m := max 1 f.month
  let d := max 1 f.day
  let days := 365 * f.year + (f.year + 3) / 4 + cumDays m + (d - 1) + (if f.year % 4 = 0 ∧ 2 < m then 1 else 0)
  days * 86400 + f.hour * 3600 + f.minute * 60 + f.second

/-- 2100-01-01 00:00:00 in seconds (R375). -/
abbrev rtcOverflow : Nat := 3155760000

/-- Month and day of the day of a year, counted from 0. -/
def monthDay (y doy : Nat) : (n m : Nat) → Nat × Nat
  | 0, m => (m, doy + 1)
  | n + 1, m => if doy < lastDay y m then (m, doy + 1) else monthDay y (doy - lastDay y m) n (m + 1)

/-- The fields derived from SEC in BIN mode (R375): after 2100 they go on from 2000-01-01. -/
def binFields (sec : Nat) : Moment :=
  let days := sec % rtcOverflow / 86400
  let r := days % 1461
  let y := days / 1461 * 4 + (if r < 366 then 0 else (r - 366) / 365 + 1)
  let doy := if r < 366 then r else (r - 366) % 365
  let md := monthDay y doy 12 1
  let t := sec % 86400
  { year := y, month := md.1, day := md.2, wday := (5 + sec / 86400) % 7 + 1,
    hour := t / 3600, minute := t / 60 % 60, second := t % 60 }

/-- One step of a day carry in CAL mode: the fields and whether the year passed 2099 (R376). -/
def dayCarry (f : Moment) : Moment × Bool :=
  let f1 := { f with wday := if f.wday = 7 then 1 else f.wday + 1 }
  if f.day ≠ lastDay f.year f.month ∧ f.day < 31 then ({ f1 with day := f.day + 1 }, false)
  else if f.month ≠ 12 then ({ f1 with day := 1, month := f.month + 1 }, false)
  else if f.year ≠ 99 then ({ f1 with day := 1, month := 1, year := f.year + 1 }, false)
  else ({ f1 with day := 1, month := 1, year := 0 }, true)

/-- One second tick in CAL mode (R376). -/
def calTick (f : Moment) : Moment × Bool :=
  if f.second < 59 then ({ f with second := f.second + 1 }, false)
  else
    let f1 := { f with second := 0 }
    if f.minute < 59 then ({ f1 with minute := f.minute + 1 }, false)
    else
      let f2 := { f1 with minute := 0 }
      if f.hour = 23 ∨ 29 ≤ f.hour then dayCarry { f2 with hour := 0 } else ({ f2 with hour := f.hour + 1 }, false)

-- boundary keys

/-- The key of a moment (R330). -/
def keyOf (f : Moment) : Nat :=
  f.year * 2 ^ 20 + f.month * 2 ^ 16 + f.day * 2 ^ 11 + f.hour * 2 ^ 6 + f.minute

/-- RTC seconds of a key's minute, by the calculation of R379. -/
def keySec (k : Nat) : Nat :=
  secOf { year := field k 26 20, month := field k 19 16, day := field k 15 11, wday := 0, hour := field k 10 6,
          minute := field k 5 0, second := 0 }

-- the tariff of a minute

/-- What R336 evaluates: tariff, SEASON_NOW, DAYPROF_NOW and whether a special day matched. -/
structure TariffOf where
  tariff  : Nat
  season  : Nat
  dayprof : Nat
  special : Bool
  deriving DecidableEq, Repr

/-- Start of a season as month and day in one number, if it is enabled (R331). -/
def seasonStart (w : Nat) : Option Nat := if bitAt w 31 then some (field w 15 12 * 32 + field w 4 0) else none

/-- The season in force: the latest enabled start not after today's, else the latest of the year; 0xFF none. -/
def State.seasonNow (s : State) (f : Moment) : Nat :=
  let today := f.month * 32 + f.day
  let starts := (List.range 4).filterMap (fun n => (seasonStart (s.g (K.cal_SEASON n))).map (fun v => (v, n)))
  let past := starts.filter (fun e => decide (e.1 ≤ today))
  let pick := if past = [] then starts else past
  match pick with
  | [] => 0xFF
  | e :: r => (r.foldl (fun a b => if a.1 < b.1 then b else a) e).2

/-- The lowest-numbered enabled special day that matches (R334). -/
def State.specialNow (s : State) (f : Moment) : Option Nat :=
  ((List.range 64).find? (fun n =>
    let w := s.g (K.cal_SPECIAL n)
    bitAt w 31 && decide (field w 19 16 = f.month) && decide (field w 15 11 = f.day) &&
      (bitAt w 30 || decide (field w 29 23 = f.year)))).map (fun n => field (s.g (K.cal_SPECIAL n)) 3 0)

/-- Switch points of a day profile: tariff and minute (R333). -/
def profPoints (bytes : List Nat) : List (Nat × Nat) :=
  (List.range (bytes.getD 0 0)).map (fun k => let w := leAt bytes (2 + 2 * k) 2; (field w 15 12, field w 10 0))

/-- The tariff of a minute with a valid clock (R336). -/
def State.tariffAt (s : State) (f : Moment) : TariffOf :=
  if s.g K.cal_CAL_EN = 0 then { tariff := 1, season := 0xFF, dayprof := 0, special := false }
  else
    let sn := s.seasonNow f
    let wk := if sn = 0xFF then 0 else field (s.g (K.cal_SEASON sn)) 18 16
    let sp := s.specialNow f
    let wd := if f.wday = 0 then 0 else f.wday - 1
    let dp := match sp with | some d => d | none => field (s.g (K.cal_WEEK wk)) (4 * wd + 3) (4 * wd)
    let pts := profPoints (s.blobs.look [] (K.cal_DAYPROF dp))
    let now := f.hour * 60 + f.minute
    let t := match (pts.filter (fun e => decide (e.2 ≤ now))).getLast?, pts.getLast? with
      | some e, _ => e.1
      | none, some e => e.1
      | none, none => 1
    { tariff := t, season := sn, dayprof := dp, special := sp.isSome }

-- billing boundaries

/-- BILL_MODE, BILL_DAY and BILL_HOUR in force: written ones are from the next minute tick on (R358). -/
def State.schedule (s : State) : Nat × Nat × Nat :=
  s.bill.sched.getD (s.g K.cal_BILL_MODE, s.g K.cal_BILL_DAY, s.g K.cal_BILL_HOUR)

/-- Key of the scheduled boundary of a month, counted from January 2000 (R344). -/
def State.boundaryKey (s : State) (i : Nat) : Nat :=
  i / 12 * 2 ^ 20 + (i % 12 + 1) * 2 ^ 16 + s.schedule.2.1 * 2 ^ 11 + s.schedule.2.2 * 2 ^ 6

/-- Scheduled boundaries K with lo < K ≤ hi, in ascending order (R354). -/
def State.boundaries (s : State) (lo hi : Nat) : List Nat :=
  if s.schedule.1 = 0 ∨ hi ≤ lo then []
  else
    let y0 := field lo 26 20
    let y1 := min 99 (field hi 26 20)
    ((List.range (12 * (y1 + 1 - y0))).map (fun i => s.boundaryKey (12 * y0 + i))).filter
      (fun k => decide (lo < k) && decide (k ≤ hi))

/-- The latest scheduled boundary at or before a key, 0 for none (R345). -/
def State.latestBoundary (s : State) (k : Nat) : Nat :=
  let y := field k 26 20
  (s.boundaries (if y = 0 then 0 else (y - 1) * 2 ^ 20) k).getLast?.getD 0

/-- NEXT_BKEY: the first scheduled boundary after a key, 0 for none (R365). -/
def State.nextBkey (s : State) (k : Nat) : Nat := (s.boundaries k (k + 2 * 2 ^ 20)).headD 0

/-- An aligned end: a minute of the hour that is a multiple of DEMAND_INT, at second 0 (R338). -/
def alignedAt (f : Moment) (di : Nat) : Bool := decide (f.minute % di = 0) && decide (f.second = 0)

end Sys2Proof.Machine
end

