-- ==== Sys2Proof/Machine/Billing.lean ====
section
/-! DEFINITION. Billing (R328 to R361): minute ticks, demand intervals, billing closes and snapshots, clock writes and
changes of validity, catch-up, and the boundary firing that applies them (R352, R418). -/

namespace Sys2Proof.Machine

/-- Bits of CAL_STAT (R366). -/
abbrev csCAL_ON : Nat := 0
abbrev csSPECIAL : Nat := 1
abbrev csCATCHUP : Nat := 2
abbrev csINT_PART : Nat := 3
abbrev csSET_FWD : Nat := 4
abbrev csSET_BACK : Nat := 5
abbrev csPER_INV : Nat := 6
abbrev csCLOCK_INV : Nat := 7
abbrev csOUTAGE : Nat := 8

/-- One bit of CAL_STAT. -/
def State.cal (s : State) (n : Nat) : Bool := s.bit K.cal_CAL_STAT n
def State.setCal (s : State) (n : Nat) (b : Bool) : State := s.bitTo K.cal_CAL_STAT n b

/-- The RTC's fields as held (R375, R376). -/
def State.rtcFields (s : State) : Moment :=
  if s.ember.mode = 0 then binFields s.ember.sec else calFields s.ember.cal

/-- The ember reports the RTC invalid (R329, R372). -/
def State.rtcInvalid (s : State) : Bool := s.bit K.emb_EMBER_STAT 5 || s.bit K.emb_EMBER_STAT 3

/-- The tariff that will be in force when every waiting boundary firing has applied. -/
def State.plannedTariff (s : State) : Nat := (s.bill.queue.filterMap (·.tariff)).getLast?.getD s.bill.tariff

/-- SNAP_NO of the next close (R348). -/
def State.nextSnapNo (s : State) : Nat :=
  wrap32 (s.g K.snap_SNAP_LAST_NO + (s.bill.queue.filter (·.billing)).length + 1)

/-- Write NOW_KEY and NEXT_BKEY anew (R365). -/
def State.syncKeys (s : State) : State :=
  if s.cal csCLOCK_INV then (s.p K.cal_NOW_KEY 0).p K.cal_NEXT_BKEY 0
  else
    let k := keyOf s.rtcFields
    (s.p K.cal_NOW_KEY k).p K.cal_NEXT_BKEY (s.nextBkey k)

/-- Evaluate R336 at this moment: the entries that show it, and the tariff. -/
def State.evalTariff (s : State) : State × Nat :=
  let t := s.tariffAt s.rtcFields
  (((s.p K.cal_SEASON_NOW t.season).p K.cal_DAYPROF_NOW t.dayprof).setCal csSPECIAL t.special, t.tariff)

-- staging

/-- A boundary record that opens an interval at this moment (R338, R340, R342). -/
def State.opening (s : State) (b : Boundary) : Boundary :=
  if s.cal csCLOCK_INV then
    { b with opens := true, openSec := 0xFFFFFFFF, openKey := 0, openEnd := 0xFFFFFFFF, isPart := true }
  else
    let f := s.rtcFields
    let di := s.g K.cal_DEMAND_INT
    { b with
      opens := true, openSec := s.ember.sec, openKey := keyOf { f with minute := f.minute / di * di }
      openEnd := s.ember.sec + (di - f.minute % di) * 60 - f.second, isPart := !alignedAt f di }

/-- RTC seconds of a closed boundary: of a manual close those it is made in, of a scheduled one those of its minute's
beginning, by the calculation of R379 for a minute that has passed (R349). -/
def State.closeRtcOf (s : State) (manual : Bool) (k : Nat) : Nat :=
  if s.cal csCLOCK_INV then 0xFFFFFFFF
  else if manual then wrap32 s.ember.sec
  else if k = keyOf s.rtcFields then wrap32 (s.ember.sec - s.rtcFields.second) else wrap32 (keySec k)

/-- What one processing of R352 asks for. -/
structure Plan where
  interval : Bool
  closeSec : Nat
  keys     : List Nat
  cause    : Nat := 0
  outage   : Bool := false
  setFwd   : Bool := false
  tariff   : Option Nat := none
  /-- A catch-up: event 0x3003 when the last firing has applied. -/
  catchUp  : Bool := false
  deriving DecidableEq, Repr

/-- The boundary records of a plan's billing closes, in ascending order of their keys: the interval is closed in the
first, the tariff switched and an interval opened in the last (R352, R354). -/
def State.closeRecords (s : State) (p : Plan) : List Nat → (n : Nat) → List Boundary
  | [], _ => []
  | k :: rest, n =>
    let b : Boundary := {
      interval := decide (n = 0), closeSec := p.closeSec, billing := true, cause := p.cause, key := k
      closeRtc := s.closeRtcOf (decide (p.cause = 2)) k, snapNo := wrap32 (s.nextSnapNo + n), outage := p.outage, setFwd := p.setFwd
      tariff := if rest = [] then p.tariff else none, more := decide (rest ≠ []) }
    (if rest = [] then s.opening b else b) :: s.closeRecords p rest (n + 1)

/-- Stage a plan (R352 to R354): nothing for a switch to the tariff already in force (R360). -/
def State.stage (s : State) (p : Plan) : State × Nat :=
  let excess := p.keys.length - 24
  let keys := p.keys.drop excess
  let s1 := if excess = 0 then s else s.evChip 0x3004 (leBytes 2 excess)
  let close := p.interval || decide (keys ≠ [])
  let switches := match p.tariff with | none => false | some t => decide (t ≠ s.plannedTariff)
  if !close && !switches then (s1, keys.length)
  else
    let base : Boundary := { interval := close, closeSec := p.closeSec, tariff := p.tariff }
    let recs := if keys = [] then [if close then s.opening base else base] else s.closeRecords p keys 0
    let recs' := if p.catchUp then
        recs.mapIdx (fun i b => if i + 1 = recs.length then { b with caught := some keys.length } else b) else recs
    ({ s1 with bill := { s1.bill with queue := s1.bill.queue ++ recs' } }, keys.length)

-- minute ticks

/-- LAST_BKEY raised to the latest scheduled boundary at or before a key (R345, R357, R358). -/
def State.raiseBkey (s : State) (k : Nat) : State :=
  s.p K.snap_LAST_BKEY (max (s.g K.snap_LAST_BKEY) (s.latestBoundary k))

/-- The key of the last billing boundary closed or staged (R345). -/
def State.lastBkey (s : State) : Nat :=
  (s.bill.queue.filter (·.billing)).foldl (fun m b => max m b.key) (s.g K.snap_LAST_BKEY)

/-- The closes due at a key, those already staged apart, and LAST_BKEY set where no boundary has been closed yet (R345,
R354). -/
def State.dueCloses (s : State) (k : Nat) : State × List Nat :=
  if s.lastBkey = 0 then (s.raiseBkey k, []) else (s, s.boundaries s.lastBkey k)

/-- An aligned end lies among the last `n` minutes up to minute `m` (R338). -/
def alignedAmong (m di : Nat) : Nat → Bool
  | 0 => false
  | n + 1 => decide (m % di = 0) || alignedAmong ((m + 59) % 60) di n

/-- A manual close staged in this cycle gives way to a scheduled one (R360). -/
def State.dropManual (s : State) : State :=
  if s.bill.manualAt = s.cyc + 1 then
    { s with bill := { s.bill with queue := s.bill.queue.filter (fun b => !(b.cause == 2 && b.start.isNone)) } }
  else s

/-- A minute tick with a valid clock; `n` minutes have passed since the last one (R337, R340, R352, R354, R358, R359).
-/
def State.minuteTick (s : State) (n : Nat) : State :=
  let f := s.rtcFields
  let k := keyOf f
  let s1 := if s.bill.sched.isNone then s else
    (({ s with bill := { s.bill with sched := none } }) : State).raiseBkey k
  let first := decide (s1.lastBkey = 0)
  let d := s1.dueCloses k
  let s2 := if d.2 = [] then d.1 else d.1.dropManual
  let s3 := if d.2 = [] ∧ first = false ∧ s2.latestBoundary k = k ∧ k ≠ 0 ∧ k ≤ s2.lastBkey then
      s2.evChip 0x3002 (leBytes 4 k) else s2
  let e := s3.evalTariff
  let ci := alignedAmong f.minute (s.g K.cal_DEMAND_INT) n || s.bill.demWritten || decide (e.2 ≠ e.1.plannedTariff)
  let r := e.1.stage { interval := ci, closeSec := wrap32 (s.ember.sec / 60 * 60), keys := d.2, cause := 1, tariff := some e.2 }
  let t := r.1
  ({ t with bill := { t.bill with
    demWritten := false
    closedAt := if d.2 = [] then t.bill.closedAt else s.cyc + 1 } }).syncKeys

/-- D0's seconds advance by `n` (R337, R506): a tick that brings the seconds to 0 is a minute tick. One in the cycle of
a clock write gives way to it (R356); one during catch-up waits for its end (R561). -/
def State.advanceRtc (s : State) (n : Nat) : State :=
  match s.bill.rtc with
  | none => s
  | some v =>
    let s1 : State := { s with bill := { s.bill with rtc := some (wrap32 (v + n)) } }
    let sec := s.rtcFields.second
    if n ≤ sec ∨ n = 0 ∨ s.bill.clockAt = s.cyc + 1 then s1
    else if s1.catchUp then { s1 with bill := { s1.bill with late := true } }
    else s1.minuteTick ((n - sec + 59) / 60)

-- clock writes and validity

/-- A clock write is processed (R356): old and new seconds. While the clock is invalid no key is due, T0 stays in force
and no time is known (R342, R354, R365). -/
def State.clockWrite (s : State) (old new : Nat) : State :=
  let valid := !s.cal csCLOCK_INV
  let s0 : State := { s with bill := { s.bill with rtc := if valid then some new else none, clockAt := s.cyc + 1 } }
  let data := leBytes 4 old ++ leBytes 4 new
  let s1 := if new < old then (s0.setCal csSET_BACK true).evChip 0x3010 data
    else if old < new then (s0.setCal csSET_FWD true).evChip 0x3011 data else s0
  if valid then
    let d := s1.dueCloses (keyOf s.rtcFields)
    let e := d.1.evalTariff
    (e.1.stage { interval := true, closeSec := old / 60 * 60, keys := d.2, cause := 4, setFwd := true, tariff := some e.2
                 }).1.syncKeys
  else (s1.stage { interval := true, closeSec := 0xFFFFFFFF, keys := [], tariff := some 0 }).1

/-- Cycle in which a cycle-timed interval that begins at `c` ends (R342). -/
def State.cycInterval (s : State) (c : Nat) : Nat := cycPlus c (s.g K.cal_DEMAND_INT * 60 * cycPerSecond)

/-- The clock becomes invalid (R342, R357). -/
def State.clockInvalid (s : State) : State :=
  let s1 := (((s.setCal csCLOCK_INV true).setCal csPER_INV true).evChip 0x3012 []).syncKeys
  let s2 : State := { s1 with bill := { s1.bill with rtc := none, intEnd := some (s1.cycInterval s1.cyc) } }
  (s2.stage { interval := true, closeSec := 0xFFFFFFFF, keys := [], tariff := some 0 }).1

/-- The clock becomes valid again (R357). -/
def State.clockValid (s : State) : State :=
  let sec := wrap32 s.ember.sec
  let s1 : State := { s.setCal csCLOCK_INV false with bill := { s.bill with rtc := some sec, intEnd := none } }
  let s2 := (s1.raiseBkey (keyOf s1.rtcFields)).evChip 0x3013 (leBytes 4 sec)
  let e := s2.evalTariff
  (e.1.stage { interval := true, closeSec := sec / 60 * 60, keys := [], tariff := some e.2 }).1.syncKeys

/-- CLOCK_VALIDITY_CHANGE: what the ember reports differs from CLOCK_INV (R329, R357). -/
def execClockValidityChange (s : State) : Out :=
  confined s (if s.rtcInvalid = s.cal csCLOCK_INV then s
    else if s.rtcInvalid then s.clockInvalid else s.clockValid)

/-- DEMAND_INTERVAL_CYC_EXPIRY (R342). -/
def execDemandIntervalCycExpiry (s : State) : Out :=
  confined s (match s.bill.intEnd with
    | none => s
    | some e => if s.cal csCLOCK_INV && cycReached s.cyc e then
        let t : State := { s with bill := { s.bill with intEnd := some (s.cycInterval e) } }
        (t.stage { interval := true, closeSec := 0xFFFFFFFF, keys := [], tariff := some 0 }).1
      else s)

/-- A manual close (R347); one in the cycle of a scheduled close gives way to it (R360). -/
def State.manualClose (s : State) : State :=
  if s.bill.closedAt = s.cyc + 1 then s
  else
    let k := if s.cal csCLOCK_INV then 0 else keyOf s.rtcFields
    let close := if s.cal csCLOCK_INV then 0xFFFFFFFF else wrap32 (s.ember.sec / 60 * 60)
    let t := (s.stage { interval := true, closeSec := close, keys := [k], cause := 2 }).1
    { t with bill := { t.bill with manualAt := s.cyc + 1 } }

-- applying a boundary firing

/-- Compare an interval amount with the held maximum of the outgoing tariff, the n-th of the section's (R341, R449). -/
def State.maxDemand (s : State) (i amount n sec : Nat) : State :=
  if s.g (mdKey i n) < s.g amount then
    ((s.pLed (mdKey i n) (s.g amount)).pLed (mdKey i n + 9) sec).markRecs i [13 + n / 4]
  else s

/-- Close the interval of one section (R246, R341, R449). -/
def State.closeSection (s : State) (sec i : Nat) : State :=
  let t := s.bill.tariff
  let s1 := (((s.maxDemand i (K.dem_INT_FWD i) t sec).maxDemand i (K.dem_INT_HEAT i) (9 + t) sec).maxDemand i
    (K.dem_INT_COOL i) (18 + t) sec).markRecs i [11, 12]
  (((s1.pLed (K.dem_INT_FWD i) 0).pLed (K.dem_INT_HEAT i) 0).pLed (K.dem_INT_COOL i) 0).ps
    [(K.res_PEAK_FWD_INT i, 0), (K.res_PEAK_FWD_INT_T i, 0), (K.res_PEAK_REV_INT i, 0), (K.res_PEAK_REV_INT_T i, 0)]

/-- A section's 704-byte block of a snapshot (R350). -/
def State.snapBlock (s : State) (i : Nat) : List Nat :=
  if s.nSects ≤ i then List.replicate 704 0
  else
    let r64 (k n : Nat) : List Nat := (List.range n).flatMap (fun j => leBytes 8 (s.g (k + j)))
    let r32 (k n : Nat) : List Nat := (List.range n).flatMap (fun j => leBytes 4 (s.g (k + j)))
    r64 (K.tot_FWD_T i 0) 40 ++ r64 (K.dem_MDV_T i 0) 9 ++ r64 (K.dem_MDH_T i 0) 9 ++ r64 (K.dem_MDC_T i 0) 9 ++
    r64 (K.res_PEAK_FWD_BP i) 1 ++ r64 (K.res_PEAK_REV_BP i) 1 ++ r64 (K.res_OVF_VOL i) 1 ++ r64 (K.res_FAIL_TIME i) 1 ++
    r64 (K.res_GAP_TIME i) 1 ++ r64 (K.sect_E_HOLD_TIME i) 1 ++
    r32 (K.dem_MDV_TIME_T i 0) 9 ++ r32 (K.dem_MDH_TIME_T i 0) 9 ++ r32 (K.dem_MDC_TIME_T i 0) 9 ++
    r32 (K.res_PEAK_FWD_BP_T i) 1 ++ r32 (K.res_PEAK_REV_BP_T i) 1 ++ [0, 0, 0, 0]

/-- FLAGS of a close (R346, R349, R355, R356). -/
def State.closeFlags (s : State) (b : Boundary) : Nat :=
  ofBits [s.cal csOUTAGE || b.outage, s.cal csPER_INV, s.cal csSET_BACK, s.cal csSET_FWD || b.setFwd,
    s.bit K.lant_LANT_STAT 3]

/-- The 64-byte header of a snapshot (R349). -/
def State.snapHeader (s : State) (b : Boundary) : List Nat :=
  leBytes 4 b.snapNo ++ leBytes 4 b.key ++ leBytes 4 b.closeRtc ++
  leBytes 4 s.bill.prevRtc ++ leBytes 8 b.applyAt ++ [b.cause, s.g K.cal_DEMAND_INT] ++ leBytes 2 (s.closeFlags b) ++
  [0, 0, 0, 0] ++ leBytes 8 (s.g K.lant_LANT_FWD) ++ leBytes 8 (s.g K.lant_LANT_REV) ++ List.replicate 16 0

/-- Maximum demands, their times and the billing-period peaks of a section return to 0 (R246, R343, R449). -/
def State.resetPeriod (s : State) (i : Nat) : State :=
  let s1 := (List.range 54).foldl (fun t j => t.pLed (K.dem_MDV_T i j) 0) (s.markRecs i ((List.range 8).map (· + 12)))
  s1.ps [(K.res_PEAK_FWD_BP i, 0), (K.res_PEAK_FWD_BP_T i, 0), (K.res_PEAK_REV_BP i, 0), (K.res_PEAK_REV_BP_T i, 0)]

/-- First store line of a snapshot's copy A: 23 lines for each of 24 (R348, R427). -/
def snapLine (no : Nat) : Nat := 1348 + 23 * ((no + 23) % 24)

/-- A snapshot fills the staging area and is written from there, copy A and then copy B (R437, R452). -/
def State.stageSnapshot (s : State) (no : Nat) : State :=
  let t := s.writeObject 0 { first := snapLine no, lines := 23, code := 1 }
  t.putStore 0 { t.store 0 with staging := snapLine no + 22 + 2048 + 1 }

/-- A billing close (R343, R346, R348): `old` is the state at the end of the cycle before. -/
def State.billingClose (s old : State) (b : Boundary) : State :=
  let bytes := old.snapHeader b ++ (List.range 8).flatMap old.snapBlock
  let flags := old.closeFlags b
  let snaps := s.bill.snaps ++ [(b.snapNo, bytes)]
  let kept := snaps.drop (snaps.length - 24)
  let s1 : State := { s with bill := { s.bill with snaps := kept, prevRtc := b.closeRtc } }
  let s2 := (List.range s1.nSects).foldl (fun t i => t.resetPeriod i) s1
  let s3 := [csOUTAGE, csPER_INV, csSET_BACK, csSET_FWD].foldl (fun t n => t.setCal n false) s2
  let s4 := s3.ps [(K.snap_SNAP_COUNT, kept.length), (K.snap_SNAP_LAST_NO, b.snapNo),
    (K.snap_LAST_BKEY, max (s.g K.snap_LAST_BKEY) b.key)]
  let s5 := s4.stageSnapshot b.snapNo
  s5.evChip 0x3001 (leBytes 4 b.snapNo ++ [b.cause] ++ leBytes 2 flags)

/-- Open a demand interval (R340, R363, R449). -/
def State.openInterval (s : State) (b : Boundary) : State :=
  let s1 := (List.range s.nSects).foldl (fun t i => (t.pLed (K.dem_INT_START i) b.openSec).markRecs i [11]) s
  ({ s1 with bill := { s1.bill with intKey := b.openKey, intEndRtc := b.openEnd } }).setCal csINT_PART b.isPart

/-- Catch-up ends: event 0x3003 and a minute tick that waited (R355, R561). The bookings that wait are made once the
last firing's records are written (`State.flushBookings`). -/
def State.endCatchUp (s : State) (closes : Nat) : State :=
  let s1 := (s.evChip 0x3003 [closes]).setCal csCATCHUP false
  if s1.bill.late then ({ s1 with bill := { s1.bill with late := false } }).minuteTick 1 else s1

/-- FIRE_STAT from its fields (R423). -/
def fireStat (state result stages : Nat) : Nat := state * 2 ^ 13 + result * 2 ^ 7 + stages

/-- The actions of a boundary firing in its apply cycle, in the order of R352. -/
def State.boundaryActions (s : State) (b : Boundary) : State :=
  let s1 := if b.interval then (List.range s.nSects).foldl (fun t i => t.closeSection b.closeSec i) s else s
  let s2 := if b.billing then s1.billingClose s1 b else s1
  let s3 := match b.tariff with
    | none => s2
    | some t => ({ s2 with bill := { s2.bill with tariff := t } }).p K.cal_TARIFF_NOW t
  let s4 := if b.opens then s3.openInterval b else s3
  let s5 : State := { s4 with bill := { s4.bill with hold := b.more } }
  match b.caught with
  | some n => s5.endCatchUp n
  | none => s5

/-- A boundary firing applies (R352, R418, R452): `result` is 1, or 3 when a restart completes it. -/
def State.applyBoundary (s : State) (b : Boundary) (result : Nat) : State :=
  let s1 : State := { s with bill := { s.bill with queue := s.bill.queue.drop 1, unretired := true } }
  let s2 := s1.boundaryActions b
  ((s2.ps [(K.fire_BOUND_STAT, fireStat 4 result 0), (K.fire_APPLY_CYC, b.applyAt)]).inc K.fire_APPLIED_COUNT).irq 3

/-- BOUNDARY_FIRING_APPLY: in the apply cycle of the scheduled boundary firing (R352, R418). -/
def execBoundaryFiringApply (s : State) : Out :=
  booking s (match s.bill.queue with
    | [] => s
    | b :: _ => if b.cast && decide (s.cyc = b.applyAt) then s.applyBoundary b 1 else s)

-- restarts

/-- The calendar at a restart (R355, R357, R552): catch-up with a valid clock; none with an invalid one. -/
def State.startCalendar (s : State) : State :=
  let on := s.setCal csCAL_ON (decide (s.g K.cal_CAL_EN = 1))
  if s.rtcInvalid then
    let t := if on.cal csCLOCK_INV then
        let u : State := { on with bill := { on.bill with rtc := none } }
        if u.bill.intEnd.isNone then { u with bill := { u.bill with intEnd := some (u.cycInterval u.cyc) } } else u
      else on.clockInvalid
    (t.setCal csPER_INV true).syncKeys
  else if on.cal csCLOCK_INV then on.clockValid
  else
    let sec := wrap32 on.ember.sec
    let s1 : State := { on with bill := { on.bill with rtc := some sec } }
    let f := s1.rtcFields
    let k := keyOf f
    let di := s1.g K.cal_DEMAND_INT
    let e := s1.evalTariff
    let step1 := decide (s1.bill.intKey ≠ keyOf { f with minute := f.minute / di * di }) || decide (e.2 ≠ e.1.plannedTariff)
    let d := e.1.dueCloses k
    let s2 := d.1.setCal csCATCHUP true
    let r := s2.stage { interval := step1, closeSec := s1.bill.intEndRtc, keys := d.2, cause := 3, outage := true,
                        tariff := some e.2, catchUp := true }
    if r.1.bill.queue.length = s2.bill.queue.length then (r.1.endCatchUp r.2).syncKeys else r.1.syncKeys

end Sys2Proof.Machine
end

