-- ==== Sys2Proof/Machine/Answer.lean ====
section
/-! DEFINITION. How a dictionary access is answered: directly, through the host's mailbox (R635 to R637), or over CAN
(R608, R609). An access that waits for a follower (R492, R733) or for the ember (R381) is answered later. -/

namespace Sys2Proof.Machine

/-- What an access gives: its abort code, 0 for success, the bytes a read returns, and whether the answer is still to
come. -/
structure Reply where
  abort : Nat := 0
  data  : List Nat := []
  waits : Bool := false
  deriving DecidableEq, Repr

/-- Window error code of an abort code (R637). -/
def errCode (abort : Nat) : Nat :=
  match indexOf (fun a => a == abort)
    [0, 0x06070012, 0x06070013, 0x06090030, 0x06090031, 0x06040043, 0x08000022, 0x08000021, 0x08000020, 0x06020000,
     0x06090011, 0x06010002, 0x06010001, 0x06010000, 0x06060000, 0x08000024, 0xFFFFFFFF, 0x06040041, 0x06040042] with
  | some n => n
  | none => 6

/-- A READ or WRITE of the mailbox completes (R635, R637). -/
def State.finishHost (s : State) (abort : Nat) (data : List Nat) : State :=
  let h := s.host
  let h1 := { h with busy := false, done := true, err := errCode abort }
  let h2 := if !h.reading then h1
    else if abort = 0 then { h1 with mailbox := data ++ h.mailbox.drop data.length, odLen := data.length } else { h1 with odLen := 0 }
  { s with host := h2 }.irq 0

/-- The response to an SDO or USDO request: kept, and sent on the server's identifier. What the frame carries besides
the data or the abort code is the protocol's (log entry 24). -/
def State.finishCan (s : State) (usdo : Bool) (abort : Nat) (data : List Nat) : State :=
  let s1 : State := { s with net := { s.net with abort := abort, resp := data, wait := none } }
  s1.sendFrame { id := 0x580 + s.net.nodeId, data := if abort = 0 then data else leBytes 4 abort, fd := usdo, cls := 1 }

/-- Bytes an expedited answer carries, and those of a segment (log entry 24). -/
def expedited (usdo : Bool) : Nat := if usdo then 56 else 4
def segBytes (usdo : Bool) : Nat := if usdo then 56 else 7

/-- The cycle in which SDO_TMO expires, from now (R609). -/
def State.sdoExp (s : State) : Nat := cycPlus s.cyc (s.g K.dev_SDO_TMO * 24576)

/-- The outcome of an upload's initiate (R608, R609): data that one answer carries, or a segmented upload whose first
answer gives the size. -/
def State.uploadCan (s : State) (usdo : Bool) (abort : Nat) (data : List Nat) : State :=
  if abort ≠ 0 ∨ data.length ≤ expedited usdo then s.finishCan usdo abort data
  else
    let x : Transfer := { upload := true, usdo := usdo, key := 0, size := some data.length, data := data, expiry := s.sdoExp }
    ({ s with net := { s.net with xfer := some x } }).finishCan usdo 0 (leBytes 4 data.length)

/-- An access that waited is answered. One that the device made for itself, or an RPDO made, is marked `boundary` and
has nobody to answer to. -/
def State.answer (s : State) (who : Orig) (abort : Nat) (data : List Nat) : State :=
  let s1 : State := { s with resp := abort, respData := data }
  match who with
  | .host => if s1.host.busy then s1.finishHost abort data else s1
  | .can => match s1.net.wait with
    | some (up, usdo) => if up then s1.uploadCan usdo abort data else s1.finishCan usdo abort []
    | none => s1
  | .internal => s1
  | .boundary => s

end Sys2Proof.Machine
end

