-- ==== Sys2Proof/Machine/Wake.lean ====
section
/-! DEFINITION. Wake requests (R536, R537): when a request is delivered to a die, and the cycle its RUN state is
reached. -/

namespace Sys2Proof.Machine

/-- A wake request is delivered to a die (R536, R537, R540): a running die notes it, one in IDLE, SLEEP or DEEP begins
its wake, D0 in OFF begins a start. The first request of a wake stands. -/
def State.wake (s : State) (d : Nat) : State :=
  let r := s.die d
  let begin_ (n : Nat) : State :=
    if r.waking.isSome then s else s.setDie d { r with waking := some (cycPlus s.cyc n), wakeAt := s.cyc + 1 }
  match s.pstate d with
  | 0 => s.setDie d { r with wakeAt := s.cyc + 1 }
  | 1 => begin_ 1
  | 2 => begin_ 64
  | 3 => begin_ 4424
  | _ => begin_ 0

/-- HCLK runs on D0: it has started and is in RUN, IDLE or SLEEP (R532). -/
def State.d0Clock (s : State) : Bool := (s.die 0).up && decide (s.pstate 0 ≤ 2)

/-- The GPIO cells of a die take the entries' values (R577). -/
def State.driveGpio (s : State) (d : Nat) : State :=
  { s with gpio := s.gpio.store {} d { out := s.g (K.die_GP_OUT d), cfg := (List.range 4).map (fun i => s.g (K.die_GP_CFG d i)) } }

/-- The cells of a die that runs follow its entries; in DEEP and OFF they keep what they had (R539, R577). -/
def State.gpioStep (s : State) : State :=
  (List.range s.dies).foldl (fun t d => if (s.die d).up && decide (s.pstate d ≤ 2) then t.driveGpio d else t) s

/-- A start trigger is found; of several the lowest START_CAUSE applies (R544). -/
def DieRt.triggered (r : DieRt) (c : Nat) : DieRt := { r with trigger := if r.trigger = 0 then c else min r.trigger c }

/-- A wake request of the ember (R384, R385): in DEEP and OFF it acts at once; otherwise it reaches D0 with its counter
(R506). -/
def State.emberWake (s : State) : State := if s.d0Clock then s else s.wake 0

/-- A die's power state changes: event 0x5009 with old state, new state and cause (R532, R541). -/
def State.toPower (s : State) (d new cause : Nat) : State :=
  (s.p (K.sup_PWR_STATE d) new).ev d 2 d 0x5009 [s.pstate d, new, cause]

end Sys2Proof.Machine
end

