-- ==== Sys2Proof/Machine/Ember.lean ====
section
/-! DEFINITION. The ember domain (R367 to R396): supply switch and POR, the RTC, trim, alarm, WAKE and PWRON, tamper
inputs, the cross-check, and the crossing between D0 and the ember (R381 to R383, R506). -/

namespace Sys2Proof.Machine

/-- Bits of EMBER_STAT (R395). -/
abbrev esPWRON : Nat := 0
abbrev esWAKE_SEEN : Nat := 1
abbrev esALARM : Nat := 2
abbrev esEMBER_LOST : Nat := 3
abbrev esCELL_LOW : Nat := 4
abbrev esRTC_INV : Nat := 5
abbrev esNEVER_SET : Nat := 6
abbrev esYEAR_OVF : Nat := 7
abbrev esOSC_STOP : Nat := 8
abbrev esSUPPLY : Nat := 9
abbrev esTAMP0 : Nat := 10
abbrev esTAMP1 : Nat := 11

/-- The write-one-to-clear bits of EMBER_STAT (R395). -/
abbrev esW1c : Nat := 0x0D9E

/-- One bit of EMBER_STAT and of EMBER_CFG (R395, R396). -/
def State.es (s : State) (n : Nat) : Bool := s.bit K.emb_EMBER_STAT n
def State.setEs (s : State) (n : Nat) (b : Bool) : State := s.bitTo K.emb_EMBER_STAT n b
def State.ecfg (s : State) (n : Nat) : Bool := s.bit K.emb_EMBER_CFG n

/-- The 16 entries of tamper input i: its COUNT; FIRST and LAST follow (R393). -/
def tampKey (i : Nat) : Nat := if i = 0 then K.emb_TAMP0_COUNT else K.emb_TAMP1_COUNT

/-- The ember POR: every entry of 0x2800 at its Default, the clock at 2000-01-01, PWRON released (R371). Accesses of D0
stay at the port. -/
def State.emberPor (s : State) : State :=
  let s1 : State := { s with
    od := s.od.keep (fun k => decide (k / 256 ≠ 0x2800)), blobs := s.blobs.keep (fun k => decide (k / 256 ≠ 0x2800))
    ember := { onVbat := s.ember.onVbat, disconnected := s.ember.disconnected, reqs := s.ember.reqs, ans := s.ember.ans } }
  s1.setEs esSUPPLY s.ember.onVbat

/-- BKCAP_POR (R371). -/
def execBkcapPor (s : State) : Out := confined s s.emberPor

/-- The ember's supply switch (R368); on the main supply the cell is connected again. -/
def State.switchSupply (s : State) (vmain vbat : Nat) : State :=
  let l := min vbat 2850
  if s.ember.onVbat then
    if l + 100 < vmain ∧ 2600 < vmain then
      { s with ember := { s.ember with onVbat := false, disconnected := false } }.setEs esSUPPLY false
    else s
  else if vmain < l ∨ vmain < 2500 then { s with ember := { s.ember with onVbat := true } }.setEs esSUPPLY true
  else s

/-- SUPPLY_SWITCH: the condition was found in the ember cycle before (R368). -/
def execSupplySwitch (vmainMv vbatMv : Nat) (s : State) : Out := confined s (s.switchSupply vmainMv vbatMv)

/-- CELL_DISCONNECT (R369). -/
def execCellDisconnect (vbatMv : Nat) (s : State) : Out :=
  confined s (if s.ember.onVbat && decide (vbatMv < 1900) then
    { s with ember := { s.ember with disconnected := true } } else s)

-- PWRON, alarm and WAKE

/-- Assert PWRON (R386). -/
def State.assertPwron (s : State) : State :=
  { s.setEs esPWRON true with ember := { s.ember with pwronAt := s.cyc + 1 } }

/-- The alarm triggers when SEC has become ALARM_SEC (R384). -/
def State.alarm (s : State) : State :=
  if s.ember.sec ≠ s.g K.emb_ALARM_SEC then s
  else
    let s1 : State := { s.setEs esALARM true with ember := { s.ember with alarms := (s.ember.alarms + 1) % 256 } }
    let s2 := if s.ecfg 3 then s1.emberWake else s1
    if s.ecfg 4 then s2.assertPwron else s2

/-- Two samples in a row have found WAKE at its active level (R385). -/
def State.acceptWake (s : State) : State :=
  let s1 : State := { s.setEs esWAKE_SEEN true with ember := { s.ember with wakes := (s.ember.wakes + 1) % 256 } }
  let s2 := if s.ecfg 0 then s1.emberWake else s1
  if s.ecfg 2 then s2.assertPwron else s2

/-- WAKE_ACCEPTED, with the level of two consecutive samples: active as WAKE_POL says (R385). -/
def execWakeAccepted (high : Bool) (s : State) : Out := confined s (if high = s.ecfg 1 then s.acceptWake else s)

-- second ticks

/-- The year passes 2099: RTC_INV and YEAR_OVF (R375, R376). -/
def State.yearOver (s : State) (b : Bool) : State :=
  if b then
    { (s.setEs esRTC_INV true).setEs esYEAR_OVF true with ember := { s.ember with years := s.ember.years + 1 } }
  else s

/-- SUBSEC has reached `n`: where the running correction period ended before, the TRIM that waits is in force in the
next one, in which SUBSEC advances by 2^20 + TRIM (R374). -/
def EmberRt.pass (e : EmberRt) (n : Nat) : EmberRt :=
  if n ≤ e.period then e
  else { e with trim := e.trimNext, period := ((e.period : Int) + 2 ^ 20 + toSigned 16 e.trimNext).toNat }

/-- SUBSEC steps to 0 at a second tick (R373). -/
def EmberRt.second (e : EmberRt) : EmberRt :=
  let p := e.pass 32768
  { p with subsec := 0, period := p.period - 32768 }

/-- SEC and the fields advance by one second (R373, R375, R376); a mode written in this ember cycle is in force from the
next one (R380). -/
def State.tickClock (s : State) : State :=
  let e := s.ember.second
  let sec := wrap32 (e.sec + 1)
  let c := calTick (calFields e.cal)
  if (if e.modeAt = s.cyc + 1 then e.modeWas else e.mode) = 0 then
    ({ s with ember := { e with sec := sec, cal := if e.mode = 0 then e.cal else calWord (binFields sec) } }).yearOver
      (decide (sec = rtcOverflow))
  else ({ s with ember := { e with sec := sec, cal := calWord c.1 } }).yearOver c.2

/-- The VBAT sample of a second (R370), the cross-check gate that opens (R389) and the lantern's period (R307). -/
def State.tickRest (s : State) (vbat : Nat) : State :=
  let e := s.ember
  let s1 : State := { s with
    ember := { e with ticks := wrap32 (e.ticks + 1), xchkOpen := if e.xchkWait.isSome then e.xchkWait else e.xchkOpen,
                      xchkFrom := if e.xchkWait.isSome then s.cyc else e.xchkFrom, xchkWait := none }
    lant := if s.lant.running && !s.lant.stopped then { s.lant with nextIn := s.lant.nextIn - 1 } else s.lant }
  if vbat < 2000 then s1.setEs esCELL_LOW true else s1

/-- A second tick in full (R370, R373, R384, R389). -/
def State.secondTick (s : State) (vbat : Nat) : State := (s.tickClock.tickRest vbat).alarm

/-- A time write is served in this ember cycle, later in the queue (R383). -/
def State.timeWriteComing (s : State) : Bool :=
  s.pending.any (fun c => match c with | .emberAccess _ => true | _ => false) && s.ember.ans.isNone &&
    (match s.ember.reqs with
     | r :: _ => r.write && (decide (r.key = K.emb_SET_BIN) || decide (r.key = K.emb_SET_CAL))
     | [] => false)

/-- EMBER_SECOND_TICK (R373): suppressed by a time write in its ember cycle (R383). -/
def execEmberSecondTick (vbatMv : Nat) (s : State) : Out :=
  confined s (if s.ember.wroteAt = s.cyc + 1 then { s with ember := { s.ember with wroteAt := 0 } }
    else if s.timeWriteComing then s
    else s.secondTick vbatMv)

/-- CORRECTION_PERIOD_START: 2^20 ember cycles have passed, in which SUBSEC has advanced by TRIM more or less; a TRIM
written before takes effect (R374). -/
def execCorrectionPeriodStart (s : State) : Out :=
  let e := s.ember
  confined s (if e.subsec ≤ e.period ∧ e.period < 32768 then
    { s with ember := { e.pass (e.period + 1) with subsec := e.period } } else s)

-- tamper inputs

/-- An episode of an enabled, armed tamper input (R387). -/
def State.tamper (s : State) (i : Nat) : State :=
  let e := s.ember
  let armed := if i = 0 then e.armed0 else e.armed1
  if !(s.ecfg (7 + i) && armed) then s
  else
    let k := tampKey i
    let s1 := if s.g k = 0 then s.p (k + 1) e.sec else s
    let s2 := ((s1.p k (satAt 65535 (s.g k + 1))).p (k + 2) e.sec).setEs (esTAMP0 + i) true
    let s3 : State := { s2 with ember := if i = 0 then { e with armed0 := false, tamp0 := (e.tamp0 + 1) % 256 }
                                         else { e with armed1 := false, tamp1 := (e.tamp1 + 1) % 256 } }
    if s.ecfg 5 then s3.assertPwron else s3

/-- A level of a tamper input is active as TAMP_POL says (R387). -/
def State.tampActive (s : State) (high : Bool) : Bool := high != s.ecfg 6

/-- TAMPER_EPISODE, with the level of two consecutive samples (R387). -/
def execTamperEpisode (input : Nat) (high : Bool) (s : State) : Out :=
  if input < 2 then confined s (if s.tampActive high then s.tamper input else s) else .next s

/-- TAMPER_REARM, with the level of two consecutive samples (R387). -/
def execTamperRearm (input : Nat) (high : Bool) (s : State) : Out :=
  if input < 2 then
    confined s (if s.ecfg (7 + input) && !s.tampActive high then
      { s with ember := if input = 0 then { s.ember with armed0 := true } else { s.ember with armed1 := true } } else s)
  else .next s

-- oscillator stop and cross-check

/-- The crystal stops (R390); an open cross-check fails (R389). -/
def State.oscStop (s : State) : State :=
  let e := s.ember
  let s1 : State := { (s.setEs esOSC_STOP true).setEs esRTC_INV true with
    ember := { e with oscs := if s.es esOSC_STOP then e.oscs else (e.oscs + 1) % 256, xchkOpen := none } }
  if e.xchkOpen.isSome then s1.p K.emb_XCHK_STAT 3 else s1

/-- OSC_STOP_DETECT (R390). -/
def execOscStopDetect (s : State) : Out := confined s s.oscStop

/-- A count of HCLK cycles is that of an open gate: CYC has passed as many, within the 2 counts of the crossing; a D0
that was in DEEP meanwhile has counted fewer (R389). -/
def State.gateCount (s : State) (count : Nat) : Bool :=
  let ran := cycDiff s.cyc s.ember.xchkFrom
  decide (count ≤ ran + 2) && (decide (ran ≤ count + 2) || cycReached (s.die 0).deepCyc s.ember.xchkFrom)

/-- XCHK_GATE_CLOSE: the HCLK cycles counted while the gate was open (R389). -/
def execXchkGateClose (count : Nat) (s : State) : Out :=
  if two64 ≤ count then .next s
  else confined s (if s.ember.xchkOpen.isSome && s.gateCount count then
    ({ s with ember := { s.ember with xchkOpen := none } }).ps [(K.emb_XCHK_COUNT, count), (K.emb_XCHK_STAT, 2)] else s)

-- the request port

/-- Post an access at the ember's port (R381). -/
def State.postEmber (s : State) (r : EmberReq) : State :=
  { s with ember := { s.ember with reqs := s.ember.reqs ++ [r] } }

/-- A time write sets SEC and the fields, restarts SUBSEC and validates the clock (R379, R383); the correction period
goes on. -/
def State.setClock (s : State) (sec cal : Nat) : State :=
  let e := s.ember
  let s1 : State := { s with ember := { e with sec := sec, cal := cal, wroteAt := s.cyc + 1
                                               subsec := 0, period := e.period - e.subsec
                                               ans := some { clock := some (e.sec, sec) } } }
  ((s1.setEs esRTC_INV false).setEs esNEVER_SET false).alarm

/-- Clear bits of EMBER_STAT; a cleared TAMPn re-arms its declaration (R388), a cleared CELL_LOW its report (R372). -/
def State.clearEs (s : State) (m : Nat) : State :=
  let m := Nat.land m esW1c
  let e := s.ember
  ({ s with ember := { e with told0 := e.told0 && !bitAt m esTAMP0, told1 := e.told1 && !bitAt m esTAMP1
                              cellTold := e.cellTold && !bitAt m esCELL_LOW } }).p K.emb_EMBER_STAT
    (clearBits (s.g K.emb_EMBER_STAT) m)

/-- RTC_MODE is written: RTC_INV is set, and the fields go on from the moment they show (R380). -/
def State.setMode (s : State) (m : Nat) : State :=
  ({ s with ember := { s.ember with mode := m, cal := calWord s.rtcFields, modeWas := s.ember.mode
                                    modeAt := s.cyc + 1 } }).p K.emb_RTC_MODE m |>.setEs esRTC_INV true

/-- PWRON_CTL: 1 releases unless PWRON was asserted in the same ember cycle, 2 asserts (R386). -/
def State.pwronCtl (s : State) (v : Nat) : State :=
  if v = 2 then s.assertPwron
  else if s.ember.pwronAt = s.cyc + 1 then s else s.setEs esPWRON false

/-- The ember applies a write whole in one ember cycle (R383). -/
def State.emberWrite (s : State) (r : EmberReq) : State :=
  let s1 : State := { s with ember := { s.ember with ans := some {} } }
  let v := r.value
  if r.key = K.emb_SET_BIN then s.setClock v (if s.ember.mode = 0 then s.ember.cal else calWord (binFields v))
  else if r.key = K.emb_SET_CAL then s.setClock (wrap32 (secOf (calFields v))) (v % 2 ^ 56)
  else if r.key = K.emb_RTC_MODE then s1.setMode v
  else if r.key = K.emb_TRIM then ({ s1 with ember := { s1.ember with trimNext := v } }).p K.emb_TRIM v
  else if r.key = K.emb_EMBER_STAT then s1.clearEs v
  else if r.key = K.emb_EMBER_CFG then s1.p K.emb_EMBER_CFG (v % 2 ^ 9)
  else if r.key = K.emb_ALARM_SEC then s1.p K.emb_ALARM_SEC v
  else if r.key = K.emb_PWRON_CTL then s1.pwronCtl v
  else if r.key = K.emb_SCRATCH then { s1 with blobs := s1.blobs.store [] K.emb_SCRATCH r.bytes }
  else if r.key = K.emb_XCHK_CMD then ({ s1 with ember := { s1.ember with xchkWait := some v } }).p K.emb_XCHK_STAT 1
  else s1

/-- RTC_BIN and RTC_CAL of the ember's state (R394). -/
def State.rtcBin (s : State) (subsec : Nat) : Nat := s.ember.sec * 2 ^ 15 + subsec
def State.rtcCal (s : State) : Nat := calWord s.rtcFields

/-- What a read of an entry of 0x2800 returns, taken from one ember cycle (R382). -/
def State.emberBytes (s : State) (key subsec : Nat) : List Nat :=
  if key = K.emb_RTC_BIN then leBytes 8 (s.rtcBin subsec)
  else if key = K.emb_RTC_CAL then leBytes 8 s.rtcCal
  else if key = K.emb_SCRATCH then bytesAt (s.blobs.look [] key) 0 64
  else leBytes ((findRow key).elim 0 (fun r => tyBytes r.ty)) (s.g key)

/-- The snapshot a read takes at the end of its ember cycle (R382). -/
def State.emberSnap (s : State) (r : EmberReq) : EmberAns :=
  { data := s.emberBytes r.key s.ember.subsec, bin := s.rtcBin s.ember.subsec, cal := s.rtcCal }

/-- VBAT of a second tick that falls in this ember cycle, later in the queue (R382). -/
def State.tickComing (s : State) : Option Nat :=
  s.pending.findSome? (fun c => match c with | .emberSecondTick v => some v | _ => none)

/-- The ember acts on the access in front (R381 to R383): a read shows the second tick of its cycle. -/
def State.emberAct (s : State) : State :=
  match s.ember.reqs, s.ember.ans with
  | r :: _, none =>
    if r.write then s.emberWrite r
    else
      let shown := s.tickComing.elim s s.secondTick
      { s with ember := { s.ember with ans := some (shown.emberSnap r) } }
  | _, _ => s

/-- SUBSEC counts up to `n` (R373). -/
def State.subsecAt (s : State) (n : Nat) : State := { s with ember := { s.ember.pass n with subsec := n } }

/-- EMBER_ACCESS: SUBSEC is what the sub-second counter holds in that ember cycle, no less than before in this second
(R373, R382). -/
def execEmberAccess (subsec : Nat) (s : State) : Out :=
  if 32768 ≤ subsec ∨ subsec < s.ember.subsec then .next s else confined s (s.subsecAt subsec).emberAct

/-- The RTC in milliseconds, from a snapshot of RTC_BIN (R600). -/
def rtcMs (bin : Nat) : Int := ((bin / 2 ^ 15 * 1000 + bin % 2 ^ 15 * 1000 / 32768 : Nat) : Int)

/-- A TIME message compared with the RTC it was read against (R600, R601): mode 1 writes TIME_DIFF, mode 2 sets the
clock where it lies too far off or is invalid. -/
def State.timeCompare (s : State) (netMs bin : Nat) : State :=
  let diff := (netMs : Int) - rtcMs bin
  let d32 := ofSigned 32 (clampInt (-(2 ^ 31)) (2 ^ 31 - 1) diff)
  let s1 : State := { s with net := { s.net with timeWait := none } }
  if s.g K.dev_TIME_MODE = 1 then s1.p K.dev_TIME_DIFF d32
  else if s.g K.dev_TIME_MODE = 2 ∧ (s.g K.dev_TIME_TOL * 1000 ≤ diff.natAbs ∨ s.rtcInvalid) then
    (s1.postEmber { key := K.emb_SET_BIN, write := true, value := netMs / 1000, who := .boundary }).evChip 0x8007
      (leBytes 4 d32)
  else s1

/-- A completed access is delivered to D0: the snapshot, the clock write (R356), and the answer (R381). -/
def State.emberDone (s : State) : State :=
  match s.ember.reqs, s.ember.ans with
  | r :: rest, some a =>
    let s1 : State := { s with ember := { s.ember with reqs := rest, ans := none } }
    let s2 := if r.write then s1 else s1.ps [(K.emb_RTC_BIN, a.bin), (K.emb_RTC_CAL, a.cal)]
    let s3 := match a.clock with
      | some (old, new) => s2.clockWrite old new
      | none => s2
    match r.who, s3.net.timeWait with
    | .boundary, some (netMs, _) => if r.write then s3 else s3.timeCompare netMs a.bin
    | who, _ => s3.answer who 0 a.data
  | _, _ => s

/-- EMBER_ACCESS_DONE (R381, R356). -/
def execEmberAccessDone (s : State) : Out := confined s (if s.d0Clock then s.emberDone else s)

-- counters of the ember on D0 (R506)

/-- SECOND_TICK_DELIVERED: D0's seconds advance by what the counter moved (R337, R506); a year overflow is logged. -/
def State.tickDelivered (s : State) : State :=
  let e := s.ember
  let s1 : State := { s with ember := { e with ticks := 0, years := 0 } }
  (if e.years = 0 then s1 else s1.evChip 0x3023 []).advanceRtc e.ticks

def execSecondTickDelivered (s : State) : Out :=
  confined s (if s.d0Clock && decide (0 < s.ember.ticks) then s.tickDelivered else s)

/-- ALARM_DELIVERED (R384, R506). -/
def execAlarmDelivered (s : State) : Out :=
  confined s (if s.d0Clock && decide (0 < s.ember.alarms) then
    let t : State := { s with ember := { s.ember with alarms := 0 } }
    if s.ecfg 3 then t.wake 0 else t
  else s)

/-- WAKE_DELIVERED (R385, R506). -/
def execWakeDelivered (s : State) : Out :=
  confined s (if s.d0Clock && decide (0 < s.ember.wakes) then
    let t : State := { s with ember := { s.ember with wakes := 0 } }
    if s.ecfg 0 then t.wake 0 else t
  else s)

/-- D0 finds a TAMPn flag newly set and declares a security fault (R388). -/
def State.declareTamper (s : State) (i : Nat) : State :=
  let e := s.ember
  let told := if i = 0 then e.told0 else e.told1
  if told || !s.es (esTAMP0 + i) then s
  else ({ s with ember := if i = 0 then { e with told0 := true } else { e with told1 := true } }).declare 0 3 0 0x7010
    (i :: leBytes 2 (s.g (tampKey i)))

/-- TAMPER_DELIVERED (R388, R506). -/
def execTamperDelivered (input : Nat) (s : State) : Out :=
  if input < 2 then
    confined s (if s.d0Clock && decide (0 < (if input = 0 then s.ember.tamp0 else s.ember.tamp1)) then
      ({ s with ember := if input = 0 then { s.ember with tamp0 := 0 } else { s.ember with tamp1 := 0 } }).declareTamper
        input else s)
  else .next s

/-- OSC_STOP_DELIVERED (R390). -/
def execOscStopDelivered (s : State) : Out :=
  confined s (if s.d0Clock && decide (0 < s.ember.oscs) then
    ({ s with ember := { s.ember with oscs := 0 } }).evChip 0x3022 [] else s)

end Sys2Proof.Machine
end

