-- ==== Sys2Proof/Machine/Section.lean ====
section
/-! DEFINITION. Meter sections (R213 to R256): path velocity, path states, the computation of flow, cut-off, volume,
peaks and overflow, and the section result timeout. -/

namespace Sys2Proof.Machine

-- path velocity

/-- The velocity of a class V record in binary64, formed in the order of the formula (R217; log entry 11); none under
R218. A second holds 24 576 000 · 2^21 ft/256 (R9, R119), a thousand times the constant R217 prints (log entry 50). -/
def State.velocityOf (s : State) (n : Nat) (f : FinalRec) : Option Rat :=
  if f.cls ≠ .V ∨ f.corRange = true ∨ f.tofDn = 0 ∨ f.tofUp = 0 then none
  else
    let l := fOf (s.g (K.path_L n)) 1000000
    let x := fOf (s.gi 32 (K.path_X n)) 1000000
    let geo := fDiv 10 (fMul l l) (fMul 2 x)
    let dt := fOf f.dtCor 51539607552000
    let tDn := fOf f.tofDn 201326592000
    let tUp := fOf f.tofUp 201326592000
    some (fDiv 11 (fMul geo dt) (fMul tUp tDn))

/-- The rate a section's waiting changes lead to. -/
def SectRt.target (r : SectRt) : Nat := match r.trans.getLast? with | none => r.auto | some e => e.2.1

/-- A velocity above V_DETECT of a member path: escalation, and the hold timer armed anew (R185, R186). A velocity in
the cycle of expiry keeps the section active (R37, R206). -/
def State.detect (s : State) (n : Nat) (v : Rat) (i : Nat) : State :=
  if rabs v * 1000 ≤ (s.g (K.sect_V_DETECT i) : Rat) then s
  else
    let r := s.sect i
    let kept := r.trans.filter (fun e => !(decide (e.1 = s.cyc) && decide (e.2.1 = 0)))
    let r1 : SectRt := { r with trans := kept, hold := some (cycPlus s.cyc (s.g (K.sect_HOLD i) * cycPerSecond)) }
    s.setSect i (if r1.target = 0 then { r1 with trans := kept ++ [(s.cyc, 1, n)] } else r1)

/-- A wait of a path for its slot at `b0`: records and waits meet by their CYC (R36). -/
def PathWait.isFor (w : PathWait) (n b0 : Nat) : Bool := decide (w.path = n) && decide (w.b0 = b0)

/-- Change the wait of a path's slot in a section's work on a frame. -/
def FrameWork.update (f : FrameWork) (n b0 : Nat) (st : Wait) : FrameWork :=
  { f with waits := f.waits.map (fun w => if w.isFor n b0 then { w with state := st } else w) }

/-- The wait of a path's slot in a section. -/
def SectRt.waitFor (r : SectRt) (n b0 : Nat) : Option PathWait :=
  r.work.findSome? (fun f => f.waits.find? (fun w => w.isFor n b0))

/-- Set the state of the wait of a path's slot in a section. -/
def State.setWait (s : State) (i n b0 : Nat) (st : Wait) : State :=
  let r := s.sect i
  s.setSect i { r with work := r.work.map (fun f => f.update n b0 st) }

/-- A section's result timeout for a path's slot expires: declared on D0, and the cancellation issued, taking effect at
once on D0's own paths (R44, R192, R707). -/
def State.expireWait (s : State) (i n b0 : Nat) : State :=
  let serial := s.nextSerial 0
  let s1 := s.declare 0 3 0 0x1048 [i, n]
  let s2 := s1.setWait i n b0 (.expired serial)
  if n < 4 then s2.cancelPath n serial b0
  else s2.setPath n { s2.path n with cancels := (s2.path n).cancels ++ [(serial, b0)] }

/-- A wait that is armed and past its expiry cycle. -/
def State.overdue (s : State) (w : PathWait) : Bool :=
  decide (w.state = .armed) && cycReached s.cyc w.expiry && decide (s.cyc ≠ w.expiry)

/-- How a delivered record meets one section: its timeout has expired under a serial, it is armed, or there is none. -/
inductive Meet where
  | none | onTime | late (serial : Nat)
  deriving DecidableEq, Repr

/-- A timeout that expired for a frame already computed still meets its record (R45). -/
def SectRt.meet (r : SectRt) (n b0 : Nat) : Meet :=
  match r.waitFor n b0 with
  | Option.none => match r.late.find? (fun e => decide (e.1 = n) && decide (e.2.1 = b0)) with
    | some e => .late e.2.2
    | Option.none => .none
  | some w => match w.state with
    | .armed => .onTime
    | .expired k => .late k
    | .got _ _ => .none

/-- Expired timeouts of a path whose record has come, or can no longer come, are forgotten: its records arrive in order.
-/
def SectRt.forget (r : SectRt) (n b0 : Nat) : SectRt :=
  { r with late := r.late.filter (fun e => decide (e.1 ≠ n) || !cycReached b0 e.2.1) }

/-- A final record is delivered to D0 (R39, R45, R168, R185, R192, R217). A section whose timeout expired discards it.
Where every section that waited has discarded it, it is lost; where one took it in time, its velocity is also the path's
last one (R221), for every section (DESIGN CHOICE, log entry 80). -/
def State.deliver (s : State) (n : Nat) (f : FinalRec) : State :=
  let all := List.range s.nSects
  -- a timeout that ran out before this cycle has expired
  let s0 := all.foldl (fun t i => match (t.sect i).waitFor n f.b0 with
    | none => t
    | some w => if t.overdue w then t.expireWait i n f.b0 else t) s
  let meets := all.map (fun i => (i, (s0.sect i).meet n f.b0))
  let s1 := all.foldl (fun t i => t.setSect i ((t.sect i).forget n f.b0)) s0
  let lateOnes := meets.filterMap (fun m => match m.2 with | .late k => some k | _ => none)
  let s2 := lateOnes.foldl (fun t k => t.react (n / 4) 1 (locPath n) 0x1029 k []) s1
  if lateOnes ≠ [] ∧ meets.all (fun m => m.2 != .onTime) then s2
  else
    let v := s2.velocityOf n f
    let s3 := s2.setPath n { s2.path n with fault := f.fault, taken := some (f.frameSeq, f.cls, v) }
    let s4 := match v with
      | none => s3
      | some x => ({ s3 with vel := s3.vel.store none n (some (f.frameSeq, x)) }).p (K.rec_V_PATH n) (f32bits x)
    let s5 := meets.foldl (fun t m => if m.2 = .onTime then t.setWait m.1 n f.b0 (.got f.cls v) else t) s4
    match v with
    | none => s5
    | some x => ((s5.sectsOf n).filter (fun i =>
        meets.all (fun m => m.1 != i || (match m.2 with | .late _ => false | _ => true)))).foldl
        (fun t i => t.detect n x i) s5

/-- PATH_RECORD_DELIVERED: the oldest record a path has sent (R192, R217). -/
def execPathRecordDelivered (path : Nat) (s : State) : Out :=
  ifFitted s (decide (path < s.nPaths)) <|
    let r := s.path path
    confined s (match r.sent with
      | [] => s
      | f :: rest => (s.setPath path { r with sent := rest }).deliver path f)

/-- A record of a path's slot is delivered later in this cycle: it waits among those sent, and the commands that deliver
them wait in the queue (R37). -/
def State.recordComes (s : State) (n b0 : Nat) : Bool :=
  ((s.path n).sent.take (s.pending.countP (fun c => decide (c = .pathRecordDelivered n)))).any (fun f => f.b0 == b0)

/-- The slot for which a section's timeout for a path expires now. A record of this cycle is in time whatever the order
of the two commands (R37). -/
def State.expiring (s : State) (i n : Nat) : Option Nat :=
  (s.sect i).work.findSome? (fun f => f.waits.findSome? (fun w =>
    if w.path = n ∧ w.state = .armed ∧ cycReached s.cyc w.expiry ∧ (s.cyc ≠ w.expiry ∨ !s.recordComes n w.b0)
    then some w.b0 else none))

/-- SECTION_RESULT_TIMEOUT (R38, R44, R192). -/
def execSectionResultTimeout (sect path : Nat) (s : State) : Out :=
  ifFitted s (decide (sect < s.nSects) && decide (path < s.nPaths)) <|
    confined s (match s.expiring sect path with
      | none => s
      | some b0 => s.expireWait sect path b0)

/-- HOLD_TIMER_EXPIRY: the rest divider applies at a later boundary (R186). -/
def execHoldTimerExpiry (sect : Nat) (s : State) : Out :=
  ifFitted s (decide (sect < s.nSects)) <|
    let r := s.sect sect
    confined s (match r.hold with
      | none => s
      | some t => if cycReached s.cyc t then
          s.setSect sect { r with hold := none, trans := r.trans ++ [(s.cyc, 0, 0xFF)] } else s)

-- the computation

/-- State of a member path in a computation (R221). -/
inductive Member where
  | V (v : Rat) | H (v : Rat) | F
  deriving DecidableEq, Repr

def Member.vel : Member → Option Rat | .V v => some v | .H v => some v | .F => none

/-- What D0 has of a path for a frame: its section's timeout, or where the section armed none for it (a path that became
a member after its slot began) the record that D0 took. -/
def State.gotOf (s : State) (n : Nat) (f : FrameWork) : Option Wait :=
  match f.waits.find? (fun w => decide (w.path = n)) with
  | some w => some w.state
  | none => match (s.path n).taken with
    | some (k, c, v) => if k = f.frameSeq then some (.got c v) else none
    | none => none

/-- Classify a member path: the first row of R221 that matches. Ages count in frames since cold start, whatever FRAME_NO
has restarted from. -/
def State.member (s : State) (i n : Nat) (f : FrameWork) : Member :=
  match s.gotOf n f with
  | some (.got .V (some v)) => .V v
  | other =>
    if (s.path n).fault ≠ 0 ∨ other.isSome then .F
    else match s.vel.look none n with
      | none => .F
      | some (fv, v) => if fv ≤ f.frameSeq ∧ f.frameSeq - fv ≤ s.g (K.sect_AGE_MAX i) then .H v else .F

/-- Member paths of a section with their states, weights and profile ratios. -/
structure Row4 where
  n  : Nat
  m  : Member
  w  : Rat
  pr : Rat

def State.rows (s : State) (i : Nat) (f : FrameWork) : List Row4 :=
  (maskBits (s.g (K.sect_PATH_MASK i)) 32).map (fun n =>
    { n := n, m := s.member i n f, w := fOf (s.gi 32 (K.sect_W i n)) (2 ^ 30), pr := fOf (s.gi 32 (K.res_PR i n)) (2 ^ 30) })

/-- Bits of the paths in a state. -/
def maskOf (rows : List Row4) (p : Member → Bool) : Nat :=
  rows.foldl (fun a r => if p r.m then a + 2 ^ r.n else a) 0

/-- What a computation forms (R222 to R229). -/
structure Flow where
  fail   : Bool
  degr   : Bool
  vw     : Option Rat
  re     : Rat
  vMean  : Rat
  qRaw   : Int
  kUsed  : Int
  nu     : Option Rat
  temp   : Rat
  /-- T_FIX used, P_FIX used, ν flag, K flag. -/
  tFix   : Bool
  pFix   : Bool
  nuFlag : Bool
  kFlag  : Bool

/-- Medium temperature in °C, and whether T_FIX is used (R227). -/
def State.mediumTemp (s : State) (i : Nat) : Rat × Bool :=
  match s.chanTemp (s.g (K.sect_T_CHAN i)) with
  | some t => (t, false)
  | none => (fOf (s.gi 16 (K.sect_T_FIX i)) 100, true)

/-- Pressure in Pa, and whether P_FIX is used (R227). -/
def State.mediumPress (s : State) (i : Nat) : Rat × Bool :=
  match s.chanPress (s.g (K.sect_P_CHAN i)) with
  | some p => (p, false)
  | none => ((s.g (K.sect_P_FIX i) : Rat), true)

/-- Kinematic viscosity in m²/s and its flag (R226, R228). -/
def State.viscosity (s : State) (i : Nat) (temp press : Rat) : Rat × Bool :=
  let base : Rat × Bool :=
    if s.g (K.sect_NU_SEG i) = 255 then (fOf (s.g (K.sect_NU_FIX i)) (10 ^ 12), false)
    else
      let e := s.evalSeg (s.g (K.sect_NU_SEG i)) (toQ16 temp)
      (f64 (mkRat (e.y * 64) (2 ^ 30 * 10 ^ 6)), e.flag)
  if s.g (K.sect_MEDIUM i) = 3 then (fDiv 12 (fMul base.1 101325) press, base.2) else base

/-- Velocities of all members with substitutes in place: none where the computation fails by R224. -/
def State.velocities (s : State) (i : Nat) (rows : List Row4) : Option (List (Row4 × Rat)) :=
  let avail := rows.filterMap (fun r => r.m.vel.map (fun v => (r, v)))
  let sa := fSum (avail.map (fun e => fMul e.1.w e.1.pr))
  if avail.length < s.g (K.sect_MIN_PATHS i) ∨ sa = 0 then none
  else
    let ref := fDiv 13 (fSum (avail.map (fun e => fMul e.1.w e.2))) sa
    some (rows.map (fun r => (r, r.m.vel.getD (fMul r.pr ref))))

/-- The flow of a computation (R224 to R229). A ν of 0 or less sets NU_CLAMP whether or not the computation has failed
already (R228, R255). -/
def State.flow (s : State) (i : Nat) (rows : List Row4) : Flow :=
  let t := s.mediumTemp i
  let p := s.mediumPress i
  let nu := s.viscosity i t.1 p.1
  let nuFlag := nu.2 || decide (nu.1 ≤ 0)
  let failed : Flow := { fail := true, degr := false, vw := none, re := 0, vMean := 0, qRaw := 0, kUsed := 0, nu := some nu.1
                         temp := t.1, tFix := t.2, pFix := p.2, nuFlag := nuFlag, kFlag := false }
  match s.velocities i rows with
  | none => failed
  | some vs =>
    let vw := fSum (vs.map (fun e => fMul e.1.w e.2))
    let degr := rows.any (fun r => r.m == .F)
    if nu.1 ≤ 0 then { failed with vw := some vw, degr := degr }
    else
      let d := fOf (s.g (K.sect_DIAM i)) 1000000
      let re := fDiv 14 (fMul (rabs vw) d) nu.1
      let kSeg := s.g (K.sect_K_SEG i)
      let k : SegVal := if kSeg = 255 then ⟨s.gi 32 (K.sect_K_FIX i), false⟩ else s.evalSeg kSeg (log10Q16 re)
      let vMean := fMul (fOf k.y (2 ^ 30)) vw
      let area := fDiv 15 (fMul piF (fMul d d)) 4
      { fail := false, degr := degr, vw := some vw, re := re, vMean := vMean,
        qRaw := fitS 4 64 (ratHalfAway (fMul (fMul area vMean) (10 ^ 12))),
        kUsed := k.y, nu := some nu.1, temp := t.1, tFix := t.2, pFix := p.2, nuFlag := nuFlag, kFlag := k.flag }

/-- Profile ratios after a computation whose members are all in state V (R222). -/
def State.updateRatios (s : State) (i : Nat) (rows : List Row4) : State :=
  let vs := rows.filterMap (fun r => match r.m with | .V v => some (r, v) | _ => none)
  let sw := fSum (rows.map (·.w))
  if vs.length ≠ rows.length ∨ sw = 0 then s
  else
    let vRef := fDiv 16 (fSum (vs.map (fun e => fMul e.1.w e.2))) sw
    if rabs vRef * 1000 < (s.g (K.sect_V_DETECT i) : Rat) then s
    else vs.foldl (fun t e =>
      let d := fSub (fDiv 17 e.2 vRef) e.1.pr
      let pr := fAdd e.1.pr (fDiv 18 d (2 ^ s.g (K.sect_PR_SHIFT i)))
      t.pi 32 (K.res_PR i e.1.n) (clampInt (-(2 ^ 31)) (2 ^ 31 - 1) (ratHalfUp (pr * 2 ^ 30)))) s

/-- The cut state after a computation that formed Q_RAW_NLS (R239). -/
def cutNext (cut : Option Bool) (q qCut qHyst : Nat) : Bool :=
  match cut with
  | some true => decide (q < qCut + qHyst)
  | _ => decide (q < qCut)

/-- The overflow state after a computation (R247 to R249): start epoch, in overflow, and whether it began or ended now.
A Q_S of 0 ends it. -/
def overflowNext (r : SectRt) (fail : Bool) (q qS tOvf epoch : Nat) : Option Nat × Bool :=
  if fail ∨ qS = 0 ∨ q ≤ qS then (none, false)
  else match r.ovfStart with
    | none => (some epoch, false)
    | some e => (some e, r.overflow || decide (tOvf * cycPerSecond < cycDiff epoch e))

/-- Replace a peak by a greater magnitude, with the time of the epoch (R245). -/
def State.peak (s : State) (i k q rtc : Nat) : State :=
  if s.g k < q then ((s.p k q).p (k + 1) rtc).markRecs i [12] else s

/-- The peaks of a computation that is not FAIL (R245). -/
def State.peaks (s : State) (i : Nat) (q : Int) (rtc : Nat) : State :=
  if 0 < q then (s.peak i (K.res_PEAK_FWD_INT i) q.natAbs rtc).peak i (K.res_PEAK_FWD_BP i) q.natAbs rtc
  else if q < 0 then (s.peak i (K.res_PEAK_REV_INT i) q.natAbs rtc).peak i (K.res_PEAK_REV_BP i) q.natAbs rtc
  else s

/-- Δt of a computation and its mode: 0 FAIL, 1 GAP, 2 accumulate (R241, R242). -/
def State.interval (s : State) (i epoch : Nat) (fail : Bool) : Nat × Nat :=
  let dt := match (s.sect i).epoch with | none => 0 | some e => cycDiff epoch e
  (dt, if fail then 0 else if s.g (K.sect_GAP_MAX i) * cycPerSecond < dt then 1 else 2)

/-- Volume of an interval: carry, nL, and the booking of the whole mL (R243, R248). -/
def State.accumulate (s : State) (i : Nat) (q : Int) (dt : Nat) : State × Nat × Booking :=
  let r := s.sect i
  if q = 0 ∨ dt = 0 then (s, 0, { sect := i })
  else
    let fwd := decide (0 < q)
    let n := q.natAbs * dt + (if fwd then r.carryFwd else r.carryRev)
    let dv := n / cycPerSecond
    let res := (if fwd then r.resFwd else r.resRev) + dv
    let r1 := if fwd then { r with carryFwd := n % cycPerSecond, resFwd := res % 10 ^ 6 }
      else { r with carryRev := n % cycPerSecond, resRev := res % 10 ^ 6 }
    (s.setSect i r1, dv, { sect := i, dir := if fwd then 0 else 1, vol := res / 10 ^ 6, res := res % 10 ^ 6
                           carry := n % cycPerSecond })

/-- A booking changes a ledger-held value (R447). -/
def Booking.changes (b : Booking) : Bool := decide (b.dir ≠ 0xFF) || decide (b.mode ≠ 0) || decide (b.time ≠ 0)

/-- Book what changes a ledger-held value (R447). -/
def State.bookIf (s : State) (b : Booking) : State := if b.changes then s.book b else s

/-- E_FLAGS and POWER_W of a computation that does not fail, and event 0x104A (R293, R296, R297, R317). -/
def State.showEnergy (s : State) (i : Nat) (q : Int) (h : Heat) : State :=
  if s.g (K.sect_ENERGY_EN i) ≠ 1 then (s.p (K.res_E_FLAGS i) 0).p (K.res_POWER_W i) 0
  else
    let rev := decide (q < 0)
    let power : Rat := if h.hold || h.bad || rev || decide (h.mode = 0) || decide (q = 0) then 0
      else fMul (fMul (fDiv 19 (q : Rat) (10 ^ 12)) h.rho) (if h.mode = 1 then h.dh else -h.dh)
    ((s.p (K.res_E_FLAGS i) (h.flags rev)).p (K.res_POWER_W i) (f32bits power)).noteClamp i h

/-- Volume and energy of a computation that accumulates, booked in one cycle (R243, R292 to R297, R323). -/
def State.billFlow (s : State) (i : Nat) (q : Int) (dt : Nat) (overflow : Bool) : State :=
  let h := s.heat i
  let en := decide (s.g (K.sect_ENERGY_EN i) = 1)
  let a := s.accumulate i q dt
  let hold := en && h.hold
  let b := { a.2.2 with
    time := if hold then dt else 0, flags := 4 * b01 (hold && decide (0 < dt)) + 8 * b01 (overflow && decide (a.2.2.dir ≠ 0xFF)) }
  let e := if en && decide (0 < q) then a.1.addEnergy a.2.1 h b else (a.1, b)
  let s3 := (e.1.bookIf e.2).showEnergy i q h
  if en then s3.holdEnergy i h.hold else s3

/-- The results of a computation, written in one cycle (R254, R255). A value a FAIL computation did not form is free
(log entry 19). -/
def State.writeFlow (s : State) (i : Nat) (f : FrameWork) (w : Flow) (rows : List Row4) (q qRaw : Int) (flags : Nat) : State :=
  let open_ (k : Nat) (v : Nat) : Nat := if w.fail then Config.freeUnformed k f.epoch % two32 else v
  s.ps [(K.res_EPOCH_CYC i, f.epoch), (K.res_FRAME_NO i, f.frameNo),
    (K.res_Q_NLS i, ofSigned 64 q), (K.res_Q_M3H i, f32quot (q * 36) (10 ^ 10)), (K.res_Q_RAW_NLS i, ofSigned 64 qRaw),
    (K.res_V_W i, match w.vw with | some v => f32bits v | none => Config.freeUnformed (K.res_V_W i) f.epoch % two32),
    (K.res_V_MEAN i, open_ (K.res_V_MEAN i) (f32bits w.vMean)), (K.res_RE i, open_ (K.res_RE i) (f32bits w.re)),
    (K.res_K_USED i, open_ (K.res_K_USED i) (ofSigned 32 w.kUsed)),
    (K.res_NU_USED i, match w.nu with | some v => fitU 6 32 (ratOpen 6 (v * 10 ^ 12)) | none => 0),
    (K.res_T_USED i, ofSigned 16 (fitS 7 16 (ratOpen 7 (w.temp * 100)))), (K.res_SECT_FLAGS i, flags),
    (K.res_MASK_V i, maskOf rows (fun m => match m with | .V _ => true | _ => false)),
    (K.res_MASK_H i, maskOf rows (fun m => match m with | .H _ => true | _ => false)),
    (K.res_MASK_F i, maskOf rows (fun m => m == .F))]

/-- The serial under which a section's FAIL is logged: the path's standing fault or its expiry (R251). -/
def State.failSerial (s : State) (f : FrameWork) (n : Nat) : Nat :=
  if (s.path n).serial ≠ 0 then (s.path n).serial
  else match (f.waits.find? (fun w => decide (w.path = n))).map PathWait.state with
    | some (.expired k) => k
    | _ => 0

/-- Events of entering and leaving FAIL, DEGRADED and overflow, and of fixed or clamped values (R227, R237, R251). -/
def State.flowEvents (s : State) (i : Nat) (f : FrameWork) (w : Flow) (rows : List Row4) (gap : Bool) (dt : Nat)
    (ovf : Bool) : State :=
  let r := s.sect i
  let low := ((rows.filter (fun x => x.m == .F)).map (·.n)).headD 0xFF
  let s1 := if w.tFix || w.pFix then s.onceEv i 0 3 0 0x1047 [i, if w.tFix then 0 else 1] else s
  let s2 := if w.nuFlag || w.kFlag then s1.onceEv i 0 3 0 0x1045 [i, if w.nuFlag then 1 else 0] else s1
  let s3 := if gap then s2.evChip 0x1046 (i :: leBytes 4 (dt / cycPerSecond)) else s2
  let k := s3.failSerial f low
  let s4 := if w.fail && !r.failed then s3.raise 0 3 0 0x1040 (if k = 0 then 0 else 2) k [i, low]
    else if !w.fail && r.failed then s3.evChip 0x1041 [i] else s3
  let s5 := if w.degr && !r.degraded then s4.evChip 0x1042 [i, low] else s4
  if ovf && !r.overflow then s5.evChip 0x1043 [i] else if !ovf && r.overflow then s5.evChip 0x1044 [i] else s5

/-- The first valid flow of a start (R559). -/
def State.noteFirstFlow (s : State) (fail : Bool) : State :=
  if fail ∨ s.g K.dev_FVF_TIME ≠ 0xFFFFFFFF then s
  else s.p K.dev_FVF_TIME (wrap32 (s.g K.dev_START_TIME +
    (roundOpen 8 ((cycDiff s.cyc (s.g K.dev_START_CYC) * 1000 : Nat) : Int) 24576).toNat))

/-- One computation of section `i` for a frame (R219 to R249, R254). -/
def State.compute (s : State) (i : Nat) (f : FrameWork) : State :=
  let rows := s.rows i f
  let w := s.flow i rows
  let r := s.sect i
  let freeQ (k : Nat) : Int := toSigned 64 (Config.freeUnformed k f.epoch % two64)
  let qRaw := if w.fail then freeQ (K.res_Q_RAW_NLS i) else w.qRaw
  let cut := if w.fail then r.cut
    else some (cutNext r.cut qRaw.natAbs (s.g (K.sect_Q_CUT i)) (s.g (K.sect_Q_HYST i)))
  let q := if cut = some true then 0 else if w.fail then freeQ (K.res_Q_NLS i) else qRaw
  let d := s.interval i f.epoch w.fail
  let o := overflowNext r w.fail q.natAbs (s.g (K.sect_Q_S i)) (s.g (K.sect_T_OVF i)) f.epoch
  let flags := ofBits [w.fail, w.degr, decide (q < 0), decide (cut = some true), o.1.isSome && !o.2, o.2,
    decide (s.g (K.sect_K_SEG i) = 255), w.kFlag, w.nuFlag, w.tFix, w.pFix, decide (d.2 = 1)]
  let s1 := (s.updateRatios i rows).flowEvents i f w rows (decide (d.2 = 1)) d.1 o.2
  let s2 := s1.writeFlow i f w rows q qRaw flags
  let s3 := s2.setSect i { s2.sect i with
    cut := cut, epoch := some f.epoch, ovfStart := o.1, overflow := o.2, failed := w.fail, degraded := w.degr }
  let s4 := (s3.inc (K.res_COMPUTE_COUNT i))
  let s5 := if w.degr then s4.inc (K.res_DEGRADED_COUNT i) else s4
  let s6 := if w.fail then s5.inc (K.res_FAIL_COUNT i) else s5
  let idle (n : Nat) : State := s6.bookIf { sect := i, flags := n, time := d.1 }
  let s7 := if d.2 = 0 then
      ((idle 1).p (K.res_POWER_W i) 0).p (K.res_E_FLAGS i) (b01 (decide (s6.g (K.sect_ENERGY_EN i) = 1)))
    else if d.2 = 1 then ((idle 2).showEnergy i q (s6.heat i)).peaks i q f.rtc
    else (s6.billFlow i q d.1 o.2).peaks i q f.rtc
  (s7.noteFirstFlow w.fail).irq 2

/-- The frame's slots are all reached and its timeouts resolved (R219). -/
def State.workReady (s : State) (i : Nat) (f : FrameWork) : Bool :=
  f.waits.all (fun w => w.state != .armed) &&
  (decide (f.epoch ≠ s.frameAt) ||
    (maskBits (s.g (K.sect_PATH_MASK i)) 32).all (fun n => !(s.path n).slotDue))

/-- Timeouts of a computed frame that expired are kept for the records that may still come (R45, R46). -/
def FrameWork.expired (f : FrameWork) : List (Nat × Nat × Nat) :=
  f.waits.filterMap (fun w => match w.state with | .expired k => some (w.path, w.b0, k) | _ => none)

/-- A section computes its oldest frame, once it is resolved (R219). A section whose PATH_MASK is 0 computes nothing
(R213). -/
def State.computeNext (s : State) (i : Nat) : State :=
  let r := s.sect i
  match r.work with
  | [] => s
  | f :: rest =>
    if !s.workReady i f then s
    else
      let t := s.setSect i { r with work := rest, late := r.late ++ f.expired }
      if s.g (K.sect_PATH_MASK i) = 0 then t else t.compute i f

/-- Computations of lower sections that start in this cycle, their commands still in the queue (R220). -/
def State.lowerFirst (s : State) (i : Nat) : List Nat :=
  (List.range i).flatMap (fun j => List.replicate (s.pending.countP (fun c => decide (c = .sectionComputation j))) j)

/-- SECTION_COMPUTATION: sections whose computations start in one cycle compute in ascending order, whatever the order
of their commands (R219, R220). -/
def execSectionComputation (sect : Nat) (s : State) : Out :=
  ifFitted s (decide (sect < s.nSects)) <|
    booking s (((s.lowerFirst sect).foldl (fun t j => t.computeNext j) s).computeNext sect)

end Sys2Proof.Machine
end

