-- ==== Sys2Proof/Machine/Lantern.lean ====
section
/-! DEFINITION. Lantern metering (R306 to R312): a main supply loss metered from the cell. -/

namespace Sys2Proof.Machine

/-- Bits of LANT_STAT (R321). -/
abbrev lsARMED : Nat := 0
abbrev lsLAST_VALID : Nat := 1
abbrev lsCUT : Nat := 2
abbrev lsUNBILLED : Nat := 3
abbrev lsLOW_CELL : Nat := 4

/-- The checks of R306 between the lantern's entries, PATH_MASK and the caps. -/
def State.lanternFits (s : State) : Bool :=
  let n := s.g K.lant_LANT_PATH
  bitAt (s.g (K.sect_PATH_MASK (s.g K.lant_LANT_SECT))) n &&
  decide (s.g K.lant_LANT_VDRV ≤ s.g (K.sag_CAP_VDRV (endA n))) &&
  decide (s.g K.lant_LANT_VDRV ≤ s.g (K.sag_CAP_VDRV (endB n)))

/-- Form ARMED anew (R321). -/
def State.syncArmed (s : State) : State :=
  s.bitTo K.lant_LANT_STAT lsARMED (decide (s.g K.lant_LANT_EN = 1) && s.lanternFits)

/-- D0 returns to DEEP between pairs (R307, R308). -/
def State.lanternSleep (s : State) : State :=
  (s.setDie 0 { s.die 0 with deepCyc := s.cyc }).p (K.sup_PWR_STATE 0) 3

/-- An outage's lantern metering starts (R307, R312). -/
def State.startLantern (s : State) : State :=
  let s1 : State := { s with lant := { s.lant with
    running := true, stopped := false, awake := false, ending := false, cut := none
    path := s.g K.lant_LANT_PATH, sect := s.g K.lant_LANT_SECT, period := s.g K.lant_LANT_PERIOD
    vdrv := s.g K.lant_LANT_VDRV, k := s.g K.lant_LANT_K, vbatMin := s.g K.lant_LANT_VBAT_MIN
    flagVol := s.g K.lant_LANT_FLAG_VOL, nextIn := s.g K.lant_LANT_PERIOD } }
  let s2 := s1.ps [(K.lant_LANT_OUT_FWD, 0), (K.lant_LANT_OUT_REV, 0), (K.lant_LANT_START, s.emberRtc)]
  let s3 := (List.range s.dies).foldl (fun t d => if d = 0 then t else t.p (K.sup_PWR_STATE d) 4) s2
  (s3.evChip 0x1050 []).lanternSleep

/-- LANTERN_START: at a main supply loss, the ember is on VBAT and the power-fail commit has ended (R307). -/
def execLanternStart (s : State) : Out :=
  confined s (if s.ember.onVbat && s.pow.pfDone && s.bit K.lant_LANT_STAT lsARMED && !s.lant.running
      && !s.pow.loopOn && !s.pow.busOn
    then s.startLantern else s)

/-- The main supply has returned: the outage is recorded and unbilled flow flagged (R312). -/
def State.endLantern (s : State) : State :=
  let fwd := s.g K.lant_LANT_OUT_FWD
  let m3 := wrap32 (roundOpen 11 (fwd : Nat) (10 ^ 6)).toNat
  let s1 : State := { s with lant := { s.lant with running := false, awake := false, ending := false } }
  let s2 := ((s1.p K.lant_LANT_END s.emberRtc).inc K.lant_LANT_OUTAGES).bitTo K.lant_LANT_STAT lsCUT
    (decide (s.lant.cut = some true))
  let s3 := s2.evChip 0x1051 (0 :: leBytes 4 m3)
  if 0 < s.lant.flagVol ∧ s.lant.flagVol ≤ fwd + s.g K.lant_LANT_OUT_REV then
    (s3.bitTo K.lant_LANT_STAT lsUNBILLED true).evChip 0x1052 []
  else s3

/-- A source is present again: a pair in progress completes first (R312). -/
def State.returnLantern (s : State) : State :=
  if !s.lant.running then s
  else if s.lant.awake then { s with lant := { s.lant with ending := true } }
  else s.endLantern

/-- The lantern pair begins: its attempt is latched as R309 gives it, and its first burst or bursts start with VDRV
charged to LANT_VDRV. The energy test of R80 holds for it as for every pair; a withheld pair is not taken (DESIGN
CHOICE, log entry 78). -/
def State.takePair (s : State) : State :=
  let n := s.lant.path
  let s1 := (s.withhold (endA n)).withhold (endB n)
  if !(s.energyOk (endA n) && s.energyOk (endB n)) then s1.lanternSleep
  else
    let s2 := (s1.holdAtStart (endA n)).holdAtStart (endB n)
    let a := { s2.latch n (cycPlus s2.cyc 1) 0 (100 * s2.lant.vdrv) {} false with
      refine := false, capLost := false, td := (s2.path n).tdValid, tdInv := false, tdFixed := false }
    let s3 := s2.fireBursts n a
    { s3 with lant := { s3.lant with awake := true, att := a } }.p (K.sup_PWR_STATE 0) 0

/-- A lantern period has passed in DEEP: CYC is restored, and the pair begins unless the cell is low (R78, R308, R311,
R503). -/
def State.wakeLantern (s : State) (vbat n : Nat) : State :=
  let s1 := s.passWindows { s with cyc := cycPlus (s.die 0).deepCyc (750 * n) }
  if vbat < s.lant.vbatMin then
    (({ s1 with lant := { s1.lant with stopped := true } }).bitTo K.lant_LANT_STAT lsLOW_CELL true |>.evChip 0x1053 []).lanternSleep
  else ({ s1 with lant := { s1.lant with nextIn := s1.lant.period } }).takePair

/-- LANTERN_WAKE (R308, R311). -/
def execLanternWake (vbatMv emberCycles : Nat) (s : State) : Out :=
  starting s (if s.lant.running && !s.lant.stopped && !s.lant.awake && decide (s.lant.nextIn = 0)
    then s.wakeLantern vbatMv emberCycles else s)

/-- The judged attempt of a lantern pair. The second shot of a sequential one counts only where its burst started. -/
def State.lanternAttempt (s : State) (dn up : ShotRaw) : Attempt :=
  let one (a : Attempt) (d : Dir) (raw : ShotRaw) : Attempt :=
    if (a.shot d).phase = .none then a.setShot d { a.shot d with phase := .notTaken }
    else a.setShot d (a.guard (s.rawShot s.lant.path (a.shot d) raw))
  (one (one s.lant.att .dn dn) .up up).decided

/-- What a lantern pair's attempt gives as a record for the velocity (R199, R203, R217). -/
def State.lanternRecord (s : State) (a : Attempt) : FinalRec :=
  let tDn := a.tof .dn
  let tUp := a.tof .up
  let c := (corrected tDn a.td, corrected tUp a.td)
  { frameNo := 0, b0 := a.b0, frameSeq := 0, pairCyc := a.b, cls := a.cls.getD .L, corRange := c.1.isNone || c.2.isNone
    tofDn := c.1.getD 0, tofUp := c.2.getD 0
    dtCor := fitS 1 32 (tUp - tDn - a.zo - s.gi 32 (K.path_ZERO_DT s.lant.path)), fault := 0 }

/-- Flow in nL/s of a lantern pair's velocity (R310). -/
def State.lanternFlow (s : State) (v : Rat) : Int :=
  let d := fOf (s.g (K.sect_DIAM s.lant.sect)) 1000000
  let area := fDiv 15 (fMul piF (fMul d d)) 4
  fitS 22 64 (ratHalfAway (fMul (fMul (fMul area (fOf (toSigned 32 s.lant.k) (2 ^ 30))) v) (10 ^ 12)))

/-- Book a lantern pair's volume to the lantern totals (R310). -/
def State.lanternBook (s : State) (q : Int) : State :=
  let l := s.lant
  let add (k v : Nat) (t : State) : State := t.p k (fitU 23 64 ((t.g k + v : Nat) : Int))
  let res := (if 0 < q then l.resFwd else l.resRev) + q.natAbs * l.period
  let rest := res % 10 ^ 6
  let s1 : State := { s with lant := if 0 < q then { l with resFwd := rest } else { l with resRev := rest } }
  if 0 < q then add K.lant_LANT_OUT_FWD (res / 10 ^ 6) (add K.lant_LANT_FWD (res / 10 ^ 6) s1)
  else add K.lant_LANT_OUT_REV (res / 10 ^ 6) (add K.lant_LANT_REV (res / 10 ^ 6) s1)

/-- A valid pair's flow, cut off by the section's settings (R239, R310). -/
def State.lanternValid (s : State) (v : Rat) : State :=
  let q := s.lanternFlow v
  let cut := cutNext s.lant.cut q.natAbs (s.g (K.sect_Q_CUT s.lant.sect)) (s.g (K.sect_Q_HYST s.lant.sect))
  let s1 : State := { s with lant := { s.lant with cut := some cut } }
  if cut || decide (q = 0) then s1 else s1.lanternBook q

/-- A lantern pair completes: it is booked, the outage ends where the supply is back, and D0 returns to DEEP, where a
start then follows (R308 to R310, R312). -/
def State.pairLantern (s : State) (dn up : ShotRaw) : State :=
  let n := s.lant.path
  let a := s.lanternAttempt dn up
  let ok := decide (a.cls = some .V)
  let s0 := (s.noteCalErr n a.dn).noteCalErr n a.up
  let s1 := (s0.inc K.lant_LANT_PAIRS).bitTo K.lant_LANT_STAT lsLAST_VALID ok
  let s2 := if ok then
      (match s.velocityOf n (s.lanternRecord a) with | some v => s1.lanternValid v | none => s1).afterValid n a
    else s1.inc K.lant_LANT_FAILS
  let s3 : State := { s2 with lant := { s2.lant with awake := false, att := {} } }
  (if s.lant.ending then s3.endLantern else s3).lanternSleep

/-- LANTERN_PAIR_COMPLETE (R309, R310, R312). -/
def execLanternPairComplete (dn up : ShotRaw) (s : State) : Out :=
  confined s (if s.lant.running && s.lant.awake then s.pairLantern dn up else s)

end Sys2Proof.Machine
end

