-- ==== Sys2Proof/Machine/Klog.lean ====
section
/-! DEFINITION. The kiln log (R696 to R705): acceptance, freeze, store ring and readout; the EMCY messages that follow
acceptance (R602 to R607); and the die temperature (R695). -/

namespace Sys2Proof.Machine

-- EMCY messages

/-- EMCY code of a declaration (R604). -/
def emcyCode (event : Nat) : Nat :=
  if event ∈ [0x1001, 0x1002, 0x1003] then 0xFF11
  else if event ∈ [0x1021, 0x1022, 0x1023] then 0xFF12
  else if event ∈ [0x2001, 0x2002] then 0xFF21
  else if event = 0x2010 then 0xFF22
  else if event ∈ [0x2030, 0x2031] then 0xFF31
  else if event = 0x3020 then 0xFF41
  else if event ∈ [0x4012, 0x4086] then 0xFF42
  else if event ∈ [0x4002, 0x4005, 0x4014, 0x6041, 0x6044] then 0x5000
  else if event ∈ [0x5006, 0x5008] then 0x3000
  else if event = 0x6011 then 0xFF61
  else if event = 0x6020 then 0xFF62
  else if event = 0x6035 then 0x6000
  else if event = 0x7010 ∨ event = 0x7001 ∨ event = 0x7003 then 0xFF70
  else if event = 0x6050 then 0x4200
  else if event ∈ [0x1048, 0x2022, 0x6013] then 0xFF01
  else 0xFF00

/-- Bytes of an EMCY message (R603). -/
def emcyBytes (code reg event serial : Nat) : List Nat :=
  leBytes 2 code ++ [reg] ++ leBytes 2 event ++ leBytes 3 (serial % 2 ^ 21 + serial / 2 ^ 29 % 8 * 2 ^ 21)

/-- Enter a message into the pre-defined error field, newest first (R606). -/
def State.enterError (s : State) (event code : Nat) : State :=
  let n := min 15 (s.g (K.comm_ERRFIELD 0))
  let old := (List.range n).map (fun i => s.g (K.comm_ERRFIELD (i + 1)))
  let new := (event * 2 ^ 16 + code) :: old
  (s.p (K.comm_ERRFIELD 0) (n + 1)).ps (new.mapIdx (fun i v => (K.comm_ERRFIELD (i + 1), v)))

/-- Queue an EMCY message while the node is pre-operational or operational (R602, R606, R607). -/
def State.queueEmcy (s : State) (code event serial : Nat) : State :=
  if s.nmt ≠ 127 ∧ s.nmt ≠ 5 then s
  else
    let s1 := if code = 0 then s else s.enterError event code
    if 16 ≤ s.net.emcyQ.length then (s1.inc K.dev_EMCY_DROP).onceEv 0 0 3 0 0x8009 []
    else { s1 with net := { s1.net with emcyQ := s1.net.emcyQ ++ [emcyBytes code s.errReg event serial] } }

-- entries

/-- The 32 bytes of an entry (R696, R697). -/
def LogEnt.bytes (e : LogEnt) : List Nat :=
  leBytes 4 e.no ++ leBytes 6 e.cyc ++ leBytes 2 e.event ++ leBytes 4 e.rtc ++ leBytes 4 e.serial ++ leBytes 2 e.loc ++
    [e.level % 4, b01 e.freeze * 128 + b01 e.qdrop * 64 + e.src % 8 * 8 + e.kind % 4] ++ bytesAt e.data 0 8

/-- Bits of LOG_STAT (R714). -/
abbrev lgFROZEN : Nat := 0
abbrev lgFULL : Nat := 1
abbrev lgWRAPPED : Nat := 2
abbrev lgQDROP : Nat := 3

/-- The log is frozen (R703). -/
def State.frozen (s : State) : Bool := s.bit K.log_LOG_STAT lgFROZEN

/-- LOG_NO of the next entry (R696). -/
def nextLogNo (n : Nat) : Nat := if 0xFFFFFFFF ≤ n then 1 else n + 1

/-- The store position of an entry would overwrite one from FREEZE_NO − 255 to FREEZE_NO (R703). -/
def State.protects (s : State) (no : Nat) : Bool :=
  s.frozen && decide ((s.g K.log_FREEZE_NO + 2 ^ 32 - no) % 1024 < 256)

/-- An entry lies in the ledger's latest 64, or waits in the ledger buffer (R700). -/
def inLedgerCopy (last : Nat) (e : LogEnt) : Bool := decide (last - e.no < 64)

/-- A store line is written when its eighth entry has been copied to the ledger (R701): the entries it overwrites. -/
def overwritten (last : Nat) (log : List LogEnt) (e : LogEnt) : Bool :=
  decide (last % 8 = 7) &&
    log.any (fun x => x.kept && decide (x.no ≤ last) && decide (last - x.no < 8) && decide (x.no ≠ e.no) &&
    decide (x.no % 1024 = e.no % 1024))

/-- The entries held after `last` was copied to the ledger: those of the buffer, those of the ledger copy and those of
the store (R701, R703). -/
def heldLog (last : Nat) (log : List LogEnt) : List LogEnt :=
  log.filter (fun e => inLedgerCopy last e || (e.kept && !overwritten last log e))

/-- Bytes of the store line that holds eight positions (R701). -/
def logLine (log : List LogEnt) (i : Nat) : List Nat :=
  (List.range 8).flatMap (fun j =>
    match log.find? (fun e => e.kept && decide (e.no % 1024 = 8 * i + j)) with
    | some e => e.bytes
    | none => List.replicate 32 0)

/-- A complete line of the store ring enters the gather buffer (R701). -/
def State.writeLogLine (s : State) (no : Nat) : State :=
  if no % 8 = 7 then s.gatherLine 0 (s.partLine 0 5 (no % 1024 / 8)) (logLine s.klog (no % 1024 / 8)) else s

/-- What follows from an accepted declaration or ending event (R57, R602, R638). -/
def State.announce (s : State) (e : LogEnt) : State :=
  let s1 := if e.kind = 1 then
      ((s.inc K.log_FAULT_COUNT).p K.log_LAST_SERIAL e.serial).irq 4 else s
  if e.kind = 1 then s1.queueEmcy (emcyCode e.event) e.event e.serial
  else if e.kind = 3 then s1.queueEmcy 0 e.event e.serial
  else match e.emcy with
    | some c => s1.queueEmcy c e.event 0
    | none => s1

/-- The first chip-level declaration freezes the log (R703). -/
def State.freezeAt (s : State) (no : Nat) : State :=
  ({ (s.p K.log_FREEZE_NO no).bitTo K.log_LOG_STAT lgFROZEN true with logRead := [], dropsAt := 0 }).irq 6

/-- A declaration at chip level (R703). -/
def LogEnt.chipDecl (e : LogEnt) : Bool := decide (e.kind = 1) && decide (e.level = 3)

/-- D0's log writer accepts an entry: it takes the next LOG_NO and a place of the ledger buffer, where its write begins
at once behind none (R698, R700, R703). -/
def State.accept (s : State) (e0 : LogEnt) : State :=
  let no := nextLogNo (s.g K.log_LOG_LAST)
  let freezes := e0.chipDecl && !s.frozen
  let blocked := s.protects no
  let e := { e0 with no := no, rtc := s.rtcNow, freeze := freezes, kept := !blocked, at_ := s.cyc }
  let log := s.klog ++ [e]
  let s1 : State := { s with
    klog := log, dropsAt := if blocked then s.dropsAt + 1 else s.dropsAt
    ledger := { s.ledger with
      log := s.ledger.log ++ [no], logFrom := if s.ledger.log = [] then s.cyc else s.ledger.logFrom } }
  let s2 := s1.ps [(K.log_LOG_LAST, no), (K.log_LOG_FIRST, match log with | x :: _ => x.no | [] => no)]
  let s3 := if blocked then (s2.inc K.log_DROP_COUNT).bitTo K.log_LOG_STAT lgFULL true else s2
  (if freezes then s3.freezeAt no else s3).announce e

/-- Cycles of an entry's ledger write: nine words of 4 cyc (R700). -/
abbrev logCycles : Nat := 36

/-- The first entry of the ledger buffer has been copied: a store line it completes is gathered, and entries that
neither the ledger nor the store holds any more go (R700, R701, R705). -/
def State.copyLog (s : State) : State :=
  match s.ledger.log with
  | [] => s
  | no :: rest =>
    let held := heldLog no s.klog
    let wraps := s.klog.any (fun x => x.kept && overwritten no s.klog x)
    let t := ({ s with klog := held, ledger := { s.ledger with log := rest, logFrom := s.cyc } }).p K.log_LOG_FIRST
      (match held with | x :: _ => x.no | [] => 0)
    (if wraps then t.bitTo K.log_LOG_STAT lgWRAPPED true else t).writeLogLine no

/-- One cycle of the log writer's ledger writes (R700). -/
def State.logStep (s : State) : State :=
  if s.ledger.log ≠ [] ∧ cycReached s.cyc (cycPlus s.ledger.logFrom logCycles) then s.copyLog else s

/-- Every entry of the ledger buffer is copied, as the power-fail commit does (R453, R700). -/
def State.landLog (s : State) : State := s.ledger.log.foldl (fun t _ => t.copyLog) s

/-- A die's queue can be taken by the log writer: D0's own, or a follower's whose line is up (R698). -/
def State.queueReady (s : State) (d : Nat) : Bool := s.d0Clock && (decide (d = 0) || (s.line d).up)

/-- An entry of a die with a lower number is accepted later in this cycle, and so first (R698). -/
def State.lowerLog (s : State) (d : Nat) : Bool :=
  s.pending.any (fun c => match c with
    | .logEntryAccept x => decide (x < d) && s.queueReady x && decide ((s.die x).logQ ≠ [])
    | _ => false)

/-- The log writer takes the oldest entry of a die's queue, while the ledger buffer has room (R698, R700). -/
def State.acceptFrom (s : State) (d : Nat) : State :=
  match (s.die d).logQ with
  | [] => s
  | e :: rest =>
    if s.queueReady d && !s.lowerLog d && decide (s.ledger.log.length < 2) then
      (s.setDie d { s.die d with logQ := rest }).accept e
    else s

/-- LOG_ENTRY_ACCEPT: the oldest entry of a die's queue (R698). -/
def execLogEntryAccept (die : Nat) (s : State) : Out :=
  ifFitted s (decide (die < s.dies)) (confined s (s.acceptFrom die))

-- readout and release

/-- LOG_SEL and LOG_NUM of an originator (R705): the host's mailbox and the SDO server each have their own. -/
def State.logSelOf (s : State) (who : Orig) : Nat × Nat :=
  match who with
  | .host => (s.host.logSel, s.host.logNum)
  | .can => (s.net.logSel, s.net.logNum)
  | _ => (s.g K.log_LOG_SEL, s.g K.log_LOG_NUM)

/-- The log at the end of the cycle: entries accepted later in it are in (R711). -/
def State.logAhead : List Instr → State → State
  | [], s => s
  | .logEntryAccept d :: rest, s => logAhead rest ({ s with pending := rest }.acceptFrom d)
  | _ :: rest, s => logAhead rest s

/-- A read of LOG_READ (R705, R711): the state, the abort code and the bytes. -/
def State.readLog (s : State) (who : Orig) : State × Nat × List Nat :=
  let c := s.logSelOf who
  let a := State.logAhead s.pending s
  let first := a.g K.log_LOG_FIRST
  let last := a.g K.log_LOG_LAST
  let sel := if c.1 = 0 then max first (last + 1 - c.2) else c.1
  if last = 0 ∨ sel < first ∨ last < sel then (s, abNoData, [])
  else
    let n := min c.2 (last + 1 - sel)
    let one (no : Nat) : List Nat :=
      match a.klog.find? (fun e => decide (e.no = no)) with
      | some e => e.bytes
      | none => List.replicate 32 0
    let f := s.g K.log_FREEZE_NO
    let seen := s.frozen && decide (sel ≤ f) && decide (f < sel + n) && !s.logRead.contains (origNo who)
    ({ s with logRead := if seen then s.logRead ++ [origNo who] else s.logRead }, abNone,
      (List.range n).flatMap (fun i => one (sel + i)))

/-- The release applies before the entries accepted in its cycle: of these none is kept from the store, and the first
declaration at chip level freezes the log again (R704, R711). -/
def State.refreeze (s : State) : State :=
  match s.klog.find? (fun e => e.chipDecl && decide (e.at_ = s.cyc)) with
  | none => s
  | some f =>
    ({ s with klog := s.klog.map (fun (e : LogEnt) => if e.no = f.no then { e with freeze := true } else e) }).freezeAt f.no

/-- Entries accepted in this cycle that a frozen log kept from the store. -/
def State.keptOut (s : State) : Nat := s.klog.countP (fun e => !e.kept && decide (e.at_ = s.cyc))

/-- A write of LOG_RELEASE (R704): the state and the abort code. -/
def State.releaseLog (s : State) (who : Orig) (v : Nat) : State × Nat :=
  if !s.frozen || !s.logRead.contains (origNo who) then (s, abState)
  else if v ≠ s.g K.log_FREEZE_NO then (s, abRel)
  else
    let n := s.keptOut
    let s1 : State := { s with
      logRead := [], dropsAt := 0
      klog := s.klog.map (fun (e : LogEnt) => if e.at_ = s.cyc then { e with kept := true } else e) }
    let s2 := s1.ps [(K.log_FREEZE_NO, 0), (K.log_LOG_STAT, s.g K.log_LOG_STAT / 4 * 4),
      (K.log_DROP_COUNT, wrap32 (s.g K.log_DROP_COUNT + two32 - n))]
    ((s2.evChip 0x4090 (leBytes 4 (s.dropsAt - n))).refreeze, abNone)

-- die temperature

/-- The die's temperature has moved by more than CAL_DRIFT kelvin since its last full calibration (R114). -/
def State.drifted (s : State) (d : Nat) (t : Int) : Bool :=
  match (s.die d).calTemp with
  | none => false
  | some t0 => decide (s.g (K.die_CAL_DRIFT d) ≠ 0) && decide (100 * s.g (K.die_CAL_DRIFT d) < (t - t0).natAbs)

/-- Over-temperature is declared at the third hot measurement in a row, and ends at the third cool one (R695). -/
def State.judgeTemp (s : State) (d : Nat) (t : Int) : State :=
  let r := s.die d
  let hot := if 12500 ≤ t then min 3 (r.hot + 1) else 0
  let cool := if t < 11500 then min 3 (r.cool + 1) else 0
  let s1 := s.setDie d { r with hot := hot, cool := cool }
  if r.otSerial = 0 ∧ hot = 3 then
    let s2 := (s1.declare d 2 d 0x6050 (leBytes 2 (ofSigned 16 t))).inc (K.die_OT_COUNT d)
    s2.setDie d { s2.die d with otSerial := s1.nextSerial d, otAt := s.cyc }
  else if r.otSerial ≠ 0 ∧ cool = 3 then
    (s1.setDie d { s1.die d with otSerial := 0 }).endFault r.otSerial d 2 d 0x6051 []
  else s1

/-- A measurement of the die temperature in 0.01 °C (R114, R695, R715). The first one after a full calibration that had
none gives the temperature of that calibration (DESIGN CHOICE, log entry 79). -/
def State.measureTemp (s : State) (d : Nat) (t : Int) : State :=
  let r := s.die d
  let top := if r.tempSeen then max t (s.gi 16 (K.die_TEMP_MAX d)) else t
  let s0 := s.setDie d { r with tempSeen := true, calTemp := some (r.calTemp.getD t) }
  let s1 := (s0.pi 16 (K.die_DIE_TEMP d) t).pi 16 (K.die_TEMP_MAX d) top
  (if s1.drifted d t then s1.askFull d else s1).judgeTemp d t

/-- DIE_TEMP_MEASURE (R695): HCLK runs on the die. -/
def execDieTempMeasure (die : Nat) (temp : Int) (s : State) : Out :=
  ifFitted s (decide (die < s.dies)) <|
    if temp < -32768 ∨ 32767 < temp then .next s
    else confined s (if (s.die die).up && decide (s.pstate die ≤ 2) then s.measureTemp die temp else s)

/-- The answer to an access an originator makes by a command of the table: kept as the last response. -/
def State.reply (s : State) (abort : Nat) (data : List Nat) : State := { s with resp := abort, respData := data }

end Sys2Proof.Machine
end

