-- ==== Sys2Proof/Machine/Pulse.lean ====
section
/-! DEFINITION. Pulse inputs (R298 to R305): counting, supervised lines, latches and their processing on D0. -/

namespace Sys2Proof.Machine

/-- Fields of PI_CFG (R298). -/
def piEnable (w : Nat) : Bool := bitAt w 15
def piAdd (w : Nat) : Bool := bitAt w 14
def piSect (w : Nat) : Nat := field w 13 11
def piDir (w : Nat) : Nat := field w 10 10
def piEol (w : Nat) : Bool := bitAt w 9
def piPol (w : Nat) : Bool := bitAt w 8

/-- Bits of PI_STAT (R319). -/
abbrev psLEVEL : Nat := 0
abbrev psSHORT : Nat := 3
abbrev psCUT : Nat := 4
abbrev psTAMPER : Nat := 5
abbrev psRATE_HI : Nat := 6

/-- The input is sampled in this cycle (R299). -/
def State.sampled (s : State) (i : Nat) : Bool :=
  piEnable (s.g (K.pin_PI_CFG i)) && decide (s.cyc % pulseSample = 0) && s.dieSamples (i / 4)

/-- The class of a supervised line by its resistance: 0 CLOSED, 1 OPEN, 2 SHORT, 3 CUT (R300, R319). -/
def ohmClass (r : Nat) : Nat := if r < 400 then 2 else if r < 4000 then 0 else if r < 40000 then 1 else 3

/-- The class of a sample (R300, R319); none where the input is not sampled so. -/
def LineSample.cls (eol : Bool) : LineSample → Option Nat
  | .ohms r => if eol then some (ohmClass r) else none
  | .level h => if eol then none else some (b01 h)

/-- The classes of the latest samples of an input, oldest first, as a command brings them: one sample each 12 288 cyc,
all after `from_`, the last in the current cycle. -/
def State.sampleClasses (s : State) (i from_ : Nat) (l : List LineSample) : List Nat :=
  let cs := l.filterMap (LineSample.cls (piEol (s.g (K.pin_PI_CFG i))))
  if s.sampled i && decide (cs.length = l.length) && decide (pulseSample * l.length < cycDiff s.cyc from_ + pulseSample)
  then cs else []

/-- The class of the last sample (R319). -/
def State.lineClass (s : State) (i c : Nat) : State :=
  (s.p (K.pin_PI_STAT i) (setField (s.g (K.pin_PI_STAT i)) 2 1 c)).setPulse i { s.pulse i with sampleAt := s.cyc + 1 }

/-- DEBOUNCE (R298). -/
def piDebounce (w : Nat) : Nat := field w 6 0

/-- The level that DEBOUNCE consecutive samples show; a SHORT or CUT sample leaves the count unchanged (R299, R300). -/
def debounced (n : Nat) (cs : List Nat) : Option Bool :=
  let l := cs.filter (· ≤ 1)
  let run := l.drop (l.length - n)
  match run with
  | [] => none
  | c :: _ => if run.length = n ∧ run.all (· == c) then some (c == 1) else none

/-- A change to the active level is counted; pulses under 20 samples apart set RATE_HI (R299). -/
def State.countPulse (s : State) (i : Nat) : State :=
  let r := s.pulse i
  let fast := match r.lastPulse with | none => false | some t => decide (cycDiff s.cyc t < 20 * pulseSample)
  let s1 := (s.inc (K.pin_PI_COUNT i)).setPulse i { r with lastPulse := some s.cyc }
  if fast then s1.bitTo (K.pin_PI_STAT i) psRATE_HI true else s1

/-- The accepted level changes (R299). While a line fault stands no pulse is counted (R301); one accepted in the cycle
of the declaration is (R313). -/
def State.acceptLevel (s : State) (i : Nat) (high : Bool) : State :=
  let active := high == piPol (s.g (K.pin_PI_CFG i))
  if active == s.bit (K.pin_PI_STAT i) psLEVEL then s
  else
    let r := s.pulse i
    let s1 := ((s.lineClass i (b01 high)).bitTo (K.pin_PI_STAT i) psLEVEL active).setPulse i
      { r with levelFrom := s.cyc, sampleAt := s.cyc + 1 }
    if active && (decide (r.serial = 0) || decide (r.faultAt = s.cyc + 1)) then s1.countPulse i else s1

/-- PULSE_ACCEPTED: DEBOUNCE samples showed the other level (R299, R300). -/
def execPulseAccepted (input : Nat) (samples : List LineSample) (s : State) : Out :=
  ifFitted s (decide (input < s.nInputs)) <|
    confined s (match debounced (piDebounce (s.g (K.pin_PI_CFG input)))
        (s.sampleClasses input (s.pulse input).levelFrom samples) with
      | some high => s.acceptLevel input high
      | none => s)

/-- A SHORT or CUT fault of a supervised line shows in SHORT, CUT and LINE (R319). -/
def State.markLine (s : State) (i : Nat) (cut : Bool) : State :=
  ((s.bitTo (K.pin_PI_STAT i) psSHORT (!cut)).bitTo (K.pin_PI_STAT i) psCUT cut).lineClass i (if cut then 3 else 2)

/-- 200 samples in a row were SHORT or CUT: a fault of the kind of the last is declared (R301). -/
def State.lineFault (s : State) (i : Nat) (cut : Bool) : State :=
  let d := i / 4
  let s1 := (((s.declare d 0 (locInput i) (if cut then 0x2030 else 0x2031) [i]).bitTo (K.pin_PI_STAT i) psTAMPER
    true)).markLine i cut
  s1.setPulse i { s1.pulse i with serial := s.nextSerial d, faultAt := s.cyc + 1, lineFrom := s.cyc }

/-- The line changed between SHORT and CUT while its fault stands (R301). -/
def State.lineSwaps (s : State) (i : Nat) (cut : Bool) : State :=
  if cut = s.bit (K.pin_PI_STAT i) psCUT then s
  else (s.react (i / 4) 0 (locInput i) 0x2033 (s.pulse i).serial [i]).markLine i cut

/-- PULSE_LINE_FAULT (R300, R301). -/
def execPulseLineFault (input : Nat) (samples : List LineSample) (s : State) : Out :=
  ifFitted s (decide (input < s.nInputs)) <|
    let r := s.pulse input
    let cs := s.sampleClasses input r.lineFrom samples
    confined s (match cs.getLast? with
      | none => s
      | some c =>
        if c < 2 then s
        else if r.serial ≠ 0 then s.lineSwaps input (c == 3)
        else if cs.length = 200 ∧ cs.all (2 ≤ ·) then s.lineFault input (c == 3)
        else s)

/-- 200 samples were CLOSED or OPEN: the fault clears (R301). -/
def State.lineClear (s : State) (i c : Nat) : State :=
  let r := s.pulse i
  let s1 := ((s.bitTo (K.pin_PI_STAT i) psSHORT false).bitTo (K.pin_PI_STAT i) psCUT false).lineClass i c
  (s1.setPulse i { s1.pulse i with serial := 0, lineFrom := s.cyc }).endFault r.serial (i / 4) 0 (locInput i) 0x2032 [i]

/-- PULSE_LINE_CLEAR (R300, R301). -/
def execPulseLineClear (input : Nat) (samples : List LineSample) (s : State) : Out :=
  ifFitted s (decide (input < s.nInputs)) <|
    let r := s.pulse input
    let cs := s.sampleClasses input r.lineFrom samples
    confined s (if r.serial ≠ 0 ∧ cs.length = 200 ∧ cs.all (· ≤ 1) then s.lineClear input (cs.getLastD 0) else s)

/-- PI_CFG was written: samples of the new settings come after this cycle (R299). -/
def State.inputWritten (s : State) (i : Nat) : State :=
  s.setPulse i { s.pulse i with levelFrom := s.cyc, lineFrom := s.cyc }

/-- A write of ones to PI_STAT: TAMPER stays while a line fault stands (R313). -/
def State.clearInput (s : State) (i v : Nat) : State :=
  let keep := if (s.pulse i).serial ≠ 0 then 2 ^ psTAMPER else 0
  s.p (K.pin_PI_STAT i) (clearBits (s.g (K.pin_PI_STAT i)) (clearBits v keep))

/-- Latch the counts of every die's inputs at a frame boundary (R302, R305, R538). Where a die does not sample, runs of
samples end. -/
def State.latchPulses (s : State) : State :=
  (List.range s.nInputs).foldl (fun t i =>
    if t.dieSamples (i / 4) then t.setPulse i { t.pulse i with latched := some (t.g (K.pin_PI_COUNT i)) }
    else t.setPulse i { t.pulse i with latched := none, base := none, levelFrom := t.cyc, lineFrom := t.cyc }) s

/-- Every die's latches of the boundary have been delivered (R302): a follower's cross its guy line. -/
def State.latchesHere (s : State) : Bool :=
  (List.range s.nInputs).all (fun i => decide (i / 4 = 0) || (s.pulse i).latched.isNone || (s.line (i / 4)).up)

/-- The increment of an input since the latch before; the first one after a restart sets the baseline (R302, R305). -/
def PulseRt.increment (r : PulseRt) : Nat :=
  match r.latched, r.base with
  | some v, some b => wrap32 (v + two32 - b)
  | _, _ => 0

/-- Volume and energy of one input's pulses for its section (R304). -/
def State.addPulses (s : State) (i incr : Nat) : State :=
  let w := s.g (K.pin_PI_CFG i)
  let sc := piSect w
  let dir := piDir w
  let dv := incr * s.g (K.pin_PI_VOL i)
  let r := s.sect sc
  let res := (if dir = 0 then r.resFwd else r.resRev) + dv
  let s1 := s.setSect sc (if dir = 0 then { r with resFwd := res % 10 ^ 6 } else { r with resRev := res % 10 ^ 6 })
  let h := s1.heat sc
  let en := decide (s1.g (K.sect_ENERGY_EN sc) = 1)
  let b : Booking := { sect := sc, dir := dir, vol := res / 10 ^ 6, res := res % 10 ^ 6
                       carry := if dir = 0 then r.carryFwd else r.carryRev }
  let e := if en && decide (dir = 0) then s1.addEnergy dv h b else (s1, b)
  let s2 := if dv = 0 then e.1 else e.1.book e.2
  if !en then s2.p (K.res_E_FLAGS sc) 0
  else ((s2.p (K.res_E_FLAGS sc) (h.flags (decide (dir = 1)))).noteClamp sc h).holdEnergy sc h.hold

/-- Process one input's latch (R302, R304). -/
def State.processInput (s : State) (i : Nat) : State :=
  let r := s.pulse i
  match r.latched with
  | none => s
  | some v =>
    let s1 := s.setPulse i { r with latched := none, base := some v }
    let w := s.g (K.pin_PI_CFG i)
    if piEnable w && piAdd w then s1.addPulses i r.increment else s1

/-- PULSE_PROCESS: the latches of a boundary, in ascending input number (R302). -/
def execPulseProcess (s : State) : Out :=
  booking s (if s.latchesHere then (List.range s.nInputs).foldl (fun t i => t.processInput i) s else s)

end Sys2Proof.Machine
end

