-- ==== Sys2Proof/Machine/Sense.lean ====
section
/-! DEFINITION. Sense pins, the wheel and linearisation (R257 to R289): scans, phases and their checks, results,
consumers on D0, and the faults of pins and channels. -/

namespace Sys2Proof.Machine

/-- Roles of the pins in one phase, as local indices (R258, R259). -/
structure Roles where
  es : Option Nat
  er : Option Nat
  sp : Option Nat
  sn : Option Nat
  deriving DecidableEq, Repr

/-- Phases of a conversion (R260). -/
def Conv.phases (c : Conv) : Nat := if c.kind = 2 then c.n + 1 else 1

/-- Roles of a phase, counted from 0 (R260, R263). -/
def Conv.roles (c : Conv) : Roles :=
  let w (j : Nat) : Option Nat := some (c.first + j)
  let k := c.phase + 1
  let a := if c.n = 1 then w 0 else w c.n
  let b := if c.n ≤ 2 then w 1 else w (c.n - 1)
  if c.kind = 4 then ⟨none, none, c.pins[2]?, c.pins[3]?⟩
  else if c.kind ≠ 2 then ⟨c.pins[0]?, c.pins[1]?, c.pins[2]?, c.pins[3]?⟩
  else if k = c.n + 1 then ⟨w (c.n + 1), a, b, none⟩
  else if k = c.n then ⟨a, w (c.n + 1), b, none⟩
  else if k = 1 then ⟨w 0, w 2, w 1, w 3⟩
  else ⟨w k, w (k + 1), w (k - 1), w (k + 2)⟩

def Roles.pins (r : Roles) : List Nat := r.es.toList ++ r.er.toList ++ r.sp.toList ++ r.sn.toList

/-- Output rates in samples per second that RATE selects (R266). -/
def rateOf (r : Nat) : Nat := [10, 20, 50, 100, 200, 500, 1000].getD r 10

/-- Cycles of a phase: its settling delays in µs, to the cycle they are over in, and T_conv = 4 / rate (R24, R267). -/
def Conv.phaseCycles (c : Conv) : Nat := (c.settles * c.settle * 24576 + 999) / 1000 + 4 * cycPerSecond / rateOf c.rate

/-- A burst of a slot's first attempt has its reference edge in the current cycle on the die. -/
def State.burstNow (s : State) (d : Nat) : Bool :=
  (List.range 4).any (fun k =>
    let r := s.path (4 * d + k)
    r.slot.live && r.slot.sent && decide (r.slot.b0 = s.cyc) && decide (r.att.b = s.cyc))

/-- A phase starts in the current cycle. Where a burst takes the same slot boundary, it is granted first and the
conversion waits for one more settling delay (R24, R271; DEDUCED, log entry 81). -/
def State.phaseStarts (s : State) (d : Nat) (v : Conv) : Conv :=
  { v with phaseAt := s.cyc, settles := if s.burstNow d then 2 else 1 }

/-- The running phase has taken its time (R267). -/
def Conv.phaseOver (c : Conv) (cyc : Nat) : Bool := cycReached cyc (cycPlus c.phaseAt c.phaseCycles)

/-- The sections for which a channel is privileged (R277). -/
def State.privOf (s : State) (c : Nat) : List Nat :=
  (List.range s.nSects).filter (fun i => s.g (K.sect_TF_CHAN i) ≠ 255 && s.g (K.sect_TR_CHAN i) ≠ 255
    && (s.g (K.sect_TF_CHAN i) == c || s.g (K.sect_TR_CHAN i) == c))

/-- The sections that use a channel (R274). -/
def State.usersOf (s : State) (c : Nat) : List Nat :=
  (List.range s.nSects).filter (fun i =>
    s.g (K.sect_T_CHAN i) == c || s.g (K.sect_P_CHAN i) == c || decide (i ∈ s.privOf c) ||
    (maskBits (s.g (K.sect_PATH_MASK i)) 32).any (fun n =>
      decide (s.g (K.path_TD_SEG n) ≤ 31) && s.g (K.path_TD_CHAN n) == c))

/-- Channels converted with a head: its chain, or itself alone. -/
def State.chainLen (s : State) (c : Nat) : Nat := if s.g (K.chan_KIND c) = 2 then s.g (K.chan_CHAIN_N c) else 1

/-- The members of a head's chain: the channels of KIND 3 that follow it (R262). -/
def State.members (s : State) (c : Nat) : List Nat :=
  ((List.range (15 - c % 16)).map (fun j => c + 1 + j)).takeWhile (fun m => s.g (K.chan_KIND m) == 3)

/-- Members join and leave a head's chain as its KIND and CHAIN_N say (R262). -/
def State.syncChain (s : State) (c : Nat) : State :=
  let n := s.chainLen c
  let old := s.members c
  (List.range (15 - c % 16)).foldl (fun u j =>
    let m := c + 1 + j
    if j + 1 < n then u.p (K.chan_KIND m) 3 else if m ∈ old then u.p (K.chan_KIND m) 0 else u) s

/-- The local pins of a channel by its KIND (R260). -/
def State.pinsOf (s : State) (c : Nat) : List Nat :=
  match s.g (K.chan_KIND c) with
  | 1 => [s.g (K.chan_PIN_ES c), s.g (K.chan_PIN_ER c), s.g (K.chan_PIN_SP c), s.g (K.chan_PIN_SN c)]
  | 2 => (List.range (s.g (K.chan_CHAIN_N c) + 2)).map (fun j => s.g (K.chan_FIRST_PIN c) + j)
  | 4 => [s.g (K.chan_PIN_SP c), s.g (K.chan_PIN_SN c)]
  | _ => []

/-- USED of a die's pins: those with a role in an enabled channel (R289). -/
def State.syncUsed (s : State) (d : Nat) : State :=
  let used := (List.range 16).flatMap (fun j => s.pinsOf (16 * d + j))
  (List.range 16).foldl (fun t i =>
    if t.bit (K.die_PIN_STAT d i) 4 = decide (i ∈ used) then t else t.bitTo (K.die_PIN_STAT d i) 4 (decide (i ∈ used))) s

/-- The conversion a channel starts with the settings in force (R270, R277). -/
def State.newConv (s : State) (c : Nat) : Conv :=
  { kind := s.g (K.chan_KIND c), n := s.chainLen c, first := s.g (K.chan_FIRST_PIN c)
    pins := [s.g (K.chan_PIN_ES c), s.g (K.chan_PIN_ER c), s.g (K.chan_PIN_SP c), s.g (K.chan_PIN_SN c)]
    iexc := s.g (K.chan_IEXC c), gain := s.g (K.chan_GAIN c), cmLo := s.g (K.chan_CM_LO c)
    cmHi := s.g (K.chan_CM_HI c), tol := s.g (K.chan_IMON_TOL c), retry := s.g (K.chan_CONV_RETRY c)
    settle := s.g (K.chan_SETTLE c), rate := s.g (K.chan_RATE c), leadMax := s.g (K.chan_LEAD_MAX c)
    lin := (List.range (s.chainLen c)).map (fun j => (s.g (K.chan_LIN_SEG (c + j)), s.g (K.chan_YSHIFT (c + j))))
    monitored := (List.range (s.chainLen c)).any (fun j => !(s.privOf (c + j)).isEmpty) }

/-- Channels of a die that a scan can convert (R269). -/
def State.scanChannels (s : State) (d : Nat) : List Nat :=
  ((List.range 16).map (fun j => 16 * d + j)).filter (fun c =>
    s.g (K.chan_KIND c) == 1 || s.g (K.chan_KIND c) == 2 || s.g (K.chan_KIND c) == 4)

/-- Channels from `c0` on that the current scan converts (R269). -/
def State.dueFrom (s : State) (d c0 : Nat) : List Nat :=
  (s.scanChannels d).filter (fun c => decide (c0 ≤ c) && decide (s.g (K.die_SCAN_NO d) % s.g (K.chan_EVERY c) = 0))

/-- Start the conversion of the scan's next channel from `c0` on and send its start record, or end the scan (R269,
R275). -/
def State.nextConv (s : State) (d c0 : Nat) : State :=
  match s.dueFrom d c0 with
  | [] => s.setDie d { s.die d with scanLeft := [], scanOn := false }
  | c :: rest =>
    (s.setDie d { s.die d with scanLeft := c :: rest, scanOn := true }).setChan c { s.chan c with
      conv := some (s.phaseStarts d (s.newConv c)), starts := (s.chan c).starts ++ [s.chainLen c] }

/-- A scan of the die is due in this cycle (R269). -/
def State.scanDue (s : State) (d : Nat) : Bool :=
  let r := s.die d
  let p := s.g (K.die_SCAN_PERIOD d)
  s.dieRuns d && !r.scanOn && (decide (0 < p) || !(s.scanChannels d).isEmpty) &&
    (!r.scanned || r.rescan || cycReached s.cyc (cycPlus r.scanAt (p * 24576)))

/-- A scan starts; one with no due channel ends at once (R269). -/
def State.startScan (s : State) (d : Nat) : State :=
  let r := s.die d
  let no := if r.scanned then wrap32 (s.g (K.die_SCAN_NO d) + 1) else 0
  ((s.p (K.die_SCAN_NO d) no).setDie d { r with scanned := true, rescan := false, scanAt := s.cyc }).nextConv d (16 * d)

/-- SCAN_START (R269, R270). -/
def execScanStart (die : Nat) (s : State) : Out :=
  ifFitted s (decide (die < s.dies)) (confined s (if s.scanDue die then s.startScan die else s))

-- phases

/-- The voltage lies outside the channel's window (R272). -/
def Conv.outside (c : Conv) (mv : Int) : Bool := decide (mv < c.cmLo) || decide ((c.cmHi : Int) < mv)

/-- OVR, CM_FAIL, CLAMP and IMON_FAIL of a phase (R272, R277). -/
structure Checks where
  ovr   : Bool
  spOut : Bool
  snOut : Bool
  clamp : Bool
  imon  : Bool
  deriving DecidableEq, Repr

def Conv.check (c : Conv) (m : PhaseMeas) (hit : Bool) : Checks :=
  let r := c.roles
  let i : Int := (c.iexc * 10000 : Nat)
  let far (x : Int) : Bool := decide (2 * i < 100 * ((x - i).natAbs : Int))
  { ovr := decide (m.code ≤ -(2 ^ 23)) || decide (2 ^ 23 - 1 ≤ m.code)
    spOut := r.sp.isSome && c.outside m.spMv
    snOut := r.sn.isSome && c.outside m.snMv
    clamp := hit || m.clamps.any (fun p => decide (p ∈ r.pins))
    imon := c.monitored && r.es.isSome && (decide ((c.tol : Int) * i < 1000 * ((m.iEs - m.iEr).natAbs : Int)) || far m.iEs
      || far m.iEr) }

def Checks.cm (k : Checks) : Bool := k.spOut || k.snOut
def Checks.failed (k : Checks) : Bool := k.ovr || k.cm || k.clamp || k.imon

/-- A pin's lead break ends when a phase that uses the pin passes its window check (R282). -/
def State.endLead (s : State) (d pin : Nat) : State :=
  let n := 16 * d + pin
  let r := s.pin n
  let s1 := s.bitTo (K.die_PIN_STAT d pin) 3 false
  if r.leadSerial = 0 then s1
  else (s1.setPin n { r with leadSerial := 0 }).endFault r.leadSerial d 0 (locPin n) 0x2003 []

/-- CM_OUT of one sense pin (R289): its window is checked in the phases it senses in (R272; DEDUCED, log entry 81). -/
def State.windowCheck (s : State) (d : Nat) (pin : Option Nat) (out : Bool) : State :=
  match pin with
  | none => s
  | some p => s.bitTo (K.die_PIN_STAT d p) 0 out

/-- A phase passes its window check: the lead breaks of all pins it uses end (R282). -/
def State.endLeads (s : State) (d : Nat) (pins : List Nat) : State :=
  pins.foldl (fun t p => if t.bit (K.die_PIN_STAT d p) 3 then t.endLead d p else t) s

/-- A standing cell fault of a pin, 0 for none. -/
def PinRt.standing (r : PinRt) : Nat := if r.clampSerial ≠ 0 then r.clampSerial else r.leadSerial

/-- A conversion fails with CM_FAIL: a lead break of the out-of-window pin, unless it has a standing fault (R282). -/
def State.leadBreak (s : State) (d pin : Nat) : State :=
  let n := 16 * d + pin
  let r := s.pin n
  if r.standing ≠ 0 then s
  else
    (((s.declare d 0 (locPin n) 0x2002 []).bitTo (K.die_PIN_STAT d pin) 3 true)).setPin n
      { r with leadSerial := s.nextSerial d }

/-- The out-of-window pin of a failed phase: the lower of two (R282). -/
def brokenPin (r : Roles) (k : Checks) : Option Nat :=
  match (if k.spOut then r.sp else none), (if k.snOut then r.sn else none) with
  | some p, some q => some (min p q)
  | some p, none => some p
  | none, q => q

-- results

/-- Measured M / I in Ω, or mV for kind 4, of a code (R268). -/
def Conv.quantity (c : Conv) (d : Nat) (code : Int) : Rat :=
  let g := 2 ^ c.gain * 2 ^ 23
  if c.kind = 4 then mkRat (code * 1250) g else mkRat (code * Config.rInt d) (g * 1000)

/-- The quantity of member j of a completed conversion (R264, R276). -/
def Conv.result (c : Conv) (d j : Nat) : Rat :=
  let m := c.quantity d (c.codes.getD j 0)
  if c.kind = 2 ∧ j + 1 = c.n then m - c.quantity d (c.codes.getD c.n 0) else m

/-- VALUE, VALUE_Q and LIN_RANGE of a quantity, by LIN_SEG and YSHIFT of its conversion (R270, R276). -/
def State.linearise (s : State) (lin : Nat × Nat) (x : Rat) : Rat × Int × Bool :=
  if lin.1 = 255 then (x, 0, false)
  else
    let e := s.evalSeg lin.1 (toQ16 x)
    (mkRat (e.y * 2 ^ lin.2) (2 ^ 30), e.y, e.flag)

/-- The first standing cell fault among the pins a conversion's last phase used (R283). -/
def State.pinSerial (s : State) (d : Nat) (pins : List Nat) : Nat :=
  (pins.map (fun p => (s.pin (16 * d + p)).standing)).find? (· ≠ 0) |>.getD 0

/-- Count an invalid conversion towards the sensor fault (R283). -/
def State.convInvalid (s : State) (c : Nat) (pins : List Nat) : State :=
  let d := c / 16
  let r := s.chan c
  let s1 := (s.inc (K.chan_FAIL_COUNT c)).setChan c { r with failRun := r.failRun + 1 }
  let lim := s.g (K.chan_FAULT_CONV c)
  if r.serial ≠ 0 ∨ lim = 0 ∨ r.failRun + 1 < lim then s1
  else
    let k := s1.pinSerial d pins
    if k ≠ 0 then (s1.react d 1 (locSense d) 0x2010 k [c % 16]).setChan c { s1.chan c with serial := k }
    else (s1.declare d 1 (locSense d) 0x2010 [c % 16]).setChan c { s1.chan c with serial := s1.nextSerial d }

/-- A valid conversion ends a sensor fault (R283). -/
def State.convValid (s : State) (c : Nat) : State :=
  let d := c / 16
  let r := s.chan c
  let s1 := s.setChan c { r with failRun := 0, serial := 0 }
  if r.serial = 0 then s1
  else if s1.standing.any (fun f => f.serial == r.serial && f.event == 0x2010) then
    s1.endFault r.serial d 1 (locSense d) 0x2011 []
  else s1.react d 1 (locSense d) 0x2011 r.serial []

/-- Write one channel's result entries and queue its record for D0 (R278, R280, R286, R287). -/
def State.channelResult (s : State) (c : Nat) (v : Conv) (valid linRange leadHigh : Bool) (x value : Rat) (q : Int)
    (members : Nat) : State :=
  let pins := v.roles.pins
  let s1 := s.inc (K.chan_CONV_COUNT c)
  let s2 := if valid then s1.convValid c else s1.convInvalid c pins
  let flags := ofBits [valid, v.ovr, v.cmFail, v.clamp, v.imon, linRange, leadHigh, decide ((s2.chan c).serial ≠ 0)]
  let s3 := s2.ps [(K.chan_RAW c, ofSigned 32 (v.codes.getLastD 0)), (K.chan_CH_FLAGS c, flags), (K.chan_RES_CYC c, s.cyc)]
  let s4 := if valid then s3.ps [(K.chan_XVAL c, f32bits x), (K.chan_VALUE c, f32bits value),
      (K.chan_VALUE_Q c, ofSigned 32 q)] else s3
  s4.setChan c { s4.chan c with results := (s4.chan c).results ++
    [{ valid := valid, value := value, resCyc := s.cyc, members := members }] }

/-- The result of member j of a conversion that ended: failed, or with all its codes (R264, R276, R278). -/
def State.memberResult (s : State) (head j : Nat) (v : Conv) (failed : Bool) : State :=
  let c := head + j
  let d := head / 16
  let mem := if j = 0 then v.n else 0
  if failed then s.channelResult c v false false false 0 0 0 mem
  else
    let x := v.result d j
    let l := s.linearise (v.lin.getD j (255, 0)) x
    let isLast := decide (v.kind = 2) && decide (j + 1 = v.n)
    let lead := v.quantity d (v.codes.getD v.n 0) * 1000
    let high := isLast && decide (0 < v.leadMax) && decide ((v.leadMax : Rat) < lead)
    let s1 := if isLast then s.p (K.chan_LEAD_R c) (fitU 9 32 (ratOpen 10 lead)) else s
    let s2 := if high then s1.onceEv c d 1 (locSense d) 0x2013 [] else s1
    s2.channelResult c v (!l.2.2 && !high) l.2.2 high x l.1 l.2.1 mem

/-- The head's conversion is over: members change where its chain was written meanwhile, and the scan goes on (R269,
R285). -/
def State.leaveConv (s : State) (head : Nat) : State :=
  let r := s.chan head
  let s1 := s.setChan head { r with conv := none, rechain := false }
  (if r.rechain then (s1.syncChain head).syncUsed (head / 16) else s1).nextConv (head / 16) (head + 1)

/-- A conversion ends: the results of all its sensors, and the scan goes on (R269, R278, R280). -/
def State.endConv (s : State) (head : Nat) (v : Conv) (failed : Bool) : State :=
  ((List.range v.n).foldl (fun t j => t.memberResult head j v failed) s).leaveConv head

/-- Log a current mismatch once per channel and energy window (R284). -/
def State.noteMismatch (s : State) (c : Nat) (v : Conv) (m : PhaseMeas) : State :=
  let d := c / 16
  let diff := roundOpen 9 ((m.iEs - m.iEr).natAbs * 1000 : Nat) (v.iexc * 10000)
  s.onceEv c d 1 (locSense d) 0x2012 (leBytes 2 (satAt 65535 diff.toNat))

/-- A clamp of a pin with a role in the phase has conducted since the phase started (R272, R281). -/
def State.hitInPhase (s : State) (d : Nat) (v : Conv) : Bool :=
  v.roles.pins.any (fun p =>
    let h := (s.pin (16 * d + p)).hitAt
    decide (h ≠ 0) && decide (cycDiff s.cyc (h - 1) ≤ cycDiff s.cyc v.phaseAt))

/-- A phase ends: its checks, and its repeat, the failure of the conversion, or the next phase (R272, R273, R282). -/
def State.phaseDone (s : State) (d head : Nat) (v : Conv) (m : PhaseMeas) : State :=
  let r := v.roles
  let k := v.check m (s.hitInPhase d v)
  let s0 := (s.windowCheck d r.sp k.spOut).windowCheck d r.sn k.snOut
  let s1 := if k.cm then s0 else s0.endLeads d r.pins
  let s2 := r.pins.foldl (fun t p => t.bitTo (K.die_PIN_STAT d p) 1 (decide (p ∈ m.clamps))) s1
  let s3 := if k.imon then s2.noteMismatch head v m else s2
  let v1 := { v with ovr := v.ovr || k.ovr, cmFail := v.cmFail || k.cm, clamp := v.clamp || k.clamp, imon := v.imon || k.imon }
  if k.failed then
    if v.tries < v.retry then
      (s3.inc (K.chan_RETRY_COUNT head)).setChan head { s3.chan head with
        conv := some (s3.phaseStarts d { v1 with tries := v.tries + 1 }) }
    else
      let v2 := { v1 with codes := v1.codes ++ [m.code] }
      let s4 := match (if k.cm then brokenPin r k else none) with | some p => s3.leadBreak d p | none => s3
      s4.endConv head v2 true
  else
    let v2 := { v1 with codes := v1.codes ++ [m.code] }
    if v.phase + 1 < v.phases then
      s3.setChan head { s3.chan head with conv := some (s3.phaseStarts d { v2 with phase := v.phase + 1, tries := 0 }) }
    else s3.endConv head v2 false

/-- PHASE_COMPLETE of the conversion in progress (R272, R273). -/
def execPhaseComplete (die : Nat) (m : PhaseMeas) (s : State) : Out :=
  ifFitted s (decide (die < s.dies)) <|
    confined s (match (s.die die).scanLeft with
      | [] => s
      | c :: _ => match (s.chan c).conv with
        | none => s
        | some v => if s.dieRuns die && (s.die die).scanOn && v.phaseOver s.cyc then s.phaseDone die c v m else s)

/-- A clamp conducts: counted, and declared while CLAMP_STICKY is 0 (R281). -/
def State.clampHit (s : State) (d pin : Nat) : State :=
  let n := 16 * d + pin
  let s1 := (s.inc (K.die_CLAMP_COUNT d pin)).bitTo (K.die_PIN_STAT d pin) 1 true
  let s2 := s1.setPin n { s1.pin n with hitAt := s.cyc + 1 }
  if s.bit (K.die_PIN_STAT d pin) 2 then s2
  else ((s2.declare d 0 (locPin n) 0x2001 []).bitTo (K.die_PIN_STAT d pin) 2 true).setPin n
    { s2.pin n with clampSerial := s2.nextSerial d }

/-- CLAMP_HIT (R281). -/
def execClampHit (die pin : Nat) (s : State) : Out :=
  ifFitted s (decide (die < s.dies) && decide (pin < 16)) (confined s (s.clampHit die pin))

/-- A write of 1 to CLAMP_STICKY ends the clamp fault; a hit in the same cycle wins, whether its command came first or
still waits (R281, R285). -/
def State.clearClamp (s : State) (d pin : Nat) : State :=
  let n := 16 * d + pin
  let r := s.pin n
  if !s.bit (K.die_PIN_STAT d pin) 2 || decide (r.hitAt = s.cyc + 1) || decide (.clampHit d pin ∈ s.pending) then s
  else
    let s1 := (s.bitTo (K.die_PIN_STAT d pin) 2 false).bitTo (K.die_PIN_STAT d pin) 1 false
    if r.clampSerial = 0 then s1
    else (s1.setPin n { r with clampSerial := 0 }).endFault r.clampSerial d 0 (locPin n) 0x2003 []

-- consumers on D0

/-- Arm CHAN_TMO of every section that uses a channel (R275). -/
def State.armChannel (s : State) (c : Nat) : State :=
  (s.usersOf c).foldl (fun t i =>
    let r := t.sect i
    t.setSect i { r with chanWait := r.chanWait.filter (fun w => decide (w.1 ≠ c)) ++
      [(c, cycPlus t.cyc (t.g (K.dev_CHAN_TMO i) * 24576), 0)] }) s

/-- CHANNEL_START_DELIVERED: the oldest start record of a channel; a chain's covers its sensors (R275). -/
def execChannelStartDelivered (chan : Nat) (s : State) : Out :=
  ifFitted s (decide (chan < s.nChans)) <|
    let r := s.chan chan
    confined s (match r.starts with
      | [] => s
      | n :: rest => (List.range n).foldl (fun t j => t.armChannel (chan + j)) (s.setChan chan { r with starts := rest }))

/-- A channel's cancellation takes effect on its die: the conversion in progress is abandoned (R44, R275). -/
def State.cancelChannel (s : State) (c serial : Nat) : State :=
  let h := s.headOf c
  let d := c / 16
  let s1 := s.react d 1 (locSense d) 0x2020 serial []
  match (s1.chan h).conv with
  | some v => ((List.range v.n).foldl (fun t j => t.bitTo (K.chan_CH_FLAGS (h + j)) 8 true) s1).leaveConv h
  | none => s1.bitTo (K.chan_CH_FLAGS c) 8 true

/-- A section's CHAN_TMO for a channel expires: declared on D0, and the channel cancelled, on D0 in this cycle and on a
follower once the cancellation is delivered (R44, R275). -/
def State.expireChannel (s : State) (i c : Nat) : State :=
  let serial := s.nextSerial 0
  let s1 := s.declare 0 3 0 0x2022 [i, c]
  let r := s1.sect i
  let s2 := s1.setSect i { r with chanWait := r.chanWait.map (fun w => if w.1 = c then (c, w.2.1, serial) else w) }
  if c / 16 = 0 then s2.cancelChannel c serial
  else s2.setChan c { s2.chan c with cancels := (s2.chan c).cancels ++ [serial] }

/-- The cancellations of channels that a follower's guy line delivers: in a cycle without a command (R39, R44; log entry
38). -/
def State.deliverCancels (s : State) : State :=
  (List.range s.nChans).foldl (fun t c =>
    match (if (t.line (c / 16)).up then (t.chan c).cancels else []) with
    | [] => t
    | l => l.foldl (fun u k => u.cancelChannel c k) (t.setChan c { t.chan c with cancels := [] })) s

/-- A result of the channel is delivered by a command that waits for the current cycle (R37). -/
def State.resultComing (s : State) (c : Nat) : Bool :=
  s.pending.any (fun i => match i with
    | .channelResultDelivered h => decide (h ≤ c) && (match (s.chan h).results with
      | v :: _ => decide (c < h + v.members)
      | [] => false)
    | _ => false)

/-- CHANNEL_RESULT_TIMEOUT (R37, R38, R275). -/
def execChannelResultTimeout (sect chan : Nat) (s : State) : Out :=
  ifFitted s (decide (sect < s.nSects) && decide (chan < s.nChans)) <|
    confined s (if (s.sect sect).chanWait.any (fun w => decide (w.1 = chan) && decide (w.2.2 = 0) && cycReached s.cyc w.2.1
        && !(decide (s.cyc = w.2.1) && s.resultComing chan))
      then s.expireChannel sect chan else s)

/-- Serials under which sections have given up waiting for a channel, after expiring what is overdue. -/
def State.expireOverdue (s : State) (c : Nat) : State :=
  (List.range s.nSects).foldl (fun t i =>
    if (t.sect i).chanWait.any (fun w => decide (w.1 = c) && decide (w.2.2 = 0) && cycReached t.cyc w.2.1
        && decide (t.cyc ≠ w.2.1)) then t.expireChannel i c else t) s

/-- One channel's result reaches D0: it disarms CHAN_TMO and becomes available, or is discarded as late (R45, R275,
R280). -/
def State.acceptResult (s : State) (c : Nat) : State :=
  match (s.chan c).results with
  | [] => s
  | v :: rest =>
    let s1 := (s.setChan c { s.chan c with results := rest }).expireOverdue c
    let late := (List.range s.nSects).filterMap (fun i =>
      ((s1.sect i).chanWait.find? (fun w => decide (w.1 = c) && decide (w.2.2 ≠ 0))).map (·.2.2))
    let s2 := (List.range s.nSects).foldl (fun t i =>
      t.setSect i { t.sect i with chanWait := (t.sect i).chanWait.filter (fun w => decide (w.1 ≠ c)) }) s1
    if late ≠ [] then
      (late.foldl (fun t k => t.react (c / 16) 1 (locSense (c / 16)) 0x2021 k []) s2).bitTo (K.chan_CH_FLAGS c) 8 true
    else if v.valid then
      s2.setChan c { s2.chan c with
        val := some v.value, valCyc := v.resCyc, lastOk := true
        positive := if 0 < v.value then some v.value else (s2.chan c).positive }
    else s2.setChan c { s2.chan c with lastOk := false }

/-- CHANNEL_RESULT_DELIVERED: a channel's oldest result record; a chain's cross together with their head's (R280). -/
def execChannelResultDelivered (chan : Nat) (s : State) : Out :=
  ifFitted s (decide (chan < s.nChans)) <|
    confined s (match (s.chan chan).results with
      | [] => s
      | v :: _ => (List.range v.members).foldl (fun t j => t.acceptResult (chan + j)) s)

end Sys2Proof.Machine
end

