-- ==== Sys2Proof/Machine/Loop.lean ====
section
/-! DEFINITION. The loop output (R646 to R654), the saggar's mirrors (R655, R664), and the GPIO inputs (R576). -/

namespace Sys2Proof.Machine

/-- Bits of LOOP_STAT (R663). -/
abbrev lpCLAMPED : Nat := 2
abbrev lpSLEWING : Nat := 3
abbrev lpTRIP : Nat := 4
abbrev lpMISMATCH : Nat := 5

/-- CODE and ALARM of LOOP_SET (R648). -/
def State.loopCode (s : State) : Nat := s.g K.loop_LOOP_SET % 65536
def State.loopAlarm (s : State) : Nat := field (s.g K.loop_LOOP_SET) 17 16

/-- The row of R649 in force, as MODE shows it: 0 measuring, 1 low alarm, 2 high alarm, 3 off; a start or a halt drives
the low alarm. -/
def State.loopMode (s : State) : Nat :=
  if s.g K.loop_LOOP_EN = 0 then 3 else if !s.ready || decide (s.halt ≠ 0) then 1 else s.loopAlarm

/-- The target of the measuring path: CODE within the clamps (R649, R651). -/
def State.loopTarget (s : State) : Nat :=
  let c := s.loopCode
  if c < s.g K.sag_LOOP_CLAMP_LO then s.g K.sag_LOOP_CLAMP_LO
  else if s.g K.sag_LOOP_CLAMP_HI < c then s.g K.sag_LOOP_CLAMP_HI else c

/-- A measuring setpoint passed a clamp: a saggar trip (R651). -/
def State.loopTrip (s : State) : State :=
  let s1 := ((s.bitTo K.loop_LOOP_STAT lpCLAMPED true).bitTo K.loop_LOOP_STAT lpTRIP true).bitTo K.sag_SAG_STAT 2 true
  if (0x8021, 0) ∈ s.once then s1 else (s1.onceEv 0 0 3 0 0x8021 (leBytes 2 s.loopCode)).inc K.sag_TRIP_COUNT

/-- Set MODE, LOOP_OUT and SLEWING. -/
def State.loopShow (s : State) (mode out : Nat) (slewing : Bool) : State :=
  (s.p K.loop_LOOP_OUT out).p K.loop_LOOP_STAT
    (setBit (setField (s.g K.loop_LOOP_STAT) 1 0 mode) lpSLEWING slewing)

/-- A setpoint, clamp, alarm level or enable takes effect (R649 to R651). -/
def State.syncLoop (s : State) : State :=
  match s.loopMode with
  | 0 =>
    let t := s.loopTarget
    let s1 := if t = s.loopCode then s.bitTo K.loop_LOOP_STAT lpCLAMPED false else s.loopTrip
    s1.loopShow 0 (s.g K.loop_LOOP_OUT) (decide (s.g K.loop_LOOP_OUT ≠ t))
  | 1 => s.loopShow 1 0 false
  | 2 => s.loopShow 2 (s.g K.sag_ALARM_HI) false
  | _ => s.loopShow 3 0 false

/-- A direct write of LOOP_SET takes effect in the next cycle: a move in its own cycle goes to the old target (R652). -/
def State.writeLoop (s : State) (v : Nat) : State :=
  ({ s with loop := { s.loop with wroteAt := s.cyc + 1, oldTarget := s.loopTarget } }.p K.loop_LOOP_SET v).syncLoop

/-- One move towards a target by at most `step` codes (R650). -/
def moveTo (out target step : Nat) : Nat :=
  if out < target then min target (out + step) else max target (out - step)

/-- LOOP_SLEW_MOVE: at a CYC that is a multiple of 1 024 (R650), towards the target in force in it: `f` is the state
with a firing's apply of the same cycle (R660). -/
def State.moveLoop (s f : State) : State :=
  if s.loopMode ≠ 0 ∨ f.loopMode ≠ 0 then s
  else
    let target := if s.loop.wroteAt = s.cyc + 1 then s.loop.oldTarget else f.loopTarget
    let out := moveTo (s.g K.loop_LOOP_OUT) target (s.g K.sag_LOOP_SLEW)
    let slewing := decide (out ≠ s.loopTarget)
    let s1 := s.loopShow 0 out slewing
    if s.bit K.loop_LOOP_STAT lpSLEWING && !slewing then { s1 with loop := { s1.loop with slewEnd := s.cyc + 1 } } else s1

/-- LOOP_OUT in 1/65 536 µA (R647). -/
def loopScaled (code : Nat) : Nat := 3600 * 65536 + code * 19200

/-- A measurement differs from LOOP_OUT by more than LOOP_TOL (R654). -/
def State.loopOff (s : State) (ua : Nat) : Bool :=
  let d : Int := (ua * 65536 : Nat) - (loopScaled (s.g K.loop_LOOP_OUT) : Int)
  decide (s.g K.loop_LOOP_TOL * 65536 < d.natAbs)

/-- Compare a measurement with LOOP_OUT (R654). -/
def State.compareLoop (s : State) (ua : Nat) : State :=
  let l := s.loop
  if s.g K.loop_LOOP_EN = 0 then s
  else if s.bit K.loop_LOOP_STAT lpSLEWING || (decide (l.slewEnd ≠ 0) && decide (cycDiff s.cyc (l.slewEnd - 1) < 245760)) then
    { s with loop := { l with bad := 0, good := 0 } }
  else if s.loopOff ua then
    let bad := min 100 (l.bad + 1)
    let s1 : State := { s with loop := { l with bad := bad, good := 0, reported := l.reported || decide (bad = 100) } }
    if bad < 100 then s1
    else
      let s2 := s1.bitTo K.loop_LOOP_STAT lpMISMATCH true
      if l.reported then s2
      else s2.evChip 0x8020 (leBytes 2 ua ++ leBytes 2 (roundOpen 13 (loopScaled (s.g K.loop_LOOP_OUT)) 65536).toNat)
  else
    let good := min 100 (l.good + 1)
    { s with loop := { l with bad := 0, good := good, reported := l.reported && decide (good < 100) } }

/-- LOOP_MEASURE, in µA (R653, R654). -/
def execLoopMeasure (microamps : Nat) (s : State) : Out :=
  let ua := satAt 65535 microamps
  confined s (if s.d0Clock then (s.p K.loop_LOOP_MEAS ua).compareLoop ua else s)

/-- RSV_ACTIVE and the mirror of RSV_MIN (R664, R665). -/
def State.syncRsv (s : State) : State :=
  (s.p K.sup_RSV_MIN (s.g K.sag_RSV_MIN)).bitTo K.sag_SAG_STAT 0 (decide (s.g K.sup_RSV_SET < s.g K.sag_RSV_MIN))

/-- The port object's mirrors of its caps (R91, R664). -/
def State.syncCaps (s : State) (n : Nat) : State :=
  s.ps [(K.port_CAP_PULSES n, s.g (K.sag_CAP_PULSES n)), (K.port_CAP_VDRV n, s.g (K.sag_CAP_VDRV n)),
    (K.port_CAP_ENERGY n, s.g (K.sag_CAP_ENERGY n))]

/-- GPIO_INPUT_CHANGE: the levels at a die's four balls after the synchroniser (R576, R583). -/
def execGpioInputChange (die levels : Nat) (s : State) : Out :=
  ifFitted s (decide (die < s.dies)) <|
    if 16 ≤ levels then .next s
    else confined s (if (s.die die).up && decide (s.pstate die ≤ 2) && !s.lanternOnly die then s.p (K.die_GP_IN die) levels
      else s)

end Sys2Proof.Machine
end

