-- ==== Sys2Proof/Machine/Entry.lean ====
section
/-! DEFINITION. The dictionary as the part carries it: which entries exist (R4, R612), and the bytes each reads as
(R16, R733). -/

namespace Sys2Proof.Machine

abbrev abAbsent : Nat := 0x06020000
abbrev abNoSub : Nat := 0x06090011
abbrev abRO : Nat := 0x06010002
abbrev abWO : Nat := 0x06010001
abbrev abLong : Nat := 0x06070012
abbrev abShort : Nat := 0x06070013
abbrev abCap : Nat := 0x06090031
abbrev abMap : Nat := 0x06040041
abbrev abMapLen : Nat := 0x06040042

/-- The part carries the n-th resource of a kind (R1, R5). -/
def State.unitFitted (s : State) (r : Res) (n : Nat) : Bool :=
  match r with
  | .chip => true
  | .input => true
  | .die => decide (n < s.dies)
  | .path => decide (n < s.nPaths)
  | .port => decide (n < s.nPorts)
  | .chan => decide (n < s.nChans)
  | .sect => decide (n < s.nSects)

/-- The part carries a sub-index whose resource differs from its index's (R4, R288, R318, R542, R582, R664): CHAN_TMO of
a section, W and PR of a path, a pulse input, a billing section, a port's cap, SHARE and PWR_REQ of a die. -/
def State.subFitted (s : State) (key : Nat) : Bool :=
  let i := key / 256
  let j := key % 256
  if i = 0x2000 ∧ 0x30 ≤ j ∧ j ≤ 0x37 then decide (j - 0x30 < s.nSects)
  else if 0x2200 ≤ i ∧ i < 0x2218 ∧ 0x20 ≤ j ∧ j < 0x40 then decide (j - 0x20 < s.nPaths)
  else if i = 0x2400 ∧ 1 ≤ j then decide ((j - 1) % 32 < s.nInputs)
  else if i = 0x2F00 ∧ 1 ≤ j ∧ j ≤ 192 then decide ((j - 1) % 64 < s.nPorts)
  else if i = 0x3000 ∧ 21 ≤ j ∧ j ≤ 28 then decide (j - 21 < s.dies)
  else if i = 0x3000 ∧ 32 ≤ j ∧ j ≤ 39 then decide (j - 32 < s.dies)
  else true

/-- The existence check of R621: 0x06020000 for an index or a resource the part does not carry, 0x06090011 for a
sub-index no variant has. -/
def State.existence (s : State) (key : Nat) : Nat :=
  match findObj (key / 256) with
  | none => abAbsent
  | some o =>
    if !s.unitFitted o.res (key / 256 - o.base) then abAbsent
    else match findRow key with
      | none => abNoSub
      | some _ => if s.subFitted key then abNone else abAbsent

/-- Keys of an object's rows, in ascending order. -/
def Obj.keys (o : Obj) : List Nat :=
  (List.range o.count).flatMap (fun u => o.rows.flatMap (fun r =>
    (List.range (r.hi + 1 - r.lo)).map (fun i => (o.base + u) * 256 + r.lo + i)))

-- values

/-- "SQF-84x0" with the variant digits (R624). -/
def State.deviceName (s : State) : List Nat := [0x53, 0x51, 0x46, 0x2D, 0x38, 0x34, 0x30 + s.dies, 0x30]

/-- BLOB_SEL and BLOB_OFS of an originator (R680). -/
def State.blobOf (s : State) (who : Orig) : Nat × Nat :=
  match who with
  | .host => (s.host.blobSel, s.host.blobOfs)
  | .can => (s.net.blobSel, s.net.blobOfs)
  | _ => (s.g K.sec_BLOB_SEL, s.g K.sec_BLOB_OFS)

/-- SNAP_SEL of an originator (R351). -/
def State.snapSelOf (s : State) (who : Orig) : Nat :=
  match who with
  | .host => s.host.snapSel
  | .can => s.net.snapSel
  | _ => s.g K.snap_SNAP_SEL

/-- The object BLOB_SEL names (R680); the report exists while ATT_STAT is 2. -/
def State.blob (s : State) (sel : Nat) : List Nat :=
  if sel = 1 then bytesAt (Config.otp 4) 0 1952
  else if sel = 2 then bytesAt (Config.otp 5) 0 3565
  else if s.g K.sec_ATT_STAT = 2 then bytesAt s.sec.quote 0 256 ++ bytesAt s.sec.signature 0 3309
  else []

/-- A read of BLOB_DATA (R680): the abort code and the bytes. -/
def State.readBlob (s : State) (who : Orig) : Nat × List Nat :=
  let c := s.blobOf who
  let b := s.blob c.1
  if b.length ≤ c.2 then (abNoData, []) else (abNone, (b.drop c.2).take 1024)

/-- A read of SNAP_HDR or SNAP_SECT (R351, R364): snapshot 0 of SNAP_SEL is the last one. -/
def State.readSnap (s : State) (who : Orig) (key : Nat) : Nat × List Nat :=
  let sel := s.snapSelOf who
  let found := if sel = 0 then s.bill.snaps.getLast? else s.bill.snaps.find? (fun e => decide (e.1 = sel))
  match found with
  | none => (abNoData, [])
  | some e =>
    if key = K.snap_SNAP_HDR then (abNone, bytesAt e.2 0 64)
    else (abNone, bytesAt e.2 (64 + 704 * (key - K.snap_SNAP_SECT 0)) 704)

/-- Bytes of a DOMAIN or string entry that no command of its own reads. -/
def State.domBytes (s : State) (key : Nat) : List Nat :=
  if key = 0x100800 then s.deviceName
  else if key = 0x100900 then Config.otp 2
  else if key = 0x100A00 then Config.versionText (leAt s.sec.header 0x0C 4)
  else if key = K.sec_ROOT_HASH then bytesAt (Config.otp 3) 0 64
  else if key = K.sec_OEM_HASH then bytesAt s.otp.oemHash 0 64
  else if key = K.sec_CONFIG_DIGEST then bytesAt s.sec.digest 0 64
  else if key = K.st_PART_TABLE then s.partTable (s.g K.st_DIE_SEL)
  else if K.cal_DAYPROF 0 ≤ key ∧ key ≤ K.cal_DAYPROF 15 then
    (if s.blobs.look [] key = [] then [0, 0] else s.blobs.look [] key)
  else match findRow key with
    | some r => match r.ty with
      | .dom lo _ _ => if s.blobs.look [] key = [] then List.replicate lo 0 else s.blobs.look [] key
      | _ => []
    | none => []

/-- The bytes an entry reads as, its value in force least significant byte first. -/
def State.entryBytes (s : State) (key : Nat) : List Nat :=
  match findRow key with
  | none => []
  | some r => if tyBytes r.ty = 0 then s.domBytes key else leBytes (tyBytes r.ty) (s.copyOf key)

/-- Entries whose value an originator has for itself (R351, R460, R680, R705). -/
def State.ownBytes (s : State) (who : Orig) (key : Nat) : Option (List Nat) :=
  if key = K.snap_SNAP_SEL then some (leBytes 4 (s.snapSelOf who))
  else if key = K.log_LOG_SEL then some (leBytes 4 (s.logSelOf who).1)
  else if key = K.log_LOG_NUM then some (leBytes 1 (s.logSelOf who).2)
  else if key = K.sec_BLOB_SEL then some (leBytes 1 (s.blobOf who).1)
  else if key = K.sec_BLOB_OFS then some (leBytes 2 (s.blobOf who).2)
  else if key = K.st_LOCK_STAT then some (leBytes 8 (s.lockStat (origNo who) (s.g K.st_DIE_SEL)))
  else none

end Sys2Proof.Machine
end

