-- ==== Sys2Proof/Machine/Security.lean ====
section
/-! DEFINITION. Firmware trust, attestation and the seal (R666 to R691). -/

namespace Sys2Proof.Machine

/-- Bits of SEC_STAT (R690). -/
abbrev scSEAL_OPEN : Nat := 0
abbrev scSEAL_CHANGED : Nat := 1
abbrev scOEM_REQ : Nat := 2
abbrev scFALLBACK : Nat := 3
abbrev scARB_BUSY : Nat := 4
abbrev scDIGEST_PEND : Nat := 5

def State.sec? (s : State) (n : Nat) : Bool := s.bit K.sec_SEC_STAT n
def State.setSec (s : State) (n : Nat) (b : Bool) : State := s.bitTo K.sec_SEC_STAT n b

/-- The seal is open (R684). -/
def State.sealOpen (s : State) : Bool := decide (s.g K.sec_SEAL_STATE = 1)

/-- The seal can change in this cycle: D0 samples it, for the sixteenth time at least since its last change or the start
(R684). -/
def State.sealSampled (s : State) : Bool :=
  s.d0Clock && decide (s.cyc % 24576 = 0) &&
    decide (16 * 24576 ≤ cycDiff s.cyc (s.sec.sealAt / 24576 * 24576))

/-- The state that the checks of this cycle use: the new one, also where the change is still to come in the queue (R684,
R687). -/
def State.sealInForce (s : State) : Bool :=
  if s.sealSampled && s.pending.contains (.sealChange (!s.sealOpen)) then !s.sealOpen else s.sealOpen

/-- Add one to AUDIT or SEAL_OPENS, which stay at 0xFFFFFFFF (R684). -/
def State.incSat (s : State) (k : Nat) : State := s.p k (satAt 0xFFFFFFFF (s.g k + 1))

/-- A capture of a report in the cycle of a sealed change is made again, once the digest includes the change (R687). -/
def State.uncapture (s : State) : State :=
  if s.sec.quoteAt = s.cyc + 1 ∧ s.g K.sec_ATT_STAT = 1 then { s with sec := { s.sec with quote := [], quoteAt := 0 } } else s

/-- A sealed change (R685): AUDIT, event 0x7022 and a new digest (R683). `fire` marks a firing action. -/
def State.sealedChange (s : State) (key : Nat) (who : Orig) (fire : Bool) : State :=
  let s1 := s.uncapture.incSat K.sec_AUDIT
  (s1.evChip 0x7022 (leBytes 2 (key / 256) ++ [key % 256, origNo who + 128 * b01 fire] ++
    leBytes 4 (s1.g K.sec_AUDIT))).setSec scDIGEST_PEND true

-- the seal

/-- The sixteenth sample of the other level changes the seal (R684). -/
def State.changeSeal (s : State) (isOpen : Bool) : State :=
  let s1 := ((s.p K.sec_SEAL_STATE (b01 isOpen)).setSec scSEAL_OPEN isOpen).setSec scSEAL_CHANGED true
  let s2 : State := { s1 with sec := { s1.sec with sealAt := s.cyc } }
  if isOpen then (s2.incSat K.sec_SEAL_OPENS).evChip 0x7020 [] else s2.evChip 0x7021 []

/-- SEAL_CHANGE (R684). -/
def execSealChange (isOpen : Bool) (s : State) : Out :=
  confined s (if s.sealSampled && (s.sealOpen != isOpen) then s.changeSeal isOpen else s)

/-- EXTEST_SELECT: carried out and recorded only while the seal is open (R686). -/
def execExtestSelect (s : State) : Out :=
  confined s (if s.sealInForce then ((s.uncapture.incSat K.sec_AUDIT).evChip 0x7023 []).setSec scDIGEST_PEND true else s)

-- image slots

/-- First store line of a slot: 0 A, 1 B (R427). -/
def slotLine (slot : Nat) : Nat := if slot = 0 then 4 else 2052

/-- Bytes of a slot, `n` from an offset (R668). -/
def State.slotBytes (s : State) (slot ofs n : Nat) : List Nat :=
  let a := ofs / 256
  let lines := (List.range ((ofs + n + 255) / 256 - a)).flatMap (fun i => s.lineData 0 (slotLine slot + a + i))
  (lines.drop (ofs % 256)).take n

/-- The header of a slot (R669). -/
def State.slotHeader (s : State) (slot : Nat) : List Nat := s.slotBytes slot 0 256

/-- Fields of a header (R669). -/
def hdrOem (h : List Nat) : Bool := bitAt (leAt h 0x06 2) 0
def hdrSvn (h : List Nat) : Nat := h.getD 0x08 0
def hdrVersion (h : List Nat) : Nat := leAt h 0x0C 4
def hdrD0Len (h : List Nat) : Nat := leAt h 0x10 4
def hdrFolLen (h : List Nat) : Nat := leAt h 0x14 4
def hdrLegalId (h : List Nat) : Nat := leAt h 0x18 4

/-- A code length is 4 to its limit and a multiple of 4 (R669). -/
def codeLenOk (n top : Nat) : Bool := decide (4 ≤ n) && decide (n ≤ top) && decide (n % 4 = 0)

/-- Check 1 of R671. -/
def headerOk (h : List Nat) : Bool :=
  decide (leAt h 0 4 = 0x49465153) && decide (leAt h 4 2 = 1) && (bytesAt h 9 3 ++ bytesAt h 0x1C 4 ++
    bytesAt h 0xA0 96).all (· == 0) && codeLenOk (hdrD0Len h) 196608 && codeLenOk (hdrFolLen h) 131072

/-- OEM_HASH has been programmed (R667). -/
def State.oemSet (s : State) : Bool := decide (s.otp.oemHash ≠ [])

/-- Context strings "SQF84-IMG", "SQF84-OEM" and "SQF84-ATT" (R670, R681). -/
def ctxImg : List Nat := [0x53, 0x51, 0x46, 0x38, 0x34, 0x2D, 0x49, 0x4D, 0x47]
def ctxOem : List Nat := [0x53, 0x51, 0x46, 0x38, 0x34, 0x2D, 0x4F, 0x45, 0x4D]
def ctxAtt : List Nat := [0x53, 0x51, 0x46, 0x38, 0x34, 0x2D, 0x41, 0x54, 0x54]

/-- A digest: SHAKE256 with 64 bytes of output (R666). -/
def digestOf (b : List Nat) : List Nat := Config.shake256 b 64

/-- Check 6 of R671, made when OEM_HASH is programmed. -/
def State.oemOk (s : State) (slot : Nat) (h sig : List Nat) : Bool :=
  let key := s.slotBytes slot 0x52A90 1952
  hdrOem h && (digestOf key == s.otp.oemHash) &&
    Config.mldsaVerify key ctxOem (h ++ sig) (s.slotBytes slot 0x53230 3309)

/-- The reason a slot is rejected for, 0 for a pass; `readable` says that every line reads (R671). -/
def State.slotReason (s : State) (slot : Nat) (readable : Bool) : Nat :=
  let h := s.slotHeader slot
  let key := s.slotBytes slot 0x51600 1952
  let sig := s.slotBytes slot 0x51DA0 3309
  if !readable then 7
  else if !headerOk h then 1
  else if digestOf key != bytesAt (Config.otp 3) 0 64 then 2
  else if 64 < hdrSvn h ∨ hdrSvn h < s.otp.arb then 3
  else if digestOf (s.slotBytes slot 0x100 (hdrD0Len h)) != bytesAt h 0x20 64
      || digestOf (s.slotBytes slot (0x100 + hdrD0Len h) (hdrFolLen h)) != bytesAt h 0x60 64 then 4
  else if !Config.mldsaVerify key ctxImg h sig then 5
  else if s.oemSet && !s.oemOk slot h sig then 6
  else 0

/-- A verified slot's SVN and VERSION are recorded (R672, R677). -/
def State.noteSlot (s : State) (slot : Nat) : State :=
  let h := s.slotHeader slot
  s.ps [(K.sec_SVN_A + slot, hdrSvn h), (K.sec_VERSION_A + slot, hdrVersion h)]

/-- The slot that is not BOOT_USED (R676). -/
def State.inactiveSlot (s : State) : Nat := if s.g K.sec_BOOT_USED = 0 then 1 else 0

/-- A VERIFY is running (R677). -/
def State.verifying (s : State) : Bool := decide (s.g K.sec_IMG_STAT = 1)

/-- What rejects an IMG_DATA write of `n` bytes beyond its length (R676). -/
def State.imgDataCheck (s : State) (n : Nat) : Nat :=
  let o := s.g K.sec_IMG_OFS
  if 0x54000 < o + n then abLong
  else if o % 256 ≠ 0 ∨ 0x53F00 < o then abRange
  else if s.g K.dev_BOOT_SLOT = s.inactiveSlot ∨ s.verifying then abState
  else abNone

/-- An accepted IMG_DATA write: its lines enter the gather buffer (R676). -/
def State.imgData (s : State) (bytes : List Nat) : State :=
  let line := slotLine s.inactiveSlot + s.g K.sec_IMG_OFS / 256
  ((List.range (bytes.length / 256)).foldl (fun t i => t.gatherLine 0 (line + i) (bytesAt bytes (256 * i) 256)) s).p
    K.sec_IMG_STAT 0

/-- An accepted IMG_CMD: 1 BEGIN, 2 VERIFY (R676, R677). -/
def State.imgCmd (s : State) (v : Nat) : State :=
  if v = 1 then s.p K.sec_IMG_STAT 0
  else (s.putStore 0 ((s.store 0).flush s.cyc)).p K.sec_IMG_STAT 1

/-- A VERIFY ends (R677). -/
def State.imgVerified (s : State) (readable : Bool) : State :=
  let slot := s.inactiveSlot
  let r := s.slotReason slot readable
  let s1 := if r = 0 then (s.p K.sec_IMG_STAT 2).noteSlot slot
    else s.ps [(K.sec_IMG_STAT, 3), (K.sec_IMG_REASON, r)]
  s1.evChip 0x7005 [slot, r]

/-- IMG_VERIFY_DONE (R677). -/
def execImgVerifyDone (readable : Bool) (s : State) : Out :=
  confined s (if s.verifying then s.imgVerified readable else s)

-- anti-rollback

/-- SVN of the running image (R675); no more fuses than 64 exist (R666). -/
def State.runningSvn (s : State) : Nat := min 64 (hdrSvn s.sec.header)

/-- What rejects a write of 1 to ARB_ADVANCE (R675). -/
def State.arbCheck (s : State) : Nat :=
  if s.sec? scARB_BUSY then abState
  else if s.g (K.sec_SVN_A + s.g K.dev_BOOT_SLOT) < s.runningSvn then abRel
  else abNone

/-- Fuses are blown one a millisecond up to the SVN of the running image (R675). -/
def State.arbAdvance (s : State) : State :=
  if s.runningSvn ≤ s.otp.arb then s
  else { s.setSec scARB_BUSY true with
    sec := { s.sec with arbOld := s.otp.arb, arbGoal := s.runningSvn, arbFrom := s.cyc } }

/-- Fuses blown by now. -/
def State.arbNow (s : State) : Nat :=
  min 64 (max s.otp.arb (min s.sec.arbGoal (s.sec.arbOld + cycDiff s.cyc s.sec.arbFrom / 24576)))

/-- The fuses that the time has blown (R675). -/
def State.blowFuses (s : State) : State :=
  if s.sec? scARB_BUSY then { s with otp := { s.otp with arb := s.arbNow } } else s

/-- D0 stops while fuses are being blown: those blown stay (R675). -/
def State.stopFuses (s : State) : State :=
  if s.sec? scARB_BUSY then
    let t := s.setSec scARB_BUSY false
    if s.sec.arbOld < s.otp.arb then t.evChip 0x7002 [s.sec.arbOld, s.otp.arb] else t
  else s

/-- ARB_FUSES_DONE: the last fuse's millisecond has passed (R675). -/
def execArbFusesDone (s : State) : Out :=
  fusing s (if s.sec? scARB_BUSY && decide (s.arbNow = s.sec.arbGoal) then
    ((s.blowFuses).setSec scARB_BUSY false).evChip 0x7002 [s.sec.arbOld, s.sec.arbGoal] else s)

/-- What rejects a write of OEM_HASH of 64 bytes (R667). -/
def State.oemCheck (s : State) (bytes : List Nat) : Nat :=
  if s.oemSet then abState else if bytes.all (· == 0) then abRange else abNone

/-- OEM_HASH is programmed (R667, R690). -/
def State.oemProgram (s : State) (bytes : List Nat) : State :=
  { s.setSec scOEM_REQ true with otp := { s.otp with oemHash := bytes } }

-- the digest

/-- What CONFIG_DIGEST covers (R683): every entry the part carries whose Sealed column does not read no, and the
correction table, in ascending order, each with its index, sub-index, length and value. An entry that cannot be read has
no value in force and counts with length 0. -/
def State.digestInput (s : State) : List Nat :=
  dictionary.flatMap (fun o => o.keys.flatMap (fun k =>
    match findRow k with
    | none => []
    | some r =>
      if r.sealed = .no ∨ s.existence k ≠ abNone then []
      else
        let v := if r.acc = .wo then [] else s.entryBytes k
        leBytes 2 (k / 256) ++ [k % 256] ++ leBytes 2 v.length ++ v))

/-- DIGEST_RECOMPUTE_DONE (R683). -/
def execDigestRecomputeDone (s : State) : Out :=
  confined s (if s.sec? scDIGEST_PEND then
    { s.setSec scDIGEST_PEND false with sec := { s.sec with digest := digestOf s.digestInput } } else s)

-- attestation

/-- A captured report is signed (R681). -/
def State.attSigned (s : State) : State :=
  if s.g K.sec_ATT_STAT = 1 ∧ s.sec.quote ≠ [] then
    ({ s.p K.sec_ATT_STAT 2 with
        sec := { s.sec with signature := Config.mldsaSign ctxAtt s.sec.quote } }).evChip 0x7030
      (leBytes 4 (s.g K.sec_AUDIT))
  else s

/-- A report is finished in this cycle by a command still to come in the queue (R687). -/
def State.signComing (s : State) : Bool := decide (s.sec.quote ≠ []) && s.pending.contains .attSignDone

/-- What rejects a write of 1 to ATT_CMD (R681, R687). -/
def State.attCheck (s : State) : Nat :=
  if (s.g K.sec_ATT_STAT = 1 ∧ s.signComing = false) ∨ !s.sec.fresh then abState else abNone

/-- An attestation is requested (R681); it replaces a report that is finished in this cycle (R687). -/
def State.attRequest (s : State) : State :=
  let t := if s.signComing then s.attSigned else s
  { t.p K.sec_ATT_STAT 1 with sec := { t.sec with fresh := false, quote := [], signature := [] } }

/-- The nonce of the next attestation (R681). -/
def State.attNonce (s : State) (bytes : List Nat) : State :=
  { s with sec := { s.sec with nonce := bytes, fresh := true } }

/-- Bytes 0x000 to 0x0FF of a report (R682). -/
def State.report (s : State) : List Nat :=
  let h := s.sec.header
  let flags := ofBits [s.sealOpen, hdrOem h, s.sec? scFALLBACK, s.bill.rtc.isNone]
  leBytes 2 1 ++ leBytes 2 flags ++ leBytes 4 (s.copyOf (K.comm_IDENT 4)) ++ leBytes 8 s.cyc ++ leBytes 4 s.rtcNow ++
    leBytes 4 (s.g K.sec_AUDIT) ++ leBytes 4 (s.g K.sec_SEAL_OPENS) ++
    [hdrSvn h, s.otp.arb % 256, s.g K.sec_BOOT_USED % 256, 0] ++ leBytes 4 (hdrLegalId h) ++
    leBytes 2 (s.g K.emb_TAMP0_COUNT) ++ leBytes 2 (s.g K.emb_TAMP1_COUNT) ++ List.replicate 24 0 ++
    bytesAt s.sec.nonce 0 32 ++ bytesAt (digestOf h) 0 64 ++ bytesAt s.sec.digest 0 64 ++ List.replicate 32 0

/-- ATT_CAPTURE: the first cycle at or after the command with DIGEST_PEND = 0 (R681). -/
def execAttCapture (s : State) : Out :=
  confined s (if s.g K.sec_ATT_STAT = 1 ∧ s.sec.quote = [] ∧ s.sec? scDIGEST_PEND = false then
    { s with sec := { s.sec with quote := s.report, quoteAt := s.cyc + 1 } } else s)

/-- ATT_SIGN_DONE (R681). -/
def execAttSignDone (s : State) : Out := confined s s.attSigned

end Sys2Proof.Machine
end

