-- ==== Sys2Proof/Machine/Sram.lean ====
section
/-! DEFINITION. The SRAM bank of a die (R461 to R478): the request stage, error correction, write-back, and the March
run's commands. -/

namespace Sys2Proof.Machine

/-- Bits of SRAM_STAT (R481). -/
abbrev srWLOST_SEEN : Nat := 0
abbrev srCE_SEEN : Nat := 1
abbrev srUE_SEEN : Nat := 2
abbrev srMARCH_RUN : Nat := 3
abbrev srWB_PEND : Nat := 4

/-- Words of a bank (R461). -/
abbrev sramWords : Nat := 65536

-- words

/-- What a word holds. -/
def SramRt.word (r : SramRt) (die w : Nat) : Nat :=
  match r.words.look 0 w with
  | 0 => if r.lost = 0 then 0 else Config.sramBlank die w r.lost % two32
  | v + 1 => v

/-- Store a word; the list stays canonical. -/
def SramRt.put (r : SramRt) (w v : Nat) : SramRt :=
  { r with words := r.words.store 0 w (if r.lost = 0 ∧ v = 0 then 0 else v + 1) }

/-- Wrong bits of a word; the array upsets further ones (R461). -/
def SramRt.wrong (r : SramRt) (w : Nat) : Nat := r.errs.look 0 w
def SramRt.upset (r : SramRt) (w flips : Nat) : SramRt :=
  if flips = 0 then r else { r with errs := r.errs.store 0 w (Nat.xor (r.wrong w) flips) }

/-- Bits set in a mask over a word and its code. -/
def ones39 (m : Nat) : Nat := (List.range 39).countP (fun i => bitAt m i)

/-- A word with valid check bits (R461). -/
def SramRt.fresh (r : SramRt) (w v : Nat) : SramRt := { r.put w v with errs := r.errs.store 0 w 0 }

/-- A requester writes a word: a pending write-back of it is dropped, and it is no longer the last uncorrectable one
(R465, R466). -/
def SramRt.write (r : SramRt) (w v : Nat) : SramRt :=
  let r1 := r.fresh w v
  { r1 with wb := r1.wb.filter (fun e => e.1 != w), lastUe := r1.lastUe.filter (fun e => e.1 != w) }

/-- The canonical form of a bank: rising addresses below 65 536, and no entry equal to what an unlisted address reads as
(entries are held one higher; 1 is 0 where the contents were not lost). What the bank has still to write, and the
requests that wait, name words of the bank. -/
def SramRt.wf (r : SramRt) : Bool :=
  Tab.wf (fun _ => 0) r.words && r.words.all (fun e => decide (e.1 < sramWords) && (decide (r.lost ≠ 0) || decide (e.2 ≠ 1))) &&
    Tab.wf (fun _ => 0) r.errs && r.errs.all (fun e => decide (e.1 < sramWords)) &&
    r.waiting.all (fun q => decide (q.word < sramWords)) && r.rmw.all (fun e => decide (e.1 < sramWords)) &&
    r.wb.all (fun e => decide (e.1 < sramWords))

/-- Bytes of a word replaced by a byte or halfword write (R462, R463). -/
def mergeWord (old offset bytes data : Nat) : Nat := setField old (8 * (offset + bytes) - 1) (8 * offset) data

-- requests

def reqRank : Requester → Nat | .core => 1 | .guyLine => 2 | .dma => 3

/-- A request the block can carry: an address of the bank, data of its width, and byte or halfword writes by the core
alone (R461, R463). -/
def reqOk (q : SramReq) : Bool :=
  decide (q.word < sramWords) && decide (q.flips < 2 ^ 39) &&
  (match q.op with
    | .read => true
    | .write v => decide (v < two32)
    | .partialWrite o n v => decide (q.who = .core) && ((decide (n = 1) && decide (o < 4) && decide (v < 256)) ||
        (decide (n = 2) && (decide (o = 0) || decide (o = 2)) && decide (v < 65536))))

/-- A whole-word write. -/
def reqWhole (q : SramReq) : Bool := match q.op with | .write _ => true | _ => false
def reqWrites (q : SramReq) : Bool := match q.op with | .read => false | _ => true

/-- Requesters served in a power state (R471, R474). -/
def State.serves (s : State) (d : Nat) (q : Requester) : Bool :=
  decide ((s.die d).march ≠ 1) && (decide (s.pstate d = 0) || (decide (s.pstate d = 1) && decide (q ≠ .core)))

/-- The request of the highest rank among those presented and served (R467). -/
def State.granted (s : State) (d : Nat) (l : List SramReq) : Option SramReq :=
  [Requester.core, .guyLine, .dma].findSome? (fun q => if s.serves d q then l.find? (fun x => decide (x.who = q)) else none)

/-- Take the first occurrence of a request out. -/
def dropReq (q : SramReq) : List SramReq → List SramReq
  | [] => []
  | x :: r => if x = q then r else x :: dropReq q r

/-- Writes of lower ranks to the word a granted write takes (R469): they are dropped with WLOST. Only the first request
of each requester is presented. -/
def lostWrites (g : SramReq) (l : List SramReq) : List SramReq :=
  if !reqWrites g then []
  else [Requester.guyLine, .dma].filterMap (fun q =>
    if q = g.who then none
    else match l.find? (fun x => decide (x.who = q)) with
      | some x => if reqWhole x && decide (x.word = g.word) then some x else none
      | none => none)

/-- Set the status told to a requester. -/
def SramRt.tell (r : SramRt) (q : Requester) (v : Nat) : SramRt := { r with status := r.status.set (reqRank q - 1) v }

/-- A write is dropped with WLOST (R470). -/
def State.wlost (s : State) (d : Nat) (q : SramReq) : State :=
  let s1 := (s.setBank d ((s.bank d).tell q.who 1)).bitTo (K.die_SRAM_STAT d) srWLOST_SEEN true
  let s2 := s1.inc (if q.who = .dma then K.die_WLOST_DMA_COUNT d else K.die_WLOST_GL_COUNT d)
  s2.onceEv (4 * d + reqRank q.who) d 2 d 0x6042 (reqRank q.who :: leBytes 2 q.word)

/-- A read was corrected (R464, R465). -/
def State.corrected (s : State) (d w v : Nat) (back : Bool) : State :=
  let r := s.bank d
  let s1 := ((s.inc (K.die_SRAM_CE_COUNT d)).bitTo (K.die_SRAM_STAT d) srCE_SEEN true).onceEv d d 2 d 0x6040 (leBytes 2 w)
  if back && r.wb.isNone then
    (s1.setBank d { r with wb := some (w, v) }).bitTo (K.die_SRAM_STAT d) srWB_PEND true
  else s1

/-- A read was uncorrectable (R466). -/
def State.uncorrectable (s : State) (d w : Nat) (q : Requester) : State :=
  let r := s.bank d
  let s1 := (s.inc (K.die_SRAM_UE_COUNT d)).bitTo (K.die_SRAM_STAT d) srUE_SEEN true
  match r.lastUe with
  | some (w', serial) =>
    if w' = w then (s1.setBank d (r.tell q 2)).react d 2 d 0x6041 serial (leBytes 2 w)
    else (s1.setBank d ({ r with lastUe := some (w, s1.nextSerial d) }.tell q 2)).declare d 2 d 0x6041 (leBytes 2 w)
  | none =>
    (s1.setBank d ({ r with lastUe := some (w, s1.nextSerial d) }.tell q 2)).declare d 2 d 0x6041 (leBytes 2 w)

/-- The SECDED check of a word: clean, one wrong bit, which is corrected, or more, which count as uncorrectable (R464;
DEDUCED, log entry 90). -/
inductive EccCheck where
  | clean
  | single
  | uncorrectable
  deriving DecidableEq, Repr

def SramRt.check (r : SramRt) (w : Nat) : EccCheck :=
  match ones39 (r.wrong w) with
  | 0 => .clean
  | 1 => .single
  | _ => .uncorrectable

/-- A write of the locked image region is not performed: the core takes a precise data abort (R549; DEDUCED for the
other requesters, log entry 88). -/
def SramRt.imageLocked (r : SramRt) (d : Nat) (g : SramReq) : Bool := r.locked && reqWrites g && Config.imageWord d g.word

/-- A granted request is performed (R462, R464, R549). -/
def State.serve (s : State) (d : Nat) (g : SramReq) : State :=
  let r := (s.bank d).upset g.word g.flips
  let r0 := r.tell g.who 0
  let good := r.word d g.word
  let out (v : Nat) : SramRt := { r0 with dataOut := v, dataAt := cycPlus s.cyc 1 }
  if r.imageLocked d g then s.setBank d (r.tell g.who 3)
  else match g.op, r.check g.word with
    | .write v, _ =>
      (s.setBank d (r0.write g.word v)).bitTo (K.die_SRAM_STAT d) srWB_PEND (r0.write g.word v).wb.isSome
    | .read, .clean => s.setBank d (out good)
    | .read, .single => (s.setBank d (out good)).corrected d g.word good true
    | .read, .uncorrectable =>
      (s.setBank d (out (Nat.xor good (r.wrong g.word % two32)))).uncorrectable d g.word g.who
    | .partialWrite o n v, .clean => s.setBank d { r0 with rmw := some (g.word, mergeWord good o n v) }
    | .partialWrite o n v, .single =>
      (s.setBank d { r0 with rmw := some (g.word, mergeWord good o n v) }).corrected d g.word good false
    | .partialWrite _ _ _, .uncorrectable => (s.setBank d r).uncorrectable d g.word g.who

/-- A DMA request that was presented and not granted has waited a cycle more (R468). -/
def State.countWait (s : State) (d : Nat) : State :=
  let r := s.bank d
  if r.waiting.any (fun q => decide (q.who = .dma)) then
    (s.setBank d { r with dmaWait := r.dmaWait + 1 }).p (K.die_DMA_WAIT_MAX d)
      (max (s.g (K.die_DMA_WAIT_MAX d)) (satAt (two32 - 1) (r.dmaWait + 1)))
  else s.setBank d { r with dmaWait := 0 }

/-- What a request of the core counts among the 3 it may present in any 4 consecutive cycles (R468). -/
def coreCost (l : List SramReq) : Nat :=
  (l.map (fun q => if q.who ≠ .core then 0 else match q.op with | .partialWrite _ _ _ => 2 | _ => 1)).sum

/-- What the core has presented in the 3 cycles before `now` and in `now` itself. -/
def SramRt.coreUsed (r : SramRt) (now : Nat) : List (Nat × Nat) := r.coreAt.filter (fun e => decide (cycDiff (now + 1) e.1 < 4))

/-- The core presents no more than its share: requests beyond it are not presented (R468). -/
def SramRt.admitReqs (r : SramRt) (now : Nat) (new : List SramReq) : List SramReq :=
  if ((r.coreUsed now).map (·.2)).sum + coreCost new ≤ 3 then new else new.filter (fun q => decide (q.who ≠ .core))

/-- The port's cycle is noted, and what the core presents in it. -/
def SramRt.note (r : SramRt) (now : Nat) (new : List SramReq) : SramRt :=
  { r with cycleAt := now + 1
           coreAt := r.coreUsed now ++ (if coreCost new = 0 then [] else [((now + 1) % two48, coreCost new)]) }

/-- One cycle of the request stage with the requests newly presented in it (R462, R467 to R470). The port performs one
access a cycle: what is presented after it has been given waits. -/
def State.sramCycle (s : State) (d : Nat) (new0 : List SramReq) : State :=
  let b := s.bank d
  let new := b.admitReqs s.cyc new0
  let r := b.note s.cyc new
  let all := r.waiting ++ new
  if b.cycleAt = s.cyc + 1 then s.setBank d { r with waiting := all }
  else match r.rmw with
  | some (w, v) =>
    let r1 := { r.write w v with rmw := none, waiting := all }
    ((s.setBank d r1).bitTo (K.die_SRAM_STAT d) srWB_PEND r1.wb.isSome).countWait d
  | none =>
    match s.granted d all with
    | none => (s.setBank d { r with waiting := all }).countWait d
    | some g =>
      let lost := lostWrites g all
      let rest := lost.foldl (fun l q => dropReq q l) (dropReq g all)
      let wait := if g.who = .dma ∨ lost.any (fun q => decide (q.who = .dma)) then 0 else r.dmaWait
      let s1 := (s.setBank d { r with waiting := rest, dmaWait := wait }).serve d g
      (lost.foldl (fun t q => t.wlost d q) s1).countWait d

/-- SRAM_REQUEST (R462, R467). -/
def execSramRequest (die : Nat) (reqs : List SramReq) (s : State) : Out :=
  ifFitted s (decide (die < s.dies)) <|
    if reqs.all reqOk then banking s (s.sramCycle die reqs) else .next s

/-- A request is presented to the bank in this cycle, later in the queue. -/
def State.requestComing (s : State) (d : Nat) : Bool :=
  s.pending.any (fun c => match c with | .sramRequest e l => decide (e = d) && decide (l ≠ []) | _ => false)

/-- SRAM_WRITE_BACK: in a cycle in which nothing is presented (R465). -/
def execSramWriteBack (die : Nat) (s : State) : Out :=
  ifFitted s (decide (die < s.dies)) <|
    let r := s.bank die
    banking s (match r.wb with
      | none => s
      | some (w, v) =>
        if r.waiting ≠ [] ∨ r.rmw.isSome ∨ r.cycleAt = s.cyc + 1 ∨ s.requestComing die ∨ (s.die die).march = 1 ∨
            2 ≤ s.pstate die then s
        else (s.setBank die { r.fresh w v with wb := none, cycleAt := s.cyc + 1 }).bitTo (K.die_SRAM_STAT die) srWB_PEND false)

-- March C− (R473)

/-- An operation of a March element: a read or a write of the background or, inverted, of its inverse. -/
inductive MarchOp where
  | r (inv : Bool)
  | w (inv : Bool)
  deriving DecidableEq, Repr

/-- The elements of March C−, in order: whether the addresses rise, and the operations on each word. Where the order is
free they rise. -/
def marchElements : List (Bool × List MarchOp) :=
  [(true, [.w false]), (true, [.r false, .w true]), (true, [.r true, .w false]), (false, [.r false, .w true]),
   (false, [.r true, .w false]), (true, [.r false])]

/-- A word is tested at its full 39 bits, with the code bypassed. -/
abbrev marchMask : Nat := 2 ^ 39 - 1

/-- The background of a word: zeros, or alternating bits whose phase flips between adjacent addresses. -/
def marchBack (checker : Bool) (word : Nat) : Nat :=
  if !checker then 0 else if word % 2 = 0 then 0x2AAAAAAAAA else 0x5555555555

/-- The background or its inverse. -/
def marchValue (checker inv : Bool) (word : Nat) : Nat :=
  if inv then marchMask - marchBack checker word else marchBack checker word

/-- What a read of an element must return; none for an element that reads nothing. -/
def marchExpects (m : MarchRead) : Option Nat :=
  match (marchElements.map Prod.snd)[m.element]? with
  | some (.r inv :: _) => some (marchValue m.checker inv m.word)
  | _ => none

/-- A read differs from its expected value (R478). -/
def marchMiss (m : MarchRead) : Bool :=
  match marchExpects m with
  | some v => decide (m.value % 2 ^ 39 ≠ v)
  | none => false

/-- The failing words of a run, and the lowest of them, 0xFFFFFFFF for none (R478, R480). -/
def marchFails (l : List MarchRead) : List Nat := ((l.filter marchMiss).map (·.word)).dedup
def marchFirst (l : List MarchRead) : Nat := (marchFails l).foldl min 0xFFFFFFFF

/-- The reads name words and elements of a run. -/
def marchOk (l : List MarchRead) : Bool := l.all (fun m => decide (m.word < sramWords) && decide (m.element < 6))

/-- Operations of both backgrounds on one word, and the cycles of a destructive run and of a transparent one with its
shadow buffer (R473, R474, R476). -/
def marchPerWord : Nat := 2 * (marchElements.map (·.2.length)).sum
def marchCycles : Nat := marchPerWord * sramWords
def marchBlocks : Nat := 1024 * (64 + marchPerWord * 64 + 64)

/-- After its last element a destructive run writes every word to 0 (R474). -/
def State.clearBank (s : State) (d : Nat) : State :=
  s.setBank d { losses := (s.bank d).losses, waiting := (s.bank d).waiting, dmaWait := (s.bank d).dmaWait }

-- March runs

/-- A March run begins (R475, R476, R480). -/
def State.beginMarch (s : State) (d mode : Nat) : State :=
  ((s.setDie d { s.die d with march := mode, marchStop := false, marchFrom := s.cyc }).ps
    [(K.die_MARCH_STAT d, mode), (K.die_MARCH_CYC d, s.cyc)]).bitTo (K.die_SRAM_STAT d) srMARCH_RUN true

/-- MARCH_CMD written (R475, R477): the state and the abort code. A destructive run takes the follower out of
service. -/
def State.marchCmd (s : State) (d v : Nat) : State × Nat :=
  let r := s.die d
  if r.march ≠ 0 then
    if v = 3 ∧ r.march = 2 then (s.setDie d { r with marchStop := true }, abNone) else (s, abState)
  else if v < 1 ∨ 3 < v then (s, abRange)
  else if v = 3 then (s, abNone)
  else if v = 1 ∧ d = 0 then (s, abState)
  else if !r.up || decide (2 ≤ s.pstate d) then (s, abNone)
  else
    let t := s.beginMarch d v
    (if v = 1 then t.setDie d { t.die d with up := false } else t, abNone)

end Sys2Proof.Machine
end

