-- ==== Sys2Proof/Machine/Power.lean ====
section
/-! DEFINITION. Power (R511 to R541): sources and ride-through, the canteen, the ration governor, the power states of
the dies and their wakes, and the power-fail commit (R453, R454). -/

namespace Sys2Proof.Machine

/-- Bits of SUP_STAT (R543). -/
abbrev ssLANT_RAIL : Nat := 0
abbrev ssLOOP_OK : Nat := 1
abbrev ssBUS_OK : Nat := 2
abbrev ssBUS_LIMIT : Nat := 3
abbrev ssCHARGING : Nat := 4
abbrev ssBELOW_RSV : Nat := 5
abbrev ssRIDE : Nat := 6
abbrev ssGOV_ON : Nat := 7
abbrev ssFORCED : Nat := 8
abbrev ssCANT_LOW : Nat := 9
abbrev ssSTRAP_ERR : Nat := 10
abbrev ssHOLD_FAIL : Nat := 11

def State.sup (s : State) (n : Nat) : Bool := s.bit K.sup_SUP_STAT n
def State.setSup (s : State) (n : Nat) (b : Bool) : State := s.bitTo K.sup_SUP_STAT n b

/-- C_eff in µF (R514), V_RSV and V_PF in 0.1 V (R516). -/
def State.cEff (s : State) : Nat := min (s.g K.sup_CANT_C) (s.g K.sup_CANT_MEAS)
def State.vRsv (s : State) : Nat := max (s.g K.sup_RSV_SET) (s.g K.sup_RSV_MIN)

/-- A source is present (R511). -/
def State.powered (s : State) : Bool := s.pow.loopOn || s.pow.busOn

-- the governor

/-- Show the governor's state in SUP_STAT. -/
def State.showGov (s : State) : State :=
  (s.setSup ssGOV_ON s.pow.govOn).setSup ssFORCED (s.pow.forced || s.sup ssHOLD_FAIL)

/-- The governor's state at an allowance computation (R519, R523, R526). -/
def State.governor (s : State) (vRes : Nat) : State :=
  let base := match s.g K.sup_GOV_MODE with | 0 => !s.pow.busOn | 1 => true | _ => false
  let rsv := s.vRsv * 100
  let forced := (s.pow.forced && decide (vRes ≤ rsv + 500)) || (!base && decide (vRes < rsv))
  { s with pow := { s.pow with forced := forced, govOn := base || forced || s.sup ssHOLD_FAIL } }.showGov

/-- E_avail in µJ (R524). -/
def State.eAvail (s : State) (vRes : Nat) : Rat :=
  let v := fOf vRes 1000
  let r := fOf s.vRsv 10
  fMul (fMul (mkRat 1 2) (s.cEff : Rat)) (fSub (fMul v v) (fMul r r))

/-- POOL in µJ, of powers in µW (R524). -/
def State.poolOf (s : State) (e : Rat) (pIn pBase : Nat) : Rat :=
  let net := fSub (fOf pIn 1000) (fOf pBase 1000)
  let v := fAdd e (fMul net (fOf s.frameLen 24576))
  if v < 0 then 0 else v

/-- U in 0.1 µJ (R524). -/
def State.unitsOf (s : State) (pool : Rat) : Int := (fMul (fDiv 21 (fMul pool (s.g K.sup_GOV_EFF : Rat)) 256) 10).floor

/-- A die is eligible for an allowance (R525). -/
def State.eligible (s : State) (d : Nat) : Bool :=
  s.dieRuns d && !(s.die d).lost && decide (0 < s.g (K.sup_SHARE d))

/-- The allowances of a frame (R525): 0 for every die while HOLD_FAIL is set (R519). -/
def State.shares (s : State) (u : Nat) : List Nat :=
  let sum := ((List.range s.dies).filter s.eligible).foldl (fun a d => a + s.g (K.sup_SHARE d)) 0
  (List.range s.dies).map (fun d =>
    if s.eligible d && !s.sup ssHOLD_FAIL then u * s.g (K.sup_SHARE d) / sum else 0)

/-- Send the allowances, while the governor is on (R523, R525). -/
def State.sendShares (s : State) (u : Nat) : State :=
  if !s.pow.govOn then s
  else
    { s with pow := { s.pow with
      allowSent := ((s.shares u).mapIdx (fun d a => (d, a + 1))).foldl (fun t e => t.store 0 e.1 e.2) [] } }

/-- The allowance sample of a frame (R523 to R527, R542). -/
def State.sampleAllowance (s : State) (vRes vLoop vBus vBat pIn pBase : Nat) (limit : Bool) : State :=
  let s1 := s.ps [(K.sup_V_RES, satAt 65535 vRes), (K.sup_V_LOOP, satAt 65535 vLoop), (K.sup_V_BUS, satAt 65535 vBus),
    (K.sup_V_BAT, satAt 65535 vBat), (K.sup_P_IN, satAt (two32 - 1) pIn), (K.sup_P_BASE, satAt (two32 - 1) pBase)]
  let s2 := ((s1.setSup ssBUS_LIMIT limit).setSup ssCHARGING
    (s.powered && decide (vRes < 100 * s.g K.sup_CANT_VMAX) && s.pow.measAt.isNone)).setSup ssBELOW_RSV
    (decide (vRes < 100 * s.vRsv))
  let s3 := s2.governor vRes
  let e := s3.eAvail vRes
  let u := s3.unitsOf (s3.poolOf e (if s.pow.pinZero then 0 else pIn) pBase)
  let s4 := (s3.pi 32 K.sup_E_AVAIL (fitS 24 32 (ratOpen 12 (e * 10)))).p K.sup_POOL_U (fitU 25 32 u)
  let s5 := if e < 0 then s4.onceEv 0 0 3 0 0x5004 [] else s4
  ({ s5 with pow := { s5.pow with pinZero := false } }).sendShares u.toNat

/-- ALLOWANCE_SAMPLE: 4 096 cyc before a frame boundary (R524), on a D0 that runs. -/
def execAllowanceSample (vResMv vLoopMv vBusMv vBatMv pInUw pBaseUw : Nat) (busLimit : Bool) (s : State) : Out :=
  confined s (if decide (cycPlus s.cyc 4096 = s.nextBoundary) && s.ready && decide (s.pstate 0 ≤ 1) then
    s.sampleAllowance vResMv vLoopMv vBusMv vBatMv pInUw pBaseUw busLimit else s)

/-- ALLOWANCE_DELIVERED (R188): the allowance of the next frame reaches its die. That of a die declared lost, or in
SLEEP, DEEP or OFF, lapses (R538, R540). -/
def execAllowanceDelivered (die : Nat) (s : State) : Out :=
  ifFitted s (decide (die < s.dies)) <|
    let a := s.pow.allowSent.look 0 die
    confined s (if a = 0 then s else
      let t : State := { s with pow := { s.pow with allowSent := s.pow.allowSent.store 0 die 0 } }
      if s.dieRuns die && !(s.die die).lost then t.setDie die { s.die die with allowNext := some (a - 1) } else t)

/-- GOVERNOR_FORCED (R526). -/
def execGovernorForced (vResMv : Nat) (s : State) : Out :=
  confined s (if !s.pow.govOn && decide (vResMv < 100 * s.vRsv) then
    ({ s with pow := { s.pow with govOn := true, forced := true } }).showGov else s)

-- the canteen

/-- Commit load in mW (R519). -/
def State.commitLoad (s : State) : Nat := if s.dies = 2 then 60 else if s.dies = 4 then 90 else 150

/-- The hold-up check passes (R519): ½ · C · (V_PF² − 3.2²) ≥ P · 60 µs, in units of 0.005 µJ. -/
def State.holdsUp (s : State) : Bool :=
  decide (12 * s.commitLoad ≤ s.cEff * (s.g K.sup_PF_LEVEL * s.g K.sup_PF_LEVEL - 1024))

/-- Every allowance is 0 (R519). -/
def State.dropAllowances (s : State) : State :=
  (List.range s.dies).foldl (fun t d =>
    (t.setDie d { t.die d with allowNow := 0, allowNext := some 0 }).p (K.die_ALLOW_LEFT d) 0)
    { s with pow := { s.pow with allowSent := [] } }

/-- The hold-up check (R519). -/
def State.checkHold (s : State) : State :=
  let serial := s.pow.holdSerial
  if s.holdsUp then
    if serial = 0 then s
    else
      ((({ s with pow := { s.pow with holdSerial := 0 } }).setSup ssHOLD_FAIL false).showGov).endFault serial 0 3 0 0x5006 []
  else if serial ≠ 0 then s
  else
    let s1 := s.declare 0 3 0 0x5006 []
    let s2 : State := { s1 with pow := { s1.pow with holdSerial := s.nextSerial 0, govOn := true } }
    ((s2.setSup ssHOLD_FAIL true).showGov).dropAllowances

/-- CANT_CMD written (R518, R540): the abort code is that of its range. A measurement that runs goes on (log entry 89).
-/
def State.cantCmd (s : State) (v : Nat) : State × Nat :=
  if v ≠ 1 then (s, abRange)
  else if s.pstate 0 ≠ 0 ∧ s.pstate 0 ≠ 1 then (s, abState)
  else if s.pow.measAt.isSome then (s, abNone)
  else ({ s with pow := { s.pow with measAt := some s.cyc } }.setSup ssCHARGING false, abNone)

/-- CANT_MEAS in µF of a fall of RES in µV: 10 µC divided by it, rounded to 1 µF (R518; the direction of rounding is
open, log entry 12). -/
def cantOf (dropUv : Nat) : Nat :=
  fitU 26 16 (if dropUv = 0 then Config.freeQuot 20 (10 ^ 7) else roundOpen 12 (10 ^ 7) dropUv)

/-- A measurement ends: CANT_MEAS, CANT_LOW and the hold-up check (R518 to R520). -/
def State.measureCant (s : State) (dropUv : Nat) : State :=
  let c := cantOf dropUv
  let s1 := { s with pow := { s.pow with measAt := none } }.p K.sup_CANT_MEAS c
  let low := decide (10 * c < 8 * s.g K.sup_CANT_C)
  let s2 := s1.setSup ssCANT_LOW low
  (if low then s2.evChip 0x5005 (leBytes 2 c) else s2).checkHold

/-- The discharge of a measurement has lasted its 24 576 cyc (R518). -/
def State.discharged (s : State) : Bool :=
  match s.pow.measAt with
  | none => false
  | some c => cycReached s.cyc (cycPlus c 24576)

/-- CANT_MEAS_DONE (R518 to R520). -/
def execCantMeasDone (dropUv : Nat) (s : State) : Out :=
  confined s (if s.discharged then s.measureCant dropUv else s)

-- rails

/-- Serial of a rail's standing fault. -/
def DieRt.rail (r : DieRt) : Rail → Nat | .vmain => r.railMain | .vcore => r.railCore
def DieRt.setRail (r : DieRt) (x : Rail) (v : Nat) : DieRt :=
  match x with | .vmain => { r with railMain := v } | .vcore => { r with railCore := v }
/-- Cycle of a rail's last excursion. -/
def DieRt.railAt (r : DieRt) : Rail → Nat | .vmain => r.mainAt | .vcore => r.coreAt
def DieRt.noteRail (r : DieRt) (x : Rail) (c : Nat) : DieRt :=
  match x with | .vmain => { r with mainAt := c } | .vcore => { r with coreAt := c }
def railNo : Rail → Nat | .vmain => 0 | .vcore => 1

/-- RAIL_EXCURSION (R521): no declaration while no source is present or while the fault stands; the ten seconds within
limits begin anew. -/
def execRailExcursion (die : Nat) (rail : Rail) (s : State) : Out :=
  ifFitted s (decide (die < s.dies)) <|
    confined s (
      let u := s.setDie die ((s.die die).noteRail rail s.cyc)
      if !s.powered || decide ((s.die die).rail rail ≠ 0) then u
      else
        let t := u.declare 0 3 0 0x5008 [die, railNo rail]
        t.setDie die ((t.die die).setRail rail (s.nextSerial 0)))

/-- Ten seconds in cycles (R521). -/
def railClearTime : Nat := 245760000

/-- RAIL_FAULT_CLEAR (R521): ten seconds after the last excursion. -/
def execRailFaultClear (die : Nat) (rail : Rail) (s : State) : Out :=
  ifFitted s (decide (die < s.dies)) <|
    let serial := (s.die die).rail rail
    confined s (if serial = 0 ∨ cycReached s.cyc (cycPlus ((s.die die).railAt rail) railClearTime) = false then s
      else (s.setDie die ((s.die die).setRail rail 0)).endFault serial 0 3 0 0x5008 [die, railNo rail])

-- entering and leaving power states

/-- The path engines, captures, lanes and ports of a die stop (R532, R538). -/
def State.stopPaths (s : State) (d : Nat) : State :=
  let s1 := (List.range 4).foldl (fun t k =>
    let r := t.path (4 * d + k)
    t.setPath (4 * d + k) { r with
      slot := { r.slot with live := false }, att := { r.att.dropCaps with live := false }, lane := [], laneBusy := false
      learnWait := [], refRun := none, slotDue := false, bufX := none, bufY := none }) s
  (List.range 8).foldl (fun t j => t.setPort (8 * d + j) { t.port (8 * d + j) with bursting := false, burst := none }) s1

/-- Its conversions are dropped without a result, and its scan ends (R532, R735). -/
def State.stopSense (s : State) (d : Nat) : State :=
  let s1 := (List.range 16).foldl (fun t k =>
    let c := 16 * d + k
    let u := t.setChan c { t.chan c with conv := none, rechain := false }
    if (t.chan c).rechain then (u.syncChain c).syncUsed d else u) s
  s1.setDie d { s1.die d with scanLeft := [], scanOn := false }

/-- A running calibration stays requested (R735). -/
def State.stopCal (s : State) (d : Nat) : State :=
  let r := s.die d
  if r.calRun = 0 then s
  else (s.setDie d { r with
    calFull := r.calFull || decide (r.calRun = 1), calQuick := r.calQuick || decide (r.calRun = 2) }).calIdle d

/-- A transparent March run stops with MARCH_STAT 5 (R477). -/
def State.stopMarch (s : State) (d : Nat) : State :=
  if (s.die d).march = 0 then s
  else ((s.setDie d { s.die d with march := 0, marchStop := false }).p (K.die_MARCH_STAT d) 5).bitTo (K.die_SRAM_STAT d)
    srMARCH_RUN false

/-- Pulse inputs of a die in DEEP or OFF count nothing: the next latch sets a new baseline (R538). -/
def State.stopPulses (s : State) (d : Nat) : State :=
  (List.range 4).foldl (fun t k => t.setPulse (4 * d + k) { t.pulse (4 * d + k) with latched := none, base := none }) s

/-- What stops on a die that enters SLEEP, DEEP or OFF (R477, R532, R538). -/
def State.stopDie (s : State) (d target : Nat) : State :=
  let s1 := (((s.stopPaths d).stopSense d).stopCal d).stopMarch d
  if target = 2 then s1 else s1.stopPulses d

/-- A die enters SLEEP, DEEP or OFF (R503, R532). -/
def State.enterState (s : State) (d target cause : Nat) : State :=
  let s0 := if d = 0 ∧ target ≠ 2 then s.stopFuses else s
  let s1 := (s0.stopDie d target).toPower d target cause
  let r := s1.die d
  let s2 := s1.setDie d { r with
    entry := none, reqAt := none, waking := none, deepCyc := if target = 3 then s.cyc else r.deepCyc
    up := r.up && decide (target ≠ 4), wdArmed := r.wdArmed && decide (target ≠ 4) && decide (d ≠ 0 ∨ target = 2) }
  let s3 := if target = 4 ∧ d ≠ 0 then s2.setLine d { s2.line d with up := false } else s2
  if d = 0 ∧ target ≠ 2 then { s3 with ready := false, framing := false } else s3

/-- D0 takes every follower that runs or sleeps to the same state before its own DEEP or OFF (R533). -/
def State.followersTo (s : State) (target cause : Nat) : State :=
  (List.range s.dies).foldl (fun t d =>
    if d ≠ 0 ∧ t.pstate d ≤ 2 ∧ (t.die d).up then t.enterState d target cause else t) s

/-- STATE of an originator's general firing (R400, R423). -/
def State.fireState (s : State) (o : Nat) : Nat := s.g (K.fire_FIRE_STAT o) / 2 ^ 13 % 8

/-- What defers an entry of D0 into DEEP or OFF (R534). -/
def State.mustStayUp (s : State) : Bool :=
  [0, 1, 2].any (fun o => decide (s.fireState o = 2) || decide (s.fireState o = 3)) ||
  decide (s.bill.queue ≠ []) || s.bill.unretired ||
  (List.range s.dies).any (fun d => decide ((s.store d).run ≠ []) || decide ((s.die d).march ≠ 0))

/-- A wake request of D0 is delivered later in this cycle (R536, R540). -/
def State.wakeComing (s : State) (d : Nat) : Bool :=
  decide (d = 0) && s.pending.any (fun c => match c with
    | .wakeCycCompare => decide (s.cyc = s.g K.sup_WAKE_CYC)
    | .hcsWake => true
    | .alarmDelivered => decide (0 < s.ember.alarms) && s.bit K.emb_EMBER_CFG 3
    | .wakeDelivered => decide (0 < s.ember.wakes) && s.bit K.emb_EMBER_CFG 0
    | _ => false)

/-- An entry of a die that is due: cancelled by a wake request since it was asked for (R540), deferred (R534), or made,
followers first (R533). -/
def State.tryEntry (s : State) (d : Nat) : State :=
  match (s.die d).entry with
  | none => s
  | some (target, cause) =>
    if (s.die d).wakeAt ≠ 0 ∨ s.wakeComing d then s.setDie d { s.die d with entry := none, reqAt := none }
    else if d = 0 ∧ 3 ≤ target then
      if s.mustStayUp then s else (s.followersTo target cause).enterState 0 target cause
    else s.enterState d target cause

/-- Deferred entries are tried again, followers first. -/
def State.settleEntries (s : State) : State :=
  ((List.range s.dies).reverse).foldl (fun t d => t.tryEntry d) s

/-- An entry is asked for: a wake request delivered in this cycle cancels it (R540). -/
def State.askEntry (s : State) (d target cause : Nat) : State :=
  if (s.die d).wakeAt = s.cyc + 1 then s
  else (s.setDie d { s.die d with entry := some (target, cause), wakeAt := 0 }).tryEntry d

/-- FIRMWARE_POWER_STATE_CHANGE (R533 to R535): only while PWR_REQ reads 0xFF; a follower's RUN is a wake. -/
def execFirmwarePowerStateChange (die state : Nat) (s : State) : Out :=
  ifFitted s (decide (die < s.dies)) <|
    if state = 1 ∨ 4 < state ∨ (die = 0 ∧ state = 0) then .next s
    else confined s
      (if s.g (K.sup_PWR_REQ die) ≠ 0xFF ∨ s.pstate 0 ≠ 0 ∨ (s.die die).lost then s
       else if state = 0 then (if 2 ≤ s.pstate die then s.wake die else s)
       else if s.pstate die < state then s.askEntry die state 0 else s)

/-- CORE_WAIT (R533): the core enters IDLE. -/
def execCoreWait (die : Nat) (s : State) : Out :=
  ifFitted s (decide (die < s.dies)) (confined s (if (s.die die).up && decide (s.pstate die = 0) then s.toPower die 1 0 else s))

/-- INTERRUPT_WAKE (R533, R537). -/
def execInterruptWake (die : Nat) (s : State) : Out :=
  ifFitted s (decide (die < s.dies)) (confined s (if s.pstate die ≤ 1 then s.wake die else s))

/-- WAKE_CYC_COMPARE (R536): IDLE and SLEEP. -/
def execWakeCycCompare (s : State) : Out :=
  confined s (if s.cyc = s.g K.sup_WAKE_CYC ∧ s.pstate 0 ≤ 2 then s.wake 0 else s)

/-- D0 leaves a state its PWR_REQ asked for: PWR_REQ0 reads 0xFF (R535). -/
def State.clearReq (s : State) (d old : Nat) : State :=
  if d = 0 ∧ 2 ≤ old then s.p (K.sup_PWR_REQ 0) 0xFF else s

/-- A waking die reaches RUN (R537). D0 leaves DEEP and OFF by a start or a lantern wake, a follower leaves OFF by its
own start. -/
def State.wakeDone (s : State) (d : Nat) : State :=
  let r := s.die d
  match r.waking with
  | none => s
  | some t =>
    let st := s.pstate d
    if !cycReached s.cyc t || decide (st = 4) || (decide (st = 3) && decide (d = 0)) then s
    else
      (((s.clearReq d st).setDie d { r with
        waking := none, runFrom := if 2 ≤ st then cycPlus s.cyc 96 else r.runFrom }).toPower d 0 2).driveGpio d

/-- WAKE_COMPLETE (R537): with D0 awake, frames that waited for it start. -/
def execWakeComplete (die : Nat) (s : State) : Out :=
  ifFitted s (decide (die < s.dies)) <|
    let t := s.wakeDone die
    confined s (if die = 0 ∧ s.pstate 0 = 2 ∧ t.transmitting then t.drain else t)

/-- HCS_WAKE (R536, R540, R644): in SLEEP and DEEP the frame is discarded. -/
def execHcsWake (s : State) : Out :=
  confined s (if s.pstate 0 ≤ 1 then s.wake 0
    else if s.pstate 0 = 2 ∨ s.pstate 0 = 3 then
      { s.wake 0 with host := { s.host with frameErr := true } }
    else s)

-- losing and regaining the supply

/-- SUPMODE enables a source (R513). Before a start has read the straps every source is taken as enabled. -/
def State.enables (s : State) (src : Source) : Bool :=
  !(s.die 0).up || (match src with
    | .loop => decide (s.g K.sup_SUPMODE ≠ 1)
    | .bus => decide (s.g K.sup_SUPMODE ≠ 0))

def PowRt.present (p : PowRt) : Source → Bool | .loop => p.loopOn | .bus => p.busOn
def srcNo : Source → Nat | .loop => 0 | .bus => 1

/-- Record whether a source is present (R511, R543). -/
def State.setSource (s : State) (src : Source) (b : Bool) : State :=
  match src with
  | .loop => { s with pow := { s.pow with loopOn := b } }.setSup ssLOOP_OK b
  | .bus => { s with pow := { s.pow with busOn := b } }.setSup ssBUS_OK b

/-- Ride-through begins (R346, R528). -/
def State.beginRide (s : State) : State :=
  let s1 : State := { s with pow := { s.pow with pinZero := true, rideFrom := s.cyc } }
  ((((s1.setSup ssRIDE true).inc K.sup_SUPPLY_LOSS_COUNT).setCal csOUTAGE true).evChip 0x5001 []).irq 5

/-- A source ceases (R528, R531); before a start is complete nothing is recorded but its absence and PERIOD_OUTAGE
(R366, R553). -/
def State.loseSource (s : State) (src : Source) : State :=
  if !s.pow.present src then s
  else
    let s1 := s.setSource src false
    if s1.powered then (s1.evChip 0x5007 [srcNo src]).irq 5
    else if s.ready then s1.beginRide else (s1.setSup ssRIDE true).setCal csOUTAGE true

/-- SOURCE_LOST (R528, R531). -/
def execSourceLost (src : Source) (s : State) : Out := confined s (s.loseSource src)

/-- Ride-through ends without a commit (R530). -/
def State.endRide (s : State) : State :=
  if s.sup ssRIDE && s.ready then
    (((s.setSup ssRIDE false).p K.sup_RIDE_CYC (cycDiff s.cyc s.pow.rideFrom)).evChip 0x5002 []).irq 5
  else s.setSup ssRIDE false

/-- A source is present again (R530): ride-through ends, or lantern metering ends and a start follows. -/
def State.gainSource (s : State) (src : Source) (vRes : Nat) : State :=
  if s.pow.present src || !s.enables src || decide (vRes < 100 * s.g K.sup_PF_LEVEL) then s
  else
    let s1 := s.setSource src true
    let s2 : State := { s1 with pow := { s1.pow with bleed := false } }
    let s3 := if (s.die 0).up then s2 else s2.setDie 0 ((s2.die 0).triggered 2)
    (if s.powered then s3 else s3.endRide).returnLantern

/-- SOURCE_PRESENT (R530). -/
def execSourcePresent (src : Source) (vResMv : Nat) (s : State) : Out := confined s (s.gainSource src vResMv)

/-- The boundary firing that is to start now (R409, R418, R451): the previous one has retired, the staging area is free
for a billing close, and no general commit is older. -/
def State.boundaryDue (s : State) : Option Boundary :=
  match s.bill.queue with
  | [] => none
  | b :: _ =>
    if b.start.isSome || s.bill.unretired || (b.billing && decide ((s.store 0).staging ≠ 0)) ||
      [0, 1, 2].any (fun o => decide (s.fireState o = 2) && decide ((s.fire o).commitAt ≠ some s.cyc)) then none
    else some b

/-- The boundary firing a power-fail commit seals: the one that is staged or committing. One that could not be staged
yet, and later ones, are found again by catch-up (R353, R418, R451). -/
def State.sealedBoundary (s : State) : List Boundary :=
  match s.bill.queue with
  | [] => []
  | b :: _ => match b.start, s.boundaryDue with
    | some _, _ => [b]
    | none, some b => [{ b with start := some s.cyc, applyAt := cycPlus s.cyc 129 }]
    | none, none => []

/-- A gather commit is cut off: it stays listed, and a copy that it was writing holds lines of two writes (R430, R437,
R454). -/
def StoreRt.cut (r : StoreRt) (d : Nat) : StoreRt :=
  { r with listed := r.listed ++ r.run.map (·.1), run := [], buf := [], queued := [], goals := []
           mixed := r.run.foldl (fun l e => match objAt d e.1 with
             | some o => insertNat (o.copy e.1) l
             | none => l) r.mixed }

/-- The stores at a power-fail commit (R454): commits in progress are abandoned and stay listed. -/
def StoreRt.failed (r : StoreRt) (d now : Nat) : StoreRt :=
  { r.cut d with pf := wrap32 (r.pf + 1), pfCyc := now, scrub := false }

/-- The journal seal step: the seal of a firing whose records are all written (R416, R453). -/
def State.sealJournal (s : State) (o : Nat) : State :=
  match (s.fire o).bank with
  | none => s
  | some n =>
    if (s.ledger.banks.look [] n).length = 1 + (s.fire o).pSlots then
      { s with ledger := { s.ledger with banks := s.ledger.banks.store [] n (s.journal o) } }
    else s

/-- The journal at a power-fail commit: what is written stays, and the seal step adds the seal of a general firing or
the boundary record and its seal (R418, R453). -/
def State.sealStep (s : State) : State :=
  let t := [0, 1, 2].foldl (fun t o => t.sealJournal o) s.journalStep
  match s.sealedBoundary with
  | [] => t
  | b :: _ => { t with bill := { t.bill with queue := [b] }, ledger := { t.ledger with bound := t.boundaryEntries b } }

/-- Worst-case terms of the power-fail commit in 0.01 µs, from the crossing of V_PF to the end of its last write:
filter, bus, greenware, guy-line freeze, BK records, journal seal, kiln-log entries, and the margin (R709). -/
def commitTerms : List Nat := [200, 30, 1042, 25, 2083, 130, 439, 51]

/-- The work of the power-fail commit (R327, R416, R418, R453, R454, R702). -/
def State.commitPowerFail (s : State) : State :=
  let lost := (List.range s.dies).foldl (fun n d => n + (s.die d).logQ.length) 0
  let t := s.sealStep.landLog.failLedger
  let s1 : State := { t.1 with
    pow := { s.pow with pfArmed := false, pfDone := true }
    bill := { t.1.bill with queue := s.sealedBoundary } }
  let s3 := (List.range s.dies).foldl (fun t d =>
    let u := if (t.die d).up then t.setStore d ((t.store d).failed d s.cyc) else t
    u.setDie d { u.die d with logQ := [], qdrop := false }) s1
  ((s3.p K.sup_RIDE_CYC (cycDiff s.cyc s.pow.rideFrom)).syncStore.accept
    { cyc := s.cyc, event := 0x5010, serial := 0, loc := 0, level := 2, kind := 0, src := 0, data := [t.2, lost] }).landLog

/-- Where the dies go after the commit (R528 steps 5 and 5′, R529). -/
def State.afterCommit (s : State) : State :=
  if s.bit K.lant_LANT_STAT lsARMED then
    let t := (s.followersTo 4 3).enterState 0 3 3
    { t with pow := { t.pow with bleed := true } }
  else (s.followersTo 3 3).enterState 0 3 3

/-- A source is present again later in this cycle (R540). -/
def State.sourceComing (s : State) : Bool :=
  s.pending.any (fun c => match c with
    | .sourcePresent x v => s.enables x && decide (100 * s.g K.sup_PF_LEVEL ≤ v)
    | _ => false)

/-- POWER_FAIL_COMMIT (R453, R528): armed, and no source present, nor present again in this cycle (R540). -/
def execPowerFailCommit (s : State) : Out :=
  booking s (if s.pow.pfArmed && !s.powered && !s.sourceComing && decide (s.pstate 0 ≤ 2) then s.commitPowerFail.afterCommit else s)

/-- VMAIN of D0 falls below its die POR: the bleed stops, ledger writes in progress are lost, the lantern rail connects
if lantern metering is armed, and with a source present D0 is reset (R454, R522, R529, R544). -/
def State.vmainLow (s : State) : State :=
  let t := { s.abandonLedger with pow := { s.pow with bleed := false } }.setSup ssLANT_RAIL
    (s.sup ssLANT_RAIL || s.bit K.lant_LANT_STAT lsARMED)
  if s.powered && (s.die 0).up then ({ t.setDie 0 ((t.die 0).triggered 3) with ready := false, framing := false }).syncLoop
  else t

/-- D0_VMAIN_LOW (R522, R529, R544). -/
def execD0VmainLow (s : State) : Out := booking s s.vmainLow

/-- Every die loses its power (R528 step 7, R553): nothing is logged, ledger writes in progress are lost (R454). -/
def State.allOff (s : State) : State :=
  let s1 := (List.range s.dies).foldl (fun t d =>
    let u := (t.stopDie d 4).p (K.sup_PWR_STATE d) 4
    (u.setDie d { u.die d with up := false, waking := none, entry := none, logQ := [], wdArmed := false }).setLine d
      { u.line d with up := false }) s.abandonLedger
  { s1 with ready := false, framing := false, pow := { s1.pow with pfArmed := false } }

/-- RES_BELOW_VREG (R528): without lantern metering. -/
def execResBelowVreg (s : State) : Out :=
  booking s (if s.powered || (s.bit K.lant_LANT_STAT lsARMED && s.pow.pfDone) then s else s.allOff)

end Sys2Proof.Machine
end

