-- ==== Sys2Proof/Machine/GuyLine.lean ====
section
/-! DEFINITION. Guy lines (R482 to R498, R502): frames, acknowledgements and repeats, resynchronisation and die loss,
cycle checks, counters, and responses of followers to D0's requests. -/

namespace Sys2Proof.Machine

def LineRt.lane (r : LineRt) : Lane → LaneRt | .out => r.outward | .inward => r.inward
def LineRt.setLane (r : LineRt) (x : Lane) (v : LaneRt) : LineRt :=
  match x with | .out => { r with outward := v } | .inward => { r with inward := v }

/-- The die is a follower of the part. -/
def State.isFollower (s : State) (d : Nat) : Bool := decide (0 < d) && decide (d < s.dies)

/-- The die at the sending end of a lane, and at its receiving end. -/
def sendDie (d : Nat) : Lane → Nat | .out => 0 | .inward => d
def recvDie (d : Nat) : Lane → Nat | .out => d | .inward => 0

/-- Both ends of a lane are powered, and the sending end's port runs (R532). -/
def State.laneRuns (s : State) (d : Nat) (x : Lane) : Bool :=
  (s.line d).up && decide (s.pstate (sendDie d x) ≤ 1) && decide (s.pstate (recvDie d x) ≤ 2)

/-- Bits of LINK_STAT (R510). -/
abbrev lkFREE_ZERO : Nat := 0
abbrev lkFLUSHED : Nat := 1
abbrev lkCRC_SEEN : Nat := 2
abbrev lkLINK_FAIL : Nat := 3
abbrev lkDIE_LOST : Nat := 4

/-- STATE of LINK_STAT: 0 absent, 1 down, 2 resynchronising, 3 up. -/
def State.setLink (s : State) (d v : Nat) : State := s.p (K.die_LINK_STAT d) (setField (s.g (K.die_LINK_STAT d)) 6 5 v)

-- frames

/-- Beats of a frame of n words, and its frame length (R484). -/
def frameBeats (n : Nat) : Nat := if n = 2 then 11 else 7

/-- Words of the sending end's FIFO that can be read in a cycle: all but those written in it (R483). -/
def LaneRt.ready (l : LaneRt) (now : Nat) : List (Nat × Nat) :=
  if l.txAt = now + 1 then l.tx.take (l.tx.length - l.txNew) else l.tx

/-- Words of the next frame of a lane: two when its FIFO holds two of one KIND (R486; log entry 25). -/
def LaneRt.nextWords (l : LaneRt) (now : Nat) : Nat :=
  match l.ready now with
  | [] => 0
  | [_] => 1
  | a :: b :: _ => if a.1 = b.1 then 2 else 1

/-- A lane starts a frame, where FREE shows room (R486 to R488, R490). -/
def LaneRt.start (l : LaneRt) (now : Nat) : LaneRt :=
  let n := l.nextWords now
  { l with
    flight := some ((l.tx.headD (0, 0)).1, (l.tx.take n).map (·.2), 1, cycPlus now (frameBeats n - 1))
    tx := l.tx.drop n, seq := (l.seq + 1) % 32 }

/-- The sender knows of room for n words (R487). -/
def LaneRt.room (l : LaneRt) (n : Nat) : Bool := decide (n ≤ l.free)

/-- The frame strobe of a lane is high: a frame's beats are on it (R484). -/
def LaneRt.strobe (l : LaneRt) (now : Nat) : Bool :=
  match l.flight with
  | none => false
  | some (_, words, _, e) => cycReached e now && decide (cycDiff e now < frameBeats words.length)

/-- While a lane's strobe is low its data lines carry FREE to the sender of the other lane (R487). -/
def LineRt.showFree (r : LineRt) (now : Nat) : LineRt :=
  let seen (other l : LaneRt) : LaneRt := if other.strobe now then l else { l with free := 16 - l.rx.length }
  { r with outward := seen r.inward r.outward, inward := seen r.outward r.inward }

/-- A frame starts, or its sender waits for room (R487, R510). -/
def State.startLane (s : State) (d : Nat) (x : Lane) : State :=
  let r := s.line d
  let l := r.lane x
  if !s.laneRuns d x || l.flight.isSome || decide (l.ready s.cyc = []) || !cycReached s.cyc l.idleFrom then s
  else if l.room (l.nextWords s.cyc) then
    (s.setLine d (r.setLane x (l.start s.cyc))).bitTo (K.die_LINK_STAT d) lkFREE_ZERO false
  else s.bitTo (K.die_LINK_STAT d) lkFREE_ZERO true

/-- GL_FRAME_START (R486, R487). -/
def execGlFrameStart (die : Nat) (lane : Lane) (s : State) : Out :=
  ifFitted s (s.isFollower die) (confined s (s.startLane die lane))

/-- A received frame: KIND, SEQ and words; none where its length, its KIND or its CRC is wrong (R484, R485). The first
beat of a word is its lowest byte (log entry 25). -/
def frameOf (beats : List Nat) : Option (Nat × Nat × List Nat) :=
  let h := beats.headD 0
  let n := if bitAt h 5 then 2 else 1
  let body := beats.take (1 + 4 * n)
  let crc := beats.getD (1 + 4 * n) 0 * 256 + beats.getD (2 + 4 * n) 0
  if beats.length ≠ frameBeats n ∨ field h 7 6 = 3 ∨ crc ≠ crc16 body then none
  else some (field h 7 6, field h 4 0, (List.range n).map (fun i => leAt body (1 + 4 * i) 4))

/-- A frame with a bad CRC is discarded (R485). -/
def State.badFrame (s : State) (d : Nat) (x : Lane) : State :=
  ((s.inc (K.die_CRC_ERR_COUNT d)).bitTo (K.die_LINK_STAT d) lkCRC_SEEN true).onceEv d (recvDie d x) 2 d 0x6010 []

/-- A good frame: its words are placed, or dropped when its SEQ repeats the last, and the acknowledge line toggles
(R488, R490). -/
def LaneRt.take (l : LaneRt) (seq : Nat) (words : List Nat) : LaneRt :=
  if l.lastSeq = some seq then { l with ackDue := true }
  else if l.rx.length + words.length ≤ 16 then { l with rx := l.rx ++ words, lastSeq := some seq, ackDue := true }
  else l

/-- A frame wakes the die it reaches from SLEEP, and D0 from IDLE too (R536). -/
def State.wakeByLine (s : State) (d : Nat) (x : Lane) : State :=
  let e := recvDie d x
  if s.pstate e = 2 ∨ (e = 0 ∧ s.pstate 0 = 1) then s.wake e else s

/-- The cycle after the last CRC beat of the frame in flight (R488). -/
def LaneRt.arrives (l : LaneRt) (now : Nat) : Bool :=
  match l.flight with
  | none => false
  | some (_, _, _, e) => decide (now = cycPlus e 1)

/-- The frame in flight arrives at the end of a lane. -/
def State.receiveFrame (s : State) (d : Nat) (x : Lane) (beats : List Nat) : State :=
  let r := s.line d
  if !r.up || !(r.lane x).arrives s.cyc || decide (3 ≤ s.pstate (recvDie d x)) then s
  else
    let t := s.wakeByLine d x
    match frameOf beats with
    | none => t.badFrame d x
    | some (_, seq, words) => t.setLine d (r.setLane x ((r.lane x).take seq words))

/-- GL_FRAME_RECEIVED (R485, R488, R490). -/
def execGlFrameReceived (die : Nat) (lane : Lane) (beats : List Nat) (s : State) : Out :=
  ifFitted s (s.isFollower die) <|
    if beats.any (fun b => decide (256 ≤ b)) then .next s
    else confined s (s.receiveFrame die lane beats)

/-- A toggle delivered in cycles L + 1 to L + 8 completes the transfer; any other is ignored (R488 to R490). -/
def LaneRt.toggled (l : LaneRt) (now : Nat) : LaneRt :=
  match l.flight with
  | none => { l with ackDue := false }
  | some (_, _, _, e) =>
    if cycReached now (cycPlus e 1) && cycReached (cycPlus e 8) now then
      { l with ackDue := false, flight := none, idleFrom := cycPlus now 1 }
    else { l with ackDue := false }

/-- GL_ACK_TOGGLE (R488). -/
def execGlAckToggle (die : Nat) (lane : Lane) (s : State) : Out :=
  ifFitted s (s.isFollower die) <|
    let r := s.line die
    confined s (if r.up && (r.lane lane).ackDue then
      s.setLine die (r.setLane lane ((r.lane lane).toggled s.cyc)) else s)

-- requests of D0

/-- A stage that its follower did not acknowledge is rejected: the firing stays open without it (R408, R415). -/
def State.unstage (s : State) (w : FollowWait) : State :=
  let o := origNo w.who
  let f := s.fire o
  if !w.stage || decide (s.fireState o ≠ 1) then s
  else match indexOf (fun g => g.key == w.key) f.stages.reverse with
    | none => s
    | some i =>
      let k := f.stages.length - 1 - i
      let n := (f.stages.getD k { key := 0, data := [], slots := 0, cyc := 0, persistent := false }).slots
      (s.setFire o { f with stages := f.stages.eraseIdx k, stageRej := true }).ps
        [(K.fire_LAST_REJECT o, abFollow), (K.fire_FIRE_STAT o, s.g (K.fire_FIRE_STAT o) - n),
          (K.fire_GREEN_FREE, s.g K.fire_GREEN_FREE + n)]

/-- A data frame of the lane, KIND 0, is being repeated (R484, R489); requests travel in such frames (DEDUCED, log entry
85). -/
def LaneRt.repeating (l : LaneRt) : Bool :=
  match l.flight with
  | some (kind, _, tries, _) => decide (kind = 0) && decide (1 < tries)
  | none => false

/-- Outstanding repeats of a lane are cancelled: the frame being repeated leaves it (R44, R492). -/
def LaneRt.cancelRepeats (l : LaneRt) : LaneRt := if l.repeating then { l with flight := none, ackDue := false } else l

/-- An access that waited for a follower fails (R492, R495). -/
def State.failWait (s : State) (w : FollowWait) : State := (s.unstage w).answer w.who abFollow []

/-- Requests outstanding on a line end, as on expiry under R492 (R495): their accesses are aborted. -/
def State.endWaits (s : State) (d : Nat) : State :=
  (s.line d).waits.foldl (fun t w => t.failWait w) (s.setLine d { s.line d with waits := [] })

/-- Another line still waits for the same access (R733). -/
def State.stillWaits (s : State) (w : FollowWait) : Bool :=
  (List.range s.dies).any (fun d => (s.line d).waits.any (fun v => decide (v.key = w.key) && decide (v.who = w.who)))

/-- The other lines wait no more for an access that has been answered. -/
def State.dropWaits (s : State) (w : FollowWait) : State :=
  (List.range s.dies).foldl (fun t d => t.setLine d { t.line d with
    waits := (t.line d).waits.filter (fun v => !(decide (v.key = w.key) && decide (v.who = w.who))) }) s

/-- A response of a follower (R45, R492, R733): the oldest access is answered, or a late response is discarded. -/
def State.followerAnswers (s : State) (d : Nat) : State :=
  let r := s.line d
  match r.late, r.waits with
  | serial :: rest, _ => (s.setLine d { r with late := rest }).react 0 2 d 0x6015 serial []
  | [], w :: rest =>
    let s1 := s.setLine d { r with waits := rest }
    if s1.stillWaits w then s1 else s1.answer w.who w.abort w.data
  | [], [] => s

/-- FOLLOWER_RESPONSE (R733). -/
def execFollowerResponse (die : Nat) (s : State) : Out :=
  ifFitted s (s.isFollower die) (confined s (if (s.line die).up then s.followerAnswers die else s))

/-- Commands that wait for the current cycle and deliver a response of the follower to its oldest request: those beyond
the late ones that are still to come (R37). -/
def State.responseComing (s : State) (d : Nat) : Bool :=
  decide ((s.line d).late.length < s.pending.countP (fun i => decide (i = .followerResponse d)))

/-- The oldest request of a line has waited FOLLOW_TMO (R37, R44, R492, R707). A repeat of D0's frame on the line is
cancelled with it: the frame in flight is not sent again. -/
def State.followerLate (s : State) (d : Nat) : State :=
  let r := s.line d
  match r.waits with
  | [] => s
  | w :: rest =>
    if !cycReached s.cyc w.exp || (decide (s.cyc = w.exp) && s.responseComing d) then s
    else
      let serial := s.nextSerial 0
      let s1 := s.declare 0 3 0 0x6013 ([d] ++ leBytes 2 (w.key / 256) ++ [w.key % 256])
      let s2 := s1.setLine d { s1.line d with
        waits := rest, late := r.late ++ [serial], outward := r.outward.cancelRepeats }
      ((s2.react 0 2 d 0x6014 serial [b01 r.outward.repeating]).dropWaits w).failWait w

/-- FOLLOW_TMO_EXPIRY (R492). -/
def execFollowTmoExpiry (die : Nat) (s : State) : Out := ifFitted s (s.isFollower die) (confined s (s.followerLate die))

-- die loss

/-- A follower is declared lost (R496, R502, R556): PHASE 3 and FAIL_CAUSE of START_STAT. -/
def State.loseDie (s : State) (d cause : Nat) : State :=
  if (s.die d).lost then s
  else
    let s1 := (s.declare 0 3 0 0x6020 [cause, d]).stopDie d 3
    let s2 := s1.setDie d { s1.die d with up := false, lost := true, lossSerial := s.nextSerial 0, lossCause := cause }
    let s3 := s2.setLine d { s2.line d with
      up := false, step := 0
      retryAt := if cause = 1 ∨ cause = 2 ∨ cause = 7 then some (cycPlus s.cyc cycPerSecond) else none }
    let s4 := ((s3.setLink d 1).bitTo (K.die_LINK_STAT d) lkDIE_LOST true).p (K.die_START_STAT d)
      (setField (setField (s3.g (K.die_START_STAT d)) 7 5 cause) 1 0 3)
    s4.endWaits d

-- resynchronisation

/-- Words an end has in the two FIFOs of a line at its end (R493). -/
def LineRt.held (r : LineRt) : LineEnd → Nat
  | .d0 => r.outward.tx.length + r.inward.rx.length
  | .follower => r.inward.tx.length + r.outward.rx.length

/-- An end sets its FIFOs' pointers to 0 (R493). -/
def LineRt.discard (r : LineRt) : LineEnd → LineRt
  | .d0 => { r with outward := { r.outward with tx := [], flight := none }, inward := { r.inward with rx := [], free := 16 } }
  | .follower =>
    { r with inward := { r.inward with tx := [], flight := none }, outward := { r.outward with rx := [], free := 16 } }

/-- Count discarded words (R495). -/
def State.flush (s : State) (d n : Nat) : State :=
  let s1 := s.setLine d { s.line d with flushed := (s.line d).flushed + n }
  if n = 0 then s1
  else (s1.addTo (K.die_FLUSH_COUNT d) n).bitTo (K.die_LINK_STAT d) lkFLUSHED true

/-- D0 discards the words at its end; requests outstanding on the line end (R493, R495). -/
def State.flushD0 (s : State) (d : Nat) : State :=
  let n := (s.line d).held .d0
  ((s.setLine d ((s.line d).discard .d0)).flush d n).endWaits d

/-- A handshake begins at an end (R493, R496); no late response comes over it any more; while the follower's own runs,
D0 answers as the other end (R494). The follower's discarded words are counted when its SYNC frame reports them. -/
def State.beginResync (s : State) (d : Nat) (e : LineEnd) : State :=
  let r := s.line d
  let first := if r.step ≠ 0 ∧ r.first = .follower then LineEnd.follower else e
  let s1 := s.setLine d { r.discard first with
    up := false, first := first, step := 1, began := s.cyc, syncAt := s.cyc, flushed := 0, late := [] }
  let s2 := (s1.inc (K.die_RESYNC_COUNT d)).setLink d 2
  if first = .d0 then s2.flush d (r.held .d0) |>.endWaits d else s2

/-- SYNC_REQ arrives at the other end, which discards its words and sends SYNC_ACK (R493 to R495). `n` is what the
follower reports. -/
def State.syncReq (s : State) (d : Nat) (e : LineEnd) (n : Nat) : State :=
  let r := s.line d
  match e with
  | .follower =>
    if r.step = 0 ∨ r.first = .follower then s
    else s.setLine d { r.discard .follower with step := max r.step 2, syncAt := s.cyc }
  | .d0 =>
    let s1 := if r.step = 0 ∨ r.first = .d0 then
        ((s.setLine d { r with
          up := false, first := .follower, began := if r.step = 0 then s.cyc else r.began, late := []
          flushed := if r.step = 0 then 0 else r.flushed }).setLink d 2)
      else s
    let s2 := if r.step = 0 then s1.inc (K.die_RESYNC_COUNT d) else s1
    if 2 ≤ r.step ∧ r.first = .follower then s
    else
      let s3 := (s2.flush d n).flushD0 d
      s3.setLine d { s3.line d with step := 2, syncAt := s.cyc }

/-- SYNC_ACK arrives at the first end, which sends SYNC_DONE; SEQ restarts (R493, R495). -/
def State.syncAck (s : State) (d : Nat) (e : LineEnd) (n : Nat) : State :=
  let r := s.line d
  if r.step ≠ 2 ∨ r.first ≠ e then s
  else
    let fresh (l : LaneRt) : LaneRt := { l with seq := 0, lastSeq := none, flight := none, ackDue := false }
    let s1 := s.setLine d { r with outward := fresh r.outward, inward := fresh r.inward, step := 3, syncAt := s.cyc }
    if e = .d0 then s1.flush d n else s1

/-- SYNC_DONE arrives at the other end: traffic resumes, and the line fault ends (R493, R495, R496, R508). A lost die is
started cold next. -/
def State.syncDone (s : State) (d : Nat) (e : LineEnd) : State :=
  let r := s.line d
  if r.step ≠ 3 ∨ r.first = e then s
  else
    let data := leBytes 2 (r.flushed % 65536)
    let s1 := ((s.setLine d { r with up := true, step := 0, serial := 0
                                     retryAt := if (s.die d).lost then some s.cyc else none }).setLink d 3).bitTo
      (K.die_LINK_STAT d) lkLINK_FAIL false
    if r.serial = 0 then s1.ev 0 2 d 0x6012 data else s1.endFault r.serial (r.serial / 2 ^ 29) 2 d 0x6012 data

/-- SYNC_REQ_RECEIVED (R493 to R495). -/
def execSyncReqReceived (die : Nat) (at_ : LineEnd) (flushed : Nat) (s : State) : Out :=
  ifFitted s (s.isFollower die) (confined s (s.syncReq die at_ flushed))

/-- SYNC_ACK_RECEIVED (R493, R495). -/
def execSyncAckReceived (die : Nat) (at_ : LineEnd) (flushed : Nat) (s : State) : Out :=
  ifFitted s (s.isFollower die) (confined s (s.syncAck die at_ flushed))

/-- SYNC_DONE_RECEIVED (R493). -/
def execSyncDoneReceived (die : Nat) (at_ : LineEnd) (s : State) : Out :=
  ifFitted s (s.isFollower die) (confined s (s.syncDone die at_))

/-- The end whose SYNC frame waits for its answer. -/
def LineRt.syncSender (r : LineRt) : LineEnd :=
  if r.step = 2 then (match r.first with | .d0 => .follower | .follower => .d0) else r.first

/-- SYNC_FRAME_REPEAT: an end repeats its unanswered SYNC frame every 32 cyc (R493). -/
def execSyncFrameRepeat (die : Nat) (at_ : LineEnd) (s : State) : Out :=
  ifFitted s (s.isFollower die) <|
    let r := s.line die
    confined s (if r.step ≠ 0 ∧ r.syncSender = at_ ∧ cycReached s.cyc (cycPlus r.syncAt 32) then
      s.setLine die { r with syncAt := s.cyc } else s)

/-- The SYNC_DONE that ends a handshake is delivered by a command that waits for the current cycle (R37). -/
def State.doneComing (s : State) (d : Nat) : Bool :=
  let r := s.line d
  decide (r.step = 3) && s.pending.any (fun i => match i with
    | .syncDoneReceived e x => decide (e = d) && decide (x ≠ r.first)
    | _ => false)

/-- A handshake has not completed within 1 ms (R37, R496). -/
def State.resyncLate (s : State) (d : Nat) : State :=
  let r := s.line d
  let e := cycPlus r.began 24576
  if r.step = 0 ∨ !cycReached s.cyc e ∨ (s.cyc = e ∧ s.doneComing d) then s
  else if (s.die d).lost then (s.setLine d { r with step := 0 }).setLink d 1
  else s.loseDie d 1

/-- RESYNC_TIMEOUT (R496). -/
def execResyncTimeout (die : Nat) (s : State) : Out := ifFitted s (s.isFollower die) (confined s (s.resyncLate die))

/-- RESYNC_RETRY: once a second D0 begins the handshake with a die lost by it (R496). -/
def execResyncRetry (die : Nat) (s : State) : Out :=
  ifFitted s (s.isFollower die) <|
    let r := s.line die
    confined s (match r.retryAt with
      | none => s
      | some t =>
        if (s.die die).lost && decide ((s.die die).lossCause = 1) && decide (r.step = 0) && !r.up && cycReached s.cyc t then
          (s.setLine die { r with retryAt := some (cycPlus s.cyc cycPerSecond) }).beginResync die .d0
        else s)

-- repeats

/-- A general firing's commit has been broadcast and its apply cycle lies ahead (R415). -/
def State.scheduledFiring (s : State) : Bool := [0, 1, 2].any (fun o => decide (s.fireState o = 3))

/-- The line fails (R491): declared by the sending die; after a commit broadcast the follower is lost (R415). -/
def State.failLine (s : State) (d : Nat) (x : Lane) : State :=
  let src := sendDie d x
  let s1 := s.declare src 2 d 0x6011 []
  let s2 := (s1.setLine d { s1.line d with serial := s.nextSerial src }).bitTo (K.die_LINK_STAT d) lkLINK_FAIL true
  let s3 := s2.beginResync d (match x with | .out => .d0 | .inward => .follower)
  if s.scheduledFiring then s3.loseDie d 1 else s3

/-- The acknowledgement of a frame has not come within 8 cyc: the frame is repeated, or the line fails (R37, R489,
R491). -/
def State.ackLate (s : State) (d : Nat) (x : Lane) : State :=
  let r := s.line d
  let l := r.lane x
  match l.flight with
  | none => s
  | some (kind, words, tries, e) =>
    let coming := decide (s.cyc = cycPlus e 8) && l.ackDue && decide (.glAckToggle d x ∈ s.pending)
    if !r.up || !cycReached s.cyc (cycPlus e 8) || coming then s
    else if 4 ≤ tries then s.failLine d x
    else
      (s.setLine d (r.setLane x { l with
        flight := some (kind, words, tries + 1, cycPlus e (8 + frameBeats words.length)) })).inc (K.die_RETRY_COUNT d)

/-- GL_ACK_TIMEOUT (R489, R491). -/
def execGlAckTimeout (die : Nat) (lane : Lane) (s : State) : Out :=
  ifFitted s (s.isFollower die) (confined s (s.ackLate die lane))

-- cycle checks and counters

/-- Put words into a lane's FIFO at its sending end, as far as it has room (R483). -/
def State.putWords (s : State) (d : Nat) (x : Lane) (kind : Nat) (words : List Nat) : State :=
  let r := s.line d
  let l := r.lane x
  if l.tx.length + words.length ≤ 16 then
    s.setLine d (r.setLane x { l with
      tx := l.tx ++ words.map (fun w => (kind, w)), txAt := s.cyc + 1
      txNew := if l.txAt = s.cyc + 1 then l.txNew + words.length else words.length })
  else s

/-- CYC_CHECK_SEND: a follower in RUN sends its CYC in a control frame (R502). -/
def execCycCheckSend (die : Nat) (s : State) : Out :=
  ifFitted s (s.isFollower die) <|
    confined s (if (s.die die).up && decide (s.pstate die = 0) && (s.line die).up && decide (s.cyc % 2 ^ 24 = 0) then
      (s.setLine die { s.line die with cycSent := some s.cyc }).putWords die .inward 2
        [s.cyc % two32, s.cyc / two32]
    else s)

/-- D0 compares a follower's CYC with its own of the same moment (R502). -/
def State.checkCyc (s : State) (d value : Nat) : State :=
  match (s.line d).cycSent with
  | none => s
  | some c =>
    let s1 := (s.setLine d { s.line d with cycSent := none }).inc (K.die_CYC_CHECK_COUNT d)
    if value = c then s1 else s1.loseDie d 2

/-- CYC_CHECK_RECEIVED (R501, R502). -/
def execCycCheckReceived (die value : Nat) (s : State) : Out :=
  ifFitted s (s.isFollower die) (confined s (if (s.line die).up then s.checkCyc die value else s))

/-- A follower sends its counters: D0's copies show what they hold (R497, R498). -/
def State.sendCounters (s : State) (d : Nat) : State :=
  if (s.line d).up && decide (s.pstate d ≤ 2) then
    { s.setLine d { s.line d with countAt := s.cyc } with lag := s.lag.filter (fun e => decide (keyDie e.1 ≠ d)) }
  else s

/-- COUNTER_SEND (R498). -/
def execCounterSend (die : Nat) (s : State) : Out := ifFitted s (s.isFollower die) (confined s (s.sendCounters die))

/-- Counters are sent at least once in every 24 576 000 cyc (R498). -/
def State.countersDue (s : State) : State :=
  (List.range s.dies).foldl (fun t d =>
    if t.isFollower d && cycReached t.cyc (cycPlus (t.line d).countAt cycPerSecond) then t.sendCounters d else t) s

/-- One cycle of the readers (R27, R483): each follower's agent takes a word, and the chip arbiter one of D0's inbound
FIFOs in turn; absent followers and followers in OFF cost no grant. -/
def State.readLines (s0 : State) : State :=
  let s := (List.range s0.dies).foldl (fun t d =>
    if (t.line d).up then t.setLine d ((t.line d).showFree t.cyc) else t) s0.countersDue
  let s1 := (List.range s.dies).foldl (fun t d =>
    let r := t.line d
    if r.outward.rx = [] ∨ 2 ≤ t.pstate d then t
    else t.setLine d { r with outward := { r.outward with rx := r.outward.rx.drop 1 } }) s
  let order := (List.range s.dies).map (fun i => (s.arbiter + i) % s.dies)
  match order.find? (fun d => decide (d ≠ 0) && decide ((s1.line d).inward.rx ≠ []) && decide (s.pstate d ≠ 4)) with
  | none => s1
  | some d =>
    let r := s1.line d
    { s1.setLine d { r with inward := { r.inward with rx := r.inward.rx.drop 1 } } with arbiter := (d + 1) % s.dies }

end Sys2Proof.Machine
end

