-- ==== Sys2Proof/Machine/Checks.lean ====
section
/-! DEFINITION. The checks of a write of a dictionary entry (R42, R50 to R52, R408, R621): length, range, saggar caps,
state, relations between entries, and the seal. Each answers an abort code, 0 for a pass. -/

namespace Sys2Proof.Machine

/-- The first abort code of a list of checks. -/
def firstAbort : List Nat → Nat
  | [] => 0
  | a :: r => if a = 0 then firstAbort r else a

/-- An abort code where a condition holds. -/
def abIf (c : Bool) (a : Nat) : Nat := if c then a else 0

/-- The index and the resource number of a key. -/
def ixOf (key : Nat) : Nat := key / 256
def subOf (key : Nat) : Nat := key % 256

/-- Put a written value into its entry, without anything that follows from it. -/
def State.putRaw (s : State) (key : Nat) (data : List Nat) : State :=
  match findRow key with
  | some r =>
    if tyBytes r.ty ≠ 0 then
      (if isLedKey key then s.pLed key (leNat data) else s.p key (leNat data))
    else { s with blobs := s.blobs.store [] key data }
  | none => s

-- length (R50, R51)

def lengthCheck (r : Row) (n : Nat) : Nat :=
  match r.ty with
  | .dom lo hi step => if hi < n then abLong else if n < lo ∨ (n - lo) % step ≠ 0 then abShort else abNone
  | t => if tyBytes t < n then abLong else if n < tyBytes t then abShort else abNone

-- range

/-- The range column of a row. -/
def Rng.holds (g : Rng) (v : Int) : Bool :=
  match g with
  | .any => true
  | .within lo hi => decide (lo ≤ v) && decide (v ≤ hi)
  | .withinOr lo hi o => (decide (lo ≤ v) && decide (v ≤ hi)) || decide (v = o)
  | .w1c _ => true

/-- MONTH and DAY of R335: February counts 29 days. -/
def monthDayOk (m d : Nat) : Bool :=
  decide (1 ≤ m) && decide (m ≤ 12) && decide (1 ≤ d) && decide (d ≤ if m = 2 then 29 else lastDay 1 m)

/-- SET_CAL as R378 states it. -/
def State.setCalOk (s : State) (v : Nat) : Bool :=
  let f := calFields v
  (List.range 14).all (fun i => decide (field v (4 * i + 3) (4 * i) ≤ 9)) && decide (field v 47 40 ≤ 0x12) &&
    decide (field v 39 32 ≤ 0x31) && decide (field v 23 16 ≤ 0x29) && decide (field v 15 8 ≤ 0x59) &&
    decide (field v 7 0 ≤ 0x59) && decide (field v 31 24 ≤ 7) &&
    (decide (s.g K.emb_RTC_MODE ≠ 0) || decide (calWord (binFields (secOf f)) = v % 2 ^ 56))

/-- A day profile's COUNT and switch points (R335): those the value carries. -/
def dayProfOk (data : List Nat) : Bool :=
  let n := data.getD 0 0
  decide (n ≤ 12) && (List.range (min n ((data.length - 2) / 2))).all (fun k =>
    let w := leAt data (2 + 2 * k) 2
    decide (1 ≤ field w 15 12) && decide (field w 15 12 ≤ 8) && decide (field w 10 0 ≤ 1439))

/-- Transmission types of R617. -/
def pdoTypeOk (v : Nat) : Bool := decide (v ≤ 240) || decide (254 ≤ v)

/-- A COB-ID write of a PDO (R616): bit 29, or changed bits [10:0] while the PDO is valid. -/
def State.cobOk (s : State) (key v : Nat) : Bool :=
  !bitAt v 29 && (bitAt (s.g key) 31 || decide (v % 2048 = s.g key % 2048))

/-- Values of PWR_REQ (R535). -/
def pwrReqOk (d v : Nat) : Bool := v ∈ [2, 3, 4, 0xFF] || (decide (d ≠ 0) && decide (v = 0))

/-- An index lies among the communication parameters of the PDOs, or among their mappings. -/
def isPdoComm (i : Nat) : Bool := (decide (0x1400 ≤ i) && decide (i < 0x1408)) || (decide (0x1800 ≤ i) && decide (i < 0x1810))
def isPdoMap (i : Nat) : Bool := (decide (0x1600 ≤ i) && decide (i < 0x1608)) || (decide (0x1A00 ≤ i) && decide (i < 0x1A10))

/-- Ranges that a rule states beyond the type's row. -/
def State.rangeOk (s : State) (key : Nat) (data : List Nat) : Bool :=
  let v := leNat data
  let i := ixOf key
  let j := subOf key
  if 0x2001 ≤ i ∧ i ≤ 0x2008 then
    if 0x41 ≤ j ∧ j ≤ 0x44 then decide (field v 35 4 < s.g K.dev_FRAME_LEN)
    else if 0xB1 ≤ j ∧ j ≤ 0xB4 then decide (field v 4 3 ≠ 3)
    else true
  else if 0x2200 ≤ i ∧ i < 0x2208 ∧ j = 1 then decide (v < 2 ^ s.nPaths)
  else if 0x2300 ≤ i ∧ i < 0x2380 ∧ j = 1 then decide (v ≠ 3)
  else if i = 0x2400 ∧ 1 ≤ j ∧ j ≤ 32 then
    decide (1 ≤ field v 6 0) && decide (field v 6 0 ≤ 100) && decide (piSect v < s.nSects)
  else if i = 0x2400 ∧ 33 ≤ j ∧ j ≤ 64 then decide (v ≤ 10 ^ 12)
  else if i = 0x2700 then
    if j = 2 then v ∈ [1, 2, 3, 4, 5, 6, 10, 12, 15, 20, 30, 60]
    else if 6 ≤ j ∧ j ≤ 9 then monthDayOk (field v 15 12) (field v 4 0)
    else if 18 ≤ j ∧ j ≤ 33 then dayProfOk data
    else if 34 ≤ j ∧ j ≤ 97 then monthDayOk (field v 19 16) (field v 15 11) && decide (field v 29 23 ≤ 99)
    else true
  else if key = K.emb_SET_BIN then decide (v < rtcOverflow)
  else if key = K.emb_SET_CAL then s.setCalOk v
  else if key = K.emb_XCHK_CMD then
    decide (s.g K.emb_XCHK_STAT ≠ 1) && !s.ember.reqs.any (fun r => r.write && decide (r.key = K.emb_XCHK_CMD))
  else if key = K.loop_LOOP_SET then decide (field v 17 16 ≠ 3) && decide (v < 2 ^ 18)
  else if i = 0x3000 ∧ 32 ≤ j ∧ j ≤ 39 then pwrReqOk (j - 32) v
  else if i = 0x2A00 ∧ 1 ≤ j ∧ j ≤ 3 then decide (1 ≤ v % 16) && decide (v % 16 ≤ 3)
  else if key = K.sec_BLOB_OFS then v ∈ [0, 1024, 2048, 3072]
  else if key = K.sec_OEM_HASH then s.oemSet || !data.all (· == 0)
  else if key = K.st_LINE_SEL then decide (v < s.partLines (s.g K.st_DIE_SEL) (s.g K.st_PART_SEL))
  else if key = K.comm_SYNC_OVF then decide (v = 0) || (decide (2 ≤ v) && decide (v ≤ 240))
  else if i = 0x1016 ∧ 1 ≤ j then decide (field v 23 16 ≤ 127)
  else if isPdoComm i then (if j = 1 then s.cobOk key v else if j = 2 then pdoTypeOk v else true)
  else if isPdoMap i ∧ j = 0 then decide (v ≤ 16)
  else true

/-- The range check of a write. FOLLOW_TMO of 1 to 76 is a matter of nesting (R492). -/
def State.rangeCheck (s : State) (key : Nat) (r : Row) (data : List Nat) : Nat :=
  let v := tyValue r.ty (leNat data)
  if key = K.dev_FOLLOW_TMO ∧ 1 ≤ v ∧ v ≤ 76 then abNone
  else abIf (!r.rng.holds v || !s.rangeOk key data) abRange

/-- A descriptor's COUNT and BASE (R232), rejected as a length. -/
def segLengthCheck (key v : Nat) : Nat :=
  if ixOf key ≠ 0x2E10 ∨ subOf key = 0 then abNone
  else
    let n := segCount v
    abIf (decide (n = 1) || decide (384 < n) || decide (384 ≤ segBase v) || decide (384 < segBase v + n)) abLong

-- saggar caps (R74, R75, R517)

/-- PULSES, DAMP or VDRV_SET above a cap, RSV_SET below its minimum; `t` holds the written value. -/
def State.capCheck (t : State) (key : Nat) : Nat :=
  let i := ixOf key
  let j := subOf key
  if 0x2140 ≤ i ∧ i < 0x2180 ∧ (j = 2 ∨ j = 3) then
    let n := i - 0x2140
    abIf (decide (t.g (K.sag_CAP_PULSES n) < t.g (K.port_PULSES n) + t.g (K.port_DAMP n)) ||
      (decide (j = 2) && decide (0 < t.g (K.port_PULSES n)) &&
        decide (t.g (K.sag_CAP_VDRV n) < t.g (K.die_VDRV_SET (n / 8))))) abCap
  else if 0x2001 ≤ i ∧ i ≤ 0x2008 ∧ j = 0x10 then
    let d := i - 0x2001
    abIf ((List.range 8).any (fun k => decide (0 < t.g (K.port_PULSES (8 * d + k))) &&
      decide (t.g (K.sag_CAP_VDRV (8 * d + k)) < t.g (K.die_VDRV_SET d)))) abCap
  else if key = K.sup_RSV_SET then abIf (decide (t.g K.sup_RSV_SET < t.g K.sag_RSV_MIN)) abCap
  else abNone

-- relations between entries: `t` holds the written value

/-- Slots below SLOT_COUNT: die, OFS and MASK (R176). -/
def State.slotEntries (t : State) : List (Nat × Nat × Nat) :=
  (List.range t.dies).flatMap (fun d => (List.range (min 4 (t.g (K.die_SLOT_COUNT d)))).map (fun e =>
    (d, slotOfs (t.g (K.die_SLOT d e)), slotMask (t.g (K.die_SLOT d e)))))

/-- Cycles a path's attempts take (R177, R191). -/
def State.attemptsLen (t : State) (n : Nat) : Nat := (1 + t.g (K.path_RETRY_MAX n)) * t.g (K.path_PAIR_LEN n)

/-- Named paths with the span each takes in the frame: path, first cycle, and the cycle after its last (R177). -/
def State.spans (t : State) : List (Nat × Nat × Nat) :=
  t.slotEntries.flatMap (fun e => (maskBits e.2.2 4).map (fun k =>
    (4 * e.1 + k, e.2.1, e.2.1 + t.attemptsLen (4 * e.1 + k))))

/-- Item 1 of R178. -/
def State.slotsBad (t : State) : Bool :=
  t.slotEntries.any (fun e => decide (e.2.2 = 0)) || !decide ((t.spans.map (·.1)).Nodup)

/-- Item 3 of R178: two paths of one group overlap. -/
def State.groupsBad (t : State) : Bool :=
  t.spans.any (fun a => decide (t.g (K.path_XT_GROUP a.1) ≠ 0) && t.spans.any (fun b =>
    decide (a.1 ≠ b.1) && decide (t.g (K.path_XT_GROUP a.1) = t.g (K.path_XT_GROUP b.1)) &&
      decide (a.2.1 < b.2.2) && decide (b.2.1 < a.2.2)))

/-- Items 4 and 5 of R178. -/
def State.pairLenBad (t : State) (n : Nat) : Bool :=
  let w := t.g (K.path_WIN_OPEN n) + t.g (K.path_WIN_LEN n)
  if t.g (K.path_MODE n) = 0 then decide (t.g (K.path_PAIR_LEN n) < w + 25)
  else decide (t.g (K.path_SEQ_GAP n) < w) || decide (t.g (K.path_PAIR_LEN n) < t.g (K.path_SEQ_GAP n) + w + 25)

/-- The block budget of a path (R191). -/
def State.pathBudget (t : State) (n : Nat) : Nat :=
  t.attemptsLen n + (if t.g (K.path_REFINE n) = 1 then refineTime (t.g (K.path_SEARCH n)) else 0)

/-- Item 6 of R178: a budget is not shorter than the timeout of a section that uses the path (R43, R191). -/
def State.pathNestBad (t : State) : Bool :=
  (List.range t.nSects).any (fun i => (maskBits (t.g (K.sect_PATH_MASK i)) 32).any (fun n =>
    decide (t.g (K.sect_SECT_TMO i) ≤ t.pathBudget n)))

/-- The checks of R178. -/
def State.schedBad (t : State) : Bool :=
  t.slotsBad || t.spans.any (fun e => decide (t.g K.dev_FRAME_LEN < e.2.2)) || t.groupsBad || t.pathNestBad

/-- The two bounds of R106 for a path. -/
def State.winBad (t : State) (n : Nat) : Bool :=
  decide (524288 < t.g (K.path_WIN_OPEN n) + t.g (K.path_WIN_LEN n)) ||
    decide (t.g (K.path_WIN_OPEN n) < t.release (endA n)) || decide (t.g (K.path_WIN_OPEN n) < t.release (endB n))

/-- Attempt time of a channel in µs (R267). -/
def State.attTime (t : State) (c : Nat) : Nat :=
  let p := if t.g (K.chan_KIND c) = 2 then t.g (K.chan_CHAIN_N c) + 1 else 1
  p * (t.g (K.chan_SETTLE c) + [400000, 200000, 80000, 40000, 20000, 8000, 4000].getD (t.g (K.chan_RATE c)) 0)

/-- Channels a section uses (R274). -/
def State.chansOf (t : State) (i : Nat) : List Nat :=
  let tf := t.g (K.sect_TF_CHAN i)
  let tr := t.g (K.sect_TR_CHAN i)
  (([t.g (K.sect_T_CHAN i), t.g (K.sect_P_CHAN i)] ++ if tf ≠ 255 ∧ tr ≠ 255 then [tf, tr] else []).filter (· ≠ 255)) ++
    ((maskBits (t.g (K.sect_PATH_MASK i)) 32).filter (fun n => decide (t.g (K.path_TD_SEG n) ≤ 31))).map
      (fun n => t.g (K.path_TD_CHAN n))

/-- A converting channel's budget is not shorter than CHAN_TMO of a section that uses it (R43, R274). -/
def State.chanNestBad (t : State) : Bool :=
  (List.range t.nSects).any (fun i => (t.chansOf i).any (fun c =>
    let h := t.headOf c
    decide (t.g (K.chan_KIND h) ≠ 0) &&
      decide (t.g (K.dev_CHAN_TMO i) * 1000 ≤ (1 + t.g (K.chan_CONV_RETRY h)) * t.attTime h)))

/-- The relations of R261 for a channel; `s` is the state before the write. -/
def State.chanBad (s t : State) (c : Nat) : Bool :=
  let k := t.g (K.chan_KIND c)
  let pins := [t.g (K.chan_PIN_ES c), t.g (K.chan_PIN_ER c), t.g (K.chan_PIN_SP c), t.g (K.chan_PIN_SN c)]
  let n := t.g (K.chan_CHAIN_N c)
  (decide (k = 1) && !decide (pins.Nodup)) ||
  (decide (k = 4) && (decide (t.g (K.chan_PIN_SP c) = t.g (K.chan_PIN_SN c)) || decide (t.g (K.chan_IEXC c) ≠ 0))) ||
  ((decide (k = 1) || decide (k = 2)) && decide (t.g (K.chan_IEXC c) = 0)) ||
  (decide (k = 2) && (decide (15 < t.g (K.chan_FIRST_PIN c) + n + 1) || decide (15 < c % 16 + n - 1) ||
    (List.range (n - 1)).any (fun j =>
      let m := c + 1 + j
      decide (s.g (K.chan_KIND m) ≠ 0) && !(decide (s.g (K.chan_KIND m) = 3) && decide (s.headOf m = c))))) ||
  decide (t.g (K.chan_CM_HI c) < t.g (K.chan_CM_LO c)) ||
  (decide (t.g (K.chan_LIN_SEG c) = 255) && decide (t.g (K.chan_UNIT c) ≠ 0))

/-- A segment reference names an undefined segment (R235). -/
def State.refBad (t : State) (seg : Nat) : Bool := decide (seg ≤ 31) && decide (segCount (t.g (K.seg_SEG seg)) = 0)

/-- All segment references of the device (R235, R238). -/
def State.segRefs (t : State) : List Nat :=
  (List.range t.nSects).flatMap (fun i =>
    [t.g (K.sect_K_SEG i), t.g (K.sect_NU_SEG i), t.g (K.sect_RHO_SEG i), t.g (K.sect_H_SEG i)]) ++
  (List.range t.nPaths).map (fun n => t.g (K.path_TD_SEG n)) ++
  (List.range t.nChans).map (fun c => t.g (K.chan_LIN_SEG c))

/-- X does not rise strictly through a defined segment (R233). -/
def State.segBad (t : State) (d : Nat) : Bool :=
  (List.range (segCount d - 1)).any (fun i => decide (t.entX (segBase d + i + 1) ≤ t.entX (segBase d + i)))

/-- A defined segment covers a table entry. -/
def segCovers (d e : Nat) : Bool := decide (segCount d ≠ 0) && decide (segBase d ≤ e) && decide (e < segBase d + segCount d)

/-- The table entry a key names, 0 to 383. -/
def tabIndex (key : Nat) : Option Nat :=
  if K.tabA_ENTRY 0 ≤ key ∧ key ≤ K.tabA_ENTRY 191 then some (key - K.tabA_ENTRY 0)
  else if K.tabB_ENTRY 0 ≤ key ∧ key ≤ K.tabB_ENTRY 191 then some (192 + (key - K.tabB_ENTRY 0))
  else none

/-- The descriptors in force. -/
def State.descs (t : State) : List Nat := (List.range 32).map (fun i => t.g (K.seg_SEG i))

/-- Heat energy without what it needs (R290). -/
def State.energyBad (t : State) (i : Nat) : Bool :=
  decide (t.g (K.sect_ENERGY_EN i) = 1) && (decide (t.g (K.sect_MEDIUM i) = 3) ||
    decide (t.g (K.sect_TF_CHAN i) = 255) || decide (t.g (K.sect_TR_CHAN i) = 255) ||
    decide (t.g (K.sect_TF_CHAN i) = t.g (K.sect_TR_CHAN i)) || decide (t.g (K.sect_RHO_SEG i) = 255) ||
    decide (t.g (K.sect_H_SEG i) = 255))

/-- A section with paths and an adding input (R303). -/
def State.pulseBad (t : State) : Bool :=
  (List.range t.nInputs).any (fun i =>
    let w := t.g (K.pin_PI_CFG i)
    piEnable w && piAdd w && decide (t.g (K.sect_PATH_MASK (piSect w)) ≠ 0))

/-- The lantern is armed with entries that R306 forbids. -/
def State.lanternBad (t : State) : Bool := decide (t.g K.lant_LANT_EN = 1) && !t.lanternFits

/-- A day profile's length and order (R51, R335). -/
def dayProfBad (data : List Nat) : Bool :=
  let n := data.getD 0 0
  let minute (k : Nat) : Nat := field (leAt data (2 + 2 * k) 2) 10 0
  decide (data.length ≠ 2 + 2 * n) || (List.range (n - 1)).any (fun k => decide (minute (k + 1) ≤ minute k))

/-- Two enabled seasons start on one date (R335). -/
def State.seasonsBad (t : State) : Bool :=
  let ds := ((List.range 4).map (fun i => t.g (K.cal_SEASON i))).filter (fun w => bitAt w 31)
  !decide ((ds.map (fun w => (field w 15 12, field w 4 0))).Nodup)

/-- V_RSV against V_PF and CANT_VMAX (R517), in 0.1 V; `min` is the saggar's RSV_MIN. -/
def State.rsvBad (t : State) : Bool :=
  let v := max (t.g K.sup_RSV_SET) (t.g K.sag_RSV_MIN)
  decide (v < t.g K.sup_PF_LEVEL + 5) || decide (t.g K.sup_CANT_VMAX < v + 10)

/-- Two used heartbeat consumers watch one node (R597). -/
def State.consumersBad (t : State) : Bool :=
  let us := ((List.range 4).map (fun i => t.g (K.comm_HB_CONS (i + 1)))).filter
    (fun w => decide (field w 23 16 ≠ 0) && decide (w % 65536 ≠ 0))
  !decide ((us.map (fun w => field w 23 16)).Nodup)

/-- COB-ID keys of the 8 RPDOs and 16 TPDOs. -/
def pdoCobs : List Nat := (List.range 8).map K.comm_RPDO_COB ++ (List.range 16).map K.comm_TPDO_COB

/-- Valid PDOs share an identifier with each other or with another service (R616). -/
def State.cobsBad (t : State) : Bool :=
  let ids := ((pdoCobs.map t.g).filter (fun w => !bitAt w 31)).map (· % 2048)
  let n := t.net.nodeId
  let other := [0, t.g K.comm_COB_SYNC % 2048, t.g K.comm_COB_TIME % 2048, 0x80 + n, 0x700 + n, 0x580 + n, 0x600 + n]
  !decide (ids.Nodup) || ids.any (fun x => decide (x ∈ other))

/-- A mapping entry names an entry its PDO can map, with its length (R615). -/
def State.mapOk (t : State) (tpdo : Bool) (w : Nat) : Bool :=
  let key := w / 256
  let i := ixOf key
  if !tpdo && decide (w / 2 ^ 16 ∈ [5, 6, 7, 0x1B]) then w ∈ [0x50008, 0x60010, 0x70020, 0x1B0040]
  else match findRow key with
    | none => false
    | some r =>
      decide (t.existence key = 0) && decide (tyBytes r.ty ≠ 0) && decide (w % 256 = 8 * tyBytes r.ty) &&
        (if tpdo then r.pdo
         else (decide (r.acc = .rw) || decide (r.acc = .wo)) && decide (r.sealed = .no) &&
           !(decide (0x1000 ≤ i) && decide (i ≤ 0x1FFF)) && decide (i ≠ 0x2A00))

/-- Bytes the mapping at a key takes (R613). -/
def State.mapLen (t : State) (key : Nat) : Nat := ((t.mapOf key).map (fun w => w % 256 / 8)).foldl (· + ·) 0

/-- The relations of a mapping write (R615). -/
def State.mapCheck (t : State) (key : Nat) : Nat :=
  let base := ixOf key * 256
  let tp := decide (0x1A00 ≤ ixOf key)
  if subOf key ≠ 0 then abIf (!t.mapOk tp (t.g key)) abMap
  else firstAbort [abIf ((t.mapOf base).any (fun w => !t.mapOk tp w)) abMap,
    abIf (decide ((if t.g K.dev_DATA_RATE = 0 then 8 else 64) < t.mapLen base)) abMapLen]

/-- COB-ID and mapping keys of a PDO by the index of its mapping. -/
def mapCob (i : Nat) : Nat := if 0x1A00 ≤ i then K.comm_TPDO_COB (i - 0x1A00) else K.comm_RPDO_COB (i - 0x1600)

/-- The relations of the bit rates (R584, R587). -/
def State.ratesBad (t : State) : Bool :=
  let d := t.g K.dev_DATA_RATE
  (decide (d ≠ 0) && decide (dataKbit d < arbKbit (t.g K.dev_ARB_RATE))) ||
  (decide (d = 0) && ((List.range 8).any (fun r => !bitAt (t.g (K.comm_RPDO_COB r)) 31 &&
      decide (8 < t.mapLen (K.comm_RPDO_MAP r 0))) ||
    (List.range 16).any (fun r => t.tpdoValid r && decide (8 < t.mapLen (K.comm_TPDO_MAP r 0)))))

/-- An IMG_DATA write comes later in this cycle, and counts as the earlier one (R687). -/
def State.imgComing (s : State) : Bool :=
  s.pending.any (fun c => match c with
    | .imgData _ _ => true
    | .dictWrite _ i j _ => decide (i * 256 + j = K.sec_IMG_DATA)
    | _ => false)

/-- BOOT_SLOT names a slot it may not (R678, R687). -/
def State.bootBad (t : State) : Bool :=
  let b := t.g K.dev_BOOT_SLOT
  (decide (b = t.inactiveSlot) && (decide (t.g K.sec_IMG_STAT ≠ 2) || t.imgComing)) || decide (t.g (K.sec_SVN_A + b) < t.otp.arb)

/-- Relations on the device's and the dies' entries. -/
def State.relDev (t : State) (key : Nat) : Bool :=
  let j := subOf key
  if ixOf key = 0x2000 then
    if j = 0x10 then t.schedBad
    else if j = 0x20 then decide (t.g K.dev_FOLLOW_TMO ≤ 76)
    else if 0x30 ≤ j ∧ j ≤ 0x37 then t.chanNestBad
    else if j = 0x60 ∨ j = 0x61 then t.ratesBad
    else if j = 0x80 then t.bootBad
    else false
  else if 0x40 ≤ j ∧ j ≤ 0x44 then t.schedBad
  else false

/-- Relations on a path's entries. -/
def State.relPath (t : State) (n j : Nat) : Bool :=
  if j = 0x10 ∨ j = 0x11 then
    let x := t.gi 32 (K.path_X n)
    decide (x = 0) || decide (t.g (K.path_L n) < x.natAbs)
  else if j = 0x27 ∨ j = 0x28 then t.winBad n || t.pairLenBad n
  else if j = 0x01 ∨ j = 0x03 then t.pairLenBad n
  else if j = 0x04 ∨ j = 0x05 then t.pairLenBad n || t.schedBad
  else if j = 0x07 ∨ j = 0x2F ∨ j = 0x30 then t.schedBad
  else if j = 0x0C then t.refBad (t.g (K.path_TD_SEG n)) || t.chanNestBad
  else if j = 0x0D then t.chanNestBad
  else if j = 0x29 ∨ j = 0x2A then decide (32 < t.g (K.path_STOP_FIRST n) + t.g (K.path_STOP_COUNT n))
  else if j = 0x40 ∨ j = 0x41 then decide (t.g (K.path_AMP_MAX n) < t.g (K.path_AMP_MIN n))
  else false

/-- Relations on a section's entries. -/
def State.relSect (t : State) (i j : Nat) : Bool :=
  let minPaths := decide (t.g (K.sect_PATH_MASK i) ≠ 0) &&
    decide (popcount (t.g (K.sect_PATH_MASK i)) 32 < t.g (K.sect_MIN_PATHS i))
  let energy := t.energyBad i
  if j = 0x01 then minPaths || t.pathNestBad || t.chanNestBad || t.pulseBad || t.lanternBad
  else if j = 0x0C then minPaths
  else if j = 0x0F then t.pathNestBad
  else if j = 0x04 then t.refBad (t.g (K.sect_K_SEG i))
  else if j = 0x06 then t.refBad (t.g (K.sect_NU_SEG i))
  else if j = 0x08 ∨ j = 0x0A then t.chanNestBad
  else if j = 0x02 ∨ j = 0x15 then energy
  else if j = 0x16 ∨ j = 0x17 then energy || t.chanNestBad
  else if j = 0x19 then energy || t.refBad (t.g (K.sect_RHO_SEG i))
  else if j = 0x1A then energy || t.refBad (t.g (K.sect_H_SEG i))
  else if 0x11 ≤ j ∧ j ≤ 0x13 then
    decide (t.g (K.sect_Q_S i) ≠ 0) && decide (t.g (K.sect_Q_S i) ≤ t.g (K.sect_Q_CUT i) + t.g (K.sect_Q_HYST i))
  else if j = 0x40 ∨ j = 0x41 then decide (t.g (K.sect_REST_DIV i) < t.g (K.sect_ACT_DIV i))
  else false

/-- Relations on entries of the chip as a whole. -/
def State.relChip (t : State) (key : Nat) (data : List Nat) : Bool :=
  let j := subOf key
  if ixOf key = 0x2400 then decide (j ≤ 32) && t.pulseBad
  else if key = K.lant_LANT_EN ∨ key = K.lant_LANT_PATH ∨ key = K.lant_LANT_SECT ∨ key = K.lant_LANT_VDRV then t.lanternBad
  else if ixOf key = 0x2700 then
    if 6 ≤ j ∧ j ≤ 9 then t.seasonsBad else if 18 ≤ j ∧ j ≤ 33 then dayProfBad data else false
  else if key = K.loop_LOOP_EN then decide (t.g key = 0) && decide (t.g K.sup_SUPMODE ≠ 1)
  else if key = K.sag_LOOP_CLAMP_LO ∨ key = K.sag_LOOP_CLAMP_HI then
    decide (t.g K.sag_LOOP_CLAMP_HI < t.g K.sag_LOOP_CLAMP_LO)
  else if key = K.sup_RSV_SET ∨ key = K.sup_PF_LEVEL ∨ key = K.sup_CANT_VMAX ∨ key = K.sag_RSV_MIN then t.rsvBad
  else if key = K.sup_GOV_MODE then decide (t.g key = 2) && decide (t.g K.sup_SUPMODE = 0)
  else if key = K.sup_PWR_REQ 0 then decide (t.g key = 4) && !bitAt (t.g K.emb_EMBER_CFG) 0 && !bitAt (t.g K.emb_EMBER_CFG) 3
  else if key = K.comm_COB_SYNC then
    (bitAt (t.g key) 30 && decide (t.g K.comm_SYNC_PERIOD = 0)) || t.cobsBad
  else if key = K.comm_COB_TIME then t.cobsBad
  else if ixOf key = 0x1016 then t.consumersBad
  else if isPdoComm (ixOf key) ∧ j = 1 then t.cobsBad
  else false

/-- The table checks of R233 and R235. -/
def State.relTable (t : State) (key : Nat) : Bool :=
  match tabIndex key with
  | some e => t.descs.any (fun d => segCovers d e && t.segBad d)
  | none =>
    if ixOf key = 0x2E10 ∧ subOf key ≠ 0 then
      t.segBad (t.g key) || (decide (segCount (t.g key) = 0) && t.segRefs.any (fun r => decide (r = subOf key - 1)))
    else false

/-- The relational checks of a write, 0x06040043 unless a rule names another code; `s` is the state it is judged
against. -/
def State.relCheck (s : State) (key : Nat) (data : List Nat) : Nat :=
  let t := s.putRaw key data
  let i := ixOf key
  let j := subOf key
  if isPdoMap i then t.mapCheck key
  else if 0x2000 ≤ i ∧ i ≤ 0x2008 then abIf (t.relDev key) abRel
  else if 0x2100 ≤ i ∧ i < 0x2120 then abIf (t.relPath (i - 0x2100) j) abRel
  else if 0x2140 ≤ i ∧ i < 0x2180 then
    let n := i - 0x2140
    abIf (if j = 8 then decide (t.g (K.port_C_MAX n) < t.g (K.port_C_MIN n))
      else decide (1 ≤ j) && decide (j ≤ 4) && t.winBad (n / 2)) abRel
  else if 0x2200 ≤ i ∧ i < 0x2208 then abIf (t.relSect (i - 0x2200) j) abRel
  else if 0x2300 ≤ i ∧ i < 0x2380 then
    let c := i - 0x2300
    abIf (s.chanBad t c || (decide (j = 18) && t.refBad (t.g (K.chan_LIN_SEG c))) ||
      (if j ≤ 2 then t.syncChain c else t).chanNestBad) abRel
  else if 0x2E00 ≤ i ∧ i ≤ 0x2E10 then abIf (t.relTable key) abRel
  else abIf (t.relChip key data) abRel

-- states in which an entry cannot be written (0x08000022)

/-- A firing's state is OPEN (R400). -/
def State.isOpen (s : State) (who : Orig) : Bool := decide (origNo who ≤ 2) && decide (s.fireState (origNo who) = 1)

/-- Direct writes that the state forbids, by rule, beside those that a command's own check covers. -/
def State.stateCheck (s : State) (who : Orig) (key : Nat) : Nat :=
  let i := ixOf key
  let j := subOf key
  abIf (s.locked key ||
    (decide (i = 0x2E10) && decide (j ≠ 0)) ||
    ((tabIndex key).elim false (fun e => s.descs.any (fun d => segCovers d e))) ||
    (isPdoMap i && !bitAt (s.g (mapCob i)) 31) ||
    (decide (key = K.comm_SYNC_OVF) && decide (s.g K.comm_SYNC_PERIOD ≠ 0)) ||
    (decide (i = 0x3000) && decide (32 ≤ j) && decide (j ≤ 39) && (s.die (j - 32)).lost) ||
    (decide (i = 0x2A00) && decide (1 ≤ j) && decide (j ≤ 3) && decide (j - 1 ≠ origNo who))) abState

/-- What a command's rule rejects of a write, by the entry that carries it. -/
def State.cmdCheck (s : State) (who : Orig) (key : Nat) (data : List Nat) : Nat :=
  let v := leNat data
  let i := ixOf key
  let j := subOf key
  if 0x2001 ≤ i ∧ i ≤ 0x2008 ∧ j = 0x80 then (s.marchCmd (i - 0x2001) v).2
  else if 0x2001 ≤ i ∧ i ≤ 0x2008 ∧ j = 0xA1 then abIf (!(s.die (i - 0x2001)).lost || !s.ready) abState
  else if key = K.sup_CANT_CMD then (s.cantCmd v).2
  else if key = K.log_LOG_RELEASE then (s.releaseLog who v).2
  else if key = K.st_LINE_DATA then (s.writeLineData (origNo who) data).2
  else if key = K.st_PART_DEF then (s.definePart (origNo who) (s.g K.st_DIE_SEL) data).2
  else if key = K.sec_ARB_ADVANCE then s.arbCheck
  else if key = K.sec_IMG_CMD then abIf s.verifying abState
  else if key = K.sec_IMG_DATA then s.imgDataCheck data.length
  else if key = K.sec_OEM_HASH then s.oemCheck data
  else if key = K.sec_ATT_CMD then s.attCheck
  else if key = K.comm_STORE 1 ∨ key = K.comm_STORE 2 then abIf (decide (v ≠ 0x65766173)) abPass
  else if key = K.comm_RESTORE 1 ∨ key = K.comm_RESTORE 2 then abIf (decide (v ≠ 0x64616F6C)) abPass
  else abNone

-- the seal (R236, R318, R621, R656, R685)

/-- The value is in the loosening direction of its saggar limit (R655, R656). -/
def State.loosens (s : State) (key v : Nat) : Bool :=
  let j := subOf key
  if j = 0xC1 ∨ j = 0xC7 ∨ j = 0xC6 then decide (v < s.g key) else decide (s.g key < v)

/-- The entry is sealed, as a write of a value finds it. -/
def State.sealedFor (s : State) (key v : Nat) : Bool :=
  match findRow key with
  | none => false
  | some r =>
    match r.sealed with
    | .no => false
    | .yes => true
    | .loosening => s.loosens key v
    | .table => match tabIndex key with
      | some e => s.descs.any (fun d => segCovers d e && segSeal d)
      | none => segSeal (s.g key)
    | .pulseAdd => piAdd (s.g (K.pin_PI_CFG ((subOf key - 1) % 32)))

/-- A LEDGER target of R406. -/
def isLedgerTarget (key : Nat) : Bool :=
  (decide (0x2600 ≤ ixOf key) && decide (ixOf key < 0x2608) && decide (1 ≤ subOf key)) ||
    decide (key = K.lant_LANT_FWD) || decide (key = K.lant_LANT_REV)

/-- A seal is needed and closed. -/
def State.sealCheck (s : State) (key v : Nat) : Nat :=
  abIf ((s.sealedFor key v || isLedgerTarget key) && !s.sealInForce) abSeal

/-- The checks of a value after its length: range, caps, relations and the seal. -/
def State.valueChecks (s : State) (key : Nat) (r : Row) (data : List Nat) : List Nat :=
  [segLengthCheck key (leNat data), s.rangeCheck key r data, (s.putRaw key data).capCheck key, s.relCheck key data]

end Sys2Proof.Machine
end

