-- ==== Sys2Proof/Machine/Effects.lean ====
section
/-! DEFINITION. What follows from a write of a dictionary entry once it has passed its checks: the value put in place
without its reserved bits (R15), and the effects its chapter gives the entry. Direct writes, firings and recovered
firings share it. -/

namespace Sys2Proof.Machine

-- values without their reserved bits (R15)

/-- A word without the bits of a field. -/
def dropField (w hi lo : Nat) : Nat := w - field w hi lo * 2 ^ lo

/-- A day profile with its reserved bits cleared (R335). -/
def cleanProf (data : List Nat) : List Nat :=
  data.mapIdx (fun i b => if i = 1 then 0 else if 2 ≤ i ∧ i % 2 = 1 then dropField b 3 3 else b)

/-- The value an entry keeps of a written word. -/
def cleanWord (key v : Nat) : Nat :=
  let i := ixOf key
  let j := subOf key
  if 0x2001 ≤ i ∧ i ≤ 0x2008 then
    if 0x41 ≤ j ∧ j ≤ 0x44 then v % 2 ^ 36
    else if j = 0xB0 then v % 16
    else if 0xB1 ≤ j ∧ j ≤ 0xB4 then dropField (v % 32) 0 0
    else v
  else if i = 0x2400 ∧ 1 ≤ j ∧ j ≤ 32 then dropField (v % 2 ^ 16) 7 7
  else if i = 0x2700 then
    if 6 ≤ j ∧ j ≤ 9 then dropField (dropField v 30 19) 11 5
    else if 10 ≤ j ∧ j ≤ 17 then v % 2 ^ 28
    else if 34 ≤ j ∧ j ≤ 97 then dropField (dropField v 22 20) 10 4
    else v
  else if i = 0x2E10 ∧ j ≠ 0 then dropField v 29 18
  else if i = 0x1016 ∧ j ≠ 0 then v % 2 ^ 24
  else v

/-- The bytes an entry keeps of a write. -/
def cleanData (key : Nat) (data : List Nat) : List Nat :=
  match findRow key with
  | none => data
  | some r =>
    if tyBytes r.ty = 0 then (if K.cal_DAYPROF 0 ≤ key ∧ key ≤ K.cal_DAYPROF 15 then cleanProf data else data)
    else leBytes (tyBytes r.ty) (cleanWord key (leNat data))

-- ports and paths

/-- A change that moves the arrival: the band and the amplitude average are cleared, the fallback hands back, and the
arrivals of the pairs so far no longer place the capture (R73, R122, R128, R148, R149, R154). -/
def State.dropBand (s : State) (n : Nat) : State :=
  let s1 := s.ps [(K.path_REF12 n, 0), (K.path_REF13 n, 0), (K.path_BAND_VALID n, 0), (K.rec_AMP_AVG n, 0)]
  let r := s1.path n
  s1.setPath n { r with
    fbActive := false, fbProbe := 0, learn := r.learn.map (fun l => { l with keptFb := false })
    prevDn := none, prevUp := none, att := { r.att with moved := true }
    lane := r.lane.map (fun a => { a with moved := true })
    learnWait := r.learnWait.map (fun a => { a with moved := true }) }

/-- The template becomes invalid: the zero-flow offsets are unset and a running reference pair is spoiled (R73, R128,
R197, R206). -/
def State.dropTemplate (s : State) (n : Nat) : State :=
  let s1 := (s.p (K.path_TPL_VALID n) 0).dropBand n
  let s2 := s1.ps [(K.rec_ZO0 n, 0), (K.rec_ZO1 n, 0)]
  let r := s2.path n
  s2.setPath n { r with
    zoSet0 := false, zoSet1 := false
    refRun := r.refRun.map (fun p => { p with spoiled := true }) }

/-- The fallback hands back without event 0x1026 (R154). -/
def State.handBack (s : State) (n : Nat) : State :=
  let r := s.path n
  s.setPath n { r with
    fbActive := false, fbProbe := 0, learn := r.learn.map (fun l => { l with keptFb := false }) }

/-- LEARN starts learning, or starts it again (R126, R127). -/
def State.startLearn (s : State) (n k : Nat) : State :=
  let r := s.path n
  s.setPath n { r with
    learn := some { n := k, keptFb := match r.learn with | some l => l.keptFb | none => r.fbActive }
    learnWait := [] }

/-- The section's profile ratios return to 1.0 (R223). -/
def State.resetRatios (s : State) (i : Nat) : State :=
  (List.range s.nPaths).foldl (fun t n => t.p (K.res_PR i n) 0x40000000) s

/-- Ratios of the sections that use a path (R223). -/
def State.resetPathRatios (s : State) (n : Nat) : State :=
  (List.range s.nSects).foldl (fun t i => if bitAt (s.g (K.sect_PATH_MASK i)) n then t.resetRatios i else t) s

/-- A port's entry was written (R73, R76, R79, R84, R89): `old` is the state before. -/
def State.portWritten (t old : State) (n j : Nat) : State :=
  let key := K.port_FREQ n - 1 + j
  if j = 12 then t.recheckWritten n
  else if j = 13 then t.askCheck n
  else
    let changed := t.g key != old.g key
    let t1 := if changed && decide (j ≤ 5) then t.dropTemplate (n / 2) else t
    let t2 := if changed && decide (j ≤ 6) then t1.clearPred n else t1
    ((t2.holdWritten old n).declareIfDriven n).syncSilent n

/-- A path's entry was written. -/
def State.pathWritten (t old : State) (n j v : Nat) : State :=
  let changed := t.g (K.path_MODE n - 1 + j) != old.g (K.path_MODE n - 1 + j)
  if j = 0x10 ∨ j = 0x11 then (if changed then t.resetPathRatios n else t)
  else if j = 9 then (if v = 0 then t.setPath n { t.path n with refDue := false } else t)
  else if j = 0x20 then t.setPath n { t.path n with gainCyc := some t.cyc, gainWas := none }
  else if j = 0x24 then t.dropBand n
  else if j = 0x25 ∨ j = 0x26 ∨ j = 0x29 ∨ j = 0x2B then (if changed then t.dropTemplate n else t)
  else if j = 0x32 then t.startLearn n v
  else if j = 0x43 ∨ j = 0x44 then
    t.p (K.path_BAND_VALID n) (b01 (decide (t.g (K.path_REF12 n) ≠ 0) && decide (t.g (K.path_REF13 n) ≠ 0)))
  else if j = 0x46 then t.handBack n
  else t

-- dies and the frame

/-- The written slot table waits for a frame boundary (R177). -/
def State.slotsWritten (t : State) (d : Nat) : State :=
  t.setDie d { t.die d with
    slotPend := (t.die d).slotPend ++
      [(t.cyc, t.g (K.die_SLOT_COUNT d), (List.range 4).map (fun e => t.g (K.die_SLOT d e)))] }

/-- VDRV_SET was written: predictions restart where it changed, and the die's ports are held or released (R76, R79). -/
def State.vdrvWritten (t old : State) (d : Nat) : State :=
  let changed := t.g (K.die_VDRV_SET d) != old.g (K.die_VDRV_SET d)
  (List.range 8).foldl (fun u k => (if changed then u.clearPred (8 * d + k) else u).holdWritten old (8 * d + k)) t

/-- A die's entry was written. A DIE_RESTART that comes over CAN or the mailbox asks for a retry in this cycle (R496).
-/
def State.dieWritten (t old : State) (d j v : Nat) : State :=
  if j = 0x10 then t.vdrvWritten old d
  else if j = 0x20 then (if v = 1 then t.askFull d else t.askQuick d)
  else if 0x40 ≤ j ∧ j ≤ 0x44 then t.slotsWritten d
  else if j = 0x80 then (t.marchCmd d v).1
  else if j = 0xA1 then t.setLine d { t.line d with retryAt := some t.cyc }
  else t

/-- An entry of the device object was written. -/
def State.devWritten (t : State) (j v : Nat) : State :=
  if j = 0x10 then { t with lenPend := t.lenPend ++ [(t.cyc, v)] } else t

-- sections and channels

/-- PATH_MASK was written (R213, R223, R239, R241). -/
def State.maskWritten (t old : State) (i : Nat) : State :=
  let v := t.g (K.sect_PATH_MASK i)
  let was := old.g (K.sect_PATH_MASK i)
  let t1 := if v = was then t else t.resetRatios i
  if v = 0 then
    (t1.setSect i { t1.sect i with work := [] }).ps [(K.res_Q_NLS i, 0), (K.res_Q_M3H i, 0)]
  else if was = 0 then t1.setSect i { t1.sect i with epoch := none, cut := none }
  else t1

/-- PRIV of every channel (R277). -/
def State.syncPriv (s : State) : State :=
  (List.range s.nChans).foldl (fun t c =>
    t.p (K.chan_PRIV c) (((s.privOf c).map (fun i => 2 ^ i)).foldl (· + ·) 0)) s

/-- A section's entry was written. -/
def State.sectWritten (t old : State) (i j v : Nat) : State :=
  let changed := t.g (K.sect_PATH_MASK i - 1 + j) != old.g (K.sect_PATH_MASK i - 1 + j)
  if j = 0x01 then t.maskWritten old i
  else if j = 0x02 then (if changed then t.resetRatios i else t)
  else if 0x20 ≤ j ∧ j < 0x40 then
    (if changed && bitAt (t.g (K.sect_PATH_MASK i)) (j - 0x20) then t.resetRatios i else t)
  else if j = 0x16 ∨ j = 0x17 then t.syncPriv
  else if j = 0x44 then t.setSect i { t.sect i with forceW := (t.sect i).forceW ++ [(t.cyc, v)] }
  else t

/-- A channel's entry was written: the members of its chain change, after a conversion that runs, and its pins' USED
(R262, R285, R289). -/
def State.chanWritten (t : State) (c j : Nat) : State :=
  let t1 := if 2 < j then t
    else if (t.chan c).conv.isSome then t.setChan c { t.chan c with rechain := true }
    else t.syncChain c
  if j ≤ 7 then t1.syncUsed (c / 16) else t1

-- calendar, loop, power and the saggar

/-- An entry of the calendar was written (R340, R358). -/
def State.calWritten (t old : State) (j : Nat) : State :=
  if j = 1 then t.setCal csCAL_ON (decide (t.g K.cal_CAL_EN = 1))
  else if j = 2 then { t with bill := { t.bill with demWritten := true } }
  else if j = 3 ∨ j = 4 ∨ j = 5 then { t with bill := { t.bill with sched := some old.schedule } }
  else t

/-- An entry of the power object was written (R516 to R519, R535, R665). -/
def State.powWritten (t : State) (j v : Nat) : State :=
  if j = 11 ∨ j = 15 then t.checkHold
  else if j = 13 then (t.cantCmd v).1
  else if j = 16 then t.syncRsv
  else if 32 ≤ j ∧ j ≤ 39 then t.setDie (j - 32) { t.die (j - 32) with reqAt := some t.cyc, wakeAt := 0 }
  else t

/-- A saggar limit was written (R76, R651, R664, R665). -/
def State.sagWritten (t : State) (j : Nat) : State :=
  if 1 ≤ j ∧ j ≤ 192 then
    let n := (j - 1) % 64
    (t.syncCaps n).tightHold n
  else if j = 0xC1 ∨ j = 0xC2 ∨ j = 0xC4 then t.syncLoop
  else if j = 0xC7 then t.syncRsv
  else t

-- the network

/-- Which TPDOs map which entries (R615, R617). -/
def State.syncMapped (s : State) : State :=
  { s with net := { s.net with
    mapped := (List.range 16).foldl (fun m t => (s.mapOf (K.comm_TPDO_MAP t 0)).foldl (fun u w =>
      u.store 0 (w / 256) (Nat.lor (u.look 0 (w / 256)) (2 ^ t))) m) [] } }

/-- Cycles of a SYNC period: SYNC_PERIOD · 24.576, to the nearest (R599; no period lies half way). -/
def syncCycles (us : Nat) : Nat := (us * 24576 + 500) / 1000

/-- The first cycle after `now` that lies a whole number of periods after `base`. -/
def nextMultiple (base period now : Nat) : Nat := cycPlus base ((cycDiff now base / period + 1) * period)

/-- The next SYNC to produce: periods count from the entry into pre-operational or operational (R599). -/
def State.armSync (s : State) : State :=
  let us := s.g K.comm_SYNC_PERIOD
  let on := bitAt (s.g K.comm_COB_SYNC) 30 && decide (1000 ≤ us) && decide (us ≤ 60000000) &&
    (decide (s.nmt = 127) || decide (s.nmt = 5))
  { s with net := { s.net with
    syncNext := if on then some (nextMultiple s.net.syncBase (syncCycles us) s.cyc) else none } }

/-- The next heartbeat: periods count from the boot-up message (R596). -/
def State.armBeat (s : State) : State :=
  let ms := s.g K.comm_HB_PROD
  { s with net := { s.net with hbNext := if ms = 0 then none else some (nextMultiple s.net.bootAt (ms * 24576) s.cyc) } }

/-- A TPDO's event timer starts anew (R617). -/
def State.armEvent (s : State) (t : Nat) : State :=
  let ms := s.g (K.comm_TPDO_EVT t)
  let on := s.tpdoValid t && decide (254 ≤ s.g (K.comm_TPDO_TYPE t)) && decide (ms ≠ 0) && decide (s.nmt = 5)
  { s with net := { s.net with evtAt := s.net.evtAt.store 0 t (if on then cycPlus s.cyc (ms * 24576) + 1 else 0) } }

/-- An entry of the communication profile was written. -/
def State.commWritten (t : State) (i j : Nat) : State :=
  if i = 0x1003 then t.ps ((List.range 17).map (fun k => (K.comm_ERRFIELD k, 0)))
  else if i = 0x1005 ∨ i = 0x1006 then t.armSync
  else if i = 0x1016 then { t with net := { t.net with hbTimers := t.net.hbTimers.store 0 (j - 1) 0 } }
  else if i = 0x1017 then t.armBeat
  else if 0x1800 ≤ i ∧ i < 0x1810 then
    let n := i - 0x1800
    ({ t with net := { t.net with syncCnt := t.net.syncCnt.store 0 n 0 } }).armEvent n
  else if 0x1A00 ≤ i ∧ i < 0x1A10 then t.syncMapped
  else t

/-- Entries that 0x1010 stores: the communication entries marked so and the bit timing (R614, R624). -/
def isStored (key : Nat) : Bool :=
  (decide (0x1005 ≤ ixOf key) && decide (ixOf key ≤ 0x1FFF)) || (decide (K.dev_ARB_RATE ≤ key) && decide (key ≤ K.dev_DATA_SP))

/-- Store the communication entries, or have their defaults loaded at the next reset of communication (R614). -/
def State.storeComm (s : State) : State :=
  { s with net := { s.net with saved := s.od.keep isStored, loadDefault := false } }
def State.restoreComm (s : State) : State := { s with net := { s.net with loadDefault := true } }

-- entries that an originator has for itself, and commands

/-- SNAP_SEL, LOG_SEL, LOG_NUM, BLOB_SEL and BLOB_OFS are each originator's own (R351, R680, R705). -/
def State.ownWritten (s : State) (who : Orig) (key v : Nat) : Option State :=
  let host (f : HostRt → HostRt) (net : NetRt → NetRt) : Option State := some (match who with
    | .host => { s with host := f s.host }
    | .can => { s with net := net s.net }
    | _ => s.p key v)
  if key = K.snap_SNAP_SEL then host (fun h => { h with snapSel := v }) (fun h => { h with snapSel := v })
  else if key = K.log_LOG_SEL then host (fun h => { h with logSel := v }) (fun h => { h with logSel := v })
  else if key = K.log_LOG_NUM then host (fun h => { h with logNum := v }) (fun h => { h with logNum := v })
  else if key = K.sec_BLOB_SEL then host (fun h => { h with blobSel := v }) (fun h => { h with blobSel := v })
  else if key = K.sec_BLOB_OFS then host (fun h => { h with blobOfs := v }) (fun h => { h with blobOfs := v })
  else none

/-- Commands that a write of an entry makes and that keep nothing in it; none for any other entry. FIRE_CTL, UNLOCK and
the entries of 0x2800 have operations of their own. -/
def State.commandWritten (s : State) (who : Orig) (key : Nat) (data : List Nat) : Option State :=
  let v := leNat data
  if key = K.snap_BILL_CMD then some s.manualClose
  else if key = K.comm_STORE 1 ∨ key = K.comm_STORE 2 then some s.storeComm
  else if key = K.comm_RESTORE 1 ∨ key = K.comm_RESTORE 2 then some s.restoreComm
  else if key = K.log_LOG_RELEASE then some (s.releaseLog who v).1
  else if key = K.st_RELOCK then some (s.relockPart (origNo who) (s.g K.st_DIE_SEL) v)
  else if key = K.st_PART_DEF then some (s.definePart (origNo who) (s.g K.st_DIE_SEL) data).1
  else if key = K.st_LINE_DATA then some (s.writeLineData (origNo who) data).1
  else if key = K.sec_ARB_ADVANCE then some s.arbAdvance
  else if key = K.sec_IMG_CMD then some (s.imgCmd v)
  else if key = K.sec_IMG_DATA then some (s.imgData data)
  else if key = K.sec_OEM_HASH then some (s.oemProgram data)
  else if key = K.sec_ATT_NONCE then some (s.attNonce data)
  else if key = K.sec_ATT_CMD then some s.attRequest
  else none

/-- The entry holds write-one-to-clear bits: their mask. -/
def w1cMask (key : Nat) : Option Nat :=
  match findRow key with
  | some r => match r.rng with
    | .w1c m => some m
    | _ => none
  | none => none

/-- A write of ones clears bits (R15); a pin's sticky clamp ends its fault, TAMPER stays while a line fault stands, and
HB_LOST counts in the error register (R281, R313, R605). -/
def State.w1cWritten (s : State) (key v m : Nat) : State :=
  let i := ixOf key
  let j := subOf key
  if 0x2001 ≤ i ∧ i ≤ 0x2008 ∧ 0x52 ≤ j ∧ j ≤ 0x61 then
    (if bitAt v 2 then s.clearClamp (i - 0x2001) (j - 0x52) else s)
  else if i = 0x2400 then s.clearInput (j - 0x61) (Nat.land v m)
  else
    let t := s.p key (clearBits (s.g key) (Nat.land v m))
    if key = K.dev_CAN_STAT then t.syncErr else t

/-- What follows once an entry holds its new value; `old` is the state before. -/
def State.written (t old : State) (key v : Nat) : State :=
  let i := ixOf key
  let j := subOf key
  if i < 0x2000 then t.commWritten i j
  else if i = 0x2000 then t.devWritten j v
  else if i ≤ 0x2008 then t.dieWritten old (i - 0x2001) j v
  else if 0x2100 ≤ i ∧ i < 0x2120 then t.pathWritten old (i - 0x2100) j v
  else if 0x2140 ≤ i ∧ i < 0x2180 then t.portWritten old (i - 0x2140) j
  else if 0x2200 ≤ i ∧ i < 0x2208 then (t.sectWritten old (i - 0x2200) j v).syncArmed
  else if 0x2300 ≤ i ∧ i < 0x2380 then t.chanWritten (i - 0x2300) j
  else if i = 0x2400 then (if j ≤ 32 then t.inputWritten (j - 1) else t)
  else if i = 0x2500 then t.syncArmed
  else if i = 0x2700 then t.calWritten old j
  else if i = 0x2900 then (if j ≤ 2 then t.syncLoop else t)
  else if i = 0x2B00 then
    (if j = 1 then t.syncStore
     else if j = 9 then t.putStore (t.g K.st_DIE_SEL) { t.store (t.g K.st_DIE_SEL) with scrubDays := v } else t)
  else if i = 0x2F00 then (t.sagWritten j).syncArmed
  else if i = 0x3000 then t.powWritten j v
  else t

/-- The entry is write-only: a write keeps nothing in it. -/
def isWo (key : Nat) : Bool := (findRow key).elim false (fun r => decide (r.acc = .wo))

/-- A firing's GPIO action reaches the balls in its apply cycle, also in that of an entry into DEEP (R577, R581). -/
def State.gpioFired (s : State) (key : Nat) : State :=
  let d := ixOf key - 0x2001
  if 0x2001 ≤ ixOf key ∧ ixOf key ≤ 0x2008 ∧ 0xB0 ≤ subOf key ∧ subOf key ≤ 0xB4 ∧ (s.die d).up ∧
      (s.pstate d ≤ 2 ∨ (s.pstate d = 3 ∧ (s.die d).deepCyc = s.cyc)) then s.driveGpio d
  else s

/-- A checked write takes effect: `who` made it, `fire` tells whether a firing applied it. -/
def State.take (s : State) (who : Orig) (key : Nat) (data0 : List Nat) (fire : Bool) : State :=
  let data := cleanData key data0
  let v := leNat data
  let s0 := s.noteWrite key
  match s0.ownWritten who key v with
  | some t => t
  | none =>
    match s0.commandWritten who key data with
    | some t => t
    | none =>
      match w1cMask key with
      | some m => s0.w1cWritten key v m
      | none =>
        if key = K.loop_LOOP_SET ∧ !fire then s0.writeLoop v
        else if isWo key then s0.written s0 key v
        else
          let t := (s0.putRaw key data).written s0 key v
          if fire then t.gpioFired key else t

/-- Targets whose values the stores keep: CONFIG and TABLE targets of R406. -/
def isPersistent (key : Nat) : Bool :=
  let i := ixOf key
  let j := subOf key
  match findRow key with
  | none => false
  | some r =>
    decide (r.acc = .rw) && (w1cMask key).isNone && decide (key ≠ K.loop_LOOP_SET) &&
      !(decide (0x2001 ≤ i) && decide (i ≤ 0x2008) && decide (j = 0xB0)) &&
      ((decide (0x2000 ≤ i) && decide (i ≤ 0x2700)) || decide (i = 0x2900) || decide (i = 0x2F00) || decide (i = 0x3000) ||
        (decide (0x2E00 ≤ i) && decide (i ≤ 0x2E10)))

/-- A write of a sealed entry, or a LEDGER action, is a sealed change (R685): the entry was sealed, or is now. -/
def State.isSealedChange (t s : State) (key v : Nat) : Bool := s.sealedFor key v || t.sealedFor key v || isLedgerTarget key
def State.noteSealed (t s : State) (who : Orig) (key v : Nat) (fire : Bool) : State :=
  if t.isSealedChange s key v then t.sealedChange key who fire else t

/-- The host has written an entry in this cycle: a write from CAN counts as the earlier one, so the host's value stands
(R611). -/
def State.hostFirst (s : State) (who : Orig) (key : Nat) : Bool :=
  decide (who = .can) && decide (s.host.wroteAt = s.cyc + 1) && decide (key ∈ s.host.wroteKeys)

/-- Note a direct write of the host (R611). -/
def State.noteHost (s : State) (who : Orig) (key : Nat) : State :=
  if who ≠ .host then s
  else if s.host.wroteAt = s.cyc + 1 then { s with host := { s.host with wroteKeys := key :: s.host.wroteKeys } }
  else { s with host := { s.host with wroteAt := s.cyc + 1, wroteKeys := [key] } }

/-- A checked write by an originator takes effect at once (R405): the effects, the sealed change, and its record in the
configuration log (R438). -/
def State.direct (s0 : State) (who : Orig) (key : Nat) (data : List Nat) : State :=
  let s := s0.noteHost who key
  let t := (s.take who key data false).noteSealed s who key (leNat data) false
  if s.hostFirst who key then s.noteSealed s who key (leNat data) false
  else if isPersistent key && (s.ownWritten who key 0).isNone then t.appendLog 0 key (cleanData key data) else t

end Sys2Proof.Machine
end

