-- ==== Sys2Proof/Machine/Fire.lean ====
section
/-! DEFINITION. Firings (R397 to R425): opening, staging, committing, applying and retiring a general firing, and the
kiln's part of boundary firings. -/

namespace Sys2Proof.Machine

-- slots

/-- Slots held by an originator's staged and unretired firings. -/
def FireRt.holds (f : FireRt) : Nat := f.slots + f.held.foldl (fun a h => a + h.slots) 0

/-- Free slots of the greenware (R398). -/
def State.greenFree (s : State) : Nat := 64 - ((s.fire 0).holds + (s.fire 1).holds + (s.fire 2).holds)
def State.syncGreen (s : State) : State := s.p K.fire_GREEN_FREE s.greenFree

/-- Slots a staged value takes (R398). -/
def slotsOf (key n : Nat) : Nat :=
  match findRow key with
  | some r => if tyBytes r.ty = 0 then (n + 7) / 8 else 1
  | none => 1

/-- Write an originator's FIRE_STAT; the host's entry into APPLIED, ABORTED or FAILED sets FIRE_DONE (R423, R638). -/
def State.setFireStat (s : State) (o state result stages : Nat) : State :=
  let t := s.p (K.fire_FIRE_STAT o) (fireStat state result stages)
  if o = 0 ∧ 4 ≤ state then t.irq 1 else t

/-- Data bytes of a firing's event (R420). -/
def fireData (front : List Nat) (id : Nat) : List Nat := bytesAt front 0 5 ++ leBytes 2 id

/-- A general firing ends without applying: its slots and its journal bank are freed (R398, R401, R455). -/
def State.dropFire (s : State) (o state result : Nat) : State :=
  let f := s.fire o
  (((s.setFire o { f with stages := [], start := none, commitAt := none, dirty := none, bank := none }).freeBank f.bank).setFireStat
    o state result 0).syncGreen

/-- A firing in OPEN is aborted by a reset or a power loss (R404, R416, R420). -/
def State.abortOpen (s : State) (o result : Nat) : State :=
  if s.fireState o ≠ 1 then s
  else (s.dropFire o 5 result).evChip 0x4084 (fireData [] (s.g (K.fire_FIRE_ID o)))

-- FIRE_CTL

/-- OPEN (R401 to R403). -/
def State.openFire (s : State) (o : Nat) : State :=
  let f := s.fire o
  let seq := if 16383 ≤ f.seq then 1 else f.seq + 1
  ((s.setFire o { f with
      stages := [], openAt := s.cyc, lead := s.g (K.fire_COMMIT_LEAD o), tmo := s.g (K.fire_FIRE_TMO o), seq := seq
      commitAt := none, start := none, dirty := none }).p (K.fire_FIRE_ID o) (o * 2 ^ 14 + seq)).setFireStat o 1 0 0

/-- COMMIT accepted (R401): the firing waits for the kiln. -/
def State.commitFire (s : State) (o : Nat) : State :=
  (s.setFire o { s.fire o with commitAt := some s.cyc }).setFireStat o 2 0 (s.fire o).slots

/-- A write of FIRE_CTL by its originator (R401): the state and the abort code. -/
def State.fireCtl (s : State) (o v : Nat) : State × Nat :=
  let st := s.fireState o
  match v % 16 with
  | 1 => if 1 ≤ st ∧ st ≤ 3 then (s, abState) else (s.openFire o, abNone)
  | 2 => if st = 1 then (s.commitFire o, abNone) else (s, abState)
  | 3 => if st = 1 then (s.dropFire o 5 0x10, abNone) else (s, abState)
  | _ => (s, abRange)

/-- A COMMIT of an originator is delivered by a command that waits for the current cycle (R37, R403): its own row, a
write of FIRE_CTL, or the host's mailbox with that write in it. -/
def State.commitComing (s : State) (o : Nat) : Bool :=
  let ctl (index sub v : Nat) : Bool := decide (index = 0x2A00) && decide (sub = o + 1) && decide (v % 16 = 2)
  s.pending.any (fun i => match i with
    | .fireCommit w => decide (origNo w = o)
    | .dictWrite w index sub data => decide (origNo w = o) && ctl index sub (leNat data)
    | .odWrite => decide (o = 0) && ctl s.host.odIndex s.host.odSub (leNat (bytesAt s.host.mailbox 0 s.host.odLen))
    | .sdoDownloadInitiate index sub _ data => decide (o = 1) && ctl index sub (leNat (data.getD []))
    | .usdoDownloadInitiate index sub _ data => decide (o = 1) && ctl index sub (leNat (data.getD []))
    | _ => false)

/-- The FIRE_TMO of a firing in OPEN has passed (R37, R403). -/
def State.fireLate (s : State) (o : Nat) : State :=
  let f := s.fire o
  let e := cycPlus f.openAt (f.tmo * cycPerSecond)
  if s.fireState o = 1 ∧ cycReached s.cyc e ∧ ¬(s.cyc = e ∧ s.commitComing o) then
    (s.dropFire o 5 0x11).evChip 0x4083 (fireData [] (s.g (K.fire_FIRE_ID o)))
  else s

/-- FIRE_TMO_EXPIRY (R403). -/
def execFireTmoExpiry (who : Orig) (s : State) : Out :=
  if who = .boundary then .next s else confined s (s.fireLate (origNo who))

-- staging

/-- The target is not one that may be staged (R406, R407): its abort code. -/
def State.stageable (s : State) (key : Nat) : Nat :=
  let i := ixOf key
  match findRow key with
  | none => abNoSub
  | some r =>
    if isLedgerTarget key then abNone
    else if r.acc = .ro ∨ r.acc = .const ∨ r.acc = .wo ∨ (w1cMask key).isSome then abState
    else if i < 0x2000 ∨ i ∈ [0x2800, 0x2A00, 0x2B00, 0x2C00, 0x2D00] then abState
    else if 0x2300 ≤ i ∧ i < 0x2380 ∧ 1 ≤ subOf key ∧ subOf key ≤ 17 ∧ s.g (K.chan_KIND (i - 0x2300)) = 3 then abRO
    else abNone

/-- A staged action put into effect: a LEDGER action replaces its register, any other is taken as written (R406). -/
def State.perform (s : State) (who : Orig) (g : Stage) : State :=
  if isLedgerTarget g.key then ((s.noteWrite g.key).putRaw g.key g.data).markTotal g.key
  else s.take who g.key g.data true

/-- The state in force with staged actions applied in order (R408). -/
def State.performAll (s : State) (who : Orig) (gs : List Stage) : State := gs.foldl (fun t g => t.perform who g) s

/-- The checks 3 to 6 of R408 on the state `t`: the abort code. -/
def State.stageChecks (t : State) (key : Nat) (data : List Nat) : Nat :=
  match findRow key with
  | none => abNoSub
  | some r => firstAbort ([lengthCheck r data.length] ++ t.valueChecks key r data ++ [t.sealCheck key (leNat data)])

/-- Room in the greenware and in the firing (R399). -/
def State.roomCheck (s : State) (o n : Nat) : Nat :=
  abIf (decide (64 < (s.fire o).slots + n) || decide (s.greenFree < n)) abLong

/-- All checks of a stage (R408). -/
def State.stageCheck (s : State) (who : Orig) (key : Nat) (data : List Nat) : Nat :=
  let n := slotsOf key data.length
  let len := match findRow key with
    | some r => firstAbort [lengthCheck r data.length, s.roomCheck (origNo who) n]
    | none => abNoSub
  firstAbort [s.existence key, s.stageable key, len,
    (s.performAll who (s.fire (origNo who)).stages).stageChecks key data]

/-- A write of a LEDGER target is refused: event 0x3015 and TOTAL_TRIP (R659, R665). -/
def State.totalTrip (s : State) (key : Nat) (stage : Bool) : State :=
  ((s.evChip 0x3015 (leBytes 2 (ixOf key) ++ [subOf key, 0, b01 stage])).bitTo K.sag_SAG_STAT 5 true).inc K.sag_TRIP_COUNT

/-- A stage is rejected: STAGE_REJ and LAST_REJECT (R408). -/
def State.rejectStage (s : State) (o key a : Nat) : State :=
  let t := (s.setFire o { s.fire o with stageRej := true }).p (K.fire_LAST_REJECT o) a
  if a = abSeal ∧ isLedgerTarget key then t.totalTrip key true else t

/-- A stage is accepted (R408). -/
def State.acceptStage (s : State) (o key : Nat) (data : List Nat) : State :=
  let f := s.fire o
  let n := slotsOf key data.length
  let g : Stage := { key := key, data := data, slots := n, cyc := s.cyc
                     persistent := isPersistent key || isLedgerTarget key }
  ((s.setFire o { f with stages := f.stages ++ [g], stageRej := false }).setFireStat o 1 0 (f.slots + n)).syncGreen

/-- A stage by an originator whose firing is open (R405, R408): the state and the abort code. -/
def State.stageWrite (s : State) (who : Orig) (key : Nat) (data : List Nat) : State × Nat :=
  let a := s.stageCheck who key data
  if a = 0 then (s.acceptStage (origNo who) key data, abNone) else (s.rejectStage (origNo who) key a, a)

-- the kiln

/-- The kiln is between a commit's start and the cycle after its broadcast (R409). -/
def State.kilnBusy (s : State) : Bool :=
  [0, 1, 2].any (fun o => (s.fire o).start.isSome &&
    (decide (s.fireState o = 2) || (decide (s.fireState o = 3) && decide ((s.fire o).castAt = s.cyc)))) ||
  s.bill.queue.any (fun b => match b.start with
    | some c => !b.cast || decide (cycPlus c 33 = s.cyc)
    | none => false)

/-- The firing of an originator has a target in common with another's that is scheduled, or that applied in this very
cycle (R409). -/
def State.mustFollow (s : State) (o : Nat) : Bool :=
  let keys := (s.fire o).stages.map (·.key)
  [0, 1, 2].any (fun q =>
    let f := s.fire q
    decide (q ≠ o) &&
      ((decide (s.fireState q = 3) && f.stages.any (fun g => decide (g.key ∈ keys))) ||
       (decide (f.applyAt = s.cyc) && decide (f.outcome ≠ 0) &&
         (f.held.getLast?).any (fun h => h.keys.any (fun k => decide (k ∈ keys))))))

/-- Commits that wait, the first to be processed in front (R409): in order of delivery, and in one cycle internal, CAN,
host. -/
def State.waitingFires (s : State) : List Nat :=
  let w := [2, 1, 0].filter (fun o => decide (s.fireState o = 2) && (s.fire o).start.isNone)
  let age (o : Nat) : Nat := match (s.fire o).commitAt with
    | some c => cycDiff s.cyc c
    | none => 0
  sortBy (fun a b => decide (age b ≤ age a)) w

/-- A boundary firing starts: BOUND_ID, BOUND_STAT, and its cycles (R402, R418). -/
def State.startBoundary (s : State) (b : Boundary) : State :=
  let seq := if 16383 ≤ s.bill.seq then 1 else s.bill.seq + 1
  let q := { b with start := some s.cyc, cast := false, applyAt := cycPlus s.cyc 129 } :: s.bill.queue.drop 1
  ({ s with bill := { s.bill with queue := q, seq := seq }, ledger := { s.ledger with bound := [] } }).ps
    [(K.fire_BOUND_ID, 0xC000 + seq), (K.fire_BOUND_STAT, fireStat 2 0 0)]

/-- What a commit's checks find (R411, R412): RESULT, the slot and the abort code; RESULT 0 for a pass. -/
structure Verdict where
  result : Nat := 0
  slot   : Nat := 0
  abort  : Nat := 0
  deriving DecidableEq, Repr

/-- Slots staged before the i-th stage. -/
def slotOf (gs : List Stage) (i : Nat) : Nat := (gs.take i).foldl (fun a g => a + g.slots) 0

/-- The checks of R412 for the stages that remain: `t` is the state with the earlier ones applied. -/
def State.recheck (t : State) (who : Orig) (slot : Nat) : List Stage → Verdict
  | [] => {}
  | g :: rest =>
    let a := firstAbort [t.existence g.key, t.stageable g.key, t.stageChecks g.key g.data]
    if a = abSeal then { result := 0x22, slot := slot, abort := a }
    else if a ≠ 0 then { result := 0x21, slot := slot, abort := a }
    else if (t.die (keyDie g.key)).lost then { result := 0x23, slot := slot }
    else (t.perform who g).recheck who (slot + g.slots) rest

/-- The originator a number stands for. -/
def origOf (o : Nat) : Orig := if o = 0 then .host else if o = 1 then .can else .internal

/-- The checks of a commit that starts (R411, R412). -/
def State.judge (s : State) (o : Nat) : Verdict :=
  let f := s.fire o
  match f.dirty with
  | some i => { result := 0x20, slot := slotOf f.stages i }
  | none => s.recheck (origOf o) 0 f.stages

/-- A commit fails: it applies nothing (R411, R412, R420). -/
def State.failFire (s : State) (o : Nat) (v : Verdict) : State :=
  let id := s.g (K.fire_FIRE_ID o)
  let t := s.dropFire o 6 v.result
  if v.result = 0x20 then (t.inc K.fire_CONFLICT_COUNT).evChip 0x4081 (fireData [v.slot] id)
  else if v.result = 0x21 then
    (t.inc K.fire_CHECK_FAIL_COUNT).evChip 0x4082 (fireData (v.slot :: leBytes 4 v.abort) id)
  else t

/-- Cycles from a commit's start to its broadcast (R413). -/
def FireRt.span (f : FireRt) : Nat := 2 * f.slots + (if f.pSlots = 0 then 0 else 16 * (f.pSlots + 2)) + 1

/-- A general commit starts (R409 to R413). -/
def State.startCommit (s : State) (o : Nat) : State :=
  let v := s.judge o
  let f := s.fire o
  if v.result ≠ 0 then s.failFire o v
  else
    let bank := if f.pSlots = 0 then none else s.bankFree
    let t := s.setFire o { f with start := some s.cyc, castAt := cycPlus s.cyc f.span, bank := bank }
    match bank with
    | none => t
    | some n => { t with ledger := { t.ledger with banks := t.ledger.banks.store [] n [] } }

/-- The kiln takes the next commit (R409, R450, R451). -/
def State.nextCommit (s : State) : State :=
  if s.kilnBusy then s
  else match s.boundaryDue with
    | some b => s.startBoundary b
    | none => match s.waitingFires with
      | [] => s
      | o :: _ =>
        if s.mustFollow o || (decide ((s.fire o).pSlots ≠ 0) && s.bankFree.isNone) then s else s.startCommit o

/-- COMMIT_START (R409). -/
def execCommitStart (s : State) : Out := confined s (if s.d0Clock then s.nextCommit else s)

/-- FIRE_ID and A go to every follower in a two-word broadcast frame (R414, R415). -/
def State.tellFollowers (s : State) (id a : Nat) : State :=
  (List.range s.dies).foldl (fun t d =>
    if t.isFollower d && (t.line d).up then
      t.putWords d .out 1 [(id + a * 2 ^ 16) % two32, (id + a * 2 ^ 16) / two32]
    else t) s

/-- A general firing's broadcast (R414, R419): a target's die lost by now fails it. -/
def State.castFire (s : State) (o : Nat) : State :=
  let f := s.fire o
  match indexOf (fun g => (s.die (keyDie g.key)).lost) f.stages with
  | some i => s.failFire o { result := 0x23, slot := slotOf f.stages i }
  | none =>
    let a := cycPlus s.cyc f.lead
    let t := s.setFire o { f with
      applyAt := a, there := (List.range s.dies).filter (fun d => s.isFollower d && !(s.die d).lost) }
    (t.setFireStat o 3 0 f.slots).tellFollowers (s.g (K.fire_FIRE_ID o)) a

/-- The boundary firing's broadcast (R418). -/
def State.castBoundary (s : State) : State :=
  match s.bill.queue with
  | [] => s
  | b :: rest => match b.start with
    | none => s
    | some c =>
      if b.cast || decide (s.cyc ≠ cycPlus c 33) then s
      else (({ s with bill := { s.bill with queue := { b with cast := true } :: rest } }).p K.fire_BOUND_STAT
        (fireStat 3 0 0)).tellFollowers (s.g K.fire_BOUND_ID) b.applyAt

/-- COMMIT_BROADCAST: in the cycle s of the commit the kiln works on (R413, R414). -/
def execCommitBroadcast (s : State) : Out :=
  confined s (([2, 1, 0].foldl (fun t o =>
    if decide (t.fireState o = 2) && (t.fire o).start.isSome && decide ((t.fire o).castAt = t.cyc) then t.castFire o
    else t) s).castBoundary)

-- applying

/-- One action applies: its effect, the sealed change, and its place in the configuration log (R406, R414, R438,
R685). The second part tells whether any action so far was a sealed change. -/
def State.applyStage (r : State × Bool) (id : Nat) (who : Orig) (g : Stage) : State × Bool :=
  let s := r.1
  let t := s.perform who g
  let u := t.noteSealed s who g.key (leNat g.data) true
  (if isPersistent g.key then u.appendLog id g.key (cleanData g.key g.data) else u,
    r.2 || t.isSealedChange s g.key (leNat g.data))

/-- A firing applies in its cycle A (R414, R415, R420). -/
def State.applyFire (s : State) (o : Nat) : State :=
  let f := s.fire o
  let id := s.g (K.fire_FIRE_ID o)
  let lost := f.there.filter (fun d => (s.die d).lost)
  let s0 := s.setFire o { f with
    stages := [], start := none, commitAt := none, dirty := none, bank := none, outcome := if lost = [] then 1 else 2
    held := f.held ++ [{ slots := f.slots, bank := f.bank, keys := f.stages.map (·.key) }] }
  let s1 := f.stages.foldl (fun r g => State.applyStage r id (origOf o) g) (s0.journalBank o, false)
  let s2 := (s1.1.p K.fire_APPLY_CYC f.applyAt).inc K.fire_APPLIED_COUNT
  let s3 := if s1.2 then s2.evChip 0x4080 (fireData [] id) else s2
  lost.foldl (fun t d => t.react 0 3 0 0x4087 (s.die d).lossSerial (fireData [] id)) s3

/-- The scheduled firings whose cycle A this is, in order of broadcast. -/
def State.dueFires (s : State) : List Nat :=
  sortBy (fun a b => decide (cycDiff s.cyc (s.fire b).castAt ≤ cycDiff s.cyc (s.fire a).castAt))
    ([2, 1, 0].filter (fun o => decide (s.fireState o = 3) && (s.fire o).start.isSome &&
      decide ((s.fire o).applyAt = s.cyc)))

/-- FIRING_APPLY (R414). -/
def execFiringApply (s : State) : Out := booking s (s.dueFires.foldl (fun t o => t.applyFire o) s)

/-- The cycle after A shows the outcome (R414). -/
def State.showOutcome (s : State) (o : Nat) : State :=
  let f := s.fire o
  if f.outcome = 0 ∨ s.fireState o ≠ 3 ∨ f.applyAt = s.cyc then s
  else (s.setFire o { f with outcome := 0 }).setFireStat o 4 f.outcome ((f.held.getLast?).elim 0 (·.slots))

/-- In every cycle: outcomes of the cycle before. -/
def State.settleFires (s : State) : State := [0, 1, 2].foldl (fun t o => t.showOutcome o) s

/-- The oldest applied firing of an originator retires once the store, and for LEDGER actions the ledger, holds its
values (R415, R452). -/
def State.retireFire (s : State) (o : Nat) : State :=
  let f := s.fire o
  match f.held with
  | [] => s
  | h :: rest =>
    if s.unsaved.any (fun e => decide (e.2.2.1 ∈ h.keys)) || (s.ledger.fire && h.keys.any isLedgerTarget) then s
    else
      let t := (s.setFire o { f with held := rest }).freeBank h.bank
      (if rest = [] ∧ s.fireState o = 4 then
        t.p (K.fire_FIRE_STAT o) (s.g (K.fire_FIRE_STAT o) / 128 * 128) else t).syncGreen

/-- A boundary firing retires once the ledger controller has written its records, and its bank is freed (R418, R452). -/
def State.retireBoundary (s : State) : State :=
  if s.ledger.due = [] ∧ s.ledger.write = none then
    { s with bill := { s.bill with unretired := false }, ledger := { s.ledger with bound := [] } }
  else s

/-- FIRING_RETIRE (R415, R418). -/
def execFiringRetire (who : Orig) (s : State) : Out :=
  confined s (match who with
    | .boundary => s.retireBoundary
    | _ => s.retireFire (origNo who))

end Sys2Proof.Machine
end

