-- ==== Sys2Proof/Machine/Frame.lean ====
section
/-! DEFINITION. The frame boundary (R174, R183, R188, R302, R535): schedule, allowances, pulse latches and power
requests. -/

namespace Sys2Proof.Machine

/-- A die takes its allowance of the new frame; one not delivered counts as 0 and is logged while the governor is on
(R188). -/
def State.takeAllowance (s : State) (d : Nat) : State :=
  let r := s.die d
  let a := r.allowNext.getD 0
  let s1 := (s.setDie d { r with allowNow := a, allowNext := none }).p (K.die_ALLOW_LEFT d) a
  if s.pow.govOn && s.dieRuns d && r.allowNext.isNone then
    (s1.ev d 2 d 0x1034 (leBytes 4 (s.g K.dev_FRAME_NO))).inc (K.die_ALLOW_MISS_COUNT d)
  else s1

/-- A power request of a die takes effect at the boundary `b` (R533 to R535), in place of an earlier one whose entry is
still deferred. -/
def State.takeRequest (s : State) (b d : Nat) : State :=
  let r := s.die d
  let v := s.g (K.sup_PWR_REQ d)
  match r.reqAt with
  | none => s
  | some c =>
    if cycDiff b c < 96 then s
    else
      let s1 := s.setDie d { r with reqAt := none, entry := r.entry.filter (fun e => e.2 != 1) }
      if v = 0 then (if 2 ≤ s.pstate d then s1.wake d else s1)
      else if v = 0xFF ∨ v ≤ s.pstate d then s1
      else (s1.setDie d { s1.die d with entry := some (v, 1) }).tryEntry d

/-- Work that was armed for the frame in the cycle before it takes the RTC seconds of its epoch (R245). -/
def State.stampWork (s : State) (b : Nat) : State :=
  (List.range s.nSects).foldl (fun t i =>
    let r := t.sect i
    if r.work.any (fun f => f.epoch == b) then
      t.setSect i { r with work := r.work.map (fun f => if f.epoch = b then { f with rtc := s.frameRtc } else f) }
    else t) s

/-- Everything a frame boundary does. -/
def State.frameBoundary (s : State) : State :=
  let b := s.nextBoundary
  let s1 := s.adopt b
  let s2 := (({ s1 with frameRtc := s.rtcNow }).markSlots).stampWork b
  let s3 := (List.range s.dies).foldl (fun t d => t.takeAllowance d) s2
  let s4 : State := { s3 with pow := { s3.pow with allowSent := [] } }
  let s5 := (s4.latchPulses).settleEntries
  ((List.range s.dies).reverse).foldl (fun t d => t.takeRequest b d) s5

/-- FRAME_BOUNDARY, in the first cycle of a frame (R174, R183). -/
def execFrameBoundary (s : State) : Out :=
  confined s (if s.ready && s.d0Clock && decide (s.cyc = s.nextBoundary) then s.frameBoundary else s)

end Sys2Proof.Machine
end

