-- ==== Sys2Proof/Machine/Access.lean ====
section
/-! DEFINITION. Accesses to the dictionary by an originator (R405, R621, R733): reads, direct writes and stages, those
that wait for a follower (R492) or for the ember (R381), and RPDO writes (R619). -/

namespace Sys2Proof.Machine

-- who an access waits for (R733)

/-- The part serves originators: its start is complete and D0 is neither halted nor without its clock (R417, R552). -/
def State.serving (s : State) : Bool := s.ready && decide (s.halt = 0) && s.d0Clock

/-- A follower that can answer: not lost, running, its line up, and neither in DEEP nor in OFF. -/
def State.answers (s : State) (d : Nat) : Bool :=
  s.isFollower d && !(s.die d).lost && (s.die d).up && (s.line d).up && decide (s.pstate d ≤ 2)

/-- The dies whose copy a write of an entry reaches, beside D0's. -/
def State.copies (s : State) (key : Nat) : List Nat :=
  let i := ixOf key
  if (0x2001 ≤ i ∧ i ≤ 0x2008 ∧ subOf key ≠ 0xA1) ∨ (0x2100 ≤ i ∧ i < 0x2120) ∨ (0x2140 ≤ i ∧ i < 0x2180) ∨
      (0x2300 ≤ i ∧ i < 0x2380) ∨ i = 0x2400 ∨ i = 0x2F00 then [keyDie key]
  else if 0x2E00 ≤ i ∧ i ≤ 0x2E10 then List.range s.dies
  else if i = 0x2B00 then [s.g K.st_DIE_SEL]
  else []

/-- The followers a write waits for. -/
def State.writeWaits (s : State) (key : Nat) : List Nat := (s.copies key).filter s.answers

/-- Entries of 0x2B00 that are read from the follower DIE_SEL names. -/
def readFromFollower (key : Nat) : Bool :=
  decide (key = K.st_LINE_DATA) || decide (key = K.st_PART_TABLE) ||
    (decide (K.st_STORE_STAT ≤ key) && decide (key ≤ K.st_LOCK_STAT))

/-- An access waits on the lines of followers, with what their responses bring. -/
def State.waitFor (s : State) (ds : List Nat) (w : FollowWait) : State :=
  ds.foldl (fun t d => t.setLine d { t.line d with waits := (t.line d).waits ++ [w] }) s

/-- The cycle in which FOLLOW_TMO expires (R492). -/
def State.followExp (s : State) : Nat := cycPlus s.cyc (s.g K.dev_FOLLOW_TMO)

-- reads

/-- The access type of a read (R621). -/
def readAccess (r : Row) : Nat := abIf (decide (r.acc = .wo)) abWO

/-- A read of LINE_DATA waits for its line (R434). -/
def State.waitLine (s : State) (who : Orig) : State :=
  match who with
  | .host => { s with host := { s.host with lineRead := true } }
  | .can => { s with net := { s.net with lineRead := true } }
  | _ => s

/-- The values in force in this cycle: those of the firings whose apply cycle it is, also where the apply is still to
come in the queue (R414, R645). -/
def State.inForce (s : State) : State :=
  if s.pending.contains .firingApply then s.dueFires.foldl (fun t o => t.applyFire o) s else s

/-- LOOP_SLEW_MOVE (R650): in SLEEP and DEEP the loop holds its last setting (R572). -/
def execLoopSlewMove (s : State) : Out :=
  confined s (if s.cyc % 1024 = 0 ∧ s.d0Clock ∧ s.pstate 0 ≤ 1 then s.moveLoop s.inForce else s)

/-- What a read that passed its checks gives. -/
def State.readValue (s : State) (who : Orig) (key : Nat) : State × Reply :=
  if key = K.st_LINE_DATA then (s.waitLine who, { waits := true })
  else if ixOf key = 0x2800 ∧ subOf key ≠ 0 then (s.postEmber { key := key, write := false, who := who }, { waits := true })
  else if key = K.log_LOG_READ then
    let r := s.readLog who
    (r.1, { abort := r.2.1, data := r.2.2 })
  else if K.snap_SNAP_HDR ≤ key ∧ key ≤ K.snap_SNAP_SECT 7 then
    let r := s.readSnap who key
    (s, { abort := r.1, data := r.2 })
  else if key = K.sec_BLOB_DATA then
    let r := s.readBlob who
    (s, { abort := r.1, data := r.2 })
  else
    let data := (s.ownBytes who key).getD (s.inForce.entryBytes key)
    if readFromFollower key ∧ s.g K.st_DIE_SEL ≠ 0 then
      (if s.answers (s.g K.st_DIE_SEL) then
        (s.waitFor [s.g K.st_DIE_SEL] { key := key, who := who, exp := s.followExp, data := data }, { waits := true })
       else (s, { abort := abFollow }))
    else if 0x2001 ≤ ixOf key ∧ ixOf key ≤ 0x2008 ∧ subOf key = 0x8A then (s.p key 0, { data := data })
    else (s, { data := data })

/-- DIE_SEL names a die the part carries, where an entry of 0x2B00 needs it (log entry 27). -/
def State.dieSelCheck (s : State) (key : Nat) : Nat :=
  abIf (decide (ixOf key = 0x2B00) && decide (4 ≤ subOf key) && decide (s.dies ≤ s.g K.st_DIE_SEL)) abAbsent

/-- A read of an entry (R621, R733). -/
def State.readEntry (s : State) (who : Orig) (key : Nat) : State × Reply :=
  match findRow key with
  | none => (s, { abort := s.existence key })
  | some r =>
    let a := firstAbort [s.existence key, s.dieSelCheck key, readAccess r]
    if a ≠ 0 then (s, { abort := a }) else s.readValue who key

-- direct writes

/-- The access type of a write (R262, R621). -/
def State.writeAccess (s : State) (key : Nat) (r : Row) : Nat :=
  let i := ixOf key
  abIf (decide (r.acc = .ro) || decide (r.acc = .const) ||
    (decide (0x2300 ≤ i) && decide (i < 0x2380) && decide (1 ≤ subOf key) && decide (subOf key ≤ 17) &&
      decide (s.g (K.chan_KIND (i - 0x2300)) = 3))) abRO

/-- All checks of a direct write (R621): the abort code. -/
def State.directCheck (s : State) (who : Orig) (key : Nat) (data : List Nat) : Nat :=
  match findRow key with
  | none => s.existence key
  | some r =>
    let front := firstAbort [s.existence key, s.dieSelCheck key, s.writeAccess key r, lengthCheck r data.length]
    if front ≠ 0 then front
    else firstAbort [segLengthCheck key (leNat data), s.rangeCheck key r data, s.stateCheck who key,
      s.cmdCheck who key data, (s.putRaw key data).capCheck key, s.relCheck key data, s.sealCheck key (leNat data)]

/-- A write at the ember's port (R381): checked and counted as a sealed change when it is accepted. -/
def State.emberPost (s : State) (who : Orig) (key : Nat) (data : List Nat) : State × Reply :=
  let v := leNat data
  let w := match findRow key with | some r => tyBytes r.ty | none => 0
  let t := s.postEmber { key := key, write := true, who := who, value := if w = 0 then 0 else v
                         bytes := if w = 0 then data else [] }
  (t.noteSealed s who key v false, { waits := true })

/-- A write whose checks passed takes effect, and waits for the followers that hold a copy. -/
def State.apply (s : State) (who : Orig) (key : Nat) (data : List Nat) : State × Reply :=
  let ds := s.writeWaits key
  let t := s.direct who key data
  if ds = [] then (t, {}) else (t.waitFor ds { key := key, who := who, exp := s.followExp }, { waits := true })

/-- A direct write of an entry (R621). FIRE_CTL and UNLOCK judge their own commands (R401, R440). -/
def State.directWrite (s : State) (who : Orig) (key : Nat) (data : List Nat) : State × Reply :=
  let a := s.directCheck who key data
  if a ≠ 0 then
    (if a = abRO ∧ isLedgerTarget key ∧ s.existence key = 0 then s.totalTrip key false else s, { abort := a })
  else if ixOf key = 0x2A00 ∧ subOf key ≤ 3 then
    let r := s.fireCtl (origNo who) (leNat data)
    (r.1, { abort := r.2 })
  else if key = K.st_UNLOCK then
    let r := s.unlockPart (origNo who) (s.g K.st_DIE_SEL) data
    (r.1, { abort := r.2 })
  else if ixOf key = 0x2800 then s.emberPost who key data
  else s.apply who key data

/-- A stage, copied to the followers that hold the entry (R405, R415). -/
def State.stageAccess (s : State) (who : Orig) (key : Nat) (data : List Nat) : State × Reply :=
  let ds := s.writeWaits key
  let r := s.stageWrite who key data
  if r.2 ≠ 0 ∨ ds = [] then (r.1, { abort := r.2 })
  else (r.1.waitFor ds { key := key, who := who, exp := s.followExp, stage := true }, { waits := true })

/-- A write by an originator: a stage while its firing is open, unless its target is the firing object (R405). -/
def State.writeEntry (s : State) (who : Orig) (key : Nat) (data : List Nat) : State × Reply :=
  if s.isOpen who && decide (ixOf key ≠ 0x2A00) then s.stageAccess who key data else s.directWrite who key data

-- RPDO writes (R619)

/-- Entries and values an RPDO carries, in mapping order; dummy entries are skipped. -/
def rpdoParts : List Nat → List Nat → List (Nat × List Nat)
  | [], _ => []
  | w :: rest, data =>
    let n := w % 256 / 8
    let more := rpdoParts rest (data.drop n)
    if w / 2 ^ 24 = 0 then more else (w / 256, bytesAt data 0 n) :: more

/-- One write of an RPDO: always direct (R611), and nobody waits for its follower or the ember. -/
def State.rpdoWrite (s : State) (key : Nat) (data : List Nat) : State × Nat :=
  let a := s.directCheck .can key data
  if a ≠ 0 then (s, a)
  else if ixOf key = 0x2800 then ((s.emberPost .boundary key data).1, abNone)
  else ((s.direct .can key data).waitFor (s.writeWaits key) { key := key, who := .boundary, exp := s.followExp }, abNone)

/-- The writes of an RPDO, one after the other; the first abort code ends them. -/
def State.rpdoWrites (s : State) : List (Nat × List Nat) → State × Nat
  | [] => (s, 0)
  | (key, data) :: rest =>
    let r := s.rpdoWrite key data
    if r.2 ≠ 0 then r else r.1.rpdoWrites rest

-- the outcome of an access

/-- An access may change anything but CYC, the totals and the ledger, the SRAM banks, the blown fuses and the queue. -/
def accessing (s t : State) : Out :=
  .next { t with
    dies := s.dies, cyc := s.cyc, led := s.led, sram := s.sram, pending := s.pending, otp := { t.otp with arb := s.otp.arb } }

/-- An originator's write by a command of the table: answered at once, unless it waits. -/
def State.order (s : State) (who : Orig) (key : Nat) (data : List Nat) : State :=
  if !s.serving then s
  else
    let r := s.writeEntry who key data
    if r.2.waits then r.1 else r.1.reply r.2.abort []

/-- The command comes from the host, from CAN or from the internal firmware (R397). -/
def isOriginator (who : Orig) : Bool := decide (who ≠ .boundary)

/-- The outcome of such a command: an access where `ok` says that an originator can send it. One that names a resource
of a larger variant is answered with 0x06020000 (R4, R612). -/
def ordering (who : Orig) (ok : Bool) (s : State) (key : Nat) (data : List Nat) : Out :=
  if isOriginator who && ok then accessing s (s.order who key data) else .next s

/-- Bytes are bytes. -/
def isBytes (l : List Nat) : Bool := l.all (fun b => decide (b < 256))

end Sys2Proof.Machine
end

