-- ==== Sys2Proof/Machine/Orders.lean ====
section
/-! DEFINITION. The commands an originator gives by a write or a read of one entry: each is that access (R397, R405,
R621), with the entry and the value its row names. -/

namespace Sys2Proof.Machine

-- ports, paths, dies and pins

/-- CHECK_CMD (R84). -/
def execCheckCmd (who : Orig) (port : Nat) (s : State) : Out :=
  ordering who (decide (port < 64)) s (K.port_CHECK_CMD port) [1]

/-- LEARN of N (R126): 0 is rejected. -/
def execLearn (who : Orig) (path n : Nat) (s : State) : Out :=
  ordering who (decide (path < 32) && decide (n < 256)) s (K.path_LEARN path) [n]

/-- CAL_CMD full (R114). -/
def execCalCmdFull (who : Orig) (die : Nat) (s : State) : Out :=
  ordering who (decide (die < 8)) s (K.die_CAL_CMD die) [1]

/-- CAL_CMD quick (R114). -/
def execCalCmdQuick (who : Orig) (die : Nat) (s : State) : Out :=
  ordering who (decide (die < 8)) s (K.die_CAL_CMD die) [2]

/-- CLAMP_STICKY_CLEAR: a write of 1 to a pin's CLAMP_STICKY (R281). -/
def execClampStickyClear (who : Orig) (die pin : Nat) (s : State) : Out :=
  ordering who (decide (die < 8) && decide (pin < 16)) s (K.die_PIN_STAT die pin) [4, 0]

/-- MARCH_DESTRUCTIVE: MARCH_CMD = 1 (R475). -/
def execMarchDestructive (who : Orig) (die : Nat) (s : State) : Out :=
  ordering who (decide (die < 8)) s (K.die_MARCH_CMD die) [1]

/-- MARCH_TRANSPARENT: MARCH_CMD = 2 (R476). -/
def execMarchTransparent (who : Orig) (die : Nat) (s : State) : Out :=
  ordering who (decide (die < 8)) s (K.die_MARCH_CMD die) [2]

/-- MARCH_STOP: MARCH_CMD = 3 (R477). -/
def execMarchStop (who : Orig) (die : Nat) (s : State) : Out :=
  ordering who (decide (die < 8)) s (K.die_MARCH_CMD die) [3]

-- power and loop

/-- CANT_CMD (R518). -/
def execCantCmd (who : Orig) (value : Nat) (s : State) : Out :=
  ordering who (decide (value < 256)) s K.sup_CANT_CMD [value]

/-- LOOP_SET written (R648, R652). -/
def execLoopSetWrite (who : Orig) (value : Nat) (s : State) : Out :=
  ordering who (decide (value < two32)) s K.loop_LOOP_SET (leBytes 4 value)

-- the ember

/-- XCHK_CMD (R389). -/
def execXchkCmd (who : Orig) (n : Nat) (s : State) : Out := ordering who (decide (n < 256)) s K.emb_XCHK_CMD [n]

/-- SET_BIN (R379). -/
def execSetBin (who : Orig) (sec : Nat) (s : State) : Out :=
  ordering who (decide (sec < two32)) s K.emb_SET_BIN (leBytes 4 sec)

/-- SET_CAL (R378, R379). -/
def execSetCal (who : Orig) (fields : Nat) (s : State) : Out :=
  ordering who (decide (fields < two64)) s K.emb_SET_CAL (leBytes 8 fields)

/-- RTC_MODE written (R380). -/
def execRtcModeWrite (who : Orig) (mode : Nat) (s : State) : Out :=
  ordering who (decide (mode < 256)) s K.emb_RTC_MODE [mode]

/-- TRIM written (R374). -/
def execTrimWrite (who : Orig) (trim : Int) (s : State) : Out :=
  ordering who (decide (-32768 ≤ trim) && decide (trim ≤ 32767)) s K.emb_TRIM (leBytes 2 (ofSigned 16 trim))

/-- PWRON_CTL = 1 (R386). -/
def execPwronRelease (who : Orig) (s : State) : Out := ordering who true s K.emb_PWRON_CTL [1]

/-- PWRON_CTL = 2 (R386). -/
def execPwronAssert (who : Orig) (s : State) : Out := ordering who true s K.emb_PWRON_CTL [2]

-- billing and firings

/-- BILL_CMD (R360). -/
def execBillCmd (who : Orig) (value : Nat) (s : State) : Out :=
  ordering who (decide (value < 256)) s K.snap_BILL_CMD [value]

/-- FIRE_CTL = OPEN (R401). -/
def execFireOpen (who : Orig) (s : State) : Out := ordering who true s (K.fire_FIRE_CTL (origNo who)) [1, 0]

/-- FIRE_CTL = COMMIT (R401). -/
def execFireCommit (who : Orig) (s : State) : Out := ordering who true s (K.fire_FIRE_CTL (origNo who)) [2, 0]

/-- FIRE_CTL = ABORT (R401). -/
def execFireAbort (who : Orig) (s : State) : Out := ordering who true s (K.fire_FIRE_CTL (origNo who)) [3, 0]

-- the store

/-- UNLOCK (R440, R441). -/
def execUnlock (who : Orig) (bytes : List Nat) (s : State) : Out := ordering who (isBytes bytes) s K.st_UNLOCK bytes

/-- RELOCK (R440). -/
def execRelock (who : Orig) (part : Nat) (s : State) : Out :=
  ordering who (decide (part < 256)) s K.st_RELOCK [part]

/-- PART_DEF (R428). -/
def execPartDef (who : Orig) (bytes : List Nat) (s : State) : Out := ordering who (isBytes bytes) s K.st_PART_DEF bytes

/-- LINE_DATA written (R429, R439). -/
def execLineDataWrite (who : Orig) (bytes : List Nat) (s : State) : Out :=
  ordering who (isBytes bytes) s K.st_LINE_DATA bytes

/-- No read of LINE_DATA waits any more. -/
def State.endLineRead (s : State) (who : Orig) : State :=
  match who with
  | .host => { s with host := { s.host with lineRead := false } }
  | .can => { s with net := { s.net with lineRead := false } }
  | _ => s

/-- LINE_DATA read (R434): the line has been read and decoded; the access that waited for it is answered. -/
def State.lineDone (s : State) (who : Orig) (o : LineOutcome) : State :=
  let key := K.st_LINE_DATA
  let a := firstAbort [s.existence key, s.dieSelCheck key]
  if a ≠ 0 then (s.endLineRead who).answer who a []
  else
    let r := s.readLineData (origNo who) o
    (r.1.endLineRead who).answer who r.2.1 r.2.2

/-- LINE_DATA_READ (R431, R434, R458). -/
def execLineDataRead (who : Orig) (errs : List WordErr) (s : State) : Out :=
  if !(isOriginator who && errsOk errs) then .next s
  else accessing s (if s.serving then s.lineDone who (decodeLine errs) else s)

-- the kiln log

/-- LOG_READ read (R705). -/
def execLogRead (who : Orig) (s : State) : Out :=
  if who = .boundary then .next s
  else accessing s (if s.serving then
    let r := s.readEntry who K.log_LOG_READ
    r.1.reply r.2.abort r.2.data else s)

/-- LOG_RELEASE (R704). -/
def execLogRelease (who : Orig) (value : Nat) (s : State) : Out :=
  ordering who (decide (value < two32)) s K.log_LOG_RELEASE (leBytes 4 value)

-- security

/-- IMG_DATA (R676). -/
def execImgData (who : Orig) (bytes : List Nat) (s : State) : Out := ordering who (isBytes bytes) s K.sec_IMG_DATA bytes

/-- IMG_CMD = BEGIN (R676). -/
def execImgBegin (who : Orig) (s : State) : Out := ordering who true s K.sec_IMG_CMD [1]

/-- IMG_CMD = VERIFY (R677). -/
def execImgVerify (who : Orig) (s : State) : Out := ordering who true s K.sec_IMG_CMD [2]

/-- ARB_ADVANCE (R675). -/
def execArbAdvance (who : Orig) (value : Nat) (s : State) : Out :=
  ordering who (decide (value < 256)) s K.sec_ARB_ADVANCE [value]

/-- OEM_HASH written (R667). -/
def execOemHashWrite (who : Orig) (bytes : List Nat) (s : State) : Out :=
  ordering who (isBytes bytes) s K.sec_OEM_HASH bytes

/-- ATT_NONCE (R681). -/
def execAttNonce (who : Orig) (bytes : List Nat) (s : State) : Out := ordering who (isBytes bytes) s K.sec_ATT_NONCE bytes

/-- ATT_CMD (R681). -/
def execAttCmd (who : Orig) (value : Nat) (s : State) : Out :=
  ordering who (decide (value < 256)) s K.sec_ATT_CMD [value]

-- the dictionary

/-- DICT_WRITE: a write of any entry (R405, R621). -/
def execDictWrite (who : Orig) (index sub : Nat) (data : List Nat) (s : State) : Out :=
  ordering who (decide (index < 65536) && decide (sub < 256) && isBytes data) s (index * 256 + sub) data

/-- STORE_PARAMETERS: 0x1010 written over CAN (R614). -/
def execStoreParameters (sub signature : Nat) (s : State) : Out :=
  ordering .can (decide (sub < 256) && decide (signature < two32)) s (0x101000 + sub) (leBytes 4 signature)

/-- RESTORE_DEFAULTS: 0x1011 written over CAN (R614). -/
def execRestoreDefaults (sub signature : Nat) (s : State) : Out :=
  ordering .can (decide (sub < 256) && decide (signature < two32)) s (0x101100 + sub) (leBytes 4 signature)

/-- ERROR_FIELD_CLEAR: 0x1003.00 written over CAN (R606). -/
def execErrorFieldClear (value : Nat) (s : State) : Out :=
  ordering .can (decide (value < 256)) s (K.comm_ERRFIELD 0) [value]

end Sys2Proof.Machine
end

