-- ==== Sys2Proof/Machine/Nmt.lean ====
section
/-! DEFINITION. The state of the network node (R592 to R596): its changes, the boot-up message, and the reset of
communication with the bus-off hold it must respect (R658). -/

namespace Sys2Proof.Machine

/-- NMT states in heartbeat codes (R626). -/
abbrev nmBOOT : Nat := 0
abbrev nmSTOP : Nat := 4
abbrev nmOP : Nat := 5
abbrev nmPRE : Nat := 127

/-- ERR_STATE of CAN_STAT. -/
def State.setErr (s : State) (v : Nat) : State := s.p K.dev_CAN_STAT (setField (s.g K.dev_CAN_STAT) 9 8 v)

/-- The controller is on the bus: not in reset, not in bus-off, and clocked (R532, R575, R594). -/
def State.onBus (s : State) : Bool := !s.net.inReset && decide (s.canErr ≤ 1) && s.d0Clock && s.ready

/-- Nobody waits any more for an access the SDO server has begun: its answer goes nowhere. -/
def State.orphanWaits (s : State) : State :=
  let t := (List.range s.dies).foldl (fun u d => u.setLine d { u.line d with
    waits := (u.line d).waits.map (fun w => if w.who = .can then { w with who := .internal, stage := false } else w) }) s
  { t with ember := { t.ember with
    reqs := t.ember.reqs.map (fun r => if r.who = .can then { r with who := .internal } else r) } }

/-- A transfer or a waiting access of the SDO server ends with no effect and no abort (R593, R622). -/
def State.dropTransfer (s : State) : State :=
  let t := if s.net.wait.isSome then s.orphanWaits else s
  { t with net := { t.net with xfer := none, wait := none, lineRead := false } }

/-- Timers and triggers that only an operational node has: event timers start on entry, and nothing waits on leaving
(R592, R617). -/
def State.syncOperational (s : State) : State :=
  let s1 : State := { s with net := { s.net with syncCnt := [], dirty := [], inhWait := [], rpdoWait := [], trig := 0, due := 0 } }
  (List.range 16).foldl (fun t n => t.armEvent n) s1

/-- The node enters an NMT state: event 0x8008, and SYNC production counts from an entry into pre-operational or
operational (R594, R599). -/
def State.setNmt (s : State) (v : Nat) : State :=
  if s.nmt = v then s
  else
    let s1 := (s.p K.dev_CAN_STAT (setField (s.g K.dev_CAN_STAT) 6 0 v)).evChip 0x8008 [s.nmt, v]
    let s2 := if v = nmSTOP ∨ v = nmBOOT then s1.dropTransfer else { s1 with net := { s1.net with syncBase := s.cyc } }
    (if v = nmOP ∨ s.nmt = nmOP then s2.syncOperational else s2).armSync

/-- The rates, the sample points and the mode of the data phase take effect (R587, R626). -/
def State.syncRates (s : State) : State :=
  ({ s with net := { s.net with
      arbRate := s.g K.dev_ARB_RATE, dataRate := s.g K.dev_DATA_RATE
      arbSp := s.g K.dev_ARB_SP, dataSp := s.g K.dev_DATA_SP } }).bitTo
    K.dev_CAN_STAT 10 (decide (s.g K.dev_DATA_RATE ≠ 0))

/-- The boot-up message, pre-operational, and operational with AUTO_OP; the heartbeat counts from the message (R594,
R596). A node in boot-up already makes no change of state. -/
def State.bootUp (s : State) : State :=
  let s1 := (s.setNmt nmBOOT).sendFrame { id := 0x700 + s.net.nodeId, data := [0] }
  let s2 := s1.setNmt nmPRE
  let s3 := if s.g K.dev_AUTO_OP = 1 then s2.setNmt nmOP else s2
  ({ s3 with net := { s3.net with bootAt := s.cyc } }).armBeat

/-- The controller starts afresh: no frames wait, the error counters are 0, the rates take effect, and the
error state returns to 0 (R587, R593). It stays in reset with a node ID of 0 (R575). -/
def State.resetController (s : State) : State :=
  let off := decide (s.net.nodeId = 0)
  let s1 : State := { s with net := { s.net with
    txQ := [], hbTimers := [], syncWinEnd := none, busoffAt := none, recovering := false, inReset := off, resetDue := false,
    syncCounter := 0 } }
  let s2 := ((s1.p K.dev_TEC 0).setErr (if off then 3 else 0)).syncRates
  (if off then s2 else s2.bootUp).syncErr

/-- Communication entries 0x1000 to 0x1FFF that a reset of communication reloads: those an originator may write. -/
def isCommEntry (key : Nat) : Bool := decide (ixOf key < 0x2000) && decide (key ≠ K.comm_ERRREG)

/-- Bit timing that 0x1011 restores to its defaults (R614). -/
def isBitTiming (key : Nat) : Bool := decide (K.dev_ARB_RATE ≤ key) && decide (key ≤ K.dev_DATA_SP)

/-- 0x1000 to 0x1FFF from the last save, or from their defaults where the defaults were asked for (R593, R614). -/
def State.reloadComm (s : State) : State :=
  if s.net.loadDefault then
    ({ s with
      od := s.od.keep (fun k => !isCommEntry k && !isBitTiming k), saved := s.saved.keep (fun k => !isBitTiming k),
      net := { s.net with saved := [], loadDefault := false } }).syncMapped
  else
    let od := (s.net.saved.keep isCommEntry).foldl (fun t e => t.store (defaultOf e.1) e.1 e.2)
      (s.od.keep (fun k => !isCommEntry k))
    ({ s with od := od }).syncMapped

/-- NMT reset communication (R593): during a bus-off hold the controller is reinitialised when the hold ends (R658). -/
def State.resetComm (s : State) : State :=
  let s1 := ((s.abortOpen 1 0x13).dropTransfer).reloadComm
  if s.canErr = 2 ∧ !s.net.recovering then { s1 with net := { s1.net with resetDue := true } } else s1.resetController

end Sys2Proof.Machine
end

