-- ==== Sys2Proof/Machine/Restart.lean ====
section
/-! DEFINITION. What a restart does with the ledger, the store and the firings before it serves anything (R404, R416 to
R418, R437, R444, R445, R455). -/

namespace Sys2Proof.Machine

-- ledger records (R444 to R446)

/-- Bytes of the last snapshot held, zeros for none (R445). -/
def State.lastSnap (s : State) : List Nat := match s.bill.snaps.getLast? with | some e => e.2 | none => []

/-- Totals of record 1 to 8 of a section are restored from the last snapshot (R350, R445, R446): of each quantity first
T0 to T4, then T5 to T8 and the grand total. -/
def State.restoreTotals (s : State) (i r : Nat) : State :=
  let q := (r - 1) / 2
  let from_ := if r % 2 = 1 then 0 else 5
  (List.range 5).foldl (fun t j => t.pLed (totKey i q + from_ + j)
    (leAt s.lastSnap (64 + 704 * i + 8 * (10 * q + from_ + j)) 8)) s

/-- Four maximum demands and their times, record 13 to 19 of a section, are restored (R350, R445, R446). -/
def State.restoreDemand (s : State) (i r : Nat) : State :=
  ((List.range 4).map (fun j => 4 * (r - 13) + j)).foldl (fun t n =>
    if 27 ≤ n then t
    else
      let key := K.dem_MDV_T i 0 + 18 * (n / 9) + n % 9
      (t.pLed key (leAt s.lastSnap (64 + 704 * i + 320 + 8 * n) 8)).pLed (key + 9)
        (leAt s.lastSnap (64 + 704 * i + 584 + 4 * n) 4)) s

/-- Entries return to their defaults. -/
def State.initial (s : State) (keys : List Nat) : State := keys.foldl (fun t k => t.p k (defaultOf k)) s

/-- The initial value of a lost record of a section (R445, R446). -/
def State.initSect (s : State) (i r : Nat) : State :=
  let l := s.ledger
  if r = 0 then { s with ledger := { l with bk := l.bk.store none i none } }
  else if r = 9 then ({ s with ledger := { l with anc := l.anc.store [] i [] } }).initial [K.res_OVF_VOL i]
  else if r = 10 then s.initial [K.res_FAIL_TIME i, K.res_GAP_TIME i, K.sect_E_HOLD_TIME i]
  else if r = 11 then
    [K.dem_INT_FWD i, K.dem_INT_HEAT i, K.dem_INT_COOL i, K.dem_INT_START i].foldl (fun t k => t.pLed k 0) s
  else s.initial ((List.range 8).map (fun j => K.res_PEAK_FWD_INT i + j))

/-- A lost record of the chip takes its initial value; the SYS record halts the start instead (R445, R446, R558). -/
def State.initChip (s : State) (n : Nat) : State :=
  let r := s.store 0
  if n = 1 then s.putStore 0 { r with wrong := [], lockK := [], lockEnd := [] }
  else if n = 2 then s.putStore 0 { r with listed := [] }
  else if n = 3 then
    (({ s with bill := { s.bill with tariff := 0, intKey := 0, intEndRtc := 0xFFFFFFFF } }).initial
      [K.cal_TARIFF_NOW, K.snap_LAST_BKEY, K.snap_SNAP_LAST_NO, K.cal_CAL_STAT])
  else if n = 4 then
    ({ s with lant := { s.lant with resFwd := 0, resRev := 0 } }).initial
      ((List.range 9).map (fun j => K.lant_LANT_FWD + j))
  else s

/-- A record whose two slots are invalid (R445): totals and demands from the last snapshot, with PERIOD_OUTAGE; every
other record its initial value. A record of a section is written anew, with BOOK_NO 0 (log entry 90). -/
def State.loseRecord (s : State) (n : Nat) : State :=
  let s1 := s.declare 0 3 0 0x4012 (leBytes 2 n)
  let i := (n - 5) / 20
  let r := (n - 5) % 20
  if n < 5 then s1.initChip n
  else
    let s2 : State := { s1 with ledger := { s1.ledger with no := s1.ledger.no.store 0 n 0 } }
    let s3 := if 1 ≤ r ∧ r ≤ 8 then (s2.restoreTotals i r).setCal csOUTAGE true
      else if 13 ≤ r then (s2.restoreDemand i r).setCal csOUTAGE true
      else s2.initSect i r
    s3.markRecs i [r]

/-- Words of a slot with their wrong bits, as a restart finds them. -/
def damageOf (l : List SlotDamage) (n x : Nat) : List (Nat × Nat) :=
  (l.filter (fun d => d.record == n && d.slot == x)).flatMap (·.words)

/-- Both slots of a record are beyond the SECDED code. -/
def recordGone (l : List SlotDamage) (n : Nat) : Bool :=
  decide (badWords (damageOf l n 0) ≠ 0) && decide (badWords (damageOf l n 1) ≠ 0)

/-- Corrected words count in LEDGER_CE, each uncorrectable one declares an ECC event (R442, R457, R458). -/
def State.noteWords (s : State) (words : List (Nat × Nat)) : State :=
  let r := s.store 0
  (List.range (badWords words)).foldl (fun t _ => t.declare 0 2 0 0x4014 [])
    (s.putStore 0 { r with ledgerCe := wrap32 (r.ledgerCe + fixedWords words) })

/-- A slot is rewritten with another's payload at its SEQ + 1 (R444). -/
def State.rewriteSlot (s : State) (n x : Nat) (b : List Nat) : State :=
  s.putSlot n x (recBytes (b.take 56) (wrap32 (recSeq b + 1)))

/-- The registers of a record of a section take the content of its slot. -/
def State.readSlot (s : State) (n : Nat) (b : List Nat) : State := s.loadRecord ((n - 5) / 20) ((n - 5) % 20) b

/-- One record is read at a restart (R444). The chip's records hold their current content in both slots (log entry 8).
-/
def State.resolveRec (s : State) (l : List SlotDamage) (n : Nat) : State :=
  let wa := damageOf l n 0
  let wb := damageOf l n 1
  let t := (s.noteWords wa).noteWords wb
  let a := if n < 5 then recBytes [] 1 else t.slotAt n 0
  let b := if n < 5 then recBytes [] 1 else t.slotAt n 1
  let r := t.store 0
  match resolveSlots a b (decide (badWords wa ≠ 0)) (decide (badWords wb ≠ 0)) (t.tailOf n) with
  | .use _ => t
  | .tie x =>
    let w := if x = 0 then a else b
    ((((t.putStore 0 { r with tie := wrap32 (r.tie + 1) }).ev 0 2 0 0x4011 (leBytes 4 (recCrc a) ++ leBytes 4 (recCrc b))
      ).rewriteSlot n 0 w).rewriteSlot n 1 w).readSlot n w
  | .repair x =>
    let w := if x = 0 then a else b
    let u := (t.putStore 0 { r with repair := wrap32 (r.repair + 1) }).ev 0 2 0 0x4010 (leBytes 2 n)
    if n < 5 then u else (u.rewriteSlot n (1 - x) w).readSlot n w
  | .lost => t.loseRecord n

/-- Step 1 of R455: the records with wrong bits or a torn slot, in ascending order; every other one resolves to its
newer slot, whose content the registers hold. -/
def State.resolveLedger (s : State) (l : List SlotDamage) : State :=
  let torn := (s.ledger.slots.filter (fun e => decide (e.2.length ≠ 64))).map (fun e => e.1 / 2)
  ((l.map (·.record) ++ torn).foldl (fun a n => insertNat n a) []).foldl (fun t n => t.resolveRec l n) s

/-- The damage names slots and words the ledger has. -/
def State.findsOk (s : State) (l : List SlotDamage) : Bool :=
  l.all (fun f => decide (f.record < 5 + 20 * s.nSects) && decide (f.slot < 2) &&
    f.words.all (fun w => decide (w.1 < 16) && decide (1 ≤ w.2) && decide (w.2 ≤ 39)))

/-- Step 2 of R455 for one section: the booking in BK enters the records that do not include it (R449). -/
def State.recoverBooking (s : State) (i : Nat) : State :=
  match s.ledger.bk.look none i with
  | none => s
  | some b =>
    let rs := b.touches.filter (fun r => decide (s.ledger.no.look 0 (recNo i r) ≠ b.no))
    if rs = [] then s else ((rs.foldl (fun t r => t.enterBooking b r) s).markRecs i rs).evChip 0x4013 [i]

/-- A section's residues are those its ANC1 record holds, unless bookings of it still wait (R446). -/
def State.loadResidues (s : State) (i : Nat) : State :=
  if s.bill.waiting.any (fun b => b.sect == i) then s
  else s.setSect i { s.sect i with
    resFwd := s.ancOf i 0, resRev := s.ancOf i 1, carryFwd := s.ancOf i 2, carryRev := s.ancOf i 3
    heatRes := s.ancOf i 4, coolRes := s.ancOf i 5 }

-- an interrupted gather (R455 step 3)

/-- Position in the store ring's lines of a line of partition 5. -/
def logLineOf (l : Nat) : Nat := if l < 2048 then l - 1984 else l - 2048 - 1984 + 64

/-- Lines of an interrupted commit: user partitions' are torn, objects are rebuilt, kiln-log lines are written anew
(R437, R455). -/
def State.recoverGather (s : State) (d : Nat) : State :=
  let r := s.store d
  let p (l : Nat) : Nat := (s.partOf d l).getD 16
  let user := r.listed.filter (fun l => decide (6 ≤ p l) && decide (p l < 16))
  let s1 := s.putStore d { r with listed := [], torn := (r.torn ++ user).dedup }
  let s2 := if user = [] then s1 else s1.ev d 2 d 0x4004 [user.length]
  let s3 := ((r.listed.filterMap (objAt d)).dedup).foldl (fun t o => t.resolveObject d o) s2
  (r.listed.filter (fun l => p l = 5)).foldl (fun t l => t.gatherLine d l (logLine t.klog (logLineOf l))) s3

/-- Templates and the configuration base are compared as a cold start reads them (R437, R551). -/
def State.recoverObjects (s : State) (d : Nat) : State :=
  ([1900, 1905, 1910, 1915, cfgBase].filterMap (objAt d)).foldl (fun t o => t.resolveObject d o) s

-- firings (R404, R416, R417, R455 step 4)

/-- What becomes of a firing at a restart after a power-fail commit, by FIRE_STAT and its journal bank (R416, R455). -/
def State.fateCut (s : State) (o : Nat) : Nat :=
  let f := s.fire o
  let bank := f.bank.elim [] (fun n => s.ledger.banks.look [] n)
  let id := s.g (K.fire_FIRE_ID o)
  match s.fireState o with
  | 1 => 1
  | 2 => if !bankHeaderOk id (bank.headD []) then 1 else if bankSealed id bank then 3 else 2
  | 3 => if f.outcome = 0 then 3 else 0
  | _ => 0

/-- What becomes of a firing at any other reset, at which the kiln finishes a journal it has begun (R404). -/
def State.fateReset (s : State) (o : Nat) : Nat :=
  let f := s.fire o
  match s.fireState o with
  | 1 => 4
  | 2 => match f.start with
    | none => 4
    | some c => if f.pSlots = 0 ∨ cycDiff s.cyc c ≤ 2 * f.slots then 4 else 3
  | 3 => if f.outcome ≠ 0 then 0 else if f.pSlots = 0 then 4 else 3
  | _ => 0

/-- The journals the kiln finishes at a reset (R404). -/
def State.finishJournal (s : State) : State :=
  let t := [0, 1, 2].foldl (fun t o =>
    match (t.fire o).bank with
    | none => t
    | some n => if t.fateReset o ≠ 3 then t else
        { t with ledger := { t.ledger with banks := t.ledger.banks.store [] n (t.journal o) } }) s
  match t.bill.queue with
  | [] => t
  | b :: _ => if b.start.isSome then { t with ledger := { t.ledger with bound := t.boundaryEntries b } } else t

/-- A reset leaves the journals finished; after a power-fail commit they stay as it left them (R404, R416). -/
def State.settleJournal (s : State) : State := if s.pow.pfDone then s else s.finishJournal

/-- What becomes of a firing at a restart: 0 nothing, 1 aborted by a power loss, 2 rolled back, 3 recovered, 4 aborted
by a reset. -/
def State.fate (s : State) (o : Nat) : Nat := if s.pow.pfDone then s.fateCut o else s.fateReset o

/-- A sealed journal is applied: the persistent actions, in record order (R416, R417, R455). -/
def State.recoverFire (s : State) (o : Nat) : State :=
  let f := s.fire o
  let gs := f.stages.filter (·.persistent)
  let s0 := s.setFire o { f with
    stages := [], start := none, commitAt := none, dirty := none, bank := none, outcome := 0
    held := f.held ++ [{ slots := f.pSlots, bank := f.bank, keys := gs.map (·.key) }] }
  let s1 := (gs.foldl (fun r g => State.applyStage r (s.g (K.fire_FIRE_ID o)) (origOf o) g) (s0, false)).1
  ((s1.setFireStat o 4 3 f.pSlots).inc K.fire_RECOVER_COUNT).evChip 0x4085 (fireData [] (s.g (K.fire_FIRE_ID o)))

/-- One general firing at a restart. -/
def State.restartFire (s : State) (o v : Nat) : State :=
  let id := fireData [] (s.g (K.fire_FIRE_ID o))
  match v with
  | 1 => (s.dropFire o 5 0x12).evChip 0x4084 id
  | 2 => (s.dropFire o 6 0x24).declare 0 3 0 0x4086 id
  | 3 => s.recoverFire o
  | 4 => (s.dropFire o 5 0x13).evChip 0x4084 id
  | _ => s

/-- The boundary firing whose commit had begun or was sealed is completed, with its own apply cycle (R404, R418); what
waits behind it is found again by catch-up. -/
def State.restartBoundary (s : State) : State :=
  match s.bill.queue with
  | [] => s
  | b :: _ =>
    if b.start.isSome ∧ boundSealed s.ledger.bound then
      let t := ({ s with cyc := b.applyAt, bill := { s.bill with queue := [b] } }).applyBoundary b 3
      { t with cyc := s.cyc, bill := { t.bill with queue := [] } }
    else { s with bill := { s.bill with queue := [] }, ledger := { s.ledger with bound := [] } }

/-- What D0's store still has to write: configuration values whose log records a power-fail commit cut off, and the
snapshot in the staging area (R438, R452). -/
def State.resumeStore (s : State) : State :=
  let mine (e : Nat × Nat × Nat × List Nat) : Bool := decide (e.1 = 0) && decide (cfgLog ≤ e.2.1)
  let s1 := (s.unsaved.filter mine).foldl (fun t e => t.appendLog 0 e.2.2.1 e.2.2.2)
    { s with unsaved := s.unsaved.filter (fun e => !mine e) }
  if (s.store 0).staging = 0 then s1 else s1.stageSnapshot (s.g K.snap_SNAP_LAST_NO)

/-- The steps of R455: the ledger's records and bookings, interrupted gathers, the firings, the boundary. `read` tells
whether the records are resolved; `cut` whether a power-fail commit or a loss of power cut the store's work off. -/
def State.recover (s : State) (read cut : Bool) (l : List SlotDamage) (fates : List Nat) : State :=
  let s0 := if read then s.resolveLedger l else s
  let s1 := (List.range s.nSects).foldl (fun t i => (t.recoverBooking i).loadResidues i) s0
  let s2 := (List.range s.dies).foldl (fun t d => if (t.store d).listed = [] then t else t.recoverGather d) s1
  let s3 := [0, 1, 2].foldl (fun t o => t.restartFire o (fates.getD o 0)) (if cut then s2.resumeStore else s2)
  s3.restartBoundary.syncGreen

end Sys2Proof.Machine
end

