-- ==== Sys2Proof/Machine/Start.lean ====
section
/-! DEFINITION. Starts (R544 to R561): triggers, cold and warm starts of the chip, starts of a single follower, core
watchdogs, and the end of a March run. A start is one step: its commands say how long it took and what it found. The
entries it raises carry START_CYC (log entry 28). -/

namespace Sys2Proof.Machine

-- operands

/-- Outcomes a die of a start can show. -/
def dieStartOk (x : DieStart) : Bool :=
  decide (x.cause ∈ [0, 1, 5, 6, 7]) && decide (x.imgReason ≤ 6) && decide (x.cause = 5 → x.imgReason ≠ 0) &&
    marchOk x.march &&
    x.scrub.all (fun e => decide (e.1 < 4096) && errsOk e.2) && calResultsOk x.cal && quickOk x.quick &&
    decide (-32768 ≤ x.resid) && decide (x.resid ≤ 32767) &&
    decide (-32768 ≤ x.check) && decide (x.check ≤ 32767)

/-- What a start can find; D0 itself is not lost. -/
def State.startInfoOk (s : State) (i : StartInfo) : Bool :=
  decide (i.supmode < 4) && decide (i.nodeId < 128) && decide (i.f0Cycles ≤ i.cycles) && decide (i.cycles < two32) &&
    decide (i.emberCycles < two48) && decide (i.dies.length = s.dies) && i.dies.all dieStartOk && s.findsOk i.ledger &&
    decide ((i.dies.map (·.cause)).headD 0 = 0)

/-- How a die fares. -/
def dieOf (i : StartInfo) (d : Nat) : DieStart :=
  i.dies.getD d { cause := 0, imgReason := 0, cycOff := [], marchAt := 0, march := [], scrub := []
                  calAt := 0, cal := [], quick := [], edgeMean := 0, resid := 0, check := 0 }

-- triggers (R544)

/-- The chip triggers found. -/
def State.triggers (s : State) : List Nat :=
  let r := s.die 0
  let deep := decide (s.pstate 0 = 3) && r.up && !s.lant.running
  (if deep && s.pow.pfDone then [5] else []) ++ (if deep && r.waking.isSome then [6] else []) ++
    (if r.trigger = 0 then [] else [r.trigger]) ++ (if s.pstate 0 = 4 ∧ r.waking.isSome then [2] else [])

/-- START_CAUSE of the start the triggers lead to: the lowest, or 1 where EMBER_LOST is found (R544, R555). -/
def State.startCause (s : State) (l : List Nat) : Nat := if s.es esEMBER_LOST then 1 else l.foldl min 10

/-- A source that SUPMODE enables is present, and RES is at V_START (R513, R545). -/
def State.canStart (s : State) (supmode resDv : Nat) : Bool :=
  decide (52 ≤ resDv) && ((s.pow.loopOn && decide (supmode ≠ 1)) || (s.pow.busOn && decide (supmode ≠ 0)))

-- the work of single dies

/-- A start trim fits its register (R505). -/
def trimFits (v : Int) : Bool := decide (-32768 ≤ v) && decide (v ≤ 32767)

/-- START_TRIM is the negated mean of the edges (R505). -/
def trimOf (x : DieStart) : Int := -x.edgeMean

/-- A CYC_CHECK frame shows another CYC than D0's; alignment is repeated up to 3 times (R501). -/
def cycDiffers (x : DieStart) (k : Nat) : Bool := decide (x.cycOff.getD k 0 ≠ 0)
def cycLost (x : DieStart) : Bool := (List.range 4).all (cycDiffers x)

/-- CYC_CHECK frames its verification takes (R501). -/
def cycFrames (x : DieStart) : Nat := ((List.range 3).takeWhile (cycDiffers x)).length + 1

/-- The die-loss cause a follower's start ends in, 0 for none, in the order of the steps (R547, R556). -/
def failCause (march : Bool) (trims : Bool) (x : DieStart) : Nat :=
  if x.cause = 6 ∨ x.cause = 1 then x.cause
  else if cycLost x then 2
  else if march && decide (marchFails x.march ≠ []) then 4
  else if x.cause ≠ 0 then x.cause
  else if trims && !trimFits (trimOf x) then 3 else 0

/-- A die's SRAM has lost its contents (R471). -/
def State.renewSram (s : State) (d : Nat) : State :=
  s.setBank d { lost := (s.bank d).losses + 1, losses := (s.bank d).losses + 1 }

/-- A die's SRAM holds an image, whose region is locked from then on (R549). -/
def State.imageSram (s : State) (d : Nat) : State :=
  let t := s.renewSram d
  t.setBank d { t.bank d with locked := true }

/-- A March run's outcome: MARCH_STAT, its counts, and its event (R478, R480). -/
def State.marchResult (s : State) (d mode stat : Nat) (l : List MarchRead) : State :=
  let n := (marchFails l).length
  let s1 := s.ps [(K.die_MARCH_STAT d, stat), (K.die_MARCH_FAIL_COUNT d, n), (K.die_MARCH_FIRST_FAIL d, marchFirst l)]
  if stat = 4 then s1.declare d 2 d 0x6044 (leBytes 2 (marchFirst l) ++ leBytes 4 n ++ [mode])
  else if stat = 3 then s1.ev d 2 d 0x6043 [mode]
  else s1

/-- STAT of a run that has ended by itself: 3 passed, 4 failed. -/
def marchStat (l : List MarchRead) : Nat := if marchFails l = [] then 3 else 4

/-- The destructive run of a cold start, where MARCH_COLD = 1 (R474, R475, R478). -/
def State.coldMarch (s : State) (d : Nat) (x : DieStart) (base : Nat) : State :=
  if s.g (K.die_MARCH_COLD d) = 0 then s
  else
    (((s.p (K.die_MARCH_CYC d) (cycPlus base x.marchAt)).bitTo (K.die_START_STAT d) 2 true).clearBank d).marchResult d 1
      (marchStat x.march) x.march

/-- The TDC full calibration of a start (R112, R547). -/
def State.startCal (s : State) (d : Nat) (x : DieStart) (base : Nat) : State :=
  (((s.startFull d).p (K.die_CAL_CYC d) (cycPlus base x.calAt)).endFull d x.cal).bitTo (K.die_START_STAT d) 3 true

/-- The full trim calibration of a start (R505). A START_TRIM of D0 outside its range has no result in the spec (log
entry 20). -/
def State.startTrim (s : State) (d : Nat) (x : DieStart) : State :=
  (((s.pi 16 (K.die_START_TRIM d) (if trimFits (trimOf x) then trimOf x else fitS 27 16 (trimOf x))).pi 16 (K.die_TRIM_RESID d)
    x.resid).ev d 2 d 0x6002 (leBytes 2 (ofSigned 16 x.resid))).bitTo (K.die_START_STAT d) 4 true

/-- The scrub read of a cold start: the lines that were not clean (R435, R547). Device objects are compared, and a new
pass begins. -/
def State.startScrub (s : State) (d : Nat) (x : DieStart) : State :=
  let t := (x.scrub.foldl (fun t e => (t.readLine d e.1 (decodeLine e.2) true).1) s).recoverObjects d
  t.putStore d { t.store d with scrubLine := 0, scrubAt := s.cyc }

/-- Lines that the scrub read of a cold start finds uncorrectable. -/
def badLines (x : DieStart) : List Nat := (x.scrub.filter (fun e => decide (decodeLine e.2 = .uncorrectable))).map (·.1)

/-- Every line of an image slot reads (R427, R671). -/
def slotReads (x : DieStart) (slot : Nat) : Bool :=
  (badLines x).all (fun l => if slot = 0 then decide (l < 4) || decide (1347 < l) else decide (l < 2052) || decide (3395 < l))

/-- Neither copy of the configuration base is valid as a cold start reads them (R437). -/
def State.baseLost (s : State) (x : DieStart) : Bool :=
  let r := (s.store 0).cut 0
  let r' := { r with bad := (badLines x).foldl (fun l n => insertNat n l) r.bad }
  match objAt 0 cfgBase with
  | some o => !r'.copyOk o o.first && !r'.copyOk o (o.first + 2048)
  | none => false

/-- The die runs: RUN, with its core watchdog armed and no start trigger left; it takes slots from the first frame
boundary at least 96 cyc later (R537, R546, R552). -/
def State.dieStarted (s : State) (d was : Nat) : State :=
  let r := s.die d
  let s1 := (s.driveGpio d).setDie d { r with
    up := true, lost := false, lossSerial := 0, lossCause := 0, trigger := 0, wdArmed := true, wdFrom := s.cyc, waking := none
    entry := none, reqAt := none, wakeAt := 0, runFrom := cycPlus s.cyc 96 }
  let s2 := s1.p (K.die_START_STAT d) (setField (setField (s1.g (K.die_START_STAT d)) 7 5 0) 1 0 2)
  if was = 0 then s2.p (K.sup_PWR_STATE d) 0 else (s2.p (K.sup_PWR_STATE d) was).toPower d 0 2

/-- A follower's start fails (R556): it is declared lost, or stays lost with a new cause. -/
def State.failStart (s : State) (d c : Nat) : State :=
  if (s.die d).lost then
    let s1 := (s.setDie d { s.die d with lossCause := c, up := false, trigger := 0 }).setLine d { s.line d with
      up := false, step := 0
      retryAt := if c = 1 ∨ c = 2 ∨ c = 7 then some (cycPlus s.cyc cycPerSecond) else none }
    (s1.setLink d 1).p (K.die_START_STAT d) (setField (setField (s1.g (K.die_START_STAT d)) 7 5 c) 1 0 3)
  else s.loseDie d c

/-- A guy line is trained by resynchronisation (R493, R547). -/
def State.trainLine (s : State) (d : Nat) : State :=
  let fresh (l : LaneRt) : LaneRt := { idleFrom := l.idleFrom }
  let r := s.line d
  let s1 := s.setLine d { r with
    outward := fresh r.outward, inward := fresh r.inward, up := true, step := 0, flushed := 0, cycSent := none
    waits := [], late := [], retryAt := none }
  ((s1.inc (K.die_RESYNC_COUNT d)).setLink d 3).ev 0 2 d 0x6012 [0, 0]

/-- A follower rejects its image: a security fault for each rejection (R673, R674). -/
def State.rejectImage (s : State) (d : Nat) (x : DieStart) : State :=
  let one (t : State) : State := t.declare 0 3 0 0x7003 [d, x.imgReason]
  if x.imgReason = 0 then s else if x.cause = 5 then one (one s) else one s

/-- A follower's own cold start, once its entries are loaded (R547, R556). `was` is the power state it comes from. -/
def State.startFollower (s : State) (d : Nat) (x : DieStart) (base was : Nat) : State :=
  let c := failCause (decide (s.g (K.die_MARCH_COLD d) ≠ 0)) true x
  let s0 := s.p (K.die_START_STAT d) 1
  if c = 6 then s0.failStart d 6
  else if c = 1 then (s0.inc (K.die_RESYNC_COUNT d)).failStart d 1
  else
    let s1 := (s0.trainLine d).addTo (K.die_CYC_CHECK_COUNT d) (cycFrames x)
    if c = 2 then s1.failStart d 2
    else
      let s2 := s1.coldMarch d x base
      if c = 4 then s2.failStart d 4
      else
        let s3 := ((s2.startScrub d x).imageSram d).rejectImage d x
        if c = 5 ∨ c = 7 then s3.failStart d c
        else
          let s4 := s3.startCal d x base
          if c = 3 then s4.failStart d 3
          else
            let serial := (s4.die d).lossSerial
            let s5 := ((s4.startTrim d x).bitTo (K.die_LINK_STAT d) lkDIE_LOST false).dieStarted d was
            if serial = 0 then s5 else s5.endFault serial 0 3 0 0x6021 []

-- what a cold start wipes and loads

/-- The store holds the template of a path. -/
def State.hasTemplate (s : State) (n : Nat) : Bool := decide (s.saved.look [] (K.path_TEMPLATE n) ≠ [])

/-- Entries that go with a stored template (R128, R149). -/
def isTplKey (k : Nat) : Bool :=
  decide (0x2100 ≤ ixOf k) && decide (ixOf k < 0x2120) && decide (subOf k ∈ [0x33, 0x34, 0x43, 0x44, 0x45])

/-- Entries a chip cold start leaves as they are: those the ember, the ledger and the stores hold (R320, R371, R446,
R700; log entry 29). -/
def State.coldKept (s : State) (k : Nat) : Bool :=
  let i := ixOf k
  let j := subOf k
  decide (i = 0x2800) || (decide (i = 0x2500) && decide (9 ≤ j) && decide (j ≤ 0x11)) ||
    (decide (0x2210 ≤ i) && decide (i < 0x2218) && decide (0x10 ≤ j) && decide (j ≤ 0x1A)) ||
    (decide (0x2200 ≤ i) && decide (i < 0x2208) && decide (j = 0x1D)) ||
    decide (k ∈ [K.cal_TARIFF_NOW, K.cal_CAL_STAT, K.snap_SNAP_COUNT, K.snap_SNAP_LAST_NO, K.snap_LAST_BKEY,
      K.fire_BOUND_STAT, K.fire_BOUND_ID, K.sec_AUDIT, K.sec_SEAL_OPENS, K.dev_COLD_COUNT, K.dev_WARM_COUNT,
      K.log_LOG_FIRST, K.log_LOG_LAST, K.log_FREEZE_NO, K.log_LOG_STAT]) ||
    (decide (i = 0x2A00) && decide (4 ≤ j) && decide (j ≤ 9)) || (isTplKey k && s.hasTemplate (i - 0x2100))

/-- Put a value the store holds into its entry; entries that go with a template come with it. -/
def State.loadValue (s : State) (e : Nat × List Nat) : State := if isTplKey e.1 then s else s.putRaw e.1 e.2

/-- Members of a chain show KIND 3 (R262). -/
def State.joinChains (s : State) : State :=
  (List.range s.nChans).foldl (fun t c =>
    (List.range (t.chainLen c - 1)).foldl (fun u j => u.p (K.chan_KIND (c + 1 + j)) 3) t) s

/-- Everything that follows from the loaded entries (R79, R91, R177, R277, R321, R439, R617, R649, R665). -/
def State.syncAll (s : State) : State :=
  let s1 := (List.range s.nPorts).foldl (fun t n => ((t.syncCaps n).reHold n).syncSilent n) s.joinChains
  let s2 := (List.range s.dies).foldl (fun t d => t.syncUsed d) s1
  ((((s2.syncPriv).syncRsv).syncArmed).syncMapped).syncStore

/-- A store at a chip cold start: its counters and its buffer are gone, an interrupted commit stays listed, and a lock
goes on for the time it had left at `now` (R430, R446, R454, R458). -/
def StoreRt.restarted (r : StoreRt) (d now next : Nat) : StoreRt :=
  { r.cut d with
    unlocked := [], scrubDays := 30, ce := 0, rs := 0, ue := 0, gathers := 0, ledgerCe := 0, tie := 0, repair := 0
    scrub := false, recovering := false, lineFail := false
    lineTorn := false
    lockEnd := (r.lockEnd.filter (fun e => !cycReached now (e.2 - 1))).map (fun e =>
      (e.1, cycPlus next (cycDiff (e.2 - 1) now) + 1)) }

/-- Values of applied firings that have not retired are written to the store (R416, R455). -/
def State.finishHeld (s : State) : State :=
  let keys := [0, 1, 2].flatMap (fun o => (s.fire o).held.flatMap (·.keys))
  let mine := s.unsaved.filter (fun e => decide (e.2.2.1 ∈ keys))
  { s with saved := mine.foldl (fun t e => t.store [] e.2.2.1 e.2.2.2) s.saved }

/-- What a chip cold start leaves of the state: the OTP, the ember, the ledger, the stores, the kiln log and the sources
(R434, R446, R547, R550, R734). `start` is the cycle it is complete in. -/
def State.wiped (s : State) (info : StartInfo) (start : Nat) : State :=
  let kept : State :=
    { dies := s.dies, cyc := start, od := s.od.keep s.coldKept, led := s.led, blobs := s.blobs.keep (fun k => ixOf k = 0x2800)
      klog := s.klog, dropsAt := s.dropsAt, otp := s.otp, pending := s.pending
      saved := if s.baseLost (dieOf info 0) then s.saved.keep (fun k => decide (k ∈ (List.range 32).map K.path_TEMPLATE)) else s.saved
      ember := { s.ember with reqs := [], ans := none }
      lant := { resFwd := s.lant.resFwd, resRev := s.lant.resRev }
      pow := { loopOn := s.pow.loopOn && decide (info.supmode ≠ 1), busOn := s.pow.busOn && decide (info.supmode ≠ 0) }
      net := { saved := s.net.saved, loadDefault := s.net.loadDefault }
      ledger := s.ledger
      bill := { tariff := s.bill.tariff, snaps := s.bill.snaps, queue := s.bill.queue, seq := s.bill.seq
                prevRtc := s.bill.prevRtc, intKey := s.bill.intKey, intEndRtc := s.bill.intEndRtc
                unretired := s.bill.unretired, held := s.bill.held, demWritten := s.bill.demWritten, sched := s.bill.sched } }
  let s2 := (List.range s.dies).foldl (fun t d =>
    let u := (t.setDie d { count := (s.die d).count, logQ := (s.die d).logQ, qdrop := (s.die d).qdrop }).setStore d
      ((s.store d).restarted d s.cyc start)
    (u.setBank d (s.bank d)).renewSram d) kept
  let s3 := [0, 1, 2].foldl (fun t o =>
    let f := s.fire o
    t.setFire o { seq := f.seq, stages := f.stages, held := f.held, outcome := f.outcome, applyAt := f.applyAt, bank := f.bank }) s2
  (([csCATCHUP, csCAL_ON, csSPECIAL].foldl (fun t n => t.setCal n false) s3).setSup ssLOOP_OK s3.pow.loopOn).setSup ssBUS_OK
    s3.pow.busOn

/-- The straps (R513, R573 to R575, R583). -/
def State.readStraps (s : State) (supmode node : Nat) : State :=
  let s1 := s.ps [(K.sup_SUPMODE, supmode), (K.dev_STRAP_STAT, node + 2 ^ 8 * supmode + 2 ^ 10 * b01 (decide (node = 0)))]
  let s2 : State := { s1 with net := { s1.net with nodeId := node } }
  let s3 := if supmode = 3 then (s2.setSup ssSTRAP_ERR true).evChip 0x5003 [] else s2
  if node = 0 then s3.evChip 0x8F00 [] else s3

/-- The dictionary as the stores hold it (R438, R551, R614), and the settings that are in force with it. -/
def State.loadAll (s : State) : State :=
  let s1 := (s.saved.foldl (fun t e => t.loadValue e) s).reloadComm
  let s2 := (List.range s.dies).foldl (fun t d => t.setDie d { t.die d with
    slotCount := t.g (K.die_SLOT_COUNT d), slots := (List.range 4).map (fun e => t.g (K.die_SLOT d e)), slotPend := [] }) s1
  { s2.syncAll with frameLen := s2.g K.dev_FRAME_LEN, lenPend := [] }

-- the image (R671, R672, R674)

/-- Verify the slots in order: the first that passes, and the state with a security fault for each rejection. -/
def State.bootSlots (s : State) : List (Nat × Bool) → State × Option Nat
  | [] => (s, none)
  | (slot, readable) :: rest =>
    let r := s.slotReason slot readable
    if r = 0 then (s, some slot) else (s.declare 0 3 0 0x7001 [slot, r]).bootSlots rest

/-- The image that boots is recorded (R669, R672). -/
def State.bootFrom (s : State) (slot : Nat) : State :=
  let h := s.slotHeader slot
  let s1 : State := { s.noteSlot slot with sec := { header := h } }
  ((s1.ps [(K.sec_BOOT_USED, slot), (K.sec_LEGAL_ID, hdrLegalId h)]).setSec scFALLBACK
    (decide (slot ≠ s.g K.dev_BOOT_SLOT))).setSec scOEM_REQ s.oemSet

-- the end of a start

/-- D0 halts (R558): 1 March, 2 image, 3 ledger. -/
def State.haltAt (s : State) (cause : Nat) : State :=
  let s1 := (List.range s.dies).foldl (fun t d =>
    if d = 0 then t
    else ((t.setDie d { t.die d with up := false, wdArmed := false }).setLine d { t.line d with up := false }).p
      (K.sup_PWR_STATE d) 4) s
  let s2 : State := { s1 with
    halt := cause, ready := false, framing := false, net := { s1.net with inReset := true, txQ := [] }
    pow := { s1.pow with pfArmed := false, pfDone := false } }
  let s3 := s2.setDie 0 { s2.die 0 with up := true, trigger := 0, waking := none, wdArmed := false }
  (((s3.p (K.sup_PWR_STATE 0) 0).setErr 3).syncLoop.evChip 0x6032 [cause]).irq 7

/-- A section's rate when a start is complete (R187, R552). -/
def State.startRate (s : State) (i : Nat) : State :=
  let force := s.g (K.sect_RATE_FORCE i)
  let on := decide (s.g (K.sect_PATH_MASK i) ≠ 0)
  let active := on && decide (force ≠ 1)
  let s1 := s.setSect i { s.sect i with
    work := [], chanWait := [], trans := [], forceW := [], force := force, auto := b01 (on && decide (force = 0)), cut := none
    hold := if on && decide (force = 0) then some (cycPlus s.cyc (s.g (K.sect_HOLD i) * cycPerSecond)) else none }
  let s2 := s1.p (K.sect_RATE_STATE i) (b01 active)
  if active then s2.evChip 0x1032 [i, 0xFF] else s2

/-- What every completed start does about EMBER_LOST, CELL_LOW and the tamper flags (R372, R388, R393). -/
def State.readEmber (s : State) : State :=
  let s1 := if s.es esEMBER_LOST then (s.p K.emb_SEC_AT_POR_DETECT s.ember.sec).declare 0 3 0 0x3020 [] else s
  let s2 := if !s.es esEMBER_LOST && s.es esCELL_LOW && !s.ember.cellTold then
      ({ s1 with ember := { s1.ember with cellTold := true } }).evChip 0x3021 [b01 (s.es esSUPPLY)]
    else s1
  (s2.declareTamper 0).declareTamper 1

/-- START_TIME in µs of a number of cycles (the direction of rounding is open, log entry 12). -/
def startTime (cycles : Nat) : Nat := wrap32 (roundOpen 14 ((cycles * 10 ^ 6 : Nat) : Int) cycPerSecond).toNat

/-- A start of the chip is complete (R372, R552, R684, R735): `kind` 0 cold, 1 warm. -/
def State.completeStart (s : State) (kind cause cycles : Nat) : State :=
  let s0 : State := { s with
    ready := true, halt := 0, pow := { s.pow with pfArmed := true, pfDone := false, bleed := false, pinZero := false }
    host := { s.host with key := 0, busy := false, done := false, err := 0, lineRead := false }
    wdWarm := if cause = 7 then some s.cyc else none, sec := { s.sec with sealAt := s.cyc } }
  let s1 := s0.ps [(K.dev_START_KIND, kind), (K.dev_START_CAUSE, cause), (K.dev_START_CYC, s.cyc),
    (K.dev_START_TIME, startTime cycles), (K.dev_FVF_TIME, 0xFFFFFFFF), (K.loop_LOOP_SET, 0x10000), (K.sec_SEAL_STATE, 0),
    (K.sec_IMG_STAT, 0), (K.sec_ATT_STAT, if s.g K.sec_ATT_STAT = 1 then 3 else s.g K.sec_ATT_STAT)]
  let s2 := ((((s1.inc (if kind = 0 then K.dev_COLD_COUNT else K.dev_WARM_COUNT)).setSup ssRIDE false).setSup ssLANT_RAIL
    false).setSec scSEAL_OPEN false).setSec scDIGEST_PEND true
  let s3 := s2.evChip 0x6030 ([kind, cause] ++ leBytes 4 (startTime cycles))
  let s4 := (List.range s.nSects).foldl (fun t i => t.startRate i) s3.readEmber
  let s5 := (List.range s.nPaths).foldl (fun t n => t.setPath n { t.path n with countdown := 0, div := 0, shoots := false }) s4
  ((s5.startCalendar).syncLoop).syncErr

-- chip cold start (R547 to R553)

/-- F0, and the frame the start is complete in: frames count from F0 (R174, R552). -/
def State.coldFrames (s : State) (f0 : Nat) : State :=
  let n := cycDiff s.cyc f0 / s.frameLen
  { s.ps [(K.dev_F0, f0), (K.dev_FRAME_NO, wrap32 n)] with
    f0 := f0, framing := true, frameAt := cycPlus f0 (n * s.frameLen), frameSeq := n, frameRtc := s.rtcNow }

/-- Work a cold start leaves to do: impedance checks of the ports that drive, and a measurement of the canteen (R84,
R518, R552). -/
def State.coldRequests (s : State) : State :=
  let s1 := (List.range s.nPorts).foldl (fun t n => if t.g (K.port_PULSES n) = 0 then t else t.askCheck n) s
  { s1 with pow := { s1.pow with measAt := some 0 } }

/-- The cycle CYC counts from in a cold start: 0 where HCLK was off, and its restored value where D0 leaves DEEP (R11,
R503; log entry 28). -/
def State.coldBase (s : State) (info : StartInfo) : Nat :=
  if s.pstate 0 = 3 then cycPlus (s.die 0).deepCyc (750 * info.emberCycles) else if (s.die 0).up then s.cyc else 0

/-- A cold start up to D0's March run: the state is wiped, the entries are loaded and the straps read (R547). -/
def State.coldLoaded (s : State) (cause : Nat) (info : StartInfo) : State :=
  let base := s.coldBase info
  let s0 := s.settleJournal.bookAll.landAll.finishHeld.wiped info (cycPlus base info.cycles)
  let s1 := s0.loadAll.readStraps info.supmode info.nodeId
  let s2 := s1.ps
    [(K.dev_START_KIND, 0), (K.dev_START_CAUSE, cause),
     (K.sec_ATT_STAT, if s.g K.sec_ATT_STAT = 1 ∧ (s.die 0).up then 3 else 0)]
  s2.coldMarch 0 (dieOf info 0) base

/-- D0's scrub read, the ledger, and the image slots in order: the state, and the slot that boots (R547, R672). -/
def State.coldImage (s : State) (cause : Nat) (info : StartInfo) : State × Option Nat :=
  let t := (s.coldLoaded cause info).startScrub 0 (dieOf info 0)
  let b := t.g K.dev_BOOT_SLOT
  let rd := slotReads (dieOf info 0)
  (t.recover true true info.ledger ([0, 1, 2].map s.fate)).bootSlots [(b, rd b), (1 - b, rd (1 - b))]

/-- The rest of a cold start, `t`, from the image that boots on (R547). -/
def State.coldRest (s t : State) (info : StartInfo) (cause slot : Nat) : State :=
  let base := s.coldBase info
  let x := dieOf info 0
  let t1 := ((((t.bootFrom slot).imageSram 0).startCal 0 x base).startTrim 0 x).dieStarted 0 (s.pstate 0)
  let t2 := ((List.range s.dies).filter (fun d => d != 0)).foldl
    (fun u d => u.startFollower d (dieOf info d) base (s.pstate d)) t1
  ((t2.coldFrames (cycPlus base info.f0Cycles)).completeStart 0 cause info.cycles).coldRequests.resetController

/-- A cold start of the chip, or the halt it ends in (R547, R558). -/
def State.coldChip (s : State) (cause : Nat) (info : StartInfo) : State :=
  let x := dieOf info 0
  let t := s.coldLoaded cause info
  if decide (t.g (K.die_MARCH_COLD 0) ≠ 0) && decide (marchFails x.march ≠ []) then t.haltAt 1
  else if recordGone info.ledger 0 then (t.startScrub 0 x).haltAt 3
  else match s.coldImage cause info with
    | (u, none) => u.haltAt 2
    | (u, some slot) => s.coldRest u info cause slot

/-- COLD_START (R544, R545, R547): one of the triggers found is the row's cause, and the start they lead to is cold. -/
def execColdStart (cause : Nat) (info : StartInfo) (s : State) : Out :=
  let found := s.triggers
  let c := s.startCause found
  if !(decide (1 ≤ cause) && decide (cause ≤ 4) && s.startInfoOk info) then .next s
  else starting s (if decide (found ≠ []) && decide (c = cause) && s.canStart info.supmode info.resDv then
    s.coldChip c info else s)

-- warm starts (R554, R555, R735)

/-- Every other rw entry takes its default; CONFIG and TABLE entries come from the store (R551). -/
def State.reloadDict (s : State) : State :=
  let keep (k : Nat) : Bool :=
    match findRow k with
    | none => true
    | some r => decide (r.acc ≠ .rw) || decide (ixOf k = 0x2800) || decide (ixOf k < 0x2000) || isTplKey k
  let od := s.od.foldl (fun t e =>
    match w1cMask e.1 with
    | some m => if ixOf e.1 = 0x2800 then t else t.store (defaultOf e.1) e.1 (clearBits e.2 m)
    | none => if keep e.1 then t else t.erase e.1) s.od
  let s1 : State := { s with
    od := od, blobs := s.blobs.keep (fun k => ixOf k = 0x2800)
    host := { s.host with snapSel := 0, logSel := 0, logNum := 32, blobSel := 2, blobOfs := 0 }
    net := { s.net with snapSel := 0, logSel := 0, logNum := 32, blobSel := 2, blobOfs := 0 } }
  let s2 := (s.saved ++ s.unsaved.map (fun e => e.2.2)).foldl (fun t e => t.loadValue e) s1
  let s3 := (List.range s.dies).foldl (fun t d => t.setDie d { t.die d with
    slotCount := t.g (K.die_SLOT_COUNT d), slots := (List.range 4).map (fun e => t.g (K.die_SLOT d e)), slotPend := [] }) s2
  let s4 := (List.range s.dies).foldl (fun t d => t.setStore d { t.store d with scrubDays := 30 }) s3
  { s4.syncAll with frameLen := s4.g K.dev_FRAME_LEN, lenPend := [] }

/-- Impedance checks in progress stay requested (R735). -/
def State.keepChecks (s : State) (d : Nat) : State :=
  (List.range 8).foldl (fun t j =>
    let n := 8 * d + j
    if t.st n stRUN then (t.bitTo (K.port_STATUS n) stRUN false).bitTo (K.port_STATUS n) stPEND true else t) s

/-- Work in progress on a die at a warm start: its scans resume with a new one (R735), and SCAN_NO goes on (R269,
R551). -/
def State.dropWork (s : State) (d : Nat) : State :=
  let s1 := ((((s.keepChecks d).stopPaths d).stopSense d).stopCal d).stopMarch d
  s1.setDie d { s1.die d with rescan := true }

/-- A follower's line at a warm start: kept, or resynchronised from the beginning (R493, R554, R735). -/
def State.warmLine (s : State) (d : Nat) (again : Bool) : State :=
  if again then (s.beginResync d .d0).trainLine d
  else s.setLine d { s.line d with waits := [], late := [], cycSent := none }

/-- The TDC quick check of a warm start, and the full calibration that follows a failing one (R113, R554). -/
def State.warmCal (s : State) (d : Nat) (x : DieStart) (base : Nat) : State :=
  if quickPasses (s.die d).interp x.quick then (s.setDie d { s.die d with calQuick := false }).calIdle d
  else (s.endQuick d x.quick).startCal d x base

/-- The trim check of a warm start is logged (R505). -/
def State.logCheck (s : State) (d : Nat) (x : DieStart) : State :=
  (s.pi 16 (K.die_TRIM_RESID d) x.check).ev d 2 d 0x6002 (leBytes 2 (ofSigned 16 x.check))

/-- The trim check of a warm start, and the calibration that follows one outside its band (R505, R554). -/
def State.warmTrim (s : State) (d : Nat) (x : DieStart) : State :=
  if x.check.natAbs ≤ 26 then s.logCheck d x else (s.logCheck d x).startTrim d x

/-- A running die starts warm (R554, R556). -/
def State.warmDie (s : State) (d : Nat) (x : DieStart) (base : Nat) : State :=
  let s0 := (s.dropWork d).p (K.die_START_STAT d) (s.g (K.die_START_STAT d) % 8 / 4 * 4 + 1)
  let s1 := s0.warmCal d x base
  if d ≠ 0 ∧ 26 < x.check.natAbs ∧ !trimFits (trimOf x) then (s1.logCheck d x).failStart d 3
  else (s1.warmTrim d x).dieStarted d (s.pstate d)

/-- F0 of a warm start lies 96 cyc after START_CYC, and FRAME_NO restarts (R555). The age of a velocity goes on by the
frames that would have passed (DEDUCED, log entry 84). -/
def State.warmFrames (s : State) : State :=
  let f0 := cycPlus s.cyc 96
  { s.ps [(K.dev_F0, f0), (K.dev_FRAME_NO, 0)] with
    f0 := f0, framing := false, frameAt := f0, frameSeq := s.frameSeq + cycDiff f0 s.frameAt / s.frameLen }

-- a follower's own starts (R544, R556, R557, R734)

/-- Entries of a follower that its cold start leaves: those of the configuration and of its templates, and those D0
keeps of its line (R510, R547). -/
def State.followerKept (s : State) (d k : Nat) : Bool :=
  decide (keyDie k ≠ d) || isPersistent k || (isTplKey k && s.hasTemplate (ixOf k - 0x2100)) ||
    (decide (0x2001 ≤ ixOf k) && decide (ixOf k ≤ 0x2008) && decide (0x90 ≤ subOf k) && decide (subOf k ≤ 0x95))

/-- The standing faults a follower declared itself end, unlogged (R734). -/
def State.dropStanding (s : State) (d : Nat) : State :=
  let r := s.line d
  { s.setLine d { r with serial := if r.serial / 2 ^ 29 = d then 0 else r.serial } with
    standing := s.standing.filter (fun f => !(f.die == d && decide (f.level < 3))) }

/-- What a cold start of a follower wipes: its records, its other entries, and its SRAM. -/
def State.wipeFollower (s : State) (d : Nat) : State :=
  let r := s.die d
  let own (n per : Nat) : Bool := n / per == d
  let t : State := { s.dropStanding d with
    od := s.od.keep (s.followerKept d)
    lag := s.lag.keep (fun k => keyDie k != d), ports := s.ports.keep (fun n => !own n 8)
    paths := s.paths.keep (fun n => !own n 4), pulses := s.pulses.keep (fun n => !own n 4)
    pins := s.pins.keep (fun n => !own n 16) }
  let t1 := (List.range 16).foldl (fun u c =>
    let x := s.chan (16 * d + c)
    u.setChan (16 * d + c) { val := x.val, valCyc := x.valCyc, positive := x.positive }) t
  let t2 := t1.setDie d { lost := r.lost, lossSerial := r.lossSerial, lossCause := r.lossCause, count := r.count
                          logQ := r.logQ, qdrop := r.qdrop, railMain := r.railMain, railCore := r.railCore
                          mainAt := r.mainAt, coreAt := r.coreAt
                          slotCount := s.g (K.die_SLOT_COUNT d)
                          slots := (List.range 4).map (fun e => s.g (K.die_SLOT d e)) }
  let t3 := (t2.putStore d ((s.store d).restarted d s.cyc s.cyc)).renewSram d
  (List.range 8).foldl (fun u j =>
    let n := 8 * d + j
    let v := ((u.syncCaps n).reHold n).syncSilent n
    if v.g (K.port_PULSES n) = 0 then v else v.askCheck n) t3

/-- A follower's own start is complete in this cycle (R544, R552). -/
def State.noteStart (s : State) (kind cause : Nat) : State :=
  s.ps [(K.dev_START_KIND, kind), (K.dev_START_CAUSE, cause), (K.dev_START_CYC, s.cyc)]

/-- A follower starts cold in service of a running chip (R544, R557). -/
def State.coldFollower (s : State) (d : Nat) (x : DieStart) : State :=
  let s1 := ((s.wipeFollower d).noteStart 0 9).startFollower d x s.cyc (s.pstate d)
  (if (s1.store d).listed = [] then s1 else s1.recoverGather d).syncErr

/-- A follower whose watchdog has expired starts warm (R544, R554). -/
def State.warmFollower (s : State) (d : Nat) (x : DieStart) : State :=
  ((s.noteStart 1 10).warmDie d x s.cyc).syncErr

-- chip warm start

/-- A follower at a warm start of the chip: one in OFF or without its image starts cold, a lost one stays lost, any
other starts warm on a line that is kept or resynchronised (R554, R556). -/
def State.warmStartFollower (s : State) (info : StartInfo) (base d : Nat) : State :=
  let x := dieOf info d
  let r := s.die d
  let again := decide (d ∈ info.resynced) || decide ((s.line d).step ≠ 0)
  if r.lost then s
  else if s.pstate d = 4 ∨ (!r.up ∧ r.trigger = 0) then (s.wipeFollower d).startFollower d x base (s.pstate d)
  else if again ∧ x.cause = 1 then (s.beginResync d .d0).failStart d 1
  else (s.warmLine d again).warmDie d x base

/-- Accesses in progress are lost (R735). -/
def State.dropAccesses (s : State) : State :=
  let t := s.dropTransfer
  { t with ember := { t.ember with reqs := [], ans := none }, net := { t.net with timeWait := none } }

/-- The network at a warm start: the controller starts anew, unless a bus-off hold runs (R658); cause 8 is a reset of
communication too (R593). -/
def State.warmNet (s : State) (cause : Nat) : State :=
  if cause = 8 then s.resetComm
  else if s.canErr = 2 ∧ !s.net.recovering then { s with net := { s.net with resetDue := true } }
  else s.resetController

/-- A warm start of the chip (R554, R555). -/
def State.warmChip (s : State) (cause : Nat) (info : StartInfo) : State :=
  let base := if s.pstate 0 = 3 then cycPlus (s.die 0).deepCyc (750 * info.emberCycles) else s.cyc
  let fates := [0, 1, 2].map s.fate
  let read := decide (s.banksTaken ≠ []) || s.bill.queue.any (fun b => b.start.isSome)
  let s0 := s.passWindows { s.settleJournal.landAll with cyc := cycPlus base info.cycles, ready := false }
  let s1 := (if cause = 8 then s0.dropAccesses.reloadDict else s0.dropAccesses).recover read s.pow.pfDone info.ledger fates
  let s2 := (s1.clearReq 0 (s.pstate 0)).warmDie 0 (dieOf info 0) base
  let s3 := ((List.range s.dies).filter (fun d => d != 0)).foldl (fun t d => t.warmStartFollower info base d) s2
  let s4 := if cause = 5 then
      (List.range s.nSects).foldl (fun t i => t.setSect i { t.sect i with epoch := none }) s3
    else s3
  ((s4.warmFrames).completeStart 1 cause info.cycles).warmNet cause

/-- Followers whose own watchdog has expired start warm (R544: cause 10). -/
def State.warmFollowers (s : State) (info : StartInfo) : State :=
  (List.range s.dies).foldl (fun t d =>
    if d ≠ 0 ∧ (t.die d).trigger = 10 ∧ !(t.die d).lost then t.warmFollower d (dieOf info d) else t) s

/-- A warm trigger is served; one that finds EMBER_LOST starts the chip cold (R555). -/
def State.warmOrCold (s : State) (cause : Nat) (info : StartInfo) : State :=
  if s.es esEMBER_LOST then s.coldChip 1 info else s.warmChip cause info

/-- WARM_START (R544, R554): a chip trigger of the row's cause that is the lowest found, or followers with their own. A
start asked for by a window word, cause 8, is served here too. -/
def execWarmStart (cause : Nat) (info : StartInfo) (s : State) : Out :=
  let found := s.triggers
  if !(decide (cause ∈ [5, 6, 7, 8, 10]) && s.startInfoOk info) then .next s
  else if cause = 10 then
    starting s (if s.ready && decide (s.halt = 0) && s.d0Clock && decide (found = []) &&
        s.canStart (s.g K.sup_SUPMODE) info.resDv then s.warmFollowers info else s)
  else starting s (if decide (found.foldl min 10 = cause) && s.canStart (s.g K.sup_SUPMODE) info.resDv then
    s.warmOrCold cause info else s)

-- starts of one follower

/-- D0 runs and can start a follower. -/
def State.chipRuns (s : State) : Bool := s.ready && decide (s.halt = 0) && s.d0Clock

/-- FOLLOWER_POR (R544: cause 9): a follower that is not lost comes up from its die POR. -/
def execFollowerPor (die : Nat) (info : DieStart) (s : State) : Out :=
  ifFitted s (s.isFollower die) <|
    if !dieStartOk info then .next s
    else starting s (if s.chipRuns && !(s.die die).lost then s.coldFollower die info else s)

/-- The last warm start that D0's watchdog asked for lies at most 10 s back (R544). -/
def State.wdAgain (s : State) : Bool := s.wdWarm.any (fun t => decide (cycDiff s.cyc t ≤ 10 * cycPerSecond))

/-- A core watchdog has expired (R544, R546): D0's leads to a start of the chip, a follower's to its own. -/
def State.watchdog (s : State) (d : Nat) : State :=
  let s1 := (s.declare d 2 d 0x6035 []).inc (K.die_WD_COUNT d)
  let r := s1.die d
  if d = 0 then
    ({ s1.setDie 0 ({ r with wdArmed := false }.triggered (if s.wdAgain then 4 else 7)) with
      ready := false, framing := false }).syncLoop
  else
    let s2 := s1.stopDie d 2
    (s2.setDie d { s2.die d with up := false, wdArmed := false, trigger := 10 }).p (K.die_START_STAT d)
      (setField (s2.g (K.die_START_STAT d)) 1 0 1)

/-- A die's core watchdog can expire: it is armed and its image runs, and WD_TMO has passed since the image started
(R532, R546). -/
def State.watchdogDue (s : State) (d : Nat) : Bool :=
  (s.die d).wdArmed && decide (s.pstate d ≤ 2) &&
    cycReached s.cyc (cycPlus (s.die d).wdFrom (s.g K.dev_WD_TMO * 24576))

/-- WATCHDOG_EXPIRY (R546). -/
def execWatchdogExpiry (die : Nat) (s : State) : Out :=
  ifFitted s (decide (die < s.dies)) (confined s (if s.watchdogDue die then s.watchdog die else s))

/-- FOLLOWER_READY_TIMEOUT (R556). -/
def execFollowerReadyTimeout (die : Nat) (s : State) : Out :=
  ifFitted s (s.isFollower die) <|
    let r := s.die die
    confined s (if !r.up && !r.lost && decide (s.g (K.die_START_STAT die) % 4 = 1) then s.loseDie die 7 else s)

/-- FOLLOWER_RESTART_RETRY (R496, R556): a follower lost with cause 2 or 7, or one whose handshake has completed. -/
def execFollowerRestartRetry (die : Nat) (info : DieStart) (s : State) : Out :=
  ifFitted s (s.isFollower die) <|
    let r := s.die die
    let due := match (s.line die).retryAt with | some t => cycReached s.cyc t | none => false
    if !dieStartOk info then .next s
    else starting s (if s.chipRuns && r.lost && due && (decide (r.lossCause = 2) || decide (r.lossCause = 7) ||
        (s.line die).up) then s.coldFollower die info else s)

/-- DIE_RESTART written with 1 (R557): an accepted write starts the lost follower cold. -/
def execDieRestart (who : Orig) (die : Nat) (info : DieStart) (s : State) : Out :=
  ifFitted s (decide (die < 8)) <|
    if !(isOriginator who && dieStartOk info) then .next s
    else
      let t := s.order who (K.die_DIE_RESTART die) [1]
      starting s (if s.serving && (s.die die).lost && decide (t.resp = abNone) then t.coldFollower die info else t)

-- March runs on request

/-- A March run has ended (R474 to R478). -/
def State.marchDone (s : State) (d : Nat) (l : List MarchRead) : State :=
  let r := s.die d
  let s1 := (s.setDie d { r with march := 0, marchStop := false }).bitTo (K.die_SRAM_STAT d) srMARCH_RUN false
  (if r.march = 1 then s1.clearBank d else s1).marchResult d r.march (if r.marchStop then 5 else marchStat l) l

/-- A follower boots its image again after a destructive run (R475, R673). -/
def State.bootAgain (s : State) (d : Nat) (x : DieStart) : State :=
  let s1 := (s.imageSram d).rejectImage d x
  if x.cause = 5 ∨ x.cause = 7 then s1.failStart d x.cause else s1.dieStarted d (s.pstate d)

/-- MARCH_RUN_DONE (R473 to R478), with the reads of the run that did not return what had been written: a destructive
run takes `marchCycles`, a transparent one at least `marchBlocks` unless it is stopped. -/
def execMarchRunDone (die : Nat) (reads : List MarchRead) (info : DieStart) (s : State) : Out :=
  ifFitted s (decide (die < s.dies)) <|
    let r := s.die die
    let ran := cycDiff s.cyc r.marchFrom
    if !(dieStartOk info && marchOk reads) then .next s
    else starting s
      (if r.march = 1 ∧ marchCycles ≤ ran then (s.marchDone die reads).bootAgain die info
       else if r.march = 2 ∧ (r.marchStop ∨ marchBlocks ≤ ran) then s.marchDone die reads
       else s)

end Sys2Proof.Machine
end

