-- ==== Sys2Proof/Machine/HostPort.lean ====
section
/-! DEFINITION. The host SPI port (R627 to R645): frames, the register window, the mailbox, snapshots and the privileged
commands. -/

namespace Sys2Proof.Machine

-- window error codes (R637)

abbrev wOK : Nat := 0
abbrev wRANGE : Nat := 3
abbrev wSTATE : Nat := 6
abbrev wABSENT : Nat := 9
abbrev wRO : Nat := 11
abbrev wKEY : Nat := 16

/-- The port works: D0 has its clock and is in RUN or IDLE (R532, R644). -/
def State.portServes (s : State) : Bool := (s.die 0).up && decide (s.pstate 0 ≤ 1)

/-- The whole window is served: READY, and no halt (R643). -/
def State.windowFull (s : State) : Bool := s.ready && decide (s.halt = 0)

-- status registers

/-- The key is open (R642). -/
def HostRt.keyOpen (h : HostRt) : Bool := decide (2 ≤ h.key)

/-- WIN_STAT (R633). -/
def State.winStat (s : State) : Nat :=
  s.host.werr % 32 + 2 ^ 9 * b01 s.host.frameErr + 2 ^ 10 * b01 s.host.keyOpen + 2 ^ 11 * b01 s.sealOpen +
    2 ^ 12 * b01 s.ready + 2 ^ 13 * (s.halt % 4) + 2 ^ 15 * b01 (decide (s.halt ≠ 0))

/-- OD_STAT (R636). -/
def State.odStat (s : State) : Nat :=
  b01 (s.fire 0).stageRej + 2 ^ 8 * (s.host.err % 32) + 2 ^ 13 * b01 s.host.ovf + 2 ^ 14 * b01 s.host.done +
    2 ^ 15 * b01 s.host.busy

/-- An unmasked flag is set: HIRQ is driven low from the next cycle on (R638). -/
def State.hirqLow (s : State) : Bool := decide (Nat.land s.host.irqFlag s.host.irqMask ≠ 0)

/-- WIN_KEY as it reads (R642). -/
def HostRt.keyReads (h : HostRt) : Nat := min 2 h.key

-- the mailbox (R634 to R637)

/-- Two bytes put into the buffer at the pointer, low byte first. -/
def putWord (buf : List Nat) (p w : Nat) : List Nat :=
  bytesAt buf 0 p ++ [w % 256, w / 256 % 256] ++ buf.drop (p + 2)

/-- A word written to OD_DATA (R635). -/
def State.mailWrite (s : State) (w : Nat) : State :=
  let h := s.host
  if 1024 ≤ h.ptr then { s with host := { h with ovf := true } }
  else { s with host := { h with mailbox := putWord h.mailbox h.ptr w, ptr := h.ptr + 2 } }

/-- A word read from OD_DATA (R635): bytes beyond OD_LEN read as 0. -/
def State.mailRead (s : State) : State × Nat :=
  let h := s.host
  let byte (i : Nat) : Nat := if i < h.odLen then h.mailbox.getD i 0 else 0
  if 1024 ≤ h.ptr then ({ s with host := { h with ovf := true } }, 0)
  else ({ s with host := { h with ptr := h.ptr + 2 } }, byte h.ptr + 256 * byte (h.ptr + 1))

/-- The entry OD_INDEX and OD_SUB name. -/
def HostRt.odKey (h : HostRt) : Nat := h.odIndex * 256 + h.odSub

/-- A mailbox command begins: the pointer returns to 0, and DONE is cleared (R635, R636). -/
def State.beginMail (s : State) (reading : Bool) : State :=
  { s with host := { s.host with busy := true, done := false, reading := reading, ptr := 0 } }

/-- READ (R637): answered at once, or when the follower or the ember answers. -/
def State.mailReadEntry (s : State) : State :=
  let r := (s.beginMail true).readEntry .host s.host.odKey
  if r.2.waits then r.1 else r.1.answer .host r.2.abort r.2.data

/-- WRITE (R637). -/
def State.mailWriteEntry (s : State) : State :=
  let h := s.host
  let t := s.beginMail false
  if 1024 < h.odLen ∨ h.ovf then t.answer .host abLong []
  else if h.odLen = 0 then t.answer .host abShort []
  else
    let r := t.writeEntry .host h.odKey (bytesAt h.mailbox 0 h.odLen)
    if r.2.waits then r.1 else r.1.answer .host r.2.abort []

/-- OD_CTL written (R634); every command clears DONE (R636): the state and the window error code. -/
def State.odCtl (s : State) (w : Nat) : State × Nat :=
  if s.host.busy then (s, wSTATE)
  else match w % 4 with
    | 1 => (s.mailReadEntry, wOK)
    | 2 => (s.mailWriteEntry, wOK)
    | 3 => ({ s with host := { s.host with ptr := 0, ovf := false, done := false } }, wOK)
    | _ => (s, wRANGE)

-- snapshots (R639)

/-- `n` words of an entry, least significant first. -/
def State.words (s : State) (k n : Nat) : List Nat := (List.range n).map (fun i => s.copyOf k / 2 ^ (16 * i) % 65536)

/-- What a value of SNAP_CTL selects: the words, or the error code. -/
def State.snapOf (s : State) (w : Nat) : Except Nat (List Nat) :=
  let kind := field w 15 12
  let num := w % 4096
  if 4 < kind then .error wRANGE
  else if kind = 0 then (if num = 0 then .ok (List.replicate 8 0) else .error wRANGE)
  else if kind = 1 then
    if 32 ≤ num then .error wRANGE
    else if s.nPaths ≤ num then .error wABSENT
    else .ok (s.words (K.rec_TOF_DN_COR num) 2 ++ s.words (K.rec_TOF_UP_COR num) 2 ++ s.words (K.rec_DT_COR num) 2 ++
      s.words (K.rec_TDC_FLAGS num) 1 ++ s.words (K.rec_QUAL_FLAGS num) 1)
  else if kind = 2 then
    if 8 ≤ num then .error wRANGE
    else if s.nSects ≤ num then .error wABSENT
    else .ok (s.words (K.res_Q_NLS num) 4 ++ s.words (K.res_SECT_FLAGS num) 1 ++ s.words (K.res_E_FLAGS num) 1 ++
      s.words (K.res_FRAME_NO num) 2)
  else if kind = 3 then
    let i := field num 10 8
    let q := field num 7 6
    let t := field num 3 0
    if 2048 ≤ num ∨ field num 5 4 ≠ 0 ∨ 9 < t then .error wRANGE
    else if s.nSects ≤ i then .error wABSENT
    else .ok (s.words (totKey i q + t) 4 ++ s.words (totKey i q + 9) 4)
  else if 128 ≤ num then .error wRANGE
  else if s.nChans ≤ num then .error wABSENT
  else .ok (s.words (K.chan_VALUE num) 2 ++ s.words (K.chan_CH_FLAGS num) 1 ++ s.words (K.chan_RES_CYC num) 3 ++
    s.words (K.chan_XVAL num) 2)

/-- SNAP_CTL written (R639); the capture is made again at the end of the cycle. -/
def State.snapCtl (s : State) (w : Nat) : State × Nat :=
  match s.snapOf w with
  | .error e => (s, e)
  | .ok l => ({ s with host := { s.host with snapCtl := w, snap := l, snapAt := s.cyc + 1 } }, wOK)

/-- CYC and the RTC seconds are captured (R640); the capture is made again at the end of the cycle. -/
def State.captureCyc (s : State) : State :=
  { s with host := { s.host with cycCap := s.cyc, rtcCap := s.rtcNow, capAt := s.cyc + 1 } }

/-- The end of a cycle at the port: its captures hold what stands then, and HIRQ follows the flags (R638 to R640, R645).
In SLEEP and DEEP the level is held (R539). -/
def State.hostStep (s : State) : State :=
  if s.pstate 0 ≤ 1 then
    let snap := if s.host.snapAt = s.cyc + 1 then (match s.snapOf s.host.snapCtl with | .ok l => l | .error _ => s.host.snap)
      else s.host.snap
    { s with host := { s.host with
      snap := snap, rtcCap := if s.host.capAt = s.cyc + 1 then s.rtcNow else s.host.rtcCap, hirq := s.hirqLow } }
  else s

-- privileged commands (R641, R642)

/-- The key closes. -/
def State.closeKey (s : State) : State := { s with host := { s.host with key := 0 } }

/-- A word written to WIN_KEY (R642). -/
def State.keyWord (s : State) (w : Nat) : State :=
  let h := s.host
  let open_ := h.key / 2 * 2
  if w = 0xA55A then { s with host := { h with key := open_ + 1 } }
  else if w = 0x5AA5 ∧ h.key % 2 = 1 then { s with host := { h with key := 2, keyAt := s.cyc } }
  else { s with host := { h with key := open_ } }

/-- Any other window word written returns the key sequence to its start (R642). -/
def State.breakKey (s : State) : State := { s with host := { s.host with key := s.host.key / 2 * 2 } }

/-- An NMT state change by command, of a node that has booted (R592, R641). -/
def State.nmtTo (s : State) (v : Nat) : State := if s.nmt = nmBOOT then s else s.setNmt v

/-- A reset of the device by command is found: START_CAUSE 8 (R544, R593, R641). -/
def State.askReset (s : State) : State :=
  ({ s.setDie 0 ((s.die 0).triggered 8) with ready := false, framing := false }).syncLoop

/-- HOST_CMD written (R641). -/
def State.hostCmd (s : State) (w : Nat) : State × Nat :=
  if w = 0x0001 then (s.closeKey, wOK)
  else if w < 0x0010 ∨ 0x0014 < w then (s, wRANGE)
  else if !s.host.keyOpen then (s, wKEY)
  else
    let t := s.closeKey
    (match w with
      | 0x0010 => t.askReset
      | 0x0011 => t.resetComm
      | 0x0012 => t.nmtTo nmPRE
      | 0x0013 => t.nmtTo nmOP
      | _ => t.nmtTo nmSTOP, wOK)

-- registers (R632)

/-- FIRE_CTL of the window: the host's write of 0x2A00.01. -/
def State.winFire (s : State) (w : Nat) : State × Nat :=
  let r := s.writeEntry .host (K.fire_FIRE_CTL 0) (leBytes 2 w)
  (r.1, errCode r.2.abort)

/-- A word written to a register that is served (R632). -/
def State.regWrite (s : State) (a w : Nat) : State × Nat :=
  let h := s.host
  if a = 0x02 then ({ s with host := { h with frameErr := h.frameErr && !bitAt w 9 } }, wOK)
  else if a = 0x03 then
    let now := if h.irqNow.1 = s.cyc + 1 then h.irqNow.2 else 0
    ({ s with host := { h with irqFlag := clearBits h.irqFlag (clearBits (w % 256) now) } }, wOK)
  else if a = 0x04 then ({ s with host := { h with irqMask := w % 256 } }, wOK)
  else if a = 0x05 then s.hostCmd w
  else if a = 0x06 then ({ s with host := { h with odIndex := w } }, wOK)
  else if a = 0x07 then ({ s with host := { h with odSub := w % 256 } }, wOK)
  else if a = 0x08 then ({ s with host := { h with odLen := w } }, wOK)
  else if a = 0x09 then s.odCtl w
  else if a = 0x0B then (s.mailWrite w, wOK)
  else if a = 0x0C then s.winFire w
  else if a = 0x0F then s.snapCtl w
  else if a = 0x1F then (s.keyWord w, wOK)
  else (s, wRO)

/-- Registers served while a start runs or D0 is halted (R643). -/
def alwaysServed (a : Nat) : Bool := decide (a ≤ 2) || (decide (0x18 ≤ a) && decide (a ≤ 0x1C)) || decide (a = 0x1E)

/-- A word written to a register (R630, R642, R643). -/
def State.writeWord (s : State) (a w : Nat) : State × Nat :=
  let t := if a = 0x1F then s else s.breakKey
  if s.windowFull || alwaysServed a then t.regWrite a w else (t, wSTATE)

/-- The value of a register that a read does not change (R632). -/
def State.regValue (s : State) (a : Nat) : Nat :=
  let h := s.host
  match a with
  | 0x00 => 0x8400 + 16 * s.dies
  | 0x01 => 0x0100
  | 0x02 => s.winStat
  | 0x03 => h.irqFlag
  | 0x04 => h.irqMask
  | 0x06 => h.odIndex
  | 0x07 => h.odSub
  | 0x08 => h.odLen
  | 0x0A => s.odStat
  | 0x0D => s.g (K.fire_FIRE_STAT 0)
  | 0x0E => s.g (K.fire_FIRE_ID 0)
  | 0x0F => h.snapCtl
  | 0x18 => h.cycCap % 65536
  | 0x19 => h.cycCap / 65536 % 65536
  | 0x1A => h.cycCap / 2 ^ 32 % 65536
  | 0x1B => h.rtcCap % 65536
  | 0x1C => h.rtcCap / 65536 % 65536
  | 0x1D => s.g K.loop_LOOP_MEAS
  | 0x1E => s.g K.sup_SUP_STAT
  | 0x1F => h.keyReads
  | _ => if 0x10 ≤ a ∧ a ≤ 0x17 then h.snap.getD (a - 0x10) 0 else 0

/-- A word read from a register (R631, R643). -/
def State.readWord (s : State) (a : Nat) : State × Nat :=
  let time := decide (0x18 ≤ a) && decide (a ≤ 0x1C)
  if s.windowFull then (if a = 0x0B then s.mailRead else (s, s.regValue a))
  else if alwaysServed a && !(decide (s.halt ≠ 0) && time) then (s, s.regValue a)
  else (s, 0)

-- frames (R628 to R631)

/-- The command byte holds the word's address. -/
def cmdHold (cmd : Nat) : Bool := bitAt cmd 6

/-- Address of the i-th word of a frame. -/
def wordAddr (cmd addr i : Nat) : Nat := if cmdHold cmd then addr else addr + i

/-- A frame's first three bytes are well formed (R629). -/
def frameOk (cmd addr len : Nat) : Bool :=
  decide (cmd % 64 = 0) && decide (addr ≤ 0x1F) && (cmdHold cmd || decide (addr + len ≤ 0x1F))

/-- The words of a write frame in order: the state and the code of the first rejected word (R630). -/
def State.writeWords (s : State) (cmd addr : Nat) : (i : Nat) → List Nat → State × Nat
  | _, [] => (s, 0)
  | i, w :: rest =>
    let r := s.writeWord (wordAddr cmd addr i) w
    let q := r.1.writeWords cmd addr (i + 1) rest
    (q.1, if r.2 = 0 then q.2 else r.2)

/-- WERR of the last write frame. -/
def State.setWerr (r : State × Nat) : State := { r.1 with host := { r.1.host with werr := r.2 } }

/-- A write frame at the rising edge of HCS (R629, R630). -/
def State.writeFrame (s : State) (cmd addr len : Nat) (words : List Nat) (bits : Nat) : State :=
  if frameOk cmd addr len && decide (bits = 24 + 16 * (len + 1)) then State.setWerr (s.writeWords cmd addr 0 words)
  else { s with host := { s.host with frameErr := true } }

/-- Bytes of a frame that the port can see. -/
def frameBytesOk (cmd addr len : Nat) : Bool := decide (cmd < 256) && decide (addr < 256) && decide (len < 256)

/-- HCS has fallen: D0 in IDLE wakes (R536, R540). -/
def State.selected (s : State) : State := if s.pstate 0 ≤ 1 then s.wake 0 else s

/-- HOST_WRITE_FRAME (R628 to R630). -/
def execHostWriteFrame (cmd addr len : Nat) (words : List Nat) (bits : Nat) (s : State) : Out :=
  if !(frameBytesOk cmd addr len && decide (cmd < 128) && decide (words.length = len + 1) &&
      words.all (fun w => decide (w < 65536))) then .next s
  else accessing s (if s.portServes then (s.writeFrame cmd addr len words bits).selected else s)

/-- The words of a read frame that are clocked out whole (R631). -/
def State.readWords (s : State) (cmd addr : Nat) : (n i : Nat) → State × List Nat
  | 0, _ => (s, [])
  | n + 1, i =>
    let r := s.readWord (wordAddr cmd addr i)
    let q := r.1.readWords cmd addr n (i + 1)
    (q.1, r.2 :: q.2)

/-- The frame includes CYC_L (R640). -/
def readsCyc (cmd addr len : Nat) : Bool :=
  if cmdHold cmd then decide (addr = 0x18) else decide (addr ≤ 0x18) && decide (0x18 ≤ addr + len)

/-- A read frame (R629, R631, R640): WIN_STAT, then the words. -/
def State.readFrame (s : State) (cmd addr len bits : Nat) : State :=
  if !frameOk cmd addr len then { s with host := { s.host with frameErr := true } }
  else
    let stat := s.winStat
    let t := if readsCyc cmd addr len && decide (24 ≤ bits) then s.captureCyc else s
    let r := t.readWords cmd addr (min (len + 1) ((bits - 24) / 16)) 0
    { r.1 with host := { r.1.host with miso := stat :: r.2 } }

/-- HOST_READ_FRAME (R628, R629, R631). -/
def execHostReadFrame (cmd addr len bits : Nat) (s : State) : Out :=
  if !(frameBytesOk cmd addr len && decide (128 ≤ cmd)) then .next s
  else accessing s (if s.portServes then (s.readFrame cmd addr len bits).selected else s)

-- single registers: each is a frame of one word

/-- A word written to a register, with WERR. -/
def State.oneWord (s : State) (a w : Nat) : State := if s.portServes then (State.setWerr (s.writeWord a w)).selected else s

/-- OD_READ: OD_CTL = READ (R637). -/
def execOdRead (s : State) : Out := accessing s (s.oneWord 0x09 1)

/-- OD_WRITE: OD_CTL = WRITE (R637). -/
def execOdWrite (s : State) : Out := accessing s (s.oneWord 0x09 2)

/-- RESET_PTR: OD_CTL = RESET_PTR (R635). -/
def execResetPtr (s : State) : Out := accessing s (s.oneWord 0x09 3)

/-- OD_DATA_WRITE (R635). -/
def execOdDataWrite (word : Nat) (s : State) : Out :=
  if 65536 ≤ word then .next s else accessing s (s.oneWord 0x0B word)

/-- OD_DATA_READ (R635): the word goes to HMISO. -/
def execOdDataRead (s : State) : Out := accessing s (if s.portServes then (s.readFrame 0x80 0x0B 0 40).selected else s)

/-- SNAP_CTL_WRITE (R639). -/
def execSnapCtlWrite (value : Nat) (s : State) : Out :=
  if 65536 ≤ value then .next s else accessing s (s.oneWord 0x0F value)

/-- CYC_CAPTURE: a read frame of CYC_L has its length byte (R640). -/
def execCycCapture (s : State) : Out := accessing s (if s.portServes then s.captureCyc.selected else s)

/-- WIN_KEY_WRITE (R642). -/
def execWinKeyWrite (value : Nat) (s : State) : Out :=
  if 65536 ≤ value then .next s else accessing s (s.oneWord 0x1F value)

/-- WIN_KEY_EXPIRY: 1 s after the key opened (R642). -/
def execWinKeyExpiry (s : State) : Out :=
  let h := s.host
  accessing s (if h.keyOpen && cycReached s.cyc (cycPlus h.keyAt cycPerSecond) then
    { s with host := { h with key := h.key - 2 } } else s)

/-- KEY_CLOSE (R641). -/
def execKeyClose (s : State) : Out := accessing s (s.oneWord 0x05 0x0001)

/-- CAN_RESET_COMM (R593, R641). -/
def execCanResetComm (s : State) : Out := accessing s (s.oneWord 0x05 0x0011)

/-- NMT_PREOP (R641). -/
def execNmtPreop (s : State) : Out := accessing s (s.oneWord 0x05 0x0012)

/-- NMT_OPERATIONAL (R641). -/
def execNmtOperational (s : State) : Out := accessing s (s.oneWord 0x05 0x0013)

/-- NMT_STOP (R641). -/
def execNmtStop (s : State) : Out := accessing s (s.oneWord 0x05 0x0014)

/-- A reset by command starts the device at once where the sources allow it (R544, R545). -/
def State.serveReset (s : State) (info : StartInfo) : State :=
  if decide ((s.die 0).trigger = 8) && s.canStart (s.g K.sup_SUPMODE) info.resDv then s.warmOrCold 8 info else s

/-- DEVICE_RESET (R641): HOST_CMD = 0x0010, and the start it causes. -/
def execDeviceReset (info : StartInfo) (s : State) : Out :=
  if !s.startInfoOk info then .next s
  else starting s (if s.portServes && s.windowFull then (s.oneWord 0x05 0x0010).serveReset info else s)

end Sys2Proof.Machine
end

