-- ==== Sys2Proof/Machine/Network.lean ====
section
/-! DEFINITION. The field network (R584 to R626, R657, R658): NMT commands, the SDO and USDO server, PDOs, SYNC and
TIME, heartbeats, the controller's error states, the transmit budget and EMCY messages. -/

namespace Sys2Proof.Machine

-- who hears what

/-- SDO, EMCY, SYNC and TIME are served: pre-operational or operational (R592). -/
def State.talks (s : State) : Bool := s.onBus && (decide (s.nmt = nmPRE) || decide (s.nmt = nmOP))

/-- A CAN frame is received: D0 in IDLE or SLEEP wakes (R536, R540). -/
def State.heard (s : State) : State := if s.onBus then s.wake 0 else s

/-- An NMT command is addressed to this node (R593). -/
def State.mine (s : State) (node : Nat) : Bool := s.onBus && (decide (node = 0) || decide (node = s.net.nodeId))

/-- The outcome of an NMT command. -/
def hearing (node : Nat) (s t : State) : Out :=
  if 255 < node then .next s else accessing s (if s.mine node then t.heard else s.heard)

-- NMT (R593)

/-- NMT_START_NODE. -/
def execNmtStartNode (node : Nat) (s : State) : Out := hearing node s (s.nmtTo nmOP)

/-- NMT_STOP_NODE. -/
def execNmtStopNode (node : Nat) (s : State) : Out := hearing node s (s.nmtTo nmSTOP)

/-- NMT_ENTER_PREOP. -/
def execNmtEnterPreop (node : Nat) (s : State) : Out := hearing node s (s.nmtTo nmPRE)

/-- NMT_RESET_COMM. -/
def execNmtResetComm (node : Nat) (s : State) : Out := hearing node s s.resetComm

/-- NMT_RESET_NODE: a warm start with START_CAUSE 8 (R544, R551, R593). -/
def execNmtResetNode (node : Nat) (info : StartInfo) (s : State) : Out :=
  if 255 < node ∨ !s.startInfoOk info then .next s
  else starting s (if s.mine node then s.askReset.serveReset info else s)

-- the SDO and USDO server (R608 to R610)

/-- Most bytes an object takes, none where no row names it. -/
def objMax (key : Nat) : Option Nat :=
  match findRow key with
  | none => none
  | some r => match r.ty with
    | .dom _ hi _ => some hi
    | t => if tyBytes t = 0 then none else some (tyBytes t)

/-- Bytes more than the object takes (R610). -/
def tooLong (key n : Nat) : Bool := match objMax key with | some m => decide (m < n) | none => false

/-- Data of an expedited download (R610): without a size it is the object's, and 4 bytes of a DOMAIN. -/
def expData (key : Nat) (size : Option Nat) (data : List Nat) : List Nat :=
  match size, findRow key with
  | some n, _ => data.take n
  | none, some r => data.take (if tyBytes r.ty = 0 then 4 else tyBytes r.ty)
  | none, none => data

/-- A new initiate ends the transfer in progress, which is answered with 0x05040001 (R608). -/
def State.newInitiate (s : State) : State :=
  match s.net.xfer, s.net.wait with
  | some x, _ => s.dropTransfer.finishCan x.usdo 0x05040001 []
  | none, some w => s.dropTransfer.finishCan w.2 0x05040001 []
  | none, none => s

/-- A completed download is written whole (R609). -/
def State.download (s : State) (usdo : Bool) (key : Nat) (data : List Nat) : State :=
  let s1 : State := { s with net := { s.net with xfer := none, wait := some (false, usdo) } }
  let r := s1.writeEntry .can key data
  if r.2.waits then r.1 else r.1.finishCan usdo r.2.abort []

/-- An initiate of a download: `data` of an expedited one, else a segmented one begins (R608 to R610). -/
def State.downInit (s0 : State) (usdo : Bool) (key : Nat) (size : Option Nat) (data : Option (List Nat)) : State :=
  let s := s0.newInitiate
  match data with
  | some d =>
    if size.any (fun n => decide (d.length < n)) then s.finishCan usdo 0x06070010 []
    else s.download usdo key (expData key size d)
  | none =>
    if size.any (tooLong key) then s.finishCan usdo abLong []
    else
      let x : Transfer := { upload := false, usdo := usdo, key := key, size := size, expiry := s.sdoExp }
      ({ s with net := { s.net with xfer := some x } }).finishCan usdo 0 []

/-- A transfer ends with an abort code (R609). -/
def State.endTransfer (s : State) (usdo : Bool) (abort : Nat) : State :=
  ({ s with net := { s.net with xfer := none } }).finishCan usdo abort []

/-- A segment of a download (R609, R610). -/
def State.downSegment (s : State) (usdo toggle last : Bool) (seg : List Nat) : State :=
  match s.net.xfer with
  | none => s.finishCan usdo 0x05040001 []
  | some x =>
    let data := x.data ++ seg
    if x.upload || (x.usdo != usdo) then s.finishCan usdo 0x05040001 []
    else if x.toggle != toggle then s.endTransfer usdo 0x05030000
    else if tooLong x.key data.length ∧ x.size = none then s.endTransfer usdo abLong
    else if x.size.any (fun n => decide (n < data.length)) || (last && x.size.any (fun n => decide (n ≠ data.length))) then
      s.endTransfer usdo 0x06070010
    else if last then s.download usdo x.key data
    else
      let y : Transfer := { x with data := data, toggle := !toggle, expiry := s.sdoExp }
      ({ s with net := { s.net with xfer := some y } }).finishCan usdo 0 []

/-- An initiate of an upload (R608, R609). -/
def State.upInit (s0 : State) (usdo : Bool) (key : Nat) : State :=
  let s := s0.newInitiate
  let s1 : State := { s with net := { s.net with wait := some (true, usdo) } }
  let r := s1.readEntry .can key
  if r.2.waits then r.1 else r.1.uploadCan usdo r.2.abort r.2.data

/-- A segment of an upload (R609). -/
def State.upSegment (s : State) (usdo toggle : Bool) : State :=
  match s.net.xfer with
  | none => s.finishCan usdo 0x05040001 []
  | some x =>
    if !x.upload || (x.usdo != usdo) then s.finishCan usdo 0x05040001 []
    else if x.toggle != toggle then s.endTransfer usdo 0x05030000
    else
      let n := segBytes usdo
      let rest := x.data.drop n
      let y : Option Transfer := if rest = [] then none else some { x with data := rest, toggle := !toggle, expiry := s.sdoExp }
      ({ s with net := { s.net with xfer := y } }).finishCan usdo 0 (x.data.take n)

/-- The outcome of a request to the server. -/
def requesting (ok : Bool) (s t : State) : Out := if !ok then .next s else accessing s (if s.talks then t.heard else s.heard)

/-- Operands of an initiate. -/
def initOk (index sub : Nat) (data : Option (List Nat)) (top : Nat) : Bool :=
  decide (index < 65536) && decide (sub < 256) && (match data with | some d => isBytes d && decide (d.length ≤ top) | none => true)

/-- SDO_DOWNLOAD_INITIATE (R608). -/
def execSdoDownloadInitiate (index sub : Nat) (size : Option Nat) (data : Option (List Nat)) (s : State) : Out :=
  requesting (initOk index sub data 4) s (s.downInit false (index * 256 + sub) size data)

/-- SDO_DOWNLOAD_SEGMENT (R609). -/
def execSdoDownloadSegment (toggle last : Bool) (data : List Nat) (s : State) : Out :=
  requesting (isBytes data && decide (data.length ≤ 7)) s (s.downSegment false toggle last data)

/-- SDO_UPLOAD_INITIATE (R608). -/
def execSdoUploadInitiate (index sub : Nat) (s : State) : Out :=
  requesting (initOk index sub none 0) s (s.upInit false (index * 256 + sub))

/-- SDO_UPLOAD_SEGMENT (R609). -/
def execSdoUploadSegment (toggle : Bool) (s : State) : Out := requesting true s (s.upSegment false toggle)

/-- SDO_UNSUPPORTED_REQUEST (R608). -/
def execSdoUnsupportedRequest (s : State) : Out := requesting true s (s.finishCan false 0x05040001 [])

/-- USDO_DOWNLOAD_INITIATE (R608). -/
def execUsdoDownloadInitiate (index sub : Nat) (size : Option Nat) (data : Option (List Nat)) (s : State) : Out :=
  requesting (initOk index sub data 64) s (s.downInit true (index * 256 + sub) size data)

/-- USDO_DOWNLOAD_SEGMENT (R609). -/
def execUsdoDownloadSegment (toggle last : Bool) (data : List Nat) (s : State) : Out :=
  requesting (isBytes data && decide (data.length ≤ 64)) s (s.downSegment true toggle last data)

/-- USDO_UPLOAD_INITIATE (R608). -/
def execUsdoUploadInitiate (index sub : Nat) (s : State) : Out :=
  requesting (initOk index sub none 0) s (s.upInit true (index * 256 + sub))

/-- USDO_UPLOAD_SEGMENT (R609). -/
def execUsdoUploadSegment (toggle : Bool) (s : State) : Out := requesting true s (s.upSegment true toggle)

/-- A segment of the running transfer is delivered by a command that waits for the current cycle (R37, R609). -/
def State.segmentComing (s : State) (x : Transfer) : Bool :=
  s.pending.any (fun i => match i with
    | .sdoDownloadSegment _ _ _ => !x.usdo && !x.upload
    | .sdoUploadSegment _ => !x.usdo && x.upload
    | .usdoDownloadSegment _ _ _ => x.usdo && !x.upload
    | .usdoUploadSegment _ => x.usdo && x.upload
    | _ => false)

/-- SDO_TMO_EXPIRY (R37, R609). -/
def execSdoTmoExpiry (s : State) : Out :=
  accessing s (match s.net.xfer with
    | some x =>
      if cycReached s.cyc x.expiry && !(decide (s.cyc = x.expiry) && s.segmentComing x) then
        s.endTransfer x.usdo 0x05040000
      else s
    | none => s)

-- RPDOs (R615, R617, R619)

/-- An RPDO is valid: bit 31 of its COB-ID is 0. -/
def State.rpdoValid (s : State) (r : Nat) : Bool := !bitAt (s.g (K.comm_RPDO_COB r)) 31

/-- An RPDO is applied whole, or not at all (R619). -/
def State.applyRpdo (s : State) (r : Nat) (data : List Nat) : State :=
  let t := s.rpdoWrites (rpdoParts (s.mapOf (K.comm_RPDO_MAP r 0)) data)
  if t.2 = 0 then t.1 else (s.evNet 0x8005 0xFF80 (r :: leBytes 4 t.2)).inc K.dev_RPDO_REJ

/-- An RPDO is delivered (R617, R619). The number an event carries is r of 0x1400 + r (log entry 31). -/
def State.rpdo (s : State) (r : Nat) (data : List Nat) : State :=
  let n := s.mapLen (K.comm_RPDO_MAP r 0)
  if data.length < n then (s.evNet 0x8006 0x8210 [r, data.length]).inc K.dev_RPDO_REJ
  else if fdLen n < data.length then (s.evNet 0x8006 0x8220 [r, data.length]).inc K.dev_RPDO_REJ
  else if 254 ≤ s.g (K.comm_RPDO_TYPE r) then s.applyRpdo r data
  else { s with net := { s.net with rpdoWait := s.net.rpdoWait.store [] r (0 :: data) } }

/-- RPDO_RECEIVED (R617, R619). -/
def execRpdoReceived (rpdo : Nat) (data : List Nat) (s : State) : Out :=
  if 8 ≤ rpdo ∨ !isBytes data ∨ 64 < data.length then .next s
  else accessing s (if s.onBus && decide (s.nmt = nmOP) && s.rpdoValid rpdo then (s.rpdo rpdo data).heard else s.heard)

-- SYNC (R599, R617, R618)

/-- The RPDOs that wait for a SYNC are applied, in ascending order; their data is kept behind a mark. -/
def State.applyWaiting (s : State) : State :=
  s.net.rpdoWait.foldl (fun t e => t.applyRpdo e.1 (e.2.drop 1)) { s with net := { s.net with rpdoWait := [] } }

/-- A synchronous TPDO at a SYNC with counter c (R617, R618). Its counter is one higher than the SYNCs since its last
transmission, and 0 while it waits for the counter value of sub-index 6. -/
def State.syncTpdo (s : State) (c t : Nat) : State :=
  let ty := s.g (K.comm_TPDO_TYPE t)
  let start := s.g (K.comm_TPDO_START t)
  let cnt := s.net.syncCnt.look 0 t
  let set (u : State) (v : Nat) : State := { u with net := { u.net with syncCnt := u.net.syncCnt.store 0 t v } }
  if !s.tpdoValid t || decide (240 < ty) then s
  else if ty = 0 then s.callTpdo t
  else if cnt = 0 ∧ s.g K.comm_SYNC_OVF ≠ 0 ∧ start ≠ 0 then (if c = start then (set s 1).callTpdo t else s)
  else
    let k := max cnt 1
    if ty ≤ k then (set s 1).callTpdo t else set s (k + 1)

/-- Cycles of the SYNC window: SYNC_WIN · 24.576, as far as whole cycles lie within it (R618). -/
def winCycles (us : Nat) : Nat := us * 24576 / 1000

/-- What a SYNC does, delivered or produced (R599, R617, R618). -/
def State.syncEvent (s : State) (c : Nat) : State :=
  let s1 := s.p K.dev_SYNC_CYC s.cyc
  let s2 := if s.nmt = nmOP then (List.range 16).foldl (fun t n => t.syncTpdo c n) s1.applyWaiting else s1
  let win := s.g K.comm_SYNC_WIN
  { s2 with net := { s2.net with syncWinEnd := if win = 0 then none else some (cycPlus s.cyc (winCycles win + 1)) } }

/-- SYNC_RECEIVED: any counter byte; 0 stands for a SYNC without one (R599, R617). -/
def execSyncReceived (counter : Nat) (s : State) : Out :=
  if 255 < counter then .next s else accessing s (if s.talks then (s.syncEvent counter).heard else s.heard)

/-- The counter of the next SYNC (R599): 1 to SYNC_OVF, none with 0. -/
def State.nextCounter (s : State) : Nat :=
  let top := s.g K.comm_SYNC_OVF
  if top = 0 then 0 else if top ≤ s.net.syncCounter then 1 else s.net.syncCounter + 1

/-- A SYNC is produced (R599). -/
def State.produceSync (s : State) : State :=
  let c := s.nextCounter
  let s1 := s.sendFrame { id := s.g K.comm_COB_SYNC % 2048, data := if c = 0 then [] else [c], cls := 4 }
  let us := s.g K.comm_SYNC_PERIOD
  ({ s1 with net := { s1.net with syncCounter := c, syncNext := some (nextMultiple s.net.syncBase (syncCycles us) s.cyc) } }).syncEvent c

/-- SYNC_PRODUCE (R599). -/
def execSyncProduce (s : State) : Out :=
  accessing s (match s.net.syncNext with
    | some t => if s.talks && decide (s.pstate 0 ≤ 1) && cycReached s.cyc t then s.produceSync else s
    | none => s)

/-- SYNC_WIN_EXPIRY (R618): synchronous TPDOs that have not started are dropped. -/
def execSyncWinExpiry (s : State) : Out :=
  let late (f : CanFrame) : Bool := decide (f.cls = 3) && decide (s.g (K.comm_TPDO_TYPE f.pdo) ≤ 240)
  accessing s (match s.net.syncWinEnd with
    | some t =>
      if cycReached s.cyc t then
        ({ s with net := { s.net with syncWinEnd := none, txQ := s.net.txQ.filter (fun f => !late f) } }).addTo
          K.dev_TPDO_LATE (s.net.txQ.filter late).length
      else s
    | none => s)

-- TIME (R600, R601)

/-- net_ms of a TIME message (R600). -/
def State.netMs (s : State) (ms days : Nat) : Int :=
  (((days : Int) - 5844) * 86400 + s.gi 32 K.dev_TIME_OFS) * 1000 + ms

/-- A TIME message: out of range it is counted; else TIME_MODE decides, after a read of the ember (R600, R601). -/
def State.time (s : State) (ms days : Nat) : State :=
  let n := s.netMs ms days
  if n < 0 ∨ 3155760000000 ≤ n then s.inc K.dev_TIME_BAD
  else if s.g K.dev_TIME_MODE = 0 then s
  else
    ({ s with net := { s.net with timeWait := some (n.toNat, 0) } }).postEmber
      { key := K.emb_RTC_BIN, write := false, who := .boundary }

/-- TIME_RECEIVED (R600, R601). -/
def execTimeReceived (ms days : Nat) (s : State) : Out :=
  if 2 ^ 28 ≤ ms ∨ 65536 ≤ days then .next s else accessing s (if s.talks then (s.time ms days).heard else s.heard)

-- TPDO timers (R617)

/-- TPDO_EVENT_TIMER: it sends, or waits on the inhibit time, and starts anew. -/
def execTpdoEventTimer (tpdo : Nat) (s : State) : Out :=
  let at_ := s.net.evtAt.look 0 tpdo
  if 16 ≤ tpdo then .next s
  else accessing s (if s.onBus && decide (at_ ≠ 0) && cycReached s.cyc (at_ - 1) then
      ({ s with net := { s.net with trig := Nat.lor s.net.trig (2 ^ tpdo) } }).armEvent tpdo
    else s)

/-- TPDO_INHIBIT_END: one transmission for the triggers that came during it (R617, R622). -/
def execTpdoInhibitEnd (tpdo : Nat) (s : State) : Out :=
  if 16 ≤ tpdo then .next s
  else accessing s (if s.onBus && decide (s.nmt = nmOP) && s.tpdoValid tpdo && decide (s.net.inhWait.look 0 tpdo = 1) &&
      s.inhibitOver tpdo then s.callTpdo tpdo else s)

-- heartbeats (R595 to R598)

/-- HEARTBEAT_PRODUCE (R596). -/
def execHeartbeatProduce (s : State) : Out :=
  accessing s (match s.net.hbNext with
    | some t =>
      if s.ready && decide (s.pstate 0 ≤ 1) && cycReached s.cyc t then
        let s1 := s.sendFrame { id := 0x700 + s.net.nodeId, data := [s.nmt] }
        { s1 with net := { s1.net with hbNext := some (nextMultiple s.net.bootAt (s.g K.comm_HB_PROD * 24576) s.cyc) } }
      else s
    | none => s)

/-- NODE and TIME of a consumer entry (R597). -/
def hbNode (w : Nat) : Nat := field w 23 16
def hbTime (w : Nat) : Nat := field w 15 0

/-- A heartbeat arms the timeouts of its node (R598). -/
def State.beat (s : State) (node : Nat) : State :=
  { s with net := { s.net with
    hbTimers := (List.range 4).foldl (fun t e =>
      let w := s.g (K.comm_HB_CONS (e + 1))
      if hbNode w = node ∧ hbTime w ≠ 0 then t.store 0 e (cycPlus s.cyc (hbTime w * 24576) + 1) else t) s.net.hbTimers } }

/-- HEARTBEAT_RECEIVED (R598). -/
def execHeartbeatReceived (node : Nat) (s : State) : Out :=
  if node = 0 ∨ 127 < node then .next s else accessing s (if s.onBus then (s.beat node).heard else s)

/-- ERR_BEHAV's reaction to a communication error (R595). -/
def State.commError (s : State) : State :=
  match s.g K.comm_ERR_BEHAV with
  | 0 => if s.nmt = nmOP then s.setNmt nmPRE else s
  | 2 => s.nmtTo nmSTOP
  | _ => s

/-- A consumer's timeout expires (R598). -/
def State.beatLost (s : State) (e : Nat) : State :=
  let s1 : State := { s with net := { s.net with hbTimers := s.net.hbTimers.store 0 e 0 } }
  ((s1.evNet 0x8004 0x8130 [hbNode (s.g (K.comm_HB_CONS (e + 1)))]).bitTo K.dev_CAN_STAT 11 true).syncErr.commError

/-- A heartbeat of the entry's node is delivered by a command that waits for the current cycle (R37, R598). -/
def State.beatComing (s : State) (e : Nat) : Bool :=
  decide (.heartbeatReceived (hbNode (s.g (K.comm_HB_CONS (e + 1)))) ∈ s.pending)

/-- HEARTBEAT_CONSUMER_TIMEOUT (R37, R598). -/
def execHeartbeatConsumerTimeout (entry : Nat) (s : State) : Out :=
  let t := s.net.hbTimers.look 0 entry
  if 4 ≤ entry then .next s
  else accessing s (if s.d0Clock && s.ready && decide (t ≠ 0) && cycReached s.cyc (t - 1) &&
      !(decide (s.cyc = t - 1) && s.onBus && s.beatComing entry) then s.beatLost entry else s)

-- error states and bus-off (R589, R658)

/-- The error counters, whose values the spec leaves to ISO 11898-1 and the bus (log entry 30). -/
def State.freeCounters (s : State) : State := s.p K.dev_TEC (Config.freeTec s.cyc % 65536)

/-- CAN_ERROR_PASSIVE (R589). -/
def execCanErrorPassive (s : State) : Out :=
  accessing s (if s.onBus && decide (s.canErr = 0) then
    (((s.setErr 1).freeCounters).evNet 0x8001 0x8120 []).syncErr else s)

/-- CAN_ERROR_ACTIVE (R589). -/
def execCanErrorActive (s : State) : Out :=
  accessing s (if s.onBus && decide (s.canErr = 1) then ((s.setErr 0).freeCounters).syncErr else s)

/-- The controller goes off the bus (R589, R595, R658): of the frames that wait only EMCY messages are kept. -/
def State.busOff (s : State) : State :=
  let s1 := ((s.setErr 2).freeCounters).inc K.dev_BUSOFF_COUNT
  let s2 : State := { s1 with net := { s1.net with
    txQ := s1.net.txQ.filter (fun f => decide (f.cls = 2)), busoffAt := some s.cyc, recovering := false } }
  (((s2.bitTo K.sag_SAG_STAT 4 true).evChip 0x8002 []).syncErr).commError

/-- CAN_BUS_OFF (R589). -/
def execCanBusOff (s : State) : Out := accessing s (if s.onBus then s.busOff else s)

/-- BUSOFF_HOLD_END (R658): the recovery sequence begins, or the reset that waited is carried out. -/
def execBusoffHoldEnd (s : State) : Out :=
  accessing s (match s.net.busoffAt with
    | some t =>
      if s.d0Clock && decide (s.canErr = 2) && !s.net.recovering &&
          cycReached s.cyc (cycPlus t (s.g K.sag_BUSOFF_HOLD * 24576)) then
        let s1 := { s with net := { s.net with recovering := true } }.bitTo K.sag_SAG_STAT 4 false
        if s.net.resetDue then s1.resetController else s1
      else s
    | none => s)

/-- CAN_BUSOFF_RECOVERED (R589): the error counters restart at 0 with the recovery of ISO 11898-1. -/
def execCanBusoffRecovered (s : State) : Out :=
  accessing s (if s.d0Clock && decide (s.canErr = 2) && s.net.recovering then
    let s1 : State := { s with net := { s.net with busoffAt := none, recovering := false } }
    ((((s1.setErr 0).p K.dev_TEC 0).evNet 0x8003 0x8140 []).syncErr).drain
  else s)

-- the transmit budget (R657) and EMCY messages (R602, R607)

/-- TRANSMIT_WINDOW_BOUNDARY (R657). -/
def execTransmitWindowBoundary (s : State) : Out :=
  accessing s (if s.d0Clock && s.windowDue then s.newTxWindow else s)

/-- The inhibit time of EMCY messages has passed (R607). -/
def State.emcyDue (s : State) : Bool :=
  let last := s.net.lastEmcy
  decide (last = 0) || decide ((s.g K.comm_EMCY_INH * 24576 + 9) / 10 ≤ cycDiff s.cyc (last - 1))

/-- EMCY_SEND (R592, R602, R603, R607). -/
def execEmcySend (s : State) : Out :=
  accessing s (match s.net.emcyQ with
    | [] => s
    | m :: rest =>
      if s.talks && decide (s.pstate 0 ≤ 1) && s.emcyDue then
        ({ s with net := { s.net with emcyQ := rest, lastEmcy := s.cyc + 1 } }).sendFrame
          { id := 0x80 + s.net.nodeId, data := m, fd := decide (s.net.dataRate ≠ 0), cls := 2 }
      else s)

end Sys2Proof.Machine
end

