-- ==== Sys2Proof/Machine/Dispatch.lean ====
section
/-! DEFINITION. Which meaning each command has: one arm per constructor, one direct call each. -/

namespace Sys2Proof.Machine

/-- The effect of a command on everything but the queue. -/
def exec (i : Instr) (s : State) : Host.Outcome State Fault Refusal :=
  match i with
  | .frameBoundary => Sys2Proof.Machine.execFrameBoundary s
  | .slotStart die entry vdrvMv => Sys2Proof.Machine.execSlotStart die entry vdrvMv s
  | .attemptStart path vdrvMv => Sys2Proof.Machine.execAttemptStart path vdrvMv s
  | .seqSecondShot path => Sys2Proof.Machine.execSeqSecondShot path s
  | .referencePairStart path => Sys2Proof.Machine.execReferencePairStart path s
  | .referencePairDone path dn up => Sys2Proof.Machine.execReferencePairDone path dn up s
  | .burstEnd port charge => Sys2Proof.Machine.execBurstEnd port charge s
  | .bridgeOvercurrent port charge => Sys2Proof.Machine.execBridgeOvercurrent port charge s
  | .impedanceCheckDone port cMeas rMeas => Sys2Proof.Machine.execImpedanceCheckDone port cMeas rMeas s
  | .checkCmd orig port => Sys2Proof.Machine.execCheckCmd orig port s
  | .recheckExpiry port => Sys2Proof.Machine.execRecheckExpiry port s
  | .energyWindowBoundary => Sys2Proof.Machine.execEnergyWindowBoundary s
  | .comparatorArm path dir => Sys2Proof.Machine.execComparatorArm path dir s
  | .stopAccepted path dir code => Sys2Proof.Machine.execStopAccepted path dir code s
  | .receiveWindowExpiry path dir => Sys2Proof.Machine.execReceiveWindowExpiry path dir s
  | .shotVerdict path dir meas => Sys2Proof.Machine.execShotVerdict path dir meas s
  | .captureDmaDone path dir samples => Sys2Proof.Machine.execCaptureDmaDone path dir samples s
  | .refinementStart path => Sys2Proof.Machine.execRefinementStart path s
  | .refinementDone path => Sys2Proof.Machine.execRefinementDone path s
  | .retryCancelDelivered path => Sys2Proof.Machine.execRetryCancelDelivered path s
  | .pathRecordDelivered path => Sys2Proof.Machine.execPathRecordDelivered path s
  | .sectionResultTimeout sect path => Sys2Proof.Machine.execSectionResultTimeout sect path s
  | .holdTimerExpiry sect => Sys2Proof.Machine.execHoldTimerExpiry sect s
  | .sectionComputation sect => Sys2Proof.Machine.execSectionComputation sect s
  | .scanStart die => Sys2Proof.Machine.execScanStart die s
  | .phaseComplete die meas => Sys2Proof.Machine.execPhaseComplete die meas s
  | .clampHit die pin => Sys2Proof.Machine.execClampHit die pin s
  | .clampStickyClear orig die pin => Sys2Proof.Machine.execClampStickyClear orig die pin s
  | .channelStartDelivered chan => Sys2Proof.Machine.execChannelStartDelivered chan s
  | .channelResultDelivered chan => Sys2Proof.Machine.execChannelResultDelivered chan s
  | .channelResultTimeout sect chan => Sys2Proof.Machine.execChannelResultTimeout sect chan s
  | .pulseAccepted input samples => Sys2Proof.Machine.execPulseAccepted input samples s
  | .pulseLineFault input samples => Sys2Proof.Machine.execPulseLineFault input samples s
  | .pulseLineClear input samples => Sys2Proof.Machine.execPulseLineClear input samples s
  | .pulseProcess => Sys2Proof.Machine.execPulseProcess s
  | .lanternStart => Sys2Proof.Machine.execLanternStart s
  | .lanternWake vbatMv emberCycles => Sys2Proof.Machine.execLanternWake vbatMv emberCycles s
  | .lanternPairComplete dn up => Sys2Proof.Machine.execLanternPairComplete dn up s
  | .calCmdFull orig die => Sys2Proof.Machine.execCalCmdFull orig die s
  | .calCmdQuick orig die => Sys2Proof.Machine.execCalCmdQuick orig die s
  | .calFullStart die => Sys2Proof.Machine.execCalFullStart die s
  | .calFullDone die results => Sys2Proof.Machine.execCalFullDone die results s
  | .calQuickStart die => Sys2Proof.Machine.execCalQuickStart die s
  | .calQuickDone die measured => Sys2Proof.Machine.execCalQuickDone die measured s
  | .learn orig path n => Sys2Proof.Machine.execLearn orig path n s
  | .allowanceSample vResMv vLoopMv vBusMv vBatMv pInUw pBaseUw busLimit => Sys2Proof.Machine.execAllowanceSample vResMv vLoopMv vBusMv vBatMv pInUw pBaseUw busLimit s
  | .allowanceDelivered die => Sys2Proof.Machine.execAllowanceDelivered die s
  | .governorForced vResMv => Sys2Proof.Machine.execGovernorForced vResMv s
  | .sourceLost src => Sys2Proof.Machine.execSourceLost src s
  | .sourcePresent src vResMv => Sys2Proof.Machine.execSourcePresent src vResMv s
  | .powerFailCommit => Sys2Proof.Machine.execPowerFailCommit s
  | .d0VmainLow => Sys2Proof.Machine.execD0VmainLow s
  | .resBelowVreg => Sys2Proof.Machine.execResBelowVreg s
  | .cantCmd orig value => Sys2Proof.Machine.execCantCmd orig value s
  | .cantMeasDone dropUv => Sys2Proof.Machine.execCantMeasDone dropUv s
  | .railExcursion die rail => Sys2Proof.Machine.execRailExcursion die rail s
  | .railFaultClear die rail => Sys2Proof.Machine.execRailFaultClear die rail s
  | .coreWait die => Sys2Proof.Machine.execCoreWait die s
  | .interruptWake die => Sys2Proof.Machine.execInterruptWake die s
  | .wakeCycCompare => Sys2Proof.Machine.execWakeCycCompare s
  | .wakeComplete die => Sys2Proof.Machine.execWakeComplete die s
  | .hcsWake => Sys2Proof.Machine.execHcsWake s
  | .coldStart cause info => Sys2Proof.Machine.execColdStart cause info s
  | .warmStart cause info => Sys2Proof.Machine.execWarmStart cause info s
  | .followerPor die info => Sys2Proof.Machine.execFollowerPor die info s
  | .watchdogExpiry die => Sys2Proof.Machine.execWatchdogExpiry die s
  | .followerReadyTimeout die => Sys2Proof.Machine.execFollowerReadyTimeout die s
  | .followerRestartRetry die info => Sys2Proof.Machine.execFollowerRestartRetry die info s
  | .dieRestart orig die info => Sys2Proof.Machine.execDieRestart orig die info s
  | .glFrameStart die lane => Sys2Proof.Machine.execGlFrameStart die lane s
  | .glFrameReceived die lane beats => Sys2Proof.Machine.execGlFrameReceived die lane beats s
  | .glAckToggle die lane => Sys2Proof.Machine.execGlAckToggle die lane s
  | .glAckTimeout die lane => Sys2Proof.Machine.execGlAckTimeout die lane s
  | .syncReqReceived die at_ flushed => Sys2Proof.Machine.execSyncReqReceived die at_ flushed s
  | .syncAckReceived die at_ flushed => Sys2Proof.Machine.execSyncAckReceived die at_ flushed s
  | .syncDoneReceived die at_ => Sys2Proof.Machine.execSyncDoneReceived die at_ s
  | .syncFrameRepeat die at_ => Sys2Proof.Machine.execSyncFrameRepeat die at_ s
  | .resyncTimeout die => Sys2Proof.Machine.execResyncTimeout die s
  | .resyncRetry die => Sys2Proof.Machine.execResyncRetry die s
  | .cycCheckSend die => Sys2Proof.Machine.execCycCheckSend die s
  | .cycCheckReceived die value => Sys2Proof.Machine.execCycCheckReceived die value s
  | .counterSend die => Sys2Proof.Machine.execCounterSend die s
  | .followerResponse die => Sys2Proof.Machine.execFollowerResponse die s
  | .followTmoExpiry die => Sys2Proof.Machine.execFollowTmoExpiry die s
  | .bkcapPor => Sys2Proof.Machine.execBkcapPor s
  | .supplySwitch vmainMv vbatMv => Sys2Proof.Machine.execSupplySwitch vmainMv vbatMv s
  | .cellDisconnect vbatMv => Sys2Proof.Machine.execCellDisconnect vbatMv s
  | .emberSecondTick vbatMv => Sys2Proof.Machine.execEmberSecondTick vbatMv s
  | .wakeAccepted high => Sys2Proof.Machine.execWakeAccepted high s
  | .tamperEpisode input high => Sys2Proof.Machine.execTamperEpisode input high s
  | .oscStopDetect => Sys2Proof.Machine.execOscStopDetect s
  | .xchkCmd orig n => Sys2Proof.Machine.execXchkCmd orig n s
  | .xchkGateClose count => Sys2Proof.Machine.execXchkGateClose count s
  | .emberAccess subsec => Sys2Proof.Machine.execEmberAccess subsec s
  | .emberAccessDone => Sys2Proof.Machine.execEmberAccessDone s
  | .secondTickDelivered => Sys2Proof.Machine.execSecondTickDelivered s
  | .alarmDelivered => Sys2Proof.Machine.execAlarmDelivered s
  | .wakeDelivered => Sys2Proof.Machine.execWakeDelivered s
  | .tamperDelivered input => Sys2Proof.Machine.execTamperDelivered input s
  | .oscStopDelivered => Sys2Proof.Machine.execOscStopDelivered s
  | .clockValidityChange => Sys2Proof.Machine.execClockValidityChange s
  | .demandIntervalCycExpiry => Sys2Proof.Machine.execDemandIntervalCycExpiry s
  | .setBin orig sec => Sys2Proof.Machine.execSetBin orig sec s
  | .setCal orig fields => Sys2Proof.Machine.execSetCal orig fields s
  | .rtcModeWrite orig mode => Sys2Proof.Machine.execRtcModeWrite orig mode s
  | .trimWrite orig trim => Sys2Proof.Machine.execTrimWrite orig trim s
  | .pwronRelease orig => Sys2Proof.Machine.execPwronRelease orig s
  | .pwronAssert orig => Sys2Proof.Machine.execPwronAssert orig s
  | .billCmd orig value => Sys2Proof.Machine.execBillCmd orig value s
  | .boundaryFiringApply => Sys2Proof.Machine.execBoundaryFiringApply s
  | .fireOpen orig => Sys2Proof.Machine.execFireOpen orig s
  | .fireCommit orig => Sys2Proof.Machine.execFireCommit orig s
  | .fireAbort orig => Sys2Proof.Machine.execFireAbort orig s
  | .fireTmoExpiry orig => Sys2Proof.Machine.execFireTmoExpiry orig s
  | .commitStart => Sys2Proof.Machine.execCommitStart s
  | .commitBroadcast => Sys2Proof.Machine.execCommitBroadcast s
  | .firingApply => Sys2Proof.Machine.execFiringApply s
  | .firingRetire orig => Sys2Proof.Machine.execFiringRetire orig s
  | .gatherWaitExpiry die => Sys2Proof.Machine.execGatherWaitExpiry die s
  | .gatherCommitDone die => Sys2Proof.Machine.execGatherCommitDone die s
  | .scrubRead die line errs => Sys2Proof.Machine.execScrubRead die line errs s
  | .unlock orig bytes => Sys2Proof.Machine.execUnlock orig bytes s
  | .relock orig part => Sys2Proof.Machine.execRelock orig part s
  | .partitionLockExpiry die part => Sys2Proof.Machine.execPartitionLockExpiry die part s
  | .partDef orig bytes => Sys2Proof.Machine.execPartDef orig bytes s
  | .lineDataWrite orig bytes => Sys2Proof.Machine.execLineDataWrite orig bytes s
  | .lineDataRead orig errs => Sys2Proof.Machine.execLineDataRead orig errs s
  | .sramRequest die reqs => Sys2Proof.Machine.execSramRequest die reqs s
  | .sramWriteBack die => Sys2Proof.Machine.execSramWriteBack die s
  | .marchDestructive orig die => Sys2Proof.Machine.execMarchDestructive orig die s
  | .marchTransparent orig die => Sys2Proof.Machine.execMarchTransparent orig die s
  | .marchStop orig die => Sys2Proof.Machine.execMarchStop orig die s
  | .marchRunDone die reads info => Sys2Proof.Machine.execMarchRunDone die reads info s
  | .dieTempMeasure die temp => Sys2Proof.Machine.execDieTempMeasure die temp s
  | .logEntryAccept die => Sys2Proof.Machine.execLogEntryAccept die s
  | .logRead orig => Sys2Proof.Machine.execLogRead orig s
  | .logRelease orig value => Sys2Proof.Machine.execLogRelease orig value s
  | .loopSlewMove => Sys2Proof.Machine.execLoopSlewMove s
  | .loopMeasure microamps => Sys2Proof.Machine.execLoopMeasure microamps s
  | .loopSetWrite orig value => Sys2Proof.Machine.execLoopSetWrite orig value s
  | .sealChange isOpen => Sys2Proof.Machine.execSealChange isOpen s
  | .imgData orig bytes => Sys2Proof.Machine.execImgData orig bytes s
  | .imgBegin orig => Sys2Proof.Machine.execImgBegin orig s
  | .imgVerify orig => Sys2Proof.Machine.execImgVerify orig s
  | .imgVerifyDone readable => Sys2Proof.Machine.execImgVerifyDone readable s
  | .arbAdvance orig value => Sys2Proof.Machine.execArbAdvance orig value s
  | .arbFusesDone => Sys2Proof.Machine.execArbFusesDone s
  | .oemHashWrite orig bytes => Sys2Proof.Machine.execOemHashWrite orig bytes s
  | .attNonce orig bytes => Sys2Proof.Machine.execAttNonce orig bytes s
  | .attCmd orig value => Sys2Proof.Machine.execAttCmd orig value s
  | .attCapture => Sys2Proof.Machine.execAttCapture s
  | .attSignDone => Sys2Proof.Machine.execAttSignDone s
  | .digestRecomputeDone => Sys2Proof.Machine.execDigestRecomputeDone s
  | .extestSelect => Sys2Proof.Machine.execExtestSelect s
  | .hostWriteFrame cmd addr len words bits => Sys2Proof.Machine.execHostWriteFrame cmd addr len words bits s
  | .hostReadFrame cmd addr len bits => Sys2Proof.Machine.execHostReadFrame cmd addr len bits s
  | .odRead => Sys2Proof.Machine.execOdRead s
  | .odWrite => Sys2Proof.Machine.execOdWrite s
  | .resetPtr => Sys2Proof.Machine.execResetPtr s
  | .odDataWrite word => Sys2Proof.Machine.execOdDataWrite word s
  | .odDataRead => Sys2Proof.Machine.execOdDataRead s
  | .snapCtlWrite value => Sys2Proof.Machine.execSnapCtlWrite value s
  | .cycCapture => Sys2Proof.Machine.execCycCapture s
  | .winKeyWrite value => Sys2Proof.Machine.execWinKeyWrite value s
  | .winKeyExpiry => Sys2Proof.Machine.execWinKeyExpiry s
  | .keyClose => Sys2Proof.Machine.execKeyClose s
  | .deviceReset info => Sys2Proof.Machine.execDeviceReset info s
  | .canResetComm => Sys2Proof.Machine.execCanResetComm s
  | .nmtPreop => Sys2Proof.Machine.execNmtPreop s
  | .nmtOperational => Sys2Proof.Machine.execNmtOperational s
  | .nmtStop => Sys2Proof.Machine.execNmtStop s
  | .nmtStartNode node => Sys2Proof.Machine.execNmtStartNode node s
  | .nmtStopNode node => Sys2Proof.Machine.execNmtStopNode node s
  | .nmtEnterPreop node => Sys2Proof.Machine.execNmtEnterPreop node s
  | .nmtResetNode node info => Sys2Proof.Machine.execNmtResetNode node info s
  | .nmtResetComm node => Sys2Proof.Machine.execNmtResetComm node s
  | .sdoDownloadInitiate index sub size data => Sys2Proof.Machine.execSdoDownloadInitiate index sub size data s
  | .sdoDownloadSegment toggle last data => Sys2Proof.Machine.execSdoDownloadSegment toggle last data s
  | .sdoUploadInitiate index sub => Sys2Proof.Machine.execSdoUploadInitiate index sub s
  | .sdoUploadSegment toggle => Sys2Proof.Machine.execSdoUploadSegment toggle s
  | .sdoUnsupportedRequest => Sys2Proof.Machine.execSdoUnsupportedRequest s
  | .usdoDownloadInitiate index sub size data => Sys2Proof.Machine.execUsdoDownloadInitiate index sub size data s
  | .usdoDownloadSegment toggle last data => Sys2Proof.Machine.execUsdoDownloadSegment toggle last data s
  | .usdoUploadInitiate index sub => Sys2Proof.Machine.execUsdoUploadInitiate index sub s
  | .usdoUploadSegment toggle => Sys2Proof.Machine.execUsdoUploadSegment toggle s
  | .sdoTmoExpiry => Sys2Proof.Machine.execSdoTmoExpiry s
  | .dictWrite orig index sub data => Sys2Proof.Machine.execDictWrite orig index sub data s
  | .rpdoReceived rpdo data => Sys2Proof.Machine.execRpdoReceived rpdo data s
  | .syncReceived counter => Sys2Proof.Machine.execSyncReceived counter s
  | .syncProduce => Sys2Proof.Machine.execSyncProduce s
  | .syncWinExpiry => Sys2Proof.Machine.execSyncWinExpiry s
  | .timeReceived ms days => Sys2Proof.Machine.execTimeReceived ms days s
  | .tpdoEventTimer tpdo => Sys2Proof.Machine.execTpdoEventTimer tpdo s
  | .tpdoInhibitEnd tpdo => Sys2Proof.Machine.execTpdoInhibitEnd tpdo s
  | .heartbeatProduce => Sys2Proof.Machine.execHeartbeatProduce s
  | .heartbeatReceived node => Sys2Proof.Machine.execHeartbeatReceived node s
  | .heartbeatConsumerTimeout entry => Sys2Proof.Machine.execHeartbeatConsumerTimeout entry s
  | .canErrorPassive => Sys2Proof.Machine.execCanErrorPassive s
  | .canBusOff => Sys2Proof.Machine.execCanBusOff s
  | .busoffHoldEnd => Sys2Proof.Machine.execBusoffHoldEnd s
  | .canBusoffRecovered => Sys2Proof.Machine.execCanBusoffRecovered s
  | .transmitWindowBoundary => Sys2Proof.Machine.execTransmitWindowBoundary s
  | .emcySend => Sys2Proof.Machine.execEmcySend s
  | .storeParameters sub signature => Sys2Proof.Machine.execStoreParameters sub signature s
  | .restoreDefaults sub signature => Sys2Proof.Machine.execRestoreDefaults sub signature s
  | .errorFieldClear value => Sys2Proof.Machine.execErrorFieldClear value s
  | .firmwarePowerStateChange die state => Sys2Proof.Machine.execFirmwarePowerStateChange die state s
  | .canErrorActive => Sys2Proof.Machine.execCanErrorActive s
  | .gpioInputChange die levels => Sys2Proof.Machine.execGpioInputChange die levels s
  | .tamperRearm input high => Sys2Proof.Machine.execTamperRearm input high s
  | .correctionPeriodStart => Sys2Proof.Machine.execCorrectionPeriodStart s

end Sys2Proof.Machine
end

