-- ==== Sys2Proof/Machine/Idle.lean ====
section
/-! DEFINITION. What one HCLK cycle without a command does (R11, R532): CYC counts, and the effects that every cycle has
show. -/

namespace Sys2Proof.Machine

/-- CYC counts while D0's HCLK runs (R11, R532). -/
def State.tick (s : State) : State := if s.d0Clock then { s with cyc := cycPlus s.cyc 1 } else s

/-- Captures that are due in the cycle that ends, once all it delivers has been taken (R124, R134). -/
def State.startAllCaptures (s : State) : State := (List.range s.nPaths).foldl (fun t n => t.startCaptures n) s

/-- A cycle without a command ends: captures that are due start or are lost, TPDOs of the cycle are captured (R618), and
GPIO cells take what was written (R577), and the host port's captures and HIRQ follow (R638 to R640). CYC counts;
power-state entries that were deferred are tried again (R534), a word is taken from the guy lines' FIFOs (R27, R483),
outcomes of firings show in the cycle after their apply cycle (R414), and fuses blow (R675). The ledger controller goes
on with its record writes, bookings that waited for it are made (R448, R452), and the kiln goes on with its journal
(R413) and the log writer with its ledger writes (R700). SRAM banks and the queue stay. -/
def State.idle (s : State) : State :=
  let e := s.startAllCaptures.deliverCancels.flushPdo.gpioStep.hostStep
  let t := e.tick.settleEntries.readLines.settleFires
  let u : State := { t with dies := s.dies, cyc := s.tick.cyc, led := s.led, sram := s.sram, otp := s.otp }
  let v := if s.d0Clock then u.ledgerStep.flushBookings.journalStep.logStep else u
  { v.blowFuses with dies := s.dies, cyc := s.tick.cyc, sram := s.sram, pending := s.pending }

end Sys2Proof.Machine
end

