-- ==== Sys2Proof/Safety.lean ====
section
/-! DEFINITION. The invariant of the block: what every state a step leads to keeps. -/

namespace Sys2Proof

open Sys2Proof.Machine

/-- CYC is a 48-bit number (R11). -/
def cycOk (s : State) : Prop := s.cyc < two48

/-- Ledger registers hold 64-bit numbers (R325, R362). -/
def ledOk (s : State) : Prop := ∀ e ∈ s.led, e.2 < two64

/-- No more fuses are blown than the part has (R666). -/
def fusesOk (s : State) : Prop := s.otp.arb ≤ 64

/-- Every SRAM bank keeps its canonical form. -/
def sramOk (s : State) : Prop := ∀ e ∈ s.sram, e.2.wf = true

/-- The part is one of the three of R1: 2, 4 or 8 dies. -/
abbrev partOk (s : State) : Prop := s.dies = 2 ∨ s.dies = 4 ∨ s.dies = 8

/-- The invariant of the block. -/
def Inv (s : State) : Prop := partOk s ∧ cycOk s ∧ ledOk s ∧ fusesOk s ∧ sramOk s

/-- Entries that any command may change beside its own: those that raising a kiln-log entry counts (R692, R699, R605),
and those of the sagitta (R656). -/
def sharedKey (k : Nat) : Bool :=
  k ∈ [K.log_QUEUE_DROP, K.log_LOG_STAT, K.log_STANDING, K.comm_ERRREG, K.sag_SAG_STAT, K.sag_TRIP_COUNT]

/-- The same network record but for the TPDOs a write has triggered (R617). -/
def sameNet (a b : NetRt) : Prop := b = { a with trig := b.trig }

/-- The same die record but for its kiln-log queue and the mark of a dropped entry. -/
def sameQueue (a b : DieRt) : Prop := b = { a with logQ := b.logQ, qdrop := b.qdrop }

/-- Of `s`, the state `t` differs at most by kiln-log entries raised, the shared entries, and the TPDOs they trigger. -/
structure quiet (s t : State) : Prop where
  rest : t = { s with od := t.od, net := t.net, lag := t.lag, dieRt := t.dieRt, once := t.once }
  net : sameNet s.net t.net
  entries : ∀ k, sharedKey k = false → t.g k = s.g k
  dies : ∀ d, sameQueue (s.die d) (t.die d)

/-- Of `s`, the state `t` differs at most by CAN frames sent, kiln-log entries raised, TPDO_LATE (R618) and the shared
entries. -/
structure sends (s t : State) : Prop where
  rest : t = { s with od := t.od, net := t.net, lag := t.lag, dieRt := t.dieRt, once := t.once }
  entries : ∀ k, sharedKey k = false → k ≠ K.dev_TPDO_LATE → t.g k = s.g k
  dies : ∀ d, sameQueue (s.die d) (t.die d)

/-- The same die record but for its kiln-log queue, the mark of a dropped entry and COUNT. -/
def sameDie (a b : DieRt) : Prop := b = { a with logQ := b.logQ, qdrop := b.qdrop, count := b.count }

/-- Of `s`, the state `t` differs at most by kiln-log entries raised, faults declared or ended, the shared entries, and
the TPDOs they trigger. -/
structure logsOnly (s t : State) : Prop where
  rest : t = { s with od := t.od, net := t.net, lag := t.lag, dieRt := t.dieRt, once := t.once, standing := t.standing }
  net : sameNet s.net t.net
  entries : ∀ k, sharedKey k = false → t.g k = s.g k
  dies : ∀ d, sameDie (s.die d) (t.die d)

/-- What commands leave alone: of `s`, the state `t` differs at most by the entries `own` names, the shared entries,
kiln-log entries raised, faults declared or ended, and the TPDOs its writes trigger. A table that a command changes
beside is put into `s` from `t`, and said apart. -/
structure onlyOwn (own : Nat → Prop) (s t : State) : Prop where
  rest : t = { s with od := t.od, net := t.net, lag := t.lag, dieRt := t.dieRt, once := t.once, standing := t.standing }
  net : sameNet s.net t.net
  entries : ∀ k, sharedKey k = false → ¬ own k → t.g k = s.g k
  dies : ∀ d, sameDie (s.die d) (t.die d)

/-- Beside kiln-log queues and counts, the die records differ at most by a wake of D0 (R536, R540). -/
def onlyWakes (s t : State) : Prop :=
  sameDie { s.die 0 with waking := (t.die 0).waking, wakeAt := (t.die 0).wakeAt } (t.die 0) ∧
  ∀ d, d ≠ 0 → sameDie (s.die d) (t.die d)

/-- Commands that start or wake the part or a die: they set CYC, and a cold start builds the state anew. -/
def starts : Instr → Bool
  | .lanternWake _ _ | .coldStart _ _ | .warmStart _ _ | .followerPor _ _ | .followerRestartRetry _ _
  | .dieRestart _ _ _ | .marchRunDone _ _ _ | .deviceReset _ | .nmtResetNode _ _ => true
  | _ => false

/-- Commands that book totals or act on the ledger. -/
def booksTotals : Instr → Bool
  | .sectionComputation _ | .pulseProcess | .boundaryFiringApply | .firingApply => true
  | _ => false

/-- Commands of the SRAM's request stage. -/
def worksSram : Instr → Bool
  | .sramRequest _ _ | .sramWriteBack _ => true
  | _ => false

/-- Entries of path `n`: its settings, its record, its two ports, its die's object, and the store's counters. -/
def pathOwn (n k : Nat) : Prop :=
  ixOf k = 0x2100 + n ∨ ixOf k = 0x2120 + n ∨ ixOf k = 0x2140 + 2 * n ∨ ixOf k = 0x2140 + (2 * n + 1) ∨
    ixOf k = 0x2001 + n / 4 ∨ ixOf k = 0x2B00

/-- A command answers a next state, and that state satisfies `P`. -/
def yields (o : Out) (P : State → Prop) : Prop := ∃ t, o = .next t ∧ P t

/-- Bit `n` of an entry is set, or clear. -/
abbrev bitSet (s : State) (k n : Nat) : Prop := bitAt (s.g k) n = true
abbrev bitClear (s : State) (k n : Nat) : Prop := bitAt (s.g k) n = false

/-- An order of an originator is carried out at once: the part serves, the originator has no open firing that would take
it as a stage, and its write passes every check (R405, R621). -/
abbrev accepts (s : State) (who : Orig) (key : Nat) (data : List Nat) : Prop :=
  s.serving = true ∧ who ≠ .boundary ∧ (s.isOpen who = false ∨ ixOf key = 0x2A00) ∧ s.directCheck who key data = 0

end Sys2Proof
end

