-- ==== Sys2Proof/WellFormed.lean ====
section
/-! DEFINITION. Well-formed commands of a part with a given number of dies: the resources they name are fitted (R1, R4),
and their operands are ones an event or an access of the block can carry. Every other command is no event of the block
and changes nothing. -/

namespace Sys2Proof

open Sys2Proof.Machine

/-- The part: a state with these dies fitted, for the checks that ask what is fitted. -/
def part (dies : Nat) : State := { dies := dies }

/-- An originator: the host, CAN or the internal firmware (R397). -/
def byOriginator (who : Orig) : Bool := isOriginator who

/-- Fitted resources (R1). -/
def dieFitted (n d : Nat) : Bool := decide (d < n)
def followerFitted (n d : Nat) : Bool := decide (0 < d) && decide (d < n)
def pathFitted (n p : Nat) : Bool := decide (p < (part n).nPaths)
def portFitted (n p : Nat) : Bool := decide (p < (part n).nPorts)
def chanFitted (n c : Nat) : Bool := decide (c < (part n).nChans)
def inputFitted (n i : Nat) : Bool := decide (i < (part n).nInputs)
def sectFitted (n i : Nat) : Bool := decide (i < (part n).nSects)

/-- Operand widths. -/
def isByte (v : Nat) : Bool := decide (v < 256)
def isWord16 (v : Nat) : Bool := decide (v < 65536)
def isWord32 (v : Nat) : Bool := decide (v < two32)
def fits16 (v : Int) : Bool := decide (-32768 ≤ v) && decide (v ≤ 32767)

/-- The command is well-formed on a part with `n` dies. -/
def wellFormed (n : Nat) (i : Instr) : Bool :=
  match i with
  | .frameBoundary => true
  | .slotStart die entry _ => dieFitted n die && decide (entry < 4)
  | .attemptStart path _ => pathFitted n path
  | .seqSecondShot path => pathFitted n path
  | .referencePairStart path => pathFitted n path
  | .referencePairDone path _ _ => pathFitted n path
  | .burstEnd port _ => portFitted n port
  | .bridgeOvercurrent port _ => portFitted n port
  | .impedanceCheckDone port _ _ => portFitted n port
  | .checkCmd who port => decide (port < 64) && byOriginator who
  | .recheckExpiry port => portFitted n port
  | .energyWindowBoundary => true
  | .comparatorArm path _ => pathFitted n path
  | .stopAccepted path _ _ => pathFitted n path
  | .receiveWindowExpiry path _ => pathFitted n path
  | .shotVerdict path _ _ => pathFitted n path
  | .captureDmaDone path _ samples => pathFitted n path && captureOk samples
  | .refinementStart path => pathFitted n path
  | .refinementDone path => pathFitted n path
  | .retryCancelDelivered path => pathFitted n path
  | .pathRecordDelivered path => pathFitted n path
  | .sectionResultTimeout sect path => sectFitted n sect && pathFitted n path
  | .holdTimerExpiry sect => sectFitted n sect
  | .sectionComputation sect => sectFitted n sect
  | .scanStart die => dieFitted n die
  | .phaseComplete die _ => dieFitted n die
  | .clampHit die pin => dieFitted n die && decide (pin < 16)
  | .clampStickyClear who die pin => decide (die < 8) && decide (pin < 16) && byOriginator who
  | .channelStartDelivered chan => chanFitted n chan
  | .channelResultDelivered chan => chanFitted n chan
  | .channelResultTimeout sect chan => sectFitted n sect && chanFitted n chan
  | .pulseAccepted input _ => inputFitted n input
  | .pulseLineFault input _ => inputFitted n input
  | .pulseLineClear input _ => inputFitted n input
  | .pulseProcess => true
  | .lanternStart => true
  | .lanternWake _ _ => true
  | .lanternPairComplete _ _ => true
  | .calCmdFull who die => decide (die < 8) && byOriginator who
  | .calCmdQuick who die => decide (die < 8) && byOriginator who
  | .calFullStart die => dieFitted n die
  | .calFullDone die results => dieFitted n die && calResultsOk results
  | .calQuickStart die => dieFitted n die
  | .calQuickDone die measured => dieFitted n die && quickOk measured
  | .learn who path k => decide (path < 32) && byOriginator who && isByte k
  | .allowanceSample _ _ _ _ _ _ _ => true
  | .allowanceDelivered die => dieFitted n die
  | .governorForced _ => true
  | .sourceLost _ => true
  | .sourcePresent _ _ => true
  | .powerFailCommit => true
  | .d0VmainLow => true
  | .resBelowVreg => true
  | .cantCmd who v => byOriginator who && isByte v
  | .cantMeasDone _ => true
  | .railExcursion die _ => dieFitted n die
  | .railFaultClear die _ => dieFitted n die
  | .coreWait die => dieFitted n die
  | .interruptWake die => dieFitted n die
  | .wakeCycCompare => true
  | .wakeComplete die => dieFitted n die
  | .hcsWake => true
  | .coldStart cause info => decide (1 ≤ cause) && decide (cause ≤ 4) && (part n).startInfoOk info
  | .warmStart cause info => decide (cause ∈ [5, 6, 7, 8, 10]) && (part n).startInfoOk info
  | .followerPor die info => followerFitted n die && dieStartOk info
  | .watchdogExpiry die => dieFitted n die
  | .followerReadyTimeout die => followerFitted n die
  | .followerRestartRetry die info => followerFitted n die && dieStartOk info
  | .dieRestart who die info => decide (die < 8) && byOriginator who && dieStartOk info
  | .glFrameStart die _ => followerFitted n die
  | .glFrameReceived die _ beats => followerFitted n die && beats.all isByte
  | .glAckToggle die _ => followerFitted n die
  | .glAckTimeout die _ => followerFitted n die
  | .syncReqReceived die _ _ => followerFitted n die
  | .syncAckReceived die _ _ => followerFitted n die
  | .syncDoneReceived die _ => followerFitted n die
  | .syncFrameRepeat die _ => followerFitted n die
  | .resyncTimeout die => followerFitted n die
  | .resyncRetry die => followerFitted n die
  | .cycCheckSend die => followerFitted n die
  | .cycCheckReceived die _ => followerFitted n die
  | .counterSend die => followerFitted n die
  | .followerResponse die => followerFitted n die
  | .followTmoExpiry die => followerFitted n die
  | .bkcapPor => true
  | .supplySwitch _ _ => true
  | .cellDisconnect _ => true
  | .emberSecondTick _ => true
  | .wakeAccepted _ => true
  | .tamperEpisode input _ => decide (input < 2)
  | .oscStopDetect => true
  | .xchkCmd who v => byOriginator who && isByte v
  | .xchkGateClose count => decide (count < two64)
  | .emberAccess subsec => decide (subsec < 32768)
  | .emberAccessDone => true
  | .secondTickDelivered => true
  | .alarmDelivered => true
  | .wakeDelivered => true
  | .tamperDelivered input => decide (input < 2)
  | .oscStopDelivered => true
  | .clockValidityChange => true
  | .demandIntervalCycExpiry => true
  | .setBin who sec => byOriginator who && isWord32 sec
  | .setCal who fields => byOriginator who && decide (fields < two64)
  | .rtcModeWrite who mode => byOriginator who && isByte mode
  | .trimWrite who trim => byOriginator who && fits16 trim
  | .pwronRelease who => byOriginator who
  | .pwronAssert who => byOriginator who
  | .billCmd who v => byOriginator who && isByte v
  | .boundaryFiringApply => true
  | .fireOpen who => byOriginator who
  | .fireCommit who => byOriginator who
  | .fireAbort who => byOriginator who
  | .fireTmoExpiry who => byOriginator who
  | .commitStart => true
  | .commitBroadcast => true
  | .firingApply => true
  | .firingRetire _ => true
  | .gatherWaitExpiry die => dieFitted n die
  | .gatherCommitDone die => dieFitted n die
  | .scrubRead die line errs => dieFitted n die && decide (line < 4096) && errsOk errs
  | .unlock who bytes => byOriginator who && isBytes bytes
  | .relock who p => byOriginator who && isByte p
  | .partitionLockExpiry die p => dieFitted n die && decide (p < 16)
  | .partDef who bytes => byOriginator who && isBytes bytes
  | .lineDataWrite who bytes => byOriginator who && isBytes bytes
  | .lineDataRead who errs => byOriginator who && errsOk errs
  | .sramRequest die reqs => dieFitted n die && reqs.all reqOk
  | .sramWriteBack die => dieFitted n die
  | .marchDestructive who die => decide (die < 8) && byOriginator who
  | .marchTransparent who die => decide (die < 8) && byOriginator who
  | .marchStop who die => decide (die < 8) && byOriginator who
  | .marchRunDone die reads info => dieFitted n die && dieStartOk info && marchOk reads
  | .dieTempMeasure die temp => dieFitted n die && fits16 temp
  | .logEntryAccept die => dieFitted n die
  | .logRead who => byOriginator who
  | .logRelease who v => byOriginator who && isWord32 v
  | .loopSlewMove => true
  | .loopMeasure _ => true
  | .loopSetWrite who v => byOriginator who && isWord32 v
  | .sealChange _ => true
  | .imgData who bytes => byOriginator who && isBytes bytes
  | .imgBegin who => byOriginator who
  | .imgVerify who => byOriginator who
  | .imgVerifyDone _ => true
  | .arbAdvance who v => byOriginator who && isByte v
  | .arbFusesDone => true
  | .oemHashWrite who bytes => byOriginator who && isBytes bytes
  | .attNonce who bytes => byOriginator who && isBytes bytes
  | .attCmd who v => byOriginator who && isByte v
  | .attCapture => true
  | .attSignDone => true
  | .digestRecomputeDone => true
  | .extestSelect => true
  | .hostWriteFrame cmd addr len words _ =>
    frameBytesOk cmd addr len && decide (cmd < 128) && decide (words.length = len + 1) && words.all isWord16
  | .hostReadFrame cmd addr len _ => frameBytesOk cmd addr len && decide (128 ≤ cmd)
  | .odRead => true
  | .odWrite => true
  | .resetPtr => true
  | .odDataWrite word => isWord16 word
  | .odDataRead => true
  | .snapCtlWrite value => isWord16 value
  | .cycCapture => true
  | .winKeyWrite value => isWord16 value
  | .winKeyExpiry => true
  | .keyClose => true
  | .deviceReset info => (part n).startInfoOk info
  | .canResetComm => true
  | .nmtPreop => true
  | .nmtOperational => true
  | .nmtStop => true
  | .nmtStartNode node => isByte node
  | .nmtStopNode node => isByte node
  | .nmtEnterPreop node => isByte node
  | .nmtResetNode node info => isByte node && (part n).startInfoOk info
  | .nmtResetComm node => isByte node
  | .sdoDownloadInitiate index sub _ data => initOk index sub data 4
  | .sdoDownloadSegment _ _ data => isBytes data && decide (data.length ≤ 7)
  | .sdoUploadInitiate index sub => initOk index sub none 0
  | .sdoUploadSegment _ => true
  | .sdoUnsupportedRequest => true
  | .usdoDownloadInitiate index sub _ data => initOk index sub data 64
  | .usdoDownloadSegment _ _ data => isBytes data && decide (data.length ≤ 64)
  | .usdoUploadInitiate index sub => initOk index sub none 0
  | .usdoUploadSegment _ => true
  | .sdoTmoExpiry => true
  | .dictWrite who index sub data => byOriginator who && isWord16 index && isByte sub && isBytes data
  | .rpdoReceived rpdo data => decide (rpdo < 8) && isBytes data && decide (data.length ≤ 64)
  | .syncReceived counter => isByte counter
  | .syncProduce => true
  | .syncWinExpiry => true
  | .timeReceived ms days => decide (ms < 2 ^ 28) && isWord16 days
  | .tpdoEventTimer tpdo => decide (tpdo < 16)
  | .tpdoInhibitEnd tpdo => decide (tpdo < 16)
  | .heartbeatProduce => true
  | .heartbeatReceived node => decide (node ≠ 0) && decide (node ≤ 127)
  | .heartbeatConsumerTimeout entry => decide (entry < 4)
  | .canErrorPassive => true
  | .canBusOff => true
  | .busoffHoldEnd => true
  | .canBusoffRecovered => true
  | .transmitWindowBoundary => true
  | .emcySend => true
  | .storeParameters sub signature => isByte sub && isWord32 signature
  | .restoreDefaults sub signature => isByte sub && isWord32 signature
  | .errorFieldClear value => isByte value
  | .firmwarePowerStateChange die state =>
    dieFitted n die && decide (state ≠ 1) && decide (state ≤ 4) && decide (die ≠ 0 ∨ state ≠ 0)
  | .canErrorActive => true
  | .gpioInputChange die levels => dieFitted n die && decide (levels < 16)
  | .tamperRearm input _ => decide (input < 2)
  | .correctionPeriodStart => true

end Sys2Proof
end

