-- ==== Sys2Proof/Certificates/Slice0/Obligations.lean ====
section
/-! DEFINITION. The statements for the provers, by the families of the operation table. -/

open Sys2Proof Sys2Proof.Machine

-- ports and bursts

/-- BURST_END of a burst that has reached its end books it: Q_LAST holds the charge saturated at 65535 (R77), the port's
predicted energy is the burst's energy, the energy is added to E_WINDOW in the window the burst started in and to no
other, and the port drives no burst any more (R65, R79); the third low charge in a row asks for a check (R87).
BRIDGE_OVERCURRENT abandons and books the running burst and puts the port into SHORT, not OPEN (R86). -/
def Obligations.BurstsEnd : Prop :=
  (∀ (s : State) (n charge : Nat), partOk s → n < s.nPorts → s.burstOver n = true →
     yields (exec (.burstEnd n charge) s) fun t =>
       t.g (K.port_Q_LAST n) = min charge 65535 ∧ (t.port n).bursting = false ∧
       (t.port n).ePred = burstEnergy charge (s.port n).burstMv ∧
       ((s.port n).lowRun = 2 → min charge 65535 < s.g (K.port_Q_OPEN n) → bitSet t (K.port_STATUS n) stPEND) ∧
       t.g (K.port_E_WINDOW n) =
         (if s.cyc / cycPerSecond = (s.port n).win then
           wrap32 (s.g (K.port_E_WINDOW n) + burstEnergy charge (s.port n).burstMv)
          else s.g (K.port_E_WINDOW n))) ∧
  (∀ (s : State) (n charge : Nat), partOk s → n < s.nPorts → (s.port n).bursting = true →
     yields (exec (.bridgeOvercurrent n charge) s) fun t =>
       bitSet t (K.port_STATUS n) stSHORT ∧ bitClear t (K.port_STATUS n) stOPEN ∧
       t.g (K.port_Q_LAST n) = min charge 65535 ∧ (t.port n).bursting = false)

/-- IMPEDANCE_CHECK_DONE of a check that has run its 24 576 cyc (R82) writes what was measured into C_MEAS and R_MEAS,
within the ranges they cover, and R_OVER shows a resistance above its range (R83); the port is left in the state of the
first matching row of R85 for the values they hold: short, open, or passing. RECHECK_EXPIRY at the end of the period of
a port in OPEN or SHORT asks for a check and arms the period again from its end (R84); ENERGY_WINDOW_BOUNDARY in the
first cycle of a window restarts every port's E_WINDOW and clears its WITHHELD bit (R78, R94). -/
def Obligations.ChecksAndWindows : Prop :=
  (∀ (s : State) (n c r : Nat), partOk s → n < s.nPorts → s.checkOver n = true →
     yields (exec (.impedanceCheckDone n c r) s) fun t =>
       let cm := t.g (K.port_C_MEAS n)
       let rm := t.g (K.port_R_MEAS n)
       (10 ≤ cm ∧ cm ≤ 65535 ∧ (10 ≤ c → c ≤ 65535 → cm = c)) ∧
       (10 ≤ rm ∧ rm ≤ 10000000 ∧ (10 ≤ r → rm = min r 10000000)) ∧
       bitAt (t.g (K.port_STATUS n)) stROVER = decide (10000000 < r) ∧ bitClear t (K.port_STATUS n) stRUN ∧
       (if (0 < s.g (K.port_R_MIN n) ∧ rm < s.g (K.port_R_MIN n)) ∨ s.g (K.port_C_MAX n) < cm then
         bitSet t (K.port_STATUS n) stSHORT ∧ bitClear t (K.port_STATUS n) stOPEN
        else if cm < s.g (K.port_C_MIN n) then
         bitSet t (K.port_STATUS n) stOPEN ∧ bitClear t (K.port_STATUS n) stSHORT
        else bitClear t (K.port_STATUS n) stOPEN ∧ bitClear t (K.port_STATUS n) stSHORT)) ∧
  ((∀ (s : State) (n c : Nat), partOk s → n < s.nPorts → (s.port n).recheck = some c → cycReached s.cyc c = true →
     (bitSet s (K.port_STATUS n) stOPEN ∨ bitSet s (K.port_STATUS n) stSHORT) →
     yields (exec (.recheckExpiry n) s) fun t =>
       bitSet t (K.port_STATUS n) stPEND ∧
       (t.port n).recheck = (if s.g (K.port_RECHECK n) = 0 then none
         else some (cycPlus c (s.g (K.port_RECHECK n) * cycPerSecond)))) ∧
   (∀ s : State, partOk s → s.cyc % cycPerSecond = 0 →
     yields (exec .energyWindowBoundary s) fun t => ∀ n, n < s.nPorts →
       t.g (K.port_E_WINDOW n) = 0 ∧ bitClear t (K.port_STATUS n) stWITHHELD))

-- receive chains

/-- COMPARATOR_ARM arms the listening chain in a window cycle (R99, R105). STOP_ACCEPTED takes a stop after the arming
cycle and not in the cycle of the stop before, and completes the shot with its last stop (R100, R102, R108).
RECEIVE_WINDOW_EXPIRY completes a listening shot in the cycle after its window; a stop that the last window cycle still
brings comes first (R37, R104, R108). -/
def Obligations.ShotCaptures : Prop :=
  (∀ (s : State) (n : Nat) (d : Dir), n < s.nPaths → (s.path n).att.live = true →
    ((s.path n).att.shot d).phase = .listening → ((s.path n).att.shot d).armedAt = none →
    ((s.path n).att.shot d).inWindow (s.shotAt ((s.path n).att.shot d)) = true →
    yields (exec (.comparatorArm n d) s) fun t =>
      ((t.path n).att.shot d).armedAt = some (s.shotAt ((s.path n).att.shot d))) ∧
  (∀ (s : State) (n code a : Nat) (d : Dir), n < s.nPaths → (s.path n).att.live = true →
    ((s.path n).att.shot d).phase = .listening → ((s.path n).att.shot d).armedAt = some a →
    a < s.shotAt ((s.path n).att.shot d) →
    ((s.path n).att.shot d).inWindow (s.shotAt ((s.path n).att.shot d)) = true →
    ((s.path n).att.shot d).stops.length <
      ((s.path n).att.shot d).set.stopFirst + ((s.path n).att.shot d).set.stopCount →
    ((s.path n).att.shot d).stops.getLast?.map (·.1) ≠ some (s.shotAt ((s.path n).att.shot d)) →
    yields (exec (.stopAccepted n d code) s) fun t =>
      ((t.path n).att.shot d).stops =
        ((s.path n).att.shot d).stops ++ [(s.shotAt ((s.path n).att.shot d), code)] ∧
      (((t.path n).att.shot d).phase = .complete ↔
        ((s.path n).att.shot d).stops.length + 1 =
          ((s.path n).att.shot d).set.stopFirst + ((s.path n).att.shot d).set.stopCount)) ∧
  (∀ (s : State) (n : Nat) (d : Dir), n < s.nPaths → (s.path n).att.live = true →
    ((s.path n).att.shot d).phase = .listening →
    ((s.path n).att.shot d).winEnd ≤ s.shotAt ((s.path n).att.shot d) →
    (((s.path n).att.shot d).winEnd < s.shotAt ((s.path n).att.shot d) ∨ s.stopComing n d = false) →
    yields (exec (.receiveWindowExpiry n d) s) fun t =>
      ((t.path n).att.shot d).phase = .complete ∧
      ((t.path n).att.shot d).doneAt = some (((s.path n).att.shot d).winEnd + 1))

/-- CAL_FULL_START serves a request while the die's pairs are quiet: CAL_STATUS 1 and CAL_CYC the start (R112, R114,
R139). CAL_FULL_DONE after 1 048 576 cyc stores the tables and INL_MAX where every U_CAL lies in its band, and keeps the
previous ones with CAL_STATUS 3 where one does not (R112, R139, R140). CAL_QUICK_START sets CAL_STATUS 2, and
CAL_QUICK_DONE of a passing check ends it, CAL_STATUS still telling whether the last full calibration failed (R139); a
failing one starts a full calibration at once (R113). -/
def Obligations.CalibrationRuns : Prop :=
  (∀ (s : State) (d : Nat), partOk s → d < s.dies → (s.die d).calFull = true → (s.die d).calRun = 0 →
    s.dieQuiet d = true → s.calPlace d = true →
    yields (exec (.calFullStart d) s) fun t =>
      t.g (K.die_CAL_STATUS d) = 1 ∧ t.g (K.die_CAL_CYC d) = s.cyc ∧ (t.die d).calRun = 1 ∧
      (t.die d).calFull = false) ∧
  (∀ (s : State) (d : Nat) (rs : List CalRes), partOk s → d < s.dies → (s.die d).calRun = 1 →
    cycReached s.cyc (cycPlus (s.die d).calStart 1048576) = true → calResultsOk rs = true →
    yields (exec (.calFullDone d rs) s) fun t =>
      (t.die d).calRun = 0 ∧
      (if rs.all (·.inBand) then t.g (K.die_CAL_STATUS d) = 0 ∧ (t.die d).interp = rs ∧
         t.g (K.die_INL_MAX d) = min (inlMax rs) 65535
       else t.g (K.die_CAL_STATUS d) = 3 ∧ (t.die d).interp = (s.die d).interp)) ∧
  (∀ (s : State) (d : Nat), partOk s → d < s.dies → (s.die d).calQuick = true → (s.die d).calFull = false →
    (s.die d).calRun = 0 → s.dieQuiet d = true → s.calPlace d = true →
    yields (exec (.calQuickStart d) s) fun t =>
      t.g (K.die_CAL_STATUS d) = 2 ∧ (t.die d).calRun = 2 ∧ (t.die d).calQuick = false) ∧
  (∀ (s : State) (d : Nat) (m : List (List Int)), partOk s → d < s.dies → (s.die d).calRun = 2 →
    cycReached s.cyc (cycPlus (s.die d).calStart 16384) = true → quickOk m = true →
    yields (exec (.calQuickDone d m) s) fun t =>
      if quickPasses (s.die d).interp m then
        t.g (K.die_CAL_STATUS d) = (if (s.die d).calFailed then 3 else 0) ∧ (t.die d).calRun = 0
      else t.g (K.die_CAL_STATUS d) = 1 ∧ (t.die d).calRun = 1)

-- frames, slots and attempts

/-- FRAME_BOUNDARY in the first cycle of a frame: the frame begins at this cycle, and FRAME_NO counts on, modulo 2^32,
where no written FRAME_LEN takes effect (R174, R175). -/
def Obligations.FrameBegins : Prop :=
  ∀ s : State, partOk s → s.ready = true → s.d0Clock = true → s.cyc = s.nextBoundary →
    yields (exec .frameBoundary s) fun t =>
      t.frameAt = s.cyc ∧
      (dueBy s.cyc s.lenPend = [] →
        t.g K.dev_FRAME_NO = if s.framing then wrap32 (s.g K.dev_FRAME_NO + 1) else 0)

/-- What lets an attempt of path `n` start at VDRV `mv` with the governor off: its die neither calibrates nor is over
temperature, VDRV lies within its band (R70) and both ports pass the energy test (R80). -/
abbrev mayShoot (s : State) (n mv : Nat) : Prop :=
  (s.die (n / 4)).calRun = 0 ∧ (s.die (n / 4)).otSerial = 0 ∧ s.pow.govOn = false ∧
  vdrvOk mv (s.g (K.die_VDRV_SET (n / 4))) = true ∧ s.energyOk (endA n) = true ∧ s.energyOk (endB n) = true

/-- No other command of this cycle asks for an attempt on die `d` (R189 orders those that do). -/
abbrev aloneOn (s : State) (d : Nat) : Prop := s.pending.flatMap (s.wants d) = []

/-- SLOT_START at B0 − 1 of an entry of the current frame reaches the slot of every engine its mask names (R176); where
it names one engine that shoots in this frame and may, attempt 0 starts with its B at the slot's offset, and the slot is
counted where its attempt transmits (R192, R209). ATTEMPT_START of a due retry starts the next attempt of the slot at
its own B, and RETRY_COUNT counts one that transmits (R162, R171). A retry that its die cannot take ends the slot and
sends the slot's last record (R163, R192). SEQ_SECOND_SHOT at the gap of a live sequential attempt starts listening for
the second direction with its B one SEQ_GAP after the first (R180, R181). -/
def Obligations.AttemptsStart : Prop :=
  (∀ (s : State) (d e mv n : Nat), partOk s → d < s.dies → e < 4 → s.framing = true → e < (s.die d).slotCount →
     0 < slotOfs ((s.slotTable d).getD e 0) →
     cycPlus s.cyc 1 = cycPlus s.frameAt (slotOfs ((s.slotTable d).getD e 0)) →
     slotPaths d ((s.slotTable d).getD e 0) = [n] → (s.path n).shoots = true → (s.path n).slotDue = true →
     bitClear s (K.port_STATUS (endA n)) stPEND → bitClear s (K.port_STATUS (endB n)) stPEND → mayShoot s n mv →
     s.takesSlots d s.frameAt = true → s.calTakes d = false → (s.path n).slotSeen ≠ cycPlus s.cyc 1 + 1 → aloneOn s d →
     yields (exec (.slotStart d e mv) s) fun t =>
       (t.path n).slotDue = false ∧ (t.path n).slot.live = true ∧ (t.path n).slot.b0 = cycPlus s.cyc 1 ∧
       (t.path n).att.live = true ∧ (t.path n).att.b = cycPlus s.cyc 1 ∧
       (t.path n).slotsRun =
         if (t.path n).att.sent = true then wrap32 ((s.path n).slotsRun + 1) else (s.path n).slotsRun) ∧
  ((∀ (s : State) (n mv : Nat), partOk s → n < s.nPaths → s.retryDue n = true → mayShoot s n mv →
     s.dieRuns (n / 4) = true → aloneOn s (n / 4) →
     yields (exec (.attemptStart n mv) s) fun t =>
       (t.path n).att.live = true ∧ (t.path n).att.b = cycPlus s.cyc 1 ∧
       (t.path n).slot.attempt = (s.path n).slot.attempt + 1 ∧
       t.g (K.rec_RETRY_COUNT n) =
         if (t.path n).att.sent = true then wrap32 (s.g (K.rec_RETRY_COUNT n) + 1) else s.g (K.rec_RETRY_COUNT n)) ∧
   (∀ (s : State) (n mv : Nat) (f : FinalRec), partOk s → n < s.nPaths → s.retryDue n = true →
     s.dieRuns (n / 4) = false → (s.path n).slot.record = some f → aloneOn s (n / 4) →
     yields (exec (.attemptStart n mv) s) fun t =>
       (t.path n).slot.live = false ∧
       (t.path n).sent = (s.path n).sent ++ [{ f with fault := s.g (K.rec_OUTCOME_FAULT n) }])) ∧
  (∀ (s : State) (n : Nat), n < s.nPaths → (s.path n).att.live = true → (s.path n).att.seq = true →
     (s.path n).att.seqSkipped = false → ((s.path n).att.shot (s.path n).att.secondDir).phase = .none →
     cycPlus s.cyc 1 = cycPlus (s.path n).att.b (s.path n).att.seqGap →
     yields (exec (.seqSecondShot n) s) fun t =>
       ((t.path n).att.shot (s.path n).att.secondDir).phase = .listening ∧
       ((t.path n).att.shot (s.path n).att.secondDir).b = cycPlus (s.path n).att.b (s.path n).att.seqGap)

/-- REFERENCE_PAIR_START at the place of a due pair starts it in the other role than the last (R195, R196).
REFERENCE_PAIR_DONE of a pair whose shots both pass writes DT_REF and REF_CYC, moves the offset of its role and counts
the pair; a failing one counts REF_FAIL_COUNT as well (R197, R200). -/
def Obligations.ReferencePairs : Prop :=
  (∀ (s : State) (n : Nat), partOk s → n < s.nPaths → s.refPlace n = true → s.dieRuns (n / 4) = true →
    (s.die (n / 4)).calRun = 0 → s.pow.govOn = false → aloneOn s (n / 4) →
    yields (exec (.referencePairStart n) s) fun t =>
      (t.path n).refRun = some (s.refOf n (1 - (s.path n).refLast)) ∧
      (t.path n).refLast = 1 - (s.path n).refLast) ∧
  (∀ (s : State) (n : Nat) (p : RefPair) (dn up : ShotRaw), partOk s → n < s.nPaths →
    (s.path n).refRun = some p → p.spoiled = false →
    let x := s.rawShot n (p.shot .dn) dn
    let y := s.rawShot n (p.shot .up) up
    yields (exec (.referencePairDone n dn up) s) fun t =>
      (t.path n).refRun = none ∧ t.g (K.rec_REF_COUNT n) = wrap32 (s.g (K.rec_REF_COUNT n) + 1) ∧
      (if x.presence = true ∧ y.presence = true ∧ timeRangeOf (tofOf x x.aZc) (tofOf y y.aZc) = false then
        t.g (K.rec_DT_REF n) = ofSigned 32 (tofOf y y.aZc - tofOf x x.aZc) ∧ t.g (K.rec_REF_CYC n) = p.b ∧
        t.g (if p.role = 0 then K.rec_ZO0 n else K.rec_ZO1 n) = ofSigned 32
          (zoNext (s.zoOf n p.role).1 (tofOf y y.aZc - tofOf x x.aZc) (s.zoOf n p.role).2 (s.g (K.path_ZO_SHIFT n)))
       else t.g (K.rec_REF_FAIL_COUNT n) = wrap32 (s.g (K.rec_REF_FAIL_COUNT n) + 1)))

/-- SHOT_VERDICT 24 cyc after a shot's completion judges it: while the other shot is still open it takes its amplitude
and waits (R96, R157); with both shots judged the attempt ends with its class and the class's counter counts (R158). -/
def Obligations.VerdictJudges : Prop :=
  (∀ (s : State) (n : Nat) (d e : Dir) (m : ShotMeas), n < s.nPaths → d ≠ e → (s.path n).att.live = true →
    s.verdictNow ((s.path n).att.shot d) = true →
    (((s.path n).att.shot e).phase = .listening ∨ ((s.path n).att.shot e).phase = .complete) →
    yields (exec (.shotVerdict n d m) s) fun t =>
      ((t.path n).att.shot d).phase = .judged ∧ ((t.path n).att.shot d).amp = min m.amp 2047 ∧ (t.path n).att.live = true) ∧
  (∀ (s : State) (n : Nat) (d e : Dir) (m : ShotMeas), partOk s → n < s.nPaths → d ≠ e →
    (s.path n).att.live = true → s.verdictNow ((s.path n).att.shot d) = true →
    ((s.path n).att.shot e).phase = .judged →
    let a := (s.path n).att
    let a2 := a.setShot d (a.guard (s.measureShot n (a.shot d) m))
    yields (exec (.shotVerdict n d m) s) fun t =>
      (t.path n).att.live = false ∧ (t.path n).att.cls = some a2.classOf ∧
      t.g (clsCounter n a2) = wrap32 (s.g (clsCounter n a2) + 1))

/-- CAPTURE_DMA_DONE of a whole capture frees the chain's buffer and gives the samples to the attempt (R121, R124).
REFINEMENT_START takes the oldest captured attempt into the correlation lane for the time of R132, and REFINEMENT_DONE
writes and sends its record (R131, R192). -/
def Obligations.CaptureAndRefine : Prop :=
  (∀ (s : State) (n chain : Nat) (d : Dir) (c : Capture) (smp : List Int), n < s.nPaths → captureOk smp = true →
    (s.path n).oldestCapture d s.cyc = some (chain, c) →
    yields (exec (.captureDmaDone n d smp) s) fun t =>
      (t.path n).att = (s.path n).att.putCapture c smp ∧
      (t.path n).lane = (s.path n).lane.map (fun a => a.putCapture c smp) ∧ (t.path n).buffer chain = none) ∧
  (∀ (s : State) (n : Nat) (a : Attempt) (rest : List Attempt), n < s.nPaths → (s.path n).lane = a :: rest →
    (s.path n).laneBusy = false → a.captured = true →
    yields (exec (.refinementStart n) s) fun t =>
      (t.path n).laneBusy = true ∧ (t.path n).laneEnd = cycPlus s.cyc (refineTime a.search)) ∧
  (∀ (s : State) (n : Nat) (a : Attempt) (rest : List Attempt), partOk s → n < s.nPaths →
    (s.path n).lane = a :: rest → (s.path n).laneBusy = true → cycReached s.cyc (s.path n).laneEnd = true →
    yields (exec (.refinementDone n) s) fun t =>
      (t.path n).lane = rest ∧ (t.path n).laneBusy = false ∧ t.g (K.rec_PAIR_CYC n) = a.b ∧
      (t.path n).sent.length = (s.path n).sent.length + 1)

/-- RETRY_CANCEL_DELIVERED takes the oldest cancellation; the live slot it names ends and CANCEL_COUNT counts, and
another slot goes on (R44, R164, R165). HOLD_TIMER_EXPIRY ends the hold and asks for the rest rate at a later boundary
(R186). SECTION_RESULT_TIMEOUT of a follower's path declares the fault under D0's next serial and sends the cancellation
under it (R44, R192). -/
def Obligations.CancelAndHold : Prop :=
  (∀ (s : State) (n k b0 : Nat) (rest : List (Nat × Nat)), partOk s → n < s.nPaths →
    (s.path n).cancels = (k, b0) :: rest →
    yields (exec (.retryCancelDelivered n) s) fun t =>
      (t.path n).cancels = rest ∧
      (if (s.path n).slot.live = true ∧ (s.path n).slot.b0 = b0 then
        (t.path n).slot.live = false ∧ t.g (K.rec_CANCEL_COUNT n) = wrap32 (s.g (K.rec_CANCEL_COUNT n) + 1)
       else (t.path n).slot = (s.path n).slot ∧ t.g (K.rec_CANCEL_COUNT n) = s.g (K.rec_CANCEL_COUNT n))) ∧
  (∀ (s : State) (i c : Nat), i < s.nSects → (s.sect i).hold = some c → cycReached s.cyc c = true →
    yields (exec (.holdTimerExpiry i) s) fun t =>
      (t.sect i).hold = none ∧ (t.sect i).trans = (s.sect i).trans ++ [(s.cyc, 0, 0xFF)]) ∧
  (∀ (s : State) (i n b0 : Nat), partOk s → i < s.nSects → n < s.nPaths → 4 ≤ n → s.expiring i n = some b0 →
    yields (exec (.sectionResultTimeout i n) s) fun t =>
      (t.die 0).count = nextCount (s.die 0).count ∧
      (t.path n).cancels = (s.path n).cancels ++ [(s.nextSerial 0, b0)])

/-- PATH_RECORD_DELIVERED of a record no section has given up on: D0 takes it, its fault mark, and its velocity where it
has one (R192, R217); a record that every section it was for has given up on is discarded (R45). SECTION_COMPUTATION of
a resolved frame: the results carry the frame's epoch and number, COMPUTE_COUNT counts, and the frame leaves the
section's work (R219, R254), where no lower section computes in the same cycle. -/
def Obligations.SectionsFed : Prop :=
  (∀ (s : State) (n : Nat) (f : FinalRec) (rest : List FinalRec), partOk s → n < s.nPaths →
     (s.path n).sent = f :: rest →
     (∀ i, i < s.nSects → ∀ w, (s.sect i).waitFor n f.b0 = some w → s.overdue w = false) →
     (∀ i, i < s.nSects → ∀ k, (s.sect i).meet n f.b0 ≠ .late k) →
     yields (exec (.pathRecordDelivered n) s) fun t =>
       (t.path n).sent = rest ∧ (t.path n).fault = f.fault ∧
       (∀ v, s.velocityOf n f = some v →
         t.g (K.rec_V_PATH n) = f32bits v ∧ t.vel.look none n = some (f.frameSeq, v))) ∧
  (∀ (s : State) (n i k : Nat) (f : FinalRec) (rest : List FinalRec), partOk s → n < s.nPaths →
     (s.path n).sent = f :: rest → i < s.nSects → (s.sect i).meet n f.b0 = .late k →
     (∀ j, j < s.nSects → (s.sect j).meet n f.b0 ≠ .onTime) →
     yields (exec (.pathRecordDelivered n) s) fun t =>
       (t.path n).sent = rest ∧ (t.path n).fault = (s.path n).fault ∧ t.vel = s.vel ∧
       t.g (K.rec_V_PATH n) = s.g (K.rec_V_PATH n)) ∧
  (∀ (s : State) (i : Nat) (f : FrameWork) (rest : List FrameWork), partOk s → i < s.nSects →
     (s.sect i).work = f :: rest → s.workReady i f = true → s.g (K.sect_PATH_MASK i) ≠ 0 → s.lowerFirst i = [] →
     yields (exec (.sectionComputation i) s) fun t =>
       t.g (K.res_EPOCH_CYC i) = f.epoch ∧ t.g (K.res_FRAME_NO i) = f.frameNo ∧ (t.sect i).work = rest ∧
       t.g (K.res_COMPUTE_COUNT i) = wrap32 (s.g (K.res_COMPUTE_COUNT i) + 1))

-- sense

/-- SCAN_START of a due scan: the scan is taken at this cycle and SCAN_NO counts from 0 (R269). PHASE_COMPLETE of a
phase that has taken its time (R267): a passing phase goes on to the next one with its code kept; a failing one with
repeats left is repeated and counted (R272, R273); the last phase of a single sensor writes its result at this cycle
(R278). -/
def Obligations.ScanAndPhase : Prop :=
  (∀ (s : State) (d : Nat), partOk s → d < s.dies → s.scanDue d = true →
    yields (exec (.scanStart d) s) fun t =>
      (t.die d).scanned = true ∧ (t.die d).scanAt = s.cyc ∧
      t.g (K.die_SCAN_NO d) = if (s.die d).scanned then wrap32 (s.g (K.die_SCAN_NO d) + 1) else 0) ∧
  (∀ (s : State) (d c : Nat) (l : List Nat) (v : Conv) (m : PhaseMeas), partOk s → d < s.dies →
    (s.die d).scanLeft = c :: l → c / 16 = d → (s.chan c).conv = some v → s.dieRuns d = true →
    (s.die d).scanOn = true → v.phaseOver s.cyc = true →
    yields (exec (.phaseComplete d m) s) fun t =>
      if (v.check m (s.hitInPhase d v)).failed = true then
        v.tries < v.retry →
          (t.chan c).conv.map Conv.tries = some (v.tries + 1) ∧
          t.g (K.chan_RETRY_COUNT c) = wrap32 (s.g (K.chan_RETRY_COUNT c) + 1)
      else if v.phase + 1 < v.phases then
        (t.chan c).conv.map Conv.phase = some (v.phase + 1) ∧
        (t.chan c).conv.map Conv.codes = some (v.codes ++ [m.code])
      else v.kind ≠ 2 → v.n = 1 →
        t.g (K.chan_RES_CYC c) = s.cyc ∧ t.g (K.chan_RAW c) = ofSigned 32 m.code ∧
        t.g (K.chan_CONV_COUNT c) = wrap32 (s.g (K.chan_CONV_COUNT c) + 1))

/-- CLAMP_HIT counts, shows the clamp and makes it sticky (R281). CHANNEL_START_DELIVERED arms CHAN_TMO of every section
that uses one of the channels started (R275). CHANNEL_RESULT_TIMEOUT marks the section's wait with D0's next serial and
declares the fault (R38, R275). CHANNEL_RESULT_DELIVERED of results no section has given up on makes the value of each
valid one available and disarms its waits (R275, R280). -/
def Obligations.ChannelEvents : Prop :=
  (∀ (s : State) (d pin : Nat), partOk s → d < s.dies → pin < 16 →
    yields (exec (.clampHit d pin) s) fun t =>
      t.g (K.die_CLAMP_COUNT d pin) = wrap32 (s.g (K.die_CLAMP_COUNT d pin) + 1) ∧
      bitSet t (K.die_PIN_STAT d pin) 1 ∧ bitSet t (K.die_PIN_STAT d pin) 2) ∧
  (∀ (s : State) (c m : Nat) (rest : List Nat), c < s.nChans → (s.chan c).starts = m :: rest →
    yields (exec (.channelStartDelivered c) s) fun t =>
      (t.chan c).starts = rest ∧
      ∀ j i, j < m → i ∈ s.usersOf (c + j) →
        (c + j, cycPlus s.cyc (s.g (K.dev_CHAN_TMO i) * 24576), 0) ∈ (t.sect i).chanWait) ∧
  (∀ (s : State) (i c : Nat), partOk s → i < s.nSects → c < s.nChans →
    (∃ e, (c, e, 0) ∈ (s.sect i).chanWait ∧ cycReached s.cyc e = true) → s.resultComing c = false →
    yields (exec (.channelResultTimeout i c) s) fun t =>
      (t.die 0).count = nextCount (s.die 0).count ∧
      ∀ w ∈ (t.sect i).chanWait, w.1 = c → w.2.2 = s.nextSerial 0) ∧
  (∀ (s : State) (c : Nat) (v : ChanRes) (l : List ChanRes), partOk s → c < s.nChans →
    (s.chan c).results = v :: l →
    (∀ i, i < s.nSects → ∀ w ∈ (s.sect i).chanWait, ∀ j, j < v.members → w.1 = c + j →
      w.2.2 = 0 ∧ (cycReached s.cyc w.2.1 = false ∨ s.cyc = w.2.1)) →
    yields (exec (.channelResultDelivered c) s) fun t =>
      ∀ j, j < v.members → ∀ r rest, (s.chan (c + j)).results = r :: rest →
        (t.chan (c + j)).results = rest ∧ (t.chan (c + j)).lastOk = r.valid ∧
        (r.valid = true → (t.chan (c + j)).val = some r.value ∧ (t.chan (c + j)).valCyc = r.resCyc) ∧
        ∀ i, i < s.nSects → ∀ w ∈ (t.sect i).chanWait, w.1 ≠ c + j)

-- pulse inputs and lantern metering

/-- PULSE_ACCEPTED with DEBOUNCE samples of the other level shows it and counts a change to the active level while no
line fault stands (R299). PULSE_LINE_FAULT with 200 SHORT or CUT samples in a row declares the tamper fault under the
die's next serial and shows which it is (R301). PULSE_LINE_CLEAR with 200 CLOSED or OPEN samples ends it (R301).
PULSE_PROCESS, once every latch is there, takes each as the next baseline (R302). -/
def Obligations.PulseInputs : Prop :=
  (∀ (s : State) (i : Nat) (l : List LineSample) (high : Bool), partOk s → i < s.nInputs →
    debounced (piDebounce (s.g (K.pin_PI_CFG i))) (s.sampleClasses i (s.pulse i).levelFrom l) = some high →
    let active := high == piPol (s.g (K.pin_PI_CFG i))
    active ≠ s.bit (K.pin_PI_STAT i) psLEVEL →
    yields (exec (.pulseAccepted i l) s) fun t =>
      bitAt (t.g (K.pin_PI_STAT i)) psLEVEL = active ∧
      ((s.pulse i).serial = 0 →
        t.g (K.pin_PI_COUNT i) = if active then wrap32 (s.g (K.pin_PI_COUNT i) + 1) else s.g (K.pin_PI_COUNT i))) ∧
  (∀ (s : State) (i c : Nat) (l : List LineSample), partOk s → i < s.nInputs →
    (s.sampleClasses i (s.pulse i).lineFrom l).length = 200 →
    (s.sampleClasses i (s.pulse i).lineFrom l).all (2 ≤ ·) = true →
    (s.sampleClasses i (s.pulse i).lineFrom l).getLast? = some c → (s.pulse i).serial = 0 →
    yields (exec (.pulseLineFault i l) s) fun t =>
      (t.pulse i).serial = s.nextSerial (i / 4) ∧ bitSet t (K.pin_PI_STAT i) psTAMPER ∧
      bitAt (t.g (K.pin_PI_STAT i)) psCUT = (c == 3) ∧ bitAt (t.g (K.pin_PI_STAT i)) psSHORT = !(c == 3)) ∧
  (∀ (s : State) (i : Nat) (l : List LineSample), partOk s → i < s.nInputs →
    (s.sampleClasses i (s.pulse i).lineFrom l).length = 200 →
    (s.sampleClasses i (s.pulse i).lineFrom l).all (· ≤ 1) = true → (s.pulse i).serial ≠ 0 →
    yields (exec (.pulseLineClear i l) s) fun t =>
      (t.pulse i).serial = 0 ∧ t.stands (s.pulse i).serial = false ∧
      bitClear t (K.pin_PI_STAT i) psCUT ∧ bitClear t (K.pin_PI_STAT i) psSHORT) ∧
  (∀ (s : State), s.latchesHere = true → yields (exec .pulseProcess s) fun t =>
      ∀ i v, i < s.nInputs → (s.pulse i).latched = some v →
        (t.pulse i).latched = none ∧ (t.pulse i).base = some v)

/-- LANTERN_START of an armed outage after the power-fail commit: the outage's totals start at 0, its start is the
ember's RTC time, and D0 goes to DEEP (R307). LANTERN_WAKE restores CYC by 750 per ember cycle and begins a pair, unless
the cell is low; both ports have energy left (R80, R308, R311, R503). LANTERN_PAIR_COMPLETE counts the pair, as a
failure where its class is not V, the outage ends where the supply is back, and D0 returns to DEEP (R308 to R310, R312).
-/
def Obligations.LanternMeters : Prop :=
  (∀ s : State, partOk s → s.ember.onVbat = true → s.pow.pfDone = true → bitSet s K.lant_LANT_STAT lsARMED →
    s.lant.running = false → s.pow.loopOn = false → s.pow.busOn = false →
    yields (exec .lanternStart s) fun t =>
      t.lant.running = true ∧ t.lant.path = s.g K.lant_LANT_PATH ∧ t.g K.lant_LANT_OUT_FWD = 0 ∧
      t.g K.lant_LANT_OUT_REV = 0 ∧ t.g K.lant_LANT_START = s.emberRtc ∧ t.pstate 0 = 3) ∧
  (∀ (s : State) (vbat n : Nat), s.lant.running = true → s.lant.stopped = false → s.lant.awake = false →
    s.lant.nextIn = 0 →
    (∀ x ∈ [endA s.lant.path, endB s.lant.path],
      s.g (K.port_E_WINDOW x) + (s.port x).ePred ≤ 10 * s.g (K.sag_CAP_ENERGY x)) →
    yields (exec (.lanternWake vbat n) s) fun t =>
      t.cyc = cycPlus (s.die 0).deepCyc (750 * n) ∧
      (if vbat < s.lant.vbatMin then
        t.lant.stopped = true ∧ bitSet t K.lant_LANT_STAT lsLOW_CELL ∧ t.pstate 0 = 3
       else t.lant.awake = true ∧ t.lant.nextIn = s.lant.period ∧ t.pstate 0 = 0)) ∧
  (∀ (s : State) (dn up : ShotRaw), s.lant.running = true → s.lant.awake = true →
    yields (exec (.lanternPairComplete dn up) s) fun t =>
      t.g K.lant_LANT_PAIRS = wrap32 (s.g K.lant_LANT_PAIRS + 1) ∧ t.lant.awake = false ∧ t.pstate 0 = 3 ∧
      ((s.lanternAttempt dn up).cls ≠ some .V → t.g K.lant_LANT_FAILS = wrap32 (s.g K.lant_LANT_FAILS + 1)) ∧
      (s.lant.ending = true →
        t.lant.running = false ∧ t.g K.lant_LANT_OUTAGES = wrap32 (s.g K.lant_LANT_OUTAGES + 1)))

-- power

/-- ALLOWANCE_SAMPLE 4 096 cyc before a boundary writes what was measured and, with the governor on, sends every die its
allowance (R524, R525, R542). ALLOWANCE_DELIVERED hands a sent allowance to its die for the next frame, and that of a
lost or sleeping die lapses (R188, R538, R540). GOVERNOR_FORCED below V_RSV turns the governor on and shows it (R526).
-/
def Obligations.GovernorRations : Prop :=
  (∀ (s : State) (vRes vLoop vBus vBat pIn pBase : Nat) (lim : Bool), partOk s →
    cycPlus s.cyc 4096 = s.nextBoundary → s.ready = true → s.pstate 0 ≤ 1 →
    yields (exec (.allowanceSample vRes vLoop vBus vBat pIn pBase lim) s) fun t =>
      t.g K.sup_V_RES = min vRes 65535 ∧ t.g K.sup_V_LOOP = min vLoop 65535 ∧ t.g K.sup_V_BUS = min vBus 65535 ∧
      t.g K.sup_V_BAT = min vBat 65535 ∧ bitAt (t.g K.sup_SUP_STAT) ssBUS_LIMIT = lim ∧
      (t.pow.govOn = true → ∀ d, d < s.dies → t.pow.allowSent.look 0 d ≠ 0)) ∧
  (∀ (s : State) (d : Nat), d < s.dies → s.pow.allowSent.look 0 d ≠ 0 →
    yields (exec (.allowanceDelivered d) s) fun t =>
      t.pow.allowSent.look 0 d = 0 ∧
      (t.die d).allowNext = (if s.dieRuns d = true ∧ (s.die d).lost = false then some (s.pow.allowSent.look 0 d - 1)
        else (s.die d).allowNext)) ∧
  (∀ (s : State) (vRes : Nat), s.pow.govOn = false → vRes < 100 * s.vRsv →
    yields (exec (.governorForced vRes) s) fun t =>
      t.pow.govOn = true ∧ t.pow.forced = true ∧ bitSet t K.sup_SUP_STAT ssGOV_ON ∧
      bitSet t K.sup_SUP_STAT ssFORCED)

/-- SOURCE_LOST clears the source; the last one of a ready block begins ride-through and counts (R528, R531).
SOURCE_PRESENT of an enabled source above V_PF sets it, and ride-through ends (R530). CANT_MEAS_DONE after the discharge
of 24 576 cyc writes CANT_MEAS and CANT_LOW (R518, R520). RAIL_EXCURSION declares the rail's fault under D0's next
serial, and RAIL_FAULT_CLEAR ends it ten seconds after the last excursion (R521). -/
def Obligations.SuppliesAndRails : Prop :=
  (∀ (s : State) (src : Source), s.pow.present src = true →
    yields (exec (.sourceLost src) s) fun t =>
      t.pow.present src = false ∧
      bitClear t K.sup_SUP_STAT (match src with | .loop => ssLOOP_OK | .bus => ssBUS_OK) ∧
      ((match src with | .loop => s.pow.busOn | .bus => s.pow.loopOn) = false → s.ready = true →
        bitSet t K.sup_SUP_STAT ssRIDE ∧
        t.g K.sup_SUPPLY_LOSS_COUNT = wrap32 (s.g K.sup_SUPPLY_LOSS_COUNT + 1))) ∧
  (∀ (s : State) (src : Source) (vRes : Nat), s.pow.present src = false → s.enables src = true →
    100 * s.g K.sup_PF_LEVEL ≤ vRes →
    yields (exec (.sourcePresent src vRes) s) fun t =>
      t.pow.present src = true ∧
      bitSet t K.sup_SUP_STAT (match src with | .loop => ssLOOP_OK | .bus => ssBUS_OK) ∧
      (s.powered = false → bitClear t K.sup_SUP_STAT ssRIDE)) ∧
  (∀ (s : State) (dropUv c : Nat), partOk s → s.pow.measAt = some c → cycReached s.cyc (cycPlus c 24576) = true →
    yields (exec (.cantMeasDone dropUv) s) fun t =>
      t.pow.measAt = none ∧ t.g K.sup_CANT_MEAS = cantOf dropUv ∧
      bitAt (t.g K.sup_SUP_STAT) ssCANT_LOW = decide (10 * cantOf dropUv < 8 * s.g K.sup_CANT_C)) ∧
  (∀ (s : State) (d : Nat) (x : Rail), d < s.dies → s.powered = true → (s.die d).rail x = 0 →
    yields (exec (.railExcursion d x) s) fun t =>
      (t.die d).rail x = s.nextSerial 0 ∧ (t.die d).railAt x = s.cyc ∧
      (t.die 0).count = nextCount (s.die 0).count) ∧
  (∀ (s : State) (d : Nat) (x : Rail), d < s.dies → (s.die d).rail x ≠ 0 →
    cycReached s.cyc (cycPlus ((s.die d).railAt x) (10 * cycPerSecond)) = true →
    yields (exec (.railFaultClear d x) s) fun t =>
      (t.die d).rail x = 0 ∧ t.stands ((s.die d).rail x) = false)

/-- POWER_FAIL_COMMIT armed with no source present, nor present again in this cycle, is done once, its entry 0x5010 is
the kiln log's last, and D0 goes to DEEP (R453, R528, R540). D0_VMAIN_LOW stops the bleed and, with a source present,
resets D0 (R522, R544). RES_BELOW_VREG without lantern metering takes every die off (R528). -/
def Obligations.PowerFails : Prop :=
  (∀ s : State, partOk s → s.pow.pfArmed = true → s.powered = false → s.sourceComing = false → s.pstate 0 ≤ 2 →
    yields (exec .powerFailCommit s) fun t =>
      t.pow.pfDone = true ∧ t.pow.pfArmed = false ∧ t.pstate 0 = 3 ∧ t.ready = false ∧
      t.klog.getLast?.map LogEnt.event = some 0x5010) ∧
  (∀ s : State, yields (exec .d0VmainLow s) fun t =>
      t.pow.bleed = false ∧
      (bitSet s K.lant_LANT_STAT lsARMED → bitSet t K.sup_SUP_STAT ssLANT_RAIL) ∧
      (s.powered = true → (s.die 0).up = true →
        t.ready = false ∧ (t.die 0).trigger = ((s.die 0).triggered 3).trigger)) ∧
  (∀ s : State, partOk s → s.powered = false → (bitClear s K.lant_LANT_STAT lsARMED ∨ s.pow.pfDone = false) →
    yields (exec .resBelowVreg s) fun t =>
      t.ready = false ∧ ∀ d, d < s.dies → t.pstate d = 4 ∧ (t.die d).up = false)

/-- Cycles from a wake request to RUN: 1 from IDLE, 64 from SLEEP, 4 424 from DEEP (R472, R537). -/
abbrev wakeTime (st : Nat) : Nat := if st = 1 then 1 else if st = 2 then 64 else 4424

/-- CORE_WAIT takes a running die to IDLE (R533). INTERRUPT_WAKE begins the wake of a die in IDLE, WAKE_CYC_COMPARE that
of D0 in IDLE or SLEEP, HCS_WAKE that of D0 in IDLE, SLEEP or DEEP, where the frame is discarded unless D0 was in IDLE:
it ends 1 cyc later from IDLE, 64 cyc later from SLEEP and 4 424 cyc later from DEEP (R536, R537, R644). WAKE_COMPLETE
returns the die to RUN at that cycle (R537). FIRMWARE_POWER_STATE_CHANGE, while PWR_REQ reads 0xFF and D0 runs, takes a
die that no wake request meets deeper, and wakes a follower (R533 to R535, R540). -/
def Obligations.PowerStates : Prop :=
  (∀ (s : State) (d : Nat), partOk s → d < s.dies → (s.die d).up = true → s.pstate d = 0 →
    yields (exec (.coreWait d) s) fun t => t.pstate d = 1) ∧
  (∀ (s : State) (d : Nat), partOk s → d < s.dies → s.pstate d = 1 → (s.die d).waking = none →
    yields (exec (.interruptWake d) s) fun t => (t.die d).waking = some (cycPlus s.cyc 1)) ∧
  (∀ s : State, s.cyc = s.g K.sup_WAKE_CYC → (s.pstate 0 = 1 ∨ s.pstate 0 = 2) → (s.die 0).waking = none →
    yields (exec .wakeCycCompare s) fun t => (t.die 0).waking = some (cycPlus s.cyc (wakeTime (s.pstate 0)))) ∧
  (∀ s : State, 1 ≤ s.pstate 0 → s.pstate 0 ≤ 3 → (s.die 0).waking = none →
    yields (exec .hcsWake s) fun t =>
      (t.die 0).waking = some (cycPlus s.cyc (wakeTime (s.pstate 0))) ∧
      t.host.frameErr = (s.host.frameErr || decide (2 ≤ s.pstate 0))) ∧
  (∀ (s : State) (d c : Nat), partOk s → d < s.dies → (s.die d).waking = some c → cycReached s.cyc c = true →
    s.pstate d ≤ 3 → (d = 0 → s.pstate d ≤ 2) →
    yields (exec (.wakeComplete d) s) fun t => t.pstate d = 0 ∧ (t.die d).waking = none) ∧
  (∀ (s : State) (d st : Nat), partOk s → d < s.dies → s.g (K.sup_PWR_REQ d) = 0xFF → s.pstate 0 = 0 →
    (s.die d).lost = false → 2 ≤ st → st ≤ 4 → s.pstate d < st → (d = 0 → 3 ≤ st → s.mustStayUp = false) →
    (s.die d).wakeAt ≠ s.cyc + 1 → s.wakeComing d = false →
    yields (exec (.firmwarePowerStateChange d st) s) fun t => t.pstate d = st) ∧
  (∀ (s : State) (d : Nat), partOk s → d < s.dies → d ≠ 0 → s.g (K.sup_PWR_REQ d) = 0xFF → s.pstate 0 = 0 →
    (s.die d).lost = false → (s.pstate d = 2 ∨ s.pstate d = 3) → (s.die d).waking = none →
    yields (exec (.firmwarePowerStateChange d 0) s) fun t =>
      (t.die d).waking = some (cycPlus s.cyc (wakeTime (s.pstate d))))

-- guy lines

/-- GL_FRAME_START sends the next words of a lane whose receiver shows room, and waits where it shows none (R486, R487).
GL_FRAME_RECEIVED in the cycle after the last CRC beat places the words of a good new frame and lets the receiver
acknowledge; a frame with a wrong CRC is counted (R485, R488, R490). GL_ACK_TOGGLE in its window completes the transfer
(R488). GL_ACK_TIMEOUT repeats the frame and counts it, unless its toggle is delivered in the same cycle (R37), and
after the third repeat the line fails (R489, R491). -/
def Obligations.LineTransfers : Prop :=
  (∀ (s : State) (d : Nat) (x : Lane), partOk s → s.isFollower d = true → s.laneRuns d x = true →
    ((s.line d).lane x).flight = none → ((s.line d).lane x).ready s.cyc ≠ [] →
    cycReached s.cyc ((s.line d).lane x).idleFrom = true →
    yields (exec (.glFrameStart d x) s) fun t =>
      if ((s.line d).lane x).room (((s.line d).lane x).nextWords s.cyc) then
        (t.line d).lane x = ((s.line d).lane x).start s.cyc ∧ bitClear t (K.die_LINK_STAT d) lkFREE_ZERO
      else t.line d = s.line d ∧ bitSet t (K.die_LINK_STAT d) lkFREE_ZERO) ∧
  (∀ (s : State) (d : Nat) (x : Lane) (beats : List Nat), partOk s → s.isFollower d = true →
    (∀ b ∈ beats, b < 256) → (s.line d).up = true → s.pstate (recvDie d x) < 3 → ((s.line d).lane x).arrives s.cyc = true →
    yields (exec (.glFrameReceived d x beats) s) fun t =>
      match frameOf beats with
      | none => t.g (K.die_CRC_ERR_COUNT d) = wrap32 (s.g (K.die_CRC_ERR_COUNT d) + 1)
      | some (_, seq, words) =>
        if ((s.line d).lane x).lastSeq = some seq then
          ((t.line d).lane x).rx = ((s.line d).lane x).rx ∧ ((t.line d).lane x).ackDue = true
        else ((s.line d).lane x).rx.length + words.length ≤ 16 →
          ((t.line d).lane x).rx = ((s.line d).lane x).rx ++ words ∧ ((t.line d).lane x).lastSeq = some seq ∧
          ((t.line d).lane x).ackDue = true) ∧
  (∀ (s : State) (d : Nat) (x : Lane) (k tries e : Nat) (ws : List Nat), s.isFollower d = true →
    (s.line d).up = true → ((s.line d).lane x).ackDue = true →
    ((s.line d).lane x).flight = some (k, ws, tries, e) → cycReached s.cyc (cycPlus e 1) = true →
    cycReached (cycPlus e 8) s.cyc = true →
    yields (exec (.glAckToggle d x) s) fun t =>
      ((t.line d).lane x).flight = none ∧ ((t.line d).lane x).idleFrom = cycPlus s.cyc 1) ∧
  (∀ (s : State) (d : Nat) (x : Lane) (k tries e : Nat) (ws : List Nat), partOk s → s.isFollower d = true →
    (s.line d).up = true → ((s.line d).lane x).flight = some (k, ws, tries, e) →
    cycReached s.cyc (cycPlus e 8) = true →
    ¬ (s.cyc = cycPlus e 8 ∧ ((s.line d).lane x).ackDue = true ∧ .glAckToggle d x ∈ s.pending) →
    yields (exec (.glAckTimeout d x) s) fun t =>
      if tries < 4 then
        ((t.line d).lane x).flight = some (k, ws, tries + 1, cycPlus e (8 + frameBeats ws.length)) ∧
        t.g (K.die_RETRY_COUNT d) = wrap32 (s.g (K.die_RETRY_COUNT d) + 1)
      else bitSet t (K.die_LINK_STAT d) lkLINK_FAIL ∧ (t.line d).up = false)

/-- The handshake of R493: SYNC_REQ makes the other end discard its words and answer, D0 also where no handshake runs
yet; SYNC_ACK restarts SEQ and sends SYNC_DONE; SYNC_DONE lets traffic resume; an unanswered frame is repeated after 32
cyc. -/
def Obligations.LinesResynchronise : Prop :=
  (∀ (s : State) (d n : Nat), s.isFollower d = true → (s.line d).step ≠ 0 → (s.line d).first = .d0 →
    yields (exec (.syncReqReceived d .follower n) s) fun t =>
      (t.line d).step = max (s.line d).step 2 ∧ (t.line d).inward.tx = [] ∧ (t.line d).outward.rx = []) ∧
  (∀ (s : State) (d n : Nat), partOk s → s.isFollower d = true → (s.line d).step = 0 →
    yields (exec (.syncReqReceived d .d0 n) s) fun t =>
      (t.line d).step = 2 ∧ (t.line d).up = false ∧ (t.line d).first = .follower ∧
      t.g (K.die_RESYNC_COUNT d) = wrap32 (s.g (K.die_RESYNC_COUNT d) + 1)) ∧
  (∀ (s : State) (d n : Nat) (e : LineEnd), s.isFollower d = true → (s.line d).step = 2 → (s.line d).first = e →
    yields (exec (.syncAckReceived d e n) s) fun t =>
      (t.line d).step = 3 ∧ (t.line d).outward.seq = 0 ∧ (t.line d).inward.seq = 0) ∧
  (∀ (s : State) (d : Nat) (e : LineEnd), partOk s → s.isFollower d = true → (s.line d).step = 3 →
    (s.line d).first ≠ e →
    yields (exec (.syncDoneReceived d e) s) fun t =>
      (t.line d).step = 0 ∧ (t.line d).up = true ∧ (t.line d).serial = 0 ∧
      bitClear t (K.die_LINK_STAT d) lkLINK_FAIL) ∧
  (∀ (s : State) (d : Nat) (e : LineEnd), s.isFollower d = true → (s.line d).step ≠ 0 →
    (s.line d).syncSender = e → cycReached s.cyc (cycPlus (s.line d).syncAt 32) = true →
    yields (exec (.syncFrameRepeat d e) s) fun t => (t.line d).syncAt = s.cyc)

/-- A handshake that does not complete within 1 ms loses the die with cause 1 (RESYNC_TIMEOUT; a SYNC_DONE of the same
cycle comes first, R37), and D0 begins it again
once a second (RESYNC_RETRY) (R496). A running follower sends its CYC every 2^24 cyc (CYC_CHECK_SEND), and D0 counts the
check and loses a die whose CYC differs, with cause 2 (CYC_CHECK_RECEIVED) (R502). After COUNTER_SEND D0's copies of the
follower's counters show what they hold (R498). -/
def Obligations.LinesSupervise : Prop :=
  (∀ (s : State) (d : Nat), partOk s → s.isFollower d = true → (s.line d).step ≠ 0 →
    cycReached s.cyc (cycPlus (s.line d).began 24576) = true → (s.die d).lost = false →
    ¬ (s.cyc = cycPlus (s.line d).began 24576 ∧ s.doneComing d = true) →
    yields (exec (.resyncTimeout d) s) fun t => (t.die d).lost = true ∧ (t.die d).lossCause = 1) ∧
  (∀ (s : State) (d c : Nat), partOk s → s.isFollower d = true → (s.die d).lost = true → (s.die d).lossCause = 1 →
    (s.line d).step = 0 → (s.line d).up = false → (s.line d).retryAt = some c → cycReached s.cyc c = true →
    yields (exec (.resyncRetry d) s) fun t =>
      (t.line d).step = 1 ∧ (t.line d).began = s.cyc ∧
      (t.line d).retryAt = some (cycPlus s.cyc cycPerSecond)) ∧
  (∀ (s : State) (d : Nat), s.isFollower d = true → (s.die d).up = true → s.pstate d = 0 → (s.line d).up = true →
    s.cyc % 2 ^ 24 = 0 →
    yields (exec (.cycCheckSend d) s) fun t =>
      (t.line d).cycSent = some s.cyc ∧
      ((s.line d).inward.tx.length + 2 ≤ 16 →
        (t.line d).inward.tx = (s.line d).inward.tx ++ [(2, s.cyc % two32), (2, s.cyc / two32)])) ∧
  (∀ (s : State) (d c v : Nat), partOk s → s.isFollower d = true → (s.line d).up = true →
    (s.line d).cycSent = some c → (s.die d).lost = false →
    yields (exec (.cycCheckReceived d v) s) fun t =>
      t.g (K.die_CYC_CHECK_COUNT d) = wrap32 (s.g (K.die_CYC_CHECK_COUNT d) + 1) ∧
      (if v = c then (t.die d).lost = false else (t.die d).lost = true ∧ (t.die d).lossCause = 2)) ∧
  (∀ (s : State) (d : Nat), s.isFollower d = true → (s.line d).up = true → s.pstate d ≤ 2 →
    yields (exec (.counterSend d) s) fun t => ∀ k, keyDie k = d → t.lag.look 0 k = 0)

/-- FOLLOWER_RESPONSE takes the oldest waiting access of the line; one that no other line waits for is answered: an
internal one reads back its abort code and data (R492, R733). FOLLOW_TMO_EXPIRY, unless the
response is delivered in the same cycle (R37), declares the timeout under D0's next serial, remembers the late response,
cancels the repeats of D0's frame, and the access fails with abort code 0x06060000 (R44, R492). A response that comes
later is discarded (R45). -/
def Obligations.FollowersAnswer : Prop :=
  (∀ (s : State) (d : Nat) (w : FollowWait) (rest : List FollowWait), s.isFollower d = true →
    (s.line d).up = true → (s.line d).late = [] → (s.line d).waits = w :: rest →
    yields (exec (.followerResponse d) s) fun t =>
      (t.line d).waits = rest ∧
      ((s.setLine d { s.line d with waits := rest }).stillWaits w = false → w.who = .internal →
        t.resp = w.abort ∧ t.respData = w.data)) ∧
  (∀ (s : State) (d serial : Nat) (rest : List Nat), s.isFollower d = true → (s.line d).up = true →
    (s.line d).late = serial :: rest →
    yields (exec (.followerResponse d) s) fun t =>
      t.line d = { s.line d with late := rest } ∧ t.resp = s.resp ∧ t.respData = s.respData) ∧
  (∀ (s : State) (d : Nat) (w : FollowWait) (rest : List FollowWait), partOk s → s.isFollower d = true →
    (s.line d).waits = w :: rest → cycReached s.cyc w.exp = true → ¬ (s.cyc = w.exp ∧ s.responseComing d = true) →
    yields (exec (.followTmoExpiry d) s) fun t =>
      (t.line d).late = (s.line d).late ++ [s.nextSerial 0] ∧ (t.die 0).count = nextCount (s.die 0).count ∧
      ((s.line d).outward.repeating = true → (t.line d).outward.flight = none) ∧
      (w.who = .internal → t.resp = 0x06060000))

-- starts

/-- Nothing goes wrong in the start of a follower (R501, R505, R556). -/
abbrev startsWell (x : DieStart) : Prop :=
  x.cause = 0 ∧ cycLost x = false ∧ marchFails x.march = [] ∧ trimFits (trimOf x) = true

/-- COLD_START of the cause the triggers found lead to, with RES at V_START and an enabled source (R544, R545, R547):
where the March run of D0, if one runs, passes and both device objects of the ledger read, the first image slot that
verifies boots, and the start of kind cold with that cause is complete at the cycle START_CYC shows; with no such slot,
with an unreadable ledger or with a failed March run D0 halts with cause 2, 3 or 1 (R558). WARM_START of a chip cause on
an ember that is not lost completes a warm start with that cause, D0 in RUN and FRAME_NO 0 (R544, R554, R555); with
cause 10 the followers whose watchdog has expired run again where their trim holds (R544). -/
def Obligations.ChipStarts : Prop :=
  (∀ (s : State) (cause : Nat) (info : StartInfo), partOk s → 1 ≤ cause → cause ≤ 4 → s.startInfoOk info = true →
     s.triggers ≠ [] → s.startCause s.triggers = cause → s.canStart info.supmode info.resDv = true →
     yields (exec (.coldStart cause info) s) fun t =>
       (marchFails (dieOf info 0).march ≠ [] → t.g (K.die_MARCH_COLD 0) ≠ 0 → t.ready = false ∧ t.halt = 1) ∧
       (marchFails (dieOf info 0).march = [] →
         if recordGone info.ledger 0 then t.ready = false ∧ t.halt = 3
         else match (s.coldImage cause info).2 with
           | none => t.ready = false ∧ t.halt = 2
           | some slot => t.ready = true ∧ t.halt = 0 ∧ t.g K.dev_START_KIND = 0 ∧ t.g K.dev_START_CAUSE = cause ∧
               t.g K.dev_START_CYC = t.cyc ∧ t.g K.sec_BOOT_USED = slot ∧ (t.die 0).up = true ∧ t.pstate 0 = 0)) ∧
  ((∀ (s : State) (cause : Nat) (info : StartInfo), partOk s → cause ∈ [5, 6, 7, 8] → s.startInfoOk info = true →
     s.triggers.foldl min 10 = cause → s.canStart (s.g K.sup_SUPMODE) info.resDv = true → s.es esEMBER_LOST = false →
     yields (exec (.warmStart cause info) s) fun t =>
       t.g K.dev_START_KIND = 1 ∧ t.g K.dev_START_CAUSE = cause ∧ t.ready = true ∧ t.halt = 0 ∧
       t.g K.dev_START_CYC = t.cyc ∧ (t.die 0).up = true ∧ t.pstate 0 = 0 ∧ t.g K.dev_FRAME_NO = 0) ∧
   (∀ (s : State) (info : StartInfo), partOk s → s.startInfoOk info = true → s.chipRuns = true → s.triggers = [] →
     s.canStart (s.g K.sup_SUPMODE) info.resDv = true →
     yields (exec (.warmStart 10 info) s) fun t => ∀ d, 0 < d → d < s.dies → (s.die d).trigger = 10 →
       (s.die d).lost = false → (dieOf info d).check.natAbs ≤ 26 → (t.die d).up = true ∧ (t.die d).trigger = 0))

/-- FOLLOWER_POR of a follower that is not lost, and FOLLOWER_RESTART_RETRY of a lost one whose time has come, start it
cold: it runs on a trained line and is not lost, where its start finds nothing wrong (R496, R544, R556).
WATCHDOG_EXPIRY of an armed watchdog whose time has passed counts and asks for a start (R544, R546).
FOLLOWER_READY_TIMEOUT loses the die with cause 7 (R556). MARCH_RUN_DONE of a run that has taken its time shows how it
ended: stopped, or passed or failed by the reads that did not return what had been written (R473, R475 to R478). -/
def Obligations.FollowerStarts : Prop :=
  (∀ (s : State) (d : Nat) (x : DieStart), partOk s → s.isFollower d = true → dieStartOk x = true →
    s.chipRuns = true → (s.die d).lost = false → startsWell x →
    yields (exec (.followerPor d x) s) fun t =>
      (t.die d).up = true ∧ (t.die d).lost = false ∧ t.pstate d = 0 ∧ (t.line d).up = true) ∧
  (∀ (s : State) (d c : Nat) (x : DieStart), partOk s → s.isFollower d = true → dieStartOk x = true →
    s.chipRuns = true → (s.die d).lost = true → (s.line d).retryAt = some c → cycReached s.cyc c = true →
    ((s.die d).lossCause = 2 ∨ (s.die d).lossCause = 7 ∨ (s.line d).up = true) → startsWell x →
    yields (exec (.followerRestartRetry d x) s) fun t =>
      (t.die d).up = true ∧ (t.die d).lost = false ∧ t.pstate d = 0 ∧ (t.line d).up = true) ∧
  (∀ (s : State) (d : Nat), partOk s → d < s.dies → s.watchdogDue d = true →
    yields (exec (.watchdogExpiry d) s) fun t =>
      t.g (K.die_WD_COUNT d) = wrap32 (s.g (K.die_WD_COUNT d) + 1) ∧ (t.die d).wdArmed = false ∧
      (if d = 0 then t.ready = false ∧ (t.die 0).trigger = ((s.die 0).triggered (if s.wdAgain then 4 else 7)).trigger
       else (t.die d).up = false ∧ (t.die d).trigger = 10)) ∧
  (∀ (s : State) (d : Nat), partOk s → s.isFollower d = true → (s.die d).up = false → (s.die d).lost = false →
    s.g (K.die_START_STAT d) % 4 = 1 →
    yields (exec (.followerReadyTimeout d) s) fun t => (t.die d).lost = true ∧ (t.die d).lossCause = 7) ∧
  (∀ (s : State) (d : Nat) (reads : List MarchRead) (x : DieStart), partOk s → d < s.dies → dieStartOk x = true →
    marchOk reads = true →
    (((s.die d).march = 1 ∧ marchCycles ≤ cycDiff s.cyc (s.die d).marchFrom) ∨
     ((s.die d).march = 2 ∧ ((s.die d).marchStop = true ∨ marchBlocks ≤ cycDiff s.cyc (s.die d).marchFrom))) →
    yields (exec (.marchRunDone d reads x) s) fun t =>
      t.g (K.die_MARCH_STAT d) = (if (s.die d).marchStop then 5 else if marchFails reads = [] then 3 else 4) ∧
      t.g (K.die_MARCH_FAIL_COUNT d) = (marchFails reads).length ∧
      t.g (K.die_MARCH_FIRST_FAIL d) = marchFirst reads ∧ (t.die d).march = 0)


-- orders

/-- The orders an originator gives to a resource, where they are accepted: CHECK_CMD asks for a check (R84), LEARN
starts learning of N (R126), CAL_CMD asks for a calibration or a check (R114), a one written to a pin's sticky clamp
clears it and the private mark unless a hit comes in the same cycle (R281, R285), a March command starts or stops a run
(R475 to R477), and DIE_RESTART starts a lost follower (R496, R557). -/
def Obligations.ResourceOrders : Prop :=
  (∀ (s : State) (who : Orig) (n : Nat), partOk s → n < s.nPorts → accepts s who (K.port_CHECK_CMD n) [1] →
    yields (exec (.checkCmd who n) s) fun t => bitSet t (K.port_STATUS n) stPEND) ∧
  (∀ (s : State) (who : Orig) (n k : Nat), partOk s → n < s.nPaths → k < 256 → accepts s who (K.path_LEARN n) [k] →
    yields (exec (.learn who n k) s) fun t => (t.path n).learn.map (·.n) = some k ∧ (t.path n).learnWait = []) ∧
  (∀ (s : State) (who : Orig) (d : Nat), partOk s → d < s.dies → (s.die d).calRun ≠ 1 →
    accepts s who (K.die_CAL_CMD d) [1] → yields (exec (.calCmdFull who d) s) fun t => (t.die d).calFull = true) ∧
  (∀ (s : State) (who : Orig) (d : Nat), partOk s → d < s.dies → (s.die d).calRun = 0 →
    accepts s who (K.die_CAL_CMD d) [2] → yields (exec (.calCmdQuick who d) s) fun t => (t.die d).calQuick = true) ∧
  (∀ (s : State) (who : Orig) (d x : Nat), partOk s → d < s.dies → x < 16 → bitSet s (K.die_PIN_STAT d x) 2 →
    (s.pin (16 * d + x)).hitAt ≠ s.cyc + 1 → .clampHit d x ∉ s.pending → accepts s who (K.die_PIN_STAT d x) [4, 0] →
    yields (exec (.clampStickyClear who d x) s) fun t =>
      bitClear t (K.die_PIN_STAT d x) 2 ∧ bitClear t (K.die_PIN_STAT d x) 1 ∧ (t.pin (16 * d + x)).clampSerial = 0) ∧
  (∀ (s : State) (who : Orig) (d : Nat), partOk s → s.isFollower d = true → (s.die d).march = 0 →
    (s.die d).up = true → s.pstate d < 2 → accepts s who (K.die_MARCH_CMD d) [1] →
    yields (exec (.marchDestructive who d) s) fun t =>
      t.g (K.die_MARCH_STAT d) = 1 ∧ (t.die d).march = 1 ∧ (t.die d).marchFrom = s.cyc ∧ (t.die d).up = false) ∧
  (∀ (s : State) (who : Orig) (d : Nat), partOk s → d < s.dies → (s.die d).march = 0 → (s.die d).up = true →
    s.pstate d < 2 → accepts s who (K.die_MARCH_CMD d) [2] →
    yields (exec (.marchTransparent who d) s) fun t =>
      t.g (K.die_MARCH_STAT d) = 2 ∧ (t.die d).march = 2 ∧ (t.die d).marchFrom = s.cyc ∧ (t.die d).up = true) ∧
  (∀ (s : State) (who : Orig) (d : Nat), partOk s → d < s.dies → (s.die d).march = 2 →
    accepts s who (K.die_MARCH_CMD d) [3] →
    yields (exec (.marchStop who d) s) fun t => (t.die d).marchStop = true ∧ (t.die d).march = 2) ∧
  (∀ (s : State) (who : Orig) (d : Nat) (x : DieStart), partOk s → s.isFollower d = true → dieStartOk x = true →
    accepts s who (K.die_DIE_RESTART d) [1] → startsWell x →
    yields (exec (.dieRestart who d x) s) fun t =>
      (t.die d).up = true ∧ (t.die d).lost = false ∧ t.pstate d = 0 ∧ (t.line d).up = true)

/-- The orders to the chip, where they are accepted: CANT_CMD starts a measurement and stops charging, unless one runs
(R518), LOOP_SET takes its value (R648), BILL_CMD stages a manual close unless a scheduled one was staged in this cycle
(R347, R360), and 0x1010, 0x1011 and 0x1003 written store the communication entries, ask for their defaults, and clear
the error field (R606, R614). -/
def Obligations.ChipOrders : Prop :=
  (∀ (s : State) (who : Orig) (v : Nat), v < 256 → accepts s who K.sup_CANT_CMD [v] →
    yields (exec (.cantCmd who v) s) fun t =>
      if s.pow.measAt = none then t.pow.measAt = some s.cyc ∧ bitClear t K.sup_SUP_STAT ssCHARGING
      else t.pow.measAt = s.pow.measAt) ∧
  (∀ (s : State) (who : Orig) (v : Nat), v < two32 → accepts s who K.loop_LOOP_SET (leBytes 4 v) →
    yields (exec (.loopSetWrite who v) s) fun t => t.g K.loop_LOOP_SET = v) ∧
  (∀ (s : State) (who : Orig) (v : Nat), v < 256 → s.bill.closedAt ≠ s.cyc + 1 → accepts s who K.snap_BILL_CMD [v] →
    yields (exec (.billCmd who v) s) fun t =>
      t.bill.manualAt = s.cyc + 1 ∧ ∃ b, t.bill.queue = s.bill.queue ++ [b] ∧ b.billing = true ∧ b.cause = 2) ∧
  (∀ (s : State) (j v : Nat), j = 1 ∨ j = 2 → v < two32 → accepts s .can (K.comm_STORE j) (leBytes 4 v) →
    yields (exec (.storeParameters j v) s) fun t =>
      t.net.saved = s.od.keep isStored ∧ t.net.loadDefault = false) ∧
  (∀ (s : State) (j v : Nat), j = 1 ∨ j = 2 → v < two32 → accepts s .can (K.comm_RESTORE j) (leBytes 4 v) →
    yields (exec (.restoreDefaults j v) s) fun t => t.net.loadDefault = true) ∧
  (∀ s : State, accepts s .can (K.comm_ERRFIELD 0) [0] →
    yields (exec (.errorFieldClear 0) s) fun t => ∀ k, k ≤ 16 → t.g (K.comm_ERRFIELD k) = 0)

/-- The writes at the ember's port, where they are accepted: each waits behind the accesses already there (R381). -/
def Obligations.EmberOrders : Prop :=
  (∀ (s : State) (who : Orig) (v : Nat), v < 256 → accepts s who K.emb_XCHK_CMD [v] →
    yields (exec (.xchkCmd who v) s) fun t =>
      t.ember.reqs = s.ember.reqs ++ [{ key := K.emb_XCHK_CMD, write := true, who := who, value := v }]) ∧
  (∀ (s : State) (who : Orig) (v : Nat), v < two32 → accepts s who K.emb_SET_BIN (leBytes 4 v) →
    yields (exec (.setBin who v) s) fun t =>
      t.ember.reqs = s.ember.reqs ++ [{ key := K.emb_SET_BIN, write := true, who := who, value := v }]) ∧
  (∀ (s : State) (who : Orig) (v : Nat), v < two64 → accepts s who K.emb_SET_CAL (leBytes 8 v) →
    yields (exec (.setCal who v) s) fun t =>
      t.ember.reqs = s.ember.reqs ++ [{ key := K.emb_SET_CAL, write := true, who := who, value := v }]) ∧
  (∀ (s : State) (who : Orig) (v : Nat), v < 256 → accepts s who K.emb_RTC_MODE [v] →
    yields (exec (.rtcModeWrite who v) s) fun t =>
      t.ember.reqs = s.ember.reqs ++ [{ key := K.emb_RTC_MODE, write := true, who := who, value := v }]) ∧
  (∀ (s : State) (who : Orig) (v : Int), -32768 ≤ v → v ≤ 32767 →
    accepts s who K.emb_TRIM (leBytes 2 (ofSigned 16 v)) →
    yields (exec (.trimWrite who v) s) fun t =>
      t.ember.reqs = s.ember.reqs ++ [{ key := K.emb_TRIM, write := true, who := who, value := ofSigned 16 v }]) ∧
  (∀ (s : State) (who : Orig), accepts s who K.emb_PWRON_CTL [1] →
    yields (exec (.pwronRelease who) s) fun t =>
      t.ember.reqs = s.ember.reqs ++ [{ key := K.emb_PWRON_CTL, write := true, who := who, value := 1 }]) ∧
  (∀ (s : State) (who : Orig), accepts s who K.emb_PWRON_CTL [2] →
    yields (exec (.pwronAssert who) s) fun t =>
      t.ember.reqs = s.ember.reqs ++ [{ key := K.emb_PWRON_CTL, write := true, who := who, value := 2 }])

/-- DICT_WRITE of RETRY_MAX with no firing open puts the value in force at once; with the originator's firing open an
accepted stage is held and the value in force stays (R405, R408). An RPDO of one mapped entry writes it when it
arrives, waits for the SYNC with a synchronous type, and is rejected and counted when it is too short (R617, R619). -/
def Obligations.EntriesWritten : Prop :=
  (∀ (s : State) (who : Orig) (n v : Nat), partOk s → n < s.nPaths → v < 256 →
    accepts s who (K.path_RETRY_MAX n) [v] →
    yields (exec (.dictWrite who (0x2100 + n) 5 [v]) s) fun t => t.g (K.path_RETRY_MAX n) = v) ∧
  (∀ (s : State) (who : Orig) (n v : Nat), partOk s → n < s.nPaths → v < 256 → s.serving = true → who ≠ .boundary →
    s.isOpen who = true → s.stageCheck who (K.path_RETRY_MAX n) [v] = 0 →
    yields (exec (.dictWrite who (0x2100 + n) 5 [v]) s) fun t =>
      t.g (K.path_RETRY_MAX n) = s.g (K.path_RETRY_MAX n) ∧
      ∃ g, (t.fire (origNo who)).stages = (s.fire (origNo who)).stages ++ [g] ∧ g.key = K.path_RETRY_MAX n ∧
        g.data = [v]) ∧
  (∀ (s : State) (r n v : Nat), partOk s → r < 8 → n < s.nPaths → v < 256 → s.onBus = true → s.nmt = nmOP →
    s.rpdoValid r = true → s.mapOf (K.comm_RPDO_MAP r 0) = [K.path_RETRY_MAX n * 256 + 8] →
    254 ≤ s.g (K.comm_RPDO_TYPE r) → s.directCheck .can (K.path_RETRY_MAX n) [v] = 0 →
    yields (exec (.rpdoReceived r [v]) s) fun t => t.g (K.path_RETRY_MAX n) = v) ∧
  (∀ (s : State) (r v : Nat), r < 8 → v < 256 → s.onBus = true → s.nmt = nmOP → s.rpdoValid r = true →
    s.mapLen (K.comm_RPDO_MAP r 0) = 1 → s.g (K.comm_RPDO_TYPE r) ≤ 240 →
    yields (exec (.rpdoReceived r [v]) s) fun t => t.net.rpdoWait.look [] r = [0, v]) ∧
  (∀ (s : State) (r : Nat), r < 8 → s.onBus = true → s.nmt = nmOP → s.rpdoValid r = true →
    0 < s.mapLen (K.comm_RPDO_MAP r 0) →
    yields (exec (.rpdoReceived r []) s) fun t => t.g K.dev_RPDO_REJ = wrap32 (s.g K.dev_RPDO_REJ + 1))

-- firings

/-- FIRE_CTL of an originator, where it is accepted: OPEN begins an empty firing under the next FIRE_ID, COMMIT of an
open firing makes it wait for the kiln, and ABORT drops it (R401, R402). FIRE_TMO_EXPIRY aborts a firing that has been
open for its FIRE_TMO with RESULT 0x11, unless its COMMIT is delivered in the same cycle (R37, R403). -/
def Obligations.FiringOrders : Prop :=
  (∀ (s : State) (who : Orig), accepts s who (K.fire_FIRE_CTL (origNo who)) [1, 0] →
    (s.fireState (origNo who) = 0 ∨ 3 < s.fireState (origNo who)) →
    yields (exec (.fireOpen who) s) fun t =>
      let o := origNo who
      t.fireState o = 1 ∧ (t.fire o).stages = [] ∧ (t.fire o).openAt = s.cyc ∧
       (t.fire o).tmo = s.g (K.fire_FIRE_TMO o) ∧
      t.g (K.fire_FIRE_ID o) = o * 2 ^ 14 + (if 16383 ≤ (s.fire o).seq then 1 else (s.fire o).seq + 1)) ∧
  (∀ (s : State) (who : Orig), accepts s who (K.fire_FIRE_CTL (origNo who)) [2, 0] → s.fireState (origNo who) = 1 →
    (s.fire (origNo who)).slots ≤ 64 →
    yields (exec (.fireCommit who) s) fun t =>
      t.fireState (origNo who) = 2 ∧ (t.fire (origNo who)).commitAt = some s.cyc ∧
      (t.fire (origNo who)).stages = (s.fire (origNo who)).stages) ∧
  (∀ (s : State) (who : Orig), accepts s who (K.fire_FIRE_CTL (origNo who)) [3, 0] → s.fireState (origNo who) = 1 →
    yields (exec (.fireAbort who) s) fun t =>
      t.g (K.fire_FIRE_STAT (origNo who)) = fireStat 5 0x10 0 ∧ (t.fire (origNo who)).stages = []) ∧
  (∀ (s : State) (who : Orig), who ≠ .boundary → s.fireState (origNo who) = 1 →
    cycReached s.cyc (cycPlus (s.fire (origNo who)).openAt ((s.fire (origNo who)).tmo * cycPerSecond)) = true →
    ¬ (s.cyc = cycPlus (s.fire (origNo who)).openAt ((s.fire (origNo who)).tmo * cycPerSecond) ∧
       s.commitComing (origNo who) = true) →
    yields (exec (.fireTmoExpiry who) s) fun t =>
      t.g (K.fire_FIRE_STAT (origNo who)) = fireStat 5 0x11 0 ∧ (t.fire (origNo who)).stages = [])

/-- COMMIT_START of a free kiln: the boundary firing that is due starts (R418), else the first waiting commit: with its
checks passed its broadcast is placed (R409, R413) and a free journal bank is taken for its persistent actions (R450),
with one failed it ends in FAILED with what was found and holds no stage (R411, R412). COMMIT_BROADCAST in the firing's
broadcast cycle schedules it a lead later (R413, R414). -/
def Obligations.CommitsRun : Prop :=
  (∀ (s : State) (b : Boundary), s.d0Clock = true → s.kilnBusy = false → s.boundaryDue = some b →
    yields (exec .commitStart s) fun t =>
      t.g K.fire_BOUND_STAT = fireStat 2 0 0 ∧
      t.g K.fire_BOUND_ID = 0xC000 + (if 16383 ≤ s.bill.seq then 1 else s.bill.seq + 1) ∧
      t.bill.queue.head? = some { b with start := some s.cyc, cast := false, applyAt := cycPlus s.cyc 129 }) ∧
  (∀ (s : State) (o : Nat) (rest : List Nat), s.d0Clock = true → s.kilnBusy = false → s.boundaryDue = none →
    s.waitingFires = o :: rest → s.mustFollow o = false → ((s.fire o).pSlots = 0 ∨ s.bankFree ≠ none) →
    yields (exec .commitStart s) fun t =>
      if (s.judge o).result = 0 then
        (t.fire o).start = some s.cyc ∧ (t.fire o).castAt = cycPlus s.cyc (s.fire o).span ∧ t.fireState o = 2 ∧
        (t.fire o).bank = if (s.fire o).pSlots = 0 then none else s.bankFree
      else t.g (K.fire_FIRE_STAT o) = fireStat 6 (s.judge o).result 0 ∧ (t.fire o).stages = []) ∧
  (∀ (s : State) (o : Nat), o < 3 → s.fireState o = 2 → (s.fire o).start.isSome = true → (s.fire o).castAt = s.cyc →
    (s.fire o).slots ≤ 64 → (∀ g ∈ (s.fire o).stages, (s.die (keyDie g.key)).lost = false) →
    yields (exec .commitBroadcast s) fun t =>
      t.fireState o = 3 ∧ (t.fire o).applyAt = cycPlus s.cyc (s.fire o).lead)

/-- FIRING_APPLY in the apply cycle of a scheduled firing takes its stages out, holds their slots and its journal bank
until it retires, and shows the cycle in APPLY_CYC; a single stage of RETRY_MAX is then in force (R414, R415, R450).
FIRING_RETIRE frees the oldest applied firing once the store and the ledger hold its values, and ends the retirement of
a boundary firing once its records are written (R415, R418, R452). BOUNDARY_FIRING_APPLY in its apply cycle takes the
firing from the queue, switches the tariff, and shows APPLIED (R352, R418). -/
def Obligations.FiringsApply : Prop :=
  (∀ (s : State) (o : Nat), o ∈ s.dueFires →
    yields (exec .firingApply s) fun t =>
      (t.fire o).stages = [] ∧ (t.fire o).outcome ≠ 0 ∧ (t.fire o).held.map (·.bank) = (s.fire o).held.map (·.bank) ++ [(s.fire o).bank] ∧
      t.g K.fire_APPLY_CYC = s.cyc) ∧
  (∀ (s : State) (o n v : Nat) (g : Stage), partOk s → n < s.nPaths → v < 256 → s.dueFires = [o] →
    (s.fire o).stages = [g] → g.key = K.path_RETRY_MAX n → g.data = [v] →
    yields (exec .firingApply s) fun t => t.g (K.path_RETRY_MAX n) = v) ∧
  (∀ (s : State) (who : Orig) (h : Held) (rest : List Held), who ≠ .boundary →
    (s.fire (origNo who)).held = h :: rest → (∀ e ∈ s.unsaved, e.2.2.1 ∉ h.keys) →
    (s.ledger.fire = false ∨ ∀ k ∈ h.keys, isLedgerTarget k = false) →
    yields (exec (.firingRetire who) s) fun t => (t.fire (origNo who)).held = rest) ∧
  (∀ s : State, s.ledger.due = [] → s.ledger.write = none →
    yields (exec (.firingRetire .boundary) s) fun t => t.bill.unretired = false) ∧
  (∀ (s : State) (b : Boundary) (rest : List Boundary), s.bill.queue = b :: rest → b.cast = true → s.cyc = b.applyAt →
    b.caught = none →
    yields (exec .boundaryFiringApply s) fun t =>
      t.bill.queue = rest ∧ t.bill.unretired = true ∧ t.g K.fire_BOUND_STAT = fireStat 4 1 0 ∧
      t.g K.fire_APPLY_CYC = s.cyc ∧
      (∀ v, b.tariff = some v → t.bill.tariff = v ∧ t.g K.cal_TARIFF_NOW = v))

-- billing and the ember

/-- CLOCK_VALIDITY_CHANGE makes CLOCK_INV follow what the ember reports (R329, R357). DEMAND_INTERVAL_CYC_EXPIRY at the
end of a cycle-timed interval stages its close and starts the next (R342). SECOND_TICK_DELIVERED advances D0's seconds
by what the counter moved (R337, R506); ALARM, WAKE, TAMPER and OSC_STOP delivered take their counters, and a newly set
tamper flag is declared (R384, R385, R388, R390). -/
def Obligations.ClockOnD0 : Prop :=
  (∀ s : State, s.rtcInvalid ≠ s.cal csCLOCK_INV →
    yields (exec .clockValidityChange s) fun t => t.cal csCLOCK_INV = s.rtcInvalid) ∧
  (∀ (s : State) (e : Nat), s.bill.intEnd = some e → s.cal csCLOCK_INV = true → cycReached s.cyc e = true →
    yields (exec .demandIntervalCycExpiry s) fun t =>
      t.bill.intEnd = some (s.cycInterval e) ∧
      ∃ b, t.bill.queue = s.bill.queue ++ [b] ∧ b.interval = true ∧ b.billing = false) ∧
  (∀ s : State, s.d0Clock = true → 0 < s.ember.ticks →
    yields (exec .secondTickDelivered s) fun t =>
      t.ember.ticks = 0 ∧ t.bill.rtc = s.bill.rtc.map (fun v => wrap32 (v + s.ember.ticks))) ∧
  (∀ s : State, s.d0Clock = true → 0 < s.ember.alarms →
    yields (exec .alarmDelivered s) fun t => t.ember.alarms = 0) ∧
  (∀ s : State, s.d0Clock = true → 0 < s.ember.wakes →
    yields (exec .wakeDelivered s) fun t => t.ember.wakes = 0) ∧
  (∀ (s : State) (i : Nat), i < 2 → s.d0Clock = true →
    0 < (if i = 0 then s.ember.tamp0 else s.ember.tamp1) →
    yields (exec (.tamperDelivered i) s) fun t =>
      (if i = 0 then t.ember.tamp0 else t.ember.tamp1) = 0 ∧
      (s.es (esTAMP0 + i) = true → (if i = 0 then s.ember.told0 else s.ember.told1) = false →
        (if i = 0 then t.ember.told0 else t.ember.told1) = true ∧
        (t.die 0).count = nextCount (s.die 0).count)) ∧
  (∀ s : State, s.d0Clock = true → 0 < s.ember.oscs →
    yields (exec .oscStopDelivered s) fun t => t.ember.oscs = 0)

/-- The ember's own events: its POR, the supply switch and the cell (R368, R369, R371), seconds and the alarm (R373,
R383, R384), WAKE (R385), TRIM (R374), tamper episodes (R387), the stopping oscillator (R390) and the cross-check
(R389). A second tick whose ember cycle serves a time write is suppressed (R383). -/
def Obligations.EmberEvents : Prop :=
  (∀ s : State, yields (exec .bkcapPor s) fun t =>
    t.ember.sec = 0 ∧ t.es esEMBER_LOST = true ∧ t.es esRTC_INV = true ∧ t.es esNEVER_SET = true ∧
    t.es esPWRON = false ∧ t.es esSUPPLY = s.ember.onVbat ∧ t.g K.emb_EMBER_CFG = 0) ∧
  (∀ (s : State) (vm vb : Nat), s.ember.onVbat = true → min vb 2850 + 100 < vm → 2600 < vm →
    yields (exec (.supplySwitch vm vb) s) fun t => t.ember.onVbat = false ∧ t.es esSUPPLY = false) ∧
  (∀ (s : State) (vm vb : Nat), s.ember.onVbat = false → (vm < min vb 2850 ∨ vm < 2500) →
    yields (exec (.supplySwitch vm vb) s) fun t => t.ember.onVbat = true ∧ t.es esSUPPLY = true) ∧
  (∀ (s : State) (vb : Nat), s.ember.onVbat = true → vb < 1900 →
    yields (exec (.cellDisconnect vb) s) fun t => t.ember.disconnected = true) ∧
  (∀ (s : State) (vb : Nat),
    yields (exec (.emberSecondTick vb) s) fun t =>
      if s.ember.wroteAt = s.cyc + 1 ∨ s.timeWriteComing = true then
        t.ember.sec = s.ember.sec ∧ t.ember.ticks = s.ember.ticks
      else
      t.ember.sec = wrap32 (s.ember.sec + 1) ∧ t.ember.ticks = wrap32 (s.ember.ticks + 1) ∧
      (vb < 2000 → t.es esCELL_LOW = true) ∧
      (wrap32 (s.ember.sec + 1) = s.g K.emb_ALARM_SEC → t.es esALARM = true)) ∧
  (∀ (s : State) (high : Bool), high = s.ecfg 1 → yields (exec (.wakeAccepted high) s) fun t =>
    t.es esWAKE_SEEN = true ∧ t.ember.wakes = (s.ember.wakes + 1) % 256 ∧ (s.ecfg 2 = true → t.es esPWRON = true)) ∧
  (∀ s : State, s.ember.subsec ≤ s.ember.period → s.ember.period < 32768 →
    yields (exec .correctionPeriodStart s) fun t => t.ember.trim = s.ember.trimNext) ∧
  (∀ (s : State) (i : Nat) (high : Bool), i < 2 → s.tampActive high = true → s.ecfg (7 + i) = true → (if i = 0 then s.ember.armed0 else s.ember.armed1) = true →
    yields (exec (.tamperEpisode i high) s) fun t =>
      t.es (esTAMP0 + i) = true ∧ t.g (tampKey i) = min 65535 (s.g (tampKey i) + 1) ∧
      t.g (tampKey i + 2) = s.ember.sec ∧ (if i = 0 then t.ember.armed0 else t.ember.armed1) = false) ∧
  (∀ (s : State) (i : Nat) (high : Bool), i < 2 → s.ecfg (7 + i) = true → s.tampActive high = false →
    yields (exec (.tamperRearm i high) s) fun t => (if i = 0 then t.ember.armed0 else t.ember.armed1) = true) ∧
  (∀ s : State, yields (exec .oscStopDetect s) fun t =>
    t.es esOSC_STOP = true ∧ t.es esRTC_INV = true ∧ t.ember.xchkOpen = none ∧
    (s.ember.xchkOpen.isSome = true → t.g K.emb_XCHK_STAT = 3)) ∧
  (∀ (s : State) (c : Nat), c < two64 → s.ember.xchkOpen.isSome = true → s.gateCount c = true →
    yields (exec (.xchkGateClose c) s) fun t =>
      t.g K.emb_XCHK_COUNT = c ∧ t.g K.emb_XCHK_STAT = 2 ∧ t.ember.xchkOpen = none)

/-- EMBER_ACCESS, with a SUBSEC that does not run back, acts on the access in front of the port: a read is answered from
one ember cycle, after the second tick that falls in it (R382), SET_BIN sets and validates the clock (R379, R383),
RTC_MODE changes the mode and invalidates it (R380). EMBER_ACCESS_DONE delivers the answer, takes the access from the
port, and a read leaves its snapshot in RTC_BIN (R381). -/
def Obligations.EmberPort : Prop :=
  (∀ (s : State) (sub : Nat) (r : EmberReq) (rest : List EmberReq), sub < 32768 → s.ember.subsec ≤ sub →
    s.ember.reqs = r :: rest → s.ember.ans = none → r.write = false →
    yields (exec (.emberAccess sub) s) fun t => t.ember.subsec = sub ∧
      match s.tickComing with
      | none => t.ember.ans = some { data := s.emberBytes r.key sub, bin := s.rtcBin sub, cal := s.rtcCal }
      | some vbat => t.ember.ans = some (((s.subsecAt sub).secondTick vbat).emberSnap r)) ∧
  (∀ (s : State) (sub : Nat) (r : EmberReq) (rest : List EmberReq), sub < 32768 → s.ember.subsec ≤ sub → s.ember.reqs = r :: rest →
    s.ember.ans = none → r.write = true →
    yields (exec (.emberAccess sub) s) fun t =>
      t.ember.ans.isSome = true ∧
      (r.key = K.emb_SET_BIN → t.ember.sec = r.value ∧ t.es esRTC_INV = false ∧ t.es esNEVER_SET = false) ∧
      (r.key = K.emb_RTC_MODE → t.ember.mode = r.value ∧ t.g K.emb_RTC_MODE = r.value ∧ t.es esRTC_INV = true) ∧
      (r.key = K.emb_ALARM_SEC → t.g K.emb_ALARM_SEC = r.value)) ∧
  (∀ (s : State) (r : EmberReq) (rest : List EmberReq) (a : EmberAns), s.d0Clock = true → s.ember.reqs = r :: rest →
    s.ember.ans = some a → r.who ≠ .boundary →
    yields (exec .emberAccessDone s) fun t =>
      t.ember.reqs = rest ∧ t.ember.ans = none ∧ t.resp = 0 ∧ t.respData = a.data ∧
      (r.write = false → t.g K.emb_RTC_BIN = a.bin))

-- store and SRAM

/-- A gather buffer whose wait has passed begins its commit with its first eight lines, in the order of the planes
(R429, R430), and a commit that ends counts and, with nothing waiting, leaves none running (R430). The next line of a
scrub pass on a running die counts what its two codes find: corrected words, corrected bytes, or an uncorrectable line
(R433 to R435). Of words with at most two wrong bits one that SECDED flags is recovered, and a second one makes the line
uncorrectable (R433). -/
def Obligations.StoreWorks : Prop :=
  (∀ (s : State) (d : Nat), d < s.dies → (s.store d).buf ≠ [] → (s.store d).run = [] →
    gatherWait ≤ cycDiff s.cyc (s.store d).bufAt →
    yields (exec (.gatherWaitExpiry d) s) fun t =>
      (t.store d).run = planeOrder ((s.store d).buf.take 8) ∧ (t.store d).buf = (s.store d).buf.drop 8) ∧
  (∀ (s : State) (d : Nat), d < s.dies → (s.store d).run ≠ [] →
    yields (exec (.gatherCommitDone d) s) fun t =>
      (t.store d).gathers = wrap32 ((s.store d).gathers + 1) ∧
      ((s.store d).buf = [] → (s.store d).queued = [] → (t.store d).run = [])) ∧
  (∀ (s : State) (d line : Nat) (errs : List WordErr), d < s.dies → line < 4096 → errsOk errs = true →
    s.scrubDue d line = true →
    yields (exec (.scrubRead d line errs) s) fun t =>
      (t.store d).scrub = decide (line < 4095) ∧ (t.store d).scrubLine = (line + 1) % 4096 ∧
      match decodeLine errs with
      | .ok n 0 => (t.store d).ce = wrap32 ((s.store d).ce + n)
      | .ok _ _ => (t.store d).rs = wrap32 ((s.store d).rs + 1)
      | .uncorrectable => (t.store d).ue = wrap32 ((s.store d).ue + 1)) ∧
  (∀ l : List WordErr, (∀ w ∈ l, w.bits ≤ 2) →
    (decodeLine l = .uncorrectable ↔ 2 ≤ l.countP (fun w => decide (w.bits = 2))))

/-- UNLOCK with the right password opens the kind of access to its originator and clears the wrong attempts; a wrong one
is counted, and the third locks the partition (R440, R441). RELOCK closes both kinds (R440), and the lock ends in its
expiry cycle (R441). PART_DEF places a partition (R428). A LINE_DATA write is what the line reads afterwards (R429,
R431), and a LINE_DATA read answers the line, or 0x08000024 where it is uncorrectable (R434). -/
def Obligations.PartitionsServed : Prop :=
  (∀ (s : State) (who : Orig) (b : List Nat), isBytes b = true → accepts s who K.st_UNLOCK b → b.getD 0 0 < 16 →
    (b.getD 1 0 = 1 ∨ b.getD 1 0 = 2) → s.partLocked (s.g K.st_DIE_SEL) (b.getD 0 0) = false →
    yields (exec (.unlock who b) s) fun t =>
      let r := s.store (s.g K.st_DIE_SEL)
      let q := t.store (s.g K.st_DIE_SEL)
      let p := b.getD 0 0
      if samePassword (r.password p (b.getD 1 0)) (bytesAt b 2 8) then
        (origNo who, p, b.getD 1 0) ∈ q.unlocked ∧ q.wrong.look 0 p = 0 ∧ t.resp = 0
      else t.resp = abPass ∧ q.unlocked = r.unlocked ∧
        (if r.wrong.look 0 p + 1 < 3 then q.wrong.look 0 p = r.wrong.look 0 p + 1
         else q.wrong.look 0 p = 0 ∧
          q.lockEnd.look 0 p = cycPlus s.cyc (60 * 2 ^ r.lockK.look 0 p * cycPerSecond) + 1)) ∧
  (∀ (s : State) (who : Orig) (p : Nat), p < 256 → accepts s who K.st_RELOCK [p] →
    yields (exec (.relock who p) s) fun t =>
      ∀ k, (origNo who, p, k) ∉ (t.store (s.g K.st_DIE_SEL)).unlocked) ∧
  (∀ (s : State) (d p : Nat), d < s.dies → p < 16 → (s.store d).lockEnd.look 0 p ≠ 0 →
    cycReached s.cyc ((s.store d).lockEnd.look 0 p - 1) = true →
    yields (exec (.partitionLockExpiry d p) s) fun t => t.partLocked d p = false) ∧
  (∀ (s : State) (who : Orig) (b : List Nat), isBytes b = true → accepts s who K.st_PART_DEF b →
    yields (exec (.partDef who b) s) fun t =>
      (t.store (s.g K.st_DIE_SEL)).base.look 0 (b.getD 0 0) = leAt b 2 2 ∧
      (t.store (s.g K.st_DIE_SEL)).count.look 0 (b.getD 0 0) = leAt b 4 2) ∧
  (∀ (s : State) (who : Orig) (b : List Nat), isBytes b = true → accepts s who K.st_LINE_DATA b →
    yields (exec (.lineDataWrite who b) s) fun t =>
      let d := s.g K.st_DIE_SEL
      t.lineData d (s.partLine d (s.g K.st_PART_SEL) (s.g K.st_LINE_SEL)) = b) ∧
  (∀ (s : State) (who : Orig) (errs : List WordErr), who ≠ .boundary → s.serving = true →
    s.g K.st_DIE_SEL < s.dies → errsOk errs = true →
    s.g K.st_LINE_SEL < s.partLines (s.g K.st_DIE_SEL) (s.g K.st_PART_SEL) →
    s.partOpen (origNo who) (s.g K.st_DIE_SEL) (s.g K.st_PART_SEL) 1 = true →
    yields (exec (.lineDataRead who errs) s) fun t =>
      let d := s.g K.st_DIE_SEL
      let line := s.partLine d (s.g K.st_PART_SEL) (s.g K.st_LINE_SEL)
      let held := (s.store d).buf.any (fun e => e.1 == line) || (s.store d).run.any (fun e => e.1 == line)
      if held = false ∧ decodeLine errs = .uncorrectable then t.resp = abNoData ∧ (t.store d).lineFail = true
      else t.resp = 0 ∧ t.respData = s.lineData d line)

/-- The port serves what is presented to a bank in this cycle, and nothing waits: it has not been given yet, no
read-modify- write is under way, and the core keeps to its share (R462, R463, R467, R468). -/
abbrev portFree (s : State) (d : Nat) (l : List SramReq) : Prop :=
  (s.bank d).rmw = none ∧ (s.bank d).waiting = [] ∧ (s.bank d).cycleAt ≠ s.cyc + 1 ∧ (s.bank d).admitReqs s.cyc l = l

/-- A granted whole-word write outside the locked image region is what its word holds, with valid check bits, and every
other word and bank keeps its contents (R462, R549). A granted read changes no contents: SECDED finds the wrong bits of
the word, those the array upsets in this access among them; a clean word is returned, one wrong bit is corrected,
counted and queued for write-back, and more count as uncorrectable, three or more by the model's choice, log entry 90
(R461, R462, R464 to R466). With the port free, the core's write of a word drops the DMA's of the same word (R467, R469,
R470). SRAM_WRITE_BACK in a free cycle writes the corrected word (R465). -/
def Obligations.SramServes : Prop :=
  (∀ (s : State) (d w v f : Nat) (q : Requester), d < s.dies →
    reqOk { who := q, word := w, op := .write v, flips := f } = true →
    portFree s d [{ who := q, word := w, op := .write v, flips := f }] → s.serves d q = true →
    ((s.bank d).locked && Config.imageWord d w) = false →
    yields (exec (.sramRequest d [{ who := q, word := w, op := .write v, flips := f }]) s) fun t =>
      (t.bank d).word d w = v ∧ (t.bank d).wrong w = 0 ∧ (∀ x, x ≠ w → (t.bank d).word d x = (s.bank d).word d x) ∧
      (∀ n, n ≠ d → t.bank n = s.bank n)) ∧
  (∀ (s : State) (d w f : Nat) (q : Requester), partOk s → d < s.dies → w < sramWords → f < 2 ^ 39 →
    portFree s d [{ who := q, word := w, op := .read, flips := f }] → s.serves d q = true →
    yields (exec (.sramRequest d [{ who := q, word := w, op := .read, flips := f }]) s) fun t =>
      let r := (s.bank d).upset w f
      (∀ n x, (t.bank n).word n x = (s.bank n).word n x) ∧
      (if ones39 (r.wrong w) = 0 then (t.bank d).dataOut = r.word d w
       else if ones39 (r.wrong w) = 1 then
        (t.bank d).dataOut = r.word d w ∧ (r.wb = none → (t.bank d).wb = some (w, r.word d w)) ∧
        t.g (K.die_SRAM_CE_COUNT d) = wrap32 (s.g (K.die_SRAM_CE_COUNT d) + 1)
       else bitSet t (K.die_SRAM_STAT d) srUE_SEEN ∧
        t.g (K.die_SRAM_UE_COUNT d) = wrap32 (s.g (K.die_SRAM_UE_COUNT d) + 1))) ∧
  (∀ (s : State) (d w v u : Nat), partOk s → d < s.dies → w < sramWords → v < two32 → u < two32 →
    portFree s d [{ who := .dma, word := w, op := .write u }, { who := .core, word := w, op := .write v }] →
    s.serves d .core = true → ((s.bank d).locked && Config.imageWord d w) = false →
    yields (exec (.sramRequest d [{ who := .dma, word := w, op := .write u },
        { who := .core, word := w, op := .write v }]) s) fun t =>
      (t.bank d).word d w = v ∧
      t.g (K.die_WLOST_DMA_COUNT d) = wrap32 (s.g (K.die_WLOST_DMA_COUNT d) + 1)) ∧
  (∀ (s : State) (d w v : Nat), partOk s → d < s.dies → (s.bank d).wb = some (w, v) → portFree s d [] →
    s.requestComing d = false → (s.die d).march ≠ 1 → s.pstate d < 2 →
    yields (exec (.sramWriteBack d) s) fun t =>
      (t.bank d).word d w = v ∧ (t.bank d).wrong w = 0 ∧ (t.bank d).wb = none ∧
      bitClear t (K.die_SRAM_STAT d) srWB_PEND)

-- the kiln log's readout, the loop output and the inputs

/-- LOG_ENTRY_ACCEPT, with room in the ledger buffer and no die of a lower number to take first, gives the oldest entry
of a die's queue the next LOG_NO, holds it and puts it into the buffer, and a declaration counts FAULT_COUNT and shows
in LAST_SERIAL (R696, R698, R700). DIE_TEMP_MEASURE on a running die shows the temperature, and the third hot one in a
row declares over-temperature (R695). LOG_READ answers 0x08000024 while the log is empty, and the selected entries, 32
bytes each, from LOG_SEL on, those accepted later in its cycle among them (R705, R711). An accepted LOG_RELEASE
unfreezes the log, and the first chip-level declaration accepted in its cycle freezes it again (R704, R711). -/
def Obligations.KilnLog : Prop :=
  ((∀ (s : State) (d : Nat) (e : LogEnt) (rest : List LogEnt), d < s.dies → (s.die d).logQ = e :: rest →
     s.queueReady d = true → s.lowerLog d = false → s.ledger.log.length < 2 →
     yields (exec (.logEntryAccept d) s) fun t =>
       t.g K.log_LOG_LAST = nextLogNo (s.g K.log_LOG_LAST) ∧
       t.ledger.log = s.ledger.log ++ [nextLogNo (s.g K.log_LOG_LAST)] ∧
       (∃ x ∈ t.klog, x.no = nextLogNo (s.g K.log_LOG_LAST) ∧ x.event = e.event ∧ x.cyc = e.cyc ∧
         x.serial = e.serial ∧ x.data = e.data) ∧
       (e.kind = 1 → t.g K.log_FAULT_COUNT = wrap32 (s.g K.log_FAULT_COUNT + 1) ∧
         t.g K.log_LAST_SERIAL = e.serial)) ∧
   (∀ (s : State) (d : Nat) (temp : Int), partOk s → d < s.dies → -32768 ≤ temp → temp ≤ 32767 →
     (s.die d).up = true → s.pstate d ≤ 2 →
     yields (exec (.dieTempMeasure d temp) s) fun t =>
       t.g (K.die_DIE_TEMP d) = ofSigned 16 temp ∧
       (12500 ≤ temp → (s.die d).otSerial = 0 → 2 ≤ (s.die d).hot →
         (t.die d).otSerial = s.nextSerial d ∧ t.g (K.die_OT_COUNT d) = wrap32 (s.g (K.die_OT_COUNT d) + 1)))) ∧
  ((∀ (s : State) (who : Orig), who ≠ .boundary → s.serving = true →
     yields (exec (.logRead who) s) fun t =>
       let c := s.logSelOf who
       let a := State.logAhead s.pending s
       (a.g K.log_LOG_LAST = 0 → t.resp = abNoData ∧ t.respData = []) ∧
       (a.g K.log_LOG_LAST ≠ 0 → c.1 ≠ 0 → a.g K.log_LOG_FIRST ≤ c.1 → c.1 ≤ a.g K.log_LOG_LAST →
         t.resp = 0 ∧ t.respData.length = 32 * min c.2 (a.g K.log_LOG_LAST + 1 - c.1))) ∧
   (∀ (s : State) (who : Orig) (v : Nat), v < two32 → accepts s who K.log_LOG_RELEASE (leBytes 4 v) →
     yields (exec (.logRelease who v) s) fun t => t.logRead = [] ∧
       match s.klog.find? (fun e => e.chipDecl && decide (e.at_ = s.cyc)) with
       | none => bitClear t K.log_LOG_STAT lgFROZEN ∧ t.g K.log_FREEZE_NO = 0
       | some f => bitSet t K.log_LOG_STAT lgFROZEN ∧ t.g K.log_FREEZE_NO = f.no))

/-- LOOP_SLEW_MOVE of a measuring output, with D0 in RUN or IDLE, moves LOOP_OUT towards its target by at most LOOP_SLEW
codes; a LOOP_SET written in this cycle does not count yet, a firing that applies in it does (R650, R652, R660).
LOOP_MEASURE shows in LOOP_MEAS (R653), and the hundredth measurement in a row out of tolerance sets MISMATCH (R654). A
change of the levels at a running die's balls shows in GP_IN (R576). -/
def Obligations.LoopAndInputs : Prop :=
  (∀ s : State, s.cyc % 1024 = 0 → s.d0Clock = true → s.pstate 0 ≤ 1 → s.loopMode = 0 → s.inForce.loopMode = 0 →
    yields (exec .loopSlewMove s) fun t =>
      let target := if s.loop.wroteAt = s.cyc + 1 then s.loop.oldTarget else s.inForce.loopTarget
      t.g K.loop_LOOP_OUT =
        (if s.g K.loop_LOOP_OUT < target then min target (s.g K.loop_LOOP_OUT + s.g K.sag_LOOP_SLEW)
         else max target (s.g K.loop_LOOP_OUT - s.g K.sag_LOOP_SLEW))) ∧
  (∀ (s : State) (ua : Nat), s.d0Clock = true →
    yields (exec (.loopMeasure ua) s) fun t =>
      t.g K.loop_LOOP_MEAS = min ua 65535 ∧
      (s.g K.loop_LOOP_EN ≠ 0 → bitClear s K.loop_LOOP_STAT lpSLEWING → s.loop.slewEnd = 0 →
        s.loopOff (min ua 65535) = true → 99 ≤ s.loop.bad → bitSet t K.loop_LOOP_STAT lpMISMATCH)) ∧
  (∀ (s : State) (d v : Nat), partOk s → d < s.dies → v < 16 → (s.die d).up = true → s.pstate d ≤ 2 →
    s.lanternOnly d = false →
    yields (exec (.gpioInputChange d v) s) fun t => t.g (K.die_GP_IN d) = v)

-- firmware trust, attestation and the seal

/-- SEAL_CHANGE at the sixteenth sample of the other level changes the seal, and an opening counts (R684); EXTEST_SELECT
while the seal is open, as the end of its cycle leaves it (R687), counts in AUDIT and asks for a new digest (R683,
R686). IMG_DATA enters its line and makes the image unverified, IMG_CMD begins or verifies (R676, R677), and the end of
a VERIFY shows verified or the reason of its rejection (R671, R677). -/
def Obligations.SealAndImages : Prop :=
  (∀ (s : State) (b : Bool), s.sealSampled = true → s.sealOpen ≠ b →
    yields (exec (.sealChange b) s) fun t =>
      t.sealOpen = b ∧ bitSet t K.sec_SEC_STAT scSEAL_CHANGED ∧
      t.g K.sec_SEAL_OPENS = (if b then min 0xFFFFFFFF (s.g K.sec_SEAL_OPENS + 1) else s.g K.sec_SEAL_OPENS)) ∧
  (∀ s : State, s.sealInForce = true →
    yields (exec .extestSelect s) fun t =>
      t.g K.sec_AUDIT = min 0xFFFFFFFF (s.g K.sec_AUDIT + 1) ∧ bitSet t K.sec_SEC_STAT scDIGEST_PEND) ∧
  (∀ (s : State) (who : Orig) (b : List Nat), isBytes b = true → b.length = 256 → accepts s who K.sec_IMG_DATA b →
    yields (exec (.imgData who b) s) fun t =>
      t.g K.sec_IMG_STAT = 0 ∧
      t.lineData 0 (slotLine s.inactiveSlot + s.g K.sec_IMG_OFS / 256) = b) ∧
  (∀ (s : State) (who : Orig), accepts s who K.sec_IMG_CMD [1] →
    yields (exec (.imgBegin who) s) fun t => t.g K.sec_IMG_STAT = 0) ∧
  (∀ (s : State) (who : Orig), accepts s who K.sec_IMG_CMD [2] →
    yields (exec (.imgVerify who) s) fun t => t.g K.sec_IMG_STAT = 1) ∧
  (∀ (s : State) (readable : Bool), s.verifying = true →
    yields (exec (.imgVerifyDone readable) s) fun t =>
      if s.slotReason s.inactiveSlot readable = 0 then
        t.g K.sec_IMG_STAT = 2 ∧ t.g (K.sec_SVN_A + s.inactiveSlot) = hdrSvn (s.slotHeader s.inactiveSlot) ∧
        t.g (K.sec_VERSION_A + s.inactiveSlot) = hdrVersion (s.slotHeader s.inactiveSlot)
      else t.g K.sec_IMG_STAT = 3 ∧ t.g K.sec_IMG_REASON = s.slotReason s.inactiveSlot readable)

/-- An accepted ARB_ADVANCE with fuses to blow begins to blow them, and ARB_FUSES_DONE ends with the fuses of the
running image's SVN blown (R675). OEM_HASH is programmed once (R667). ATT_NONCE and ATT_CMD ask for a report (R681),
which is captured with the digest done (R681, R682) and signed (R681). DIGEST_RECOMPUTE_DONE replaces CONFIG_DIGEST
(R683). -/
def Obligations.FusesAndAttestation : Prop :=
  (∀ (s : State) (who : Orig) (v : Nat), v < 256 → s.otp.arb < s.runningSvn → accepts s who K.sec_ARB_ADVANCE [v] →
    yields (exec (.arbAdvance who v) s) fun t =>
      bitSet t K.sec_SEC_STAT scARB_BUSY ∧ t.sec.arbGoal = s.runningSvn ∧ t.sec.arbOld = s.otp.arb ∧
      t.sec.arbFrom = s.cyc) ∧
  (∀ s : State, bitSet s K.sec_SEC_STAT scARB_BUSY → s.arbNow = s.sec.arbGoal →
    yields (exec .arbFusesDone s) fun t =>
      bitClear t K.sec_SEC_STAT scARB_BUSY ∧ t.otp.arb = s.sec.arbGoal) ∧
  (∀ (s : State) (who : Orig) (b : List Nat), isBytes b = true → accepts s who K.sec_OEM_HASH b →
    yields (exec (.oemHashWrite who b) s) fun t =>
      t.otp.oemHash = b ∧ bitSet t K.sec_SEC_STAT scOEM_REQ) ∧
  (∀ (s : State) (who : Orig) (b : List Nat), isBytes b = true → accepts s who K.sec_ATT_NONCE b →
    yields (exec (.attNonce who b) s) fun t => t.sec.nonce = b ∧ t.sec.fresh = true) ∧
  (∀ (s : State) (who : Orig) (v : Nat), v < 256 → accepts s who K.sec_ATT_CMD [v] →
    yields (exec (.attCmd who v) s) fun t =>
      t.g K.sec_ATT_STAT = 1 ∧ t.sec.fresh = false ∧ t.sec.quote = []) ∧
  (∀ s : State, s.g K.sec_ATT_STAT = 1 → s.sec.quote = [] → bitClear s K.sec_SEC_STAT scDIGEST_PEND →
    yields (exec .attCapture s) fun t => t.sec.quote = s.report) ∧
  (∀ s : State, s.g K.sec_ATT_STAT = 1 → s.sec.quote ≠ [] →
    yields (exec .attSignDone s) fun t =>
      t.g K.sec_ATT_STAT = 2 ∧ t.sec.signature = Config.mldsaSign ctxAtt s.sec.quote) ∧
  (∀ s : State, bitSet s K.sec_SEC_STAT scDIGEST_PEND →
    yields (exec .digestRecomputeDone s) fun t =>
      bitClear t K.sec_SEC_STAT scDIGEST_PEND ∧ t.sec.digest = digestOf s.digestInput)

-- the host window

/-- A frame whose first bytes are malformed, or that is not as long as its length byte says, only sets FRAME_ERR (R629).
A write frame of two words writes two registers in turn (R628, R630), and a read frame answers WIN_STAT and the register
(R631). SNAP_CTL takes a snapshot of what it names (R639), and a frame that includes CYC_L captures CYC and the RTC
seconds (R640). -/
def Obligations.WindowFrames : Prop :=
  (∀ (s : State) (cmd addr len bits : Nat) (ws : List Nat), cmd < 128 → addr < 256 → len < 256 → ws.length = len + 1 →
    (∀ w ∈ ws, w < 65536) → s.portServes = true → (frameOk cmd addr len = false ∨ bits ≠ 24 + 16 * (len + 1)) →
    yields (exec (.hostWriteFrame cmd addr len ws bits) s) fun t => t.host = { s.host with frameErr := true }) ∧
  (∀ (s : State) (i j : Nat), i < 65536 → j < 65536 → s.portServes = true → s.windowFull = true →
    yields (exec (.hostWriteFrame 0 6 1 [i, j] 56) s) fun t =>
      t.host.odIndex = i ∧ t.host.odSub = j % 256 ∧ t.host.werr = wOK) ∧
  (∀ (s : State) (cmd addr len bits : Nat), 128 ≤ cmd → cmd < 256 → addr < 256 → len < 256 → s.portServes = true →
    frameOk cmd addr len = false →
    yields (exec (.hostReadFrame cmd addr len bits) s) fun t => t.host = { s.host with frameErr := true }) ∧
  (∀ (s : State) (a : Nat), a ≤ 0x1F → a ≠ 0x0B → a ≠ 0x18 → s.portServes = true → s.windowFull = true →
    yields (exec (.hostReadFrame 128 a 0 40) s) fun t => t.host.miso = [s.winStat, s.regValue a]) ∧
  (∀ (s : State) (v : Nat) (l : List Nat), v < 65536 → s.portServes = true → s.windowFull = true → s.snapOf v = .ok l →
    yields (exec (.snapCtlWrite v) s) fun t =>
      t.host.snap = l ∧ t.host.snapCtl = v ∧ t.host.snapAt = s.cyc + 1 ∧ t.host.werr = wOK) ∧
  (∀ s : State, s.portServes = true →
    yields (exec .cycCapture s) fun t => t.host.cycCap = s.cyc ∧ t.host.rtcCap = s.rtcNow)

/-- The mailbox: OD_DATA writes and reads a word at the pointer and moves it on (R635), RESET_PTR returns it (R635),
READ brings an entry into the buffer (R637), WRITE writes one from it (R637), and READ of an entry that does not exist
shows its error code (R612, R637). -/
def Obligations.MailboxServes : Prop :=
  (∀ (s : State) (w : Nat), w < 65536 → s.portServes = true → s.windowFull = true → s.host.ptr < 1024 →
    yields (exec (.odDataWrite w) s) fun t =>
      t.host.mailbox = putWord s.host.mailbox s.host.ptr w ∧ t.host.ptr = s.host.ptr + 2) ∧
  (∀ s : State, s.portServes = true → s.windowFull = true → s.host.ptr + 1 < s.host.odLen → s.host.ptr < 1024 →
    yields (exec .odDataRead s) fun t =>
      t.host.miso = [s.winStat, s.host.mailbox.getD s.host.ptr 0 + 256 * s.host.mailbox.getD (s.host.ptr + 1) 0] ∧
      t.host.ptr = s.host.ptr + 2) ∧
  (∀ s : State, s.portServes = true → s.windowFull = true → s.host.busy = false →
    yields (exec .resetPtr s) fun t => t.host.ptr = 0 ∧ t.host.ovf = false) ∧
  (∀ s : State, s.portServes = true → s.windowFull = true → s.host.busy = false →
    s.host.odKey = K.dev_SDO_TMO → s.lag.look 0 K.dev_SDO_TMO = 0 →
    yields (exec .odRead s) fun t =>
      t.host.busy = false ∧ t.host.done = true ∧ t.host.err = 0 ∧ t.host.odLen = 2 ∧
      t.host.mailbox.take 2 = leBytes 2 (s.g K.dev_SDO_TMO) ∧ bitAt t.host.irqFlag 0 = true) ∧
  (∀ s : State, s.portServes = true → s.windowFull = true → s.host.busy = false → s.existence s.host.odKey ≠ 0 →
    yields (exec .odRead s) fun t =>
      t.host.done = true ∧ t.host.err = errCode (s.existence s.host.odKey) ∧ t.host.odLen = 0) ∧
  (∀ s : State, s.portServes = true → s.windowFull = true → s.host.busy = false → s.isOpen .host = false →
    s.host.odKey = K.dev_SDO_TMO → s.host.odLen = 2 → s.host.ovf = false →
    s.directCheck .host K.dev_SDO_TMO (bytesAt s.host.mailbox 0 2) = 0 →
    yields (exec .odWrite s) fun t =>
      t.g K.dev_SDO_TMO = leAt s.host.mailbox 0 2 ∧ t.host.done = true ∧ t.host.err = 0 ∧ t.host.busy = false)

/-- WIN_KEY: the first key word, and after it the second, opens the key at its cycle; the key closes a second later,
and with KEY_CLOSE (R641, R642). The privileged commands with the key open close it and have their effect: NMT state
changes of a booted node, the reset of communication, after which the node is pre-operational, or operational with
AUTO_OP, and the warm start with START_CAUSE 8 where no trigger of a lower cause is found (R544, R593, R594, R641,
R642). With the key closed they are rejected with
error 16 (R637, R641). -/
def Obligations.KeyedCommands : Prop :=
  ((∀ s : State, s.portServes = true → s.windowFull = true →
     yields (exec (.winKeyWrite 0xA55A) s) fun t => t.host.key % 2 = 1 ∧ t.host.keyOpen = s.host.keyOpen) ∧
   (∀ s : State, s.portServes = true → s.windowFull = true → s.host.key % 2 = 1 →
     yields (exec (.winKeyWrite 0x5AA5) s) fun t =>
       t.host.keyOpen = true ∧ t.host.keyAt = s.cyc ∧ t.host.keyReads = 2) ∧
   (∀ s : State, s.host.keyOpen = true → s.host.key < 4 →
     cycReached s.cyc (cycPlus s.host.keyAt cycPerSecond) = true →
     yields (exec .winKeyExpiry s) fun t => t.host.keyOpen = false) ∧
   (∀ s : State, s.portServes = true → s.windowFull = true →
     yields (exec .keyClose s) fun t => t.host.key = 0 ∧ t.host.werr = wOK)) ∧
  ((∀ s : State, s.portServes = true → s.windowFull = true → s.host.keyOpen = true → s.nmt ≠ nmBOOT →
     yields (exec .nmtPreop s) (fun t => t.nmt = nmPRE ∧ t.host.key = 0) ∧
     yields (exec .nmtOperational s) (fun t => t.nmt = nmOP ∧ t.host.key = 0) ∧
     yields (exec .nmtStop s) (fun t => t.nmt = nmSTOP ∧ t.host.key = 0)) ∧
   (∀ s : State, s.portServes = true → s.windowFull = true → s.host.keyOpen = false →
     yields (exec .nmtStop s) fun t => t.nmt = s.nmt ∧ t.host.werr = wKEY) ∧
   (∀ s : State, s.portServes = true → s.windowFull = true → s.host.keyOpen = true → s.net.nodeId ≠ 0 →
     (s.canErr ≠ 2 ∨ s.net.recovering = true) →
     yields (exec .canResetComm s) fun t =>
       t.nmt = (if s.g K.dev_AUTO_OP = 1 then nmOP else nmPRE) ∧ t.canErr = 0 ∧ t.host.key = 0) ∧
   (∀ (s : State) (info : StartInfo), partOk s → s.startInfoOk info = true → s.portServes = true →
     s.windowFull = true → s.host.keyOpen = true → s.canStart (s.g K.sup_SUPMODE) info.resDv = true →
     s.es esEMBER_LOST = false → ((s.die 0).trigger = 0 ∨ 8 ≤ (s.die 0).trigger) →
     yields (exec (.deviceReset info) s) fun t =>
       t.g K.dev_START_KIND = 1 ∧ t.g K.dev_START_CAUSE = 8 ∧ t.ready = true ∧ t.halt = 0))

-- the field network

/-- NMT commands to this node or to all: start, stop, enter pre-operational, of a booted node; reset communication; and
reset node, a warm start with START_CAUSE 8 where no trigger of a lower cause is found (R544, R593, R594). One to
another node changes nothing of the state it names. -/
def Obligations.NmtCommands : Prop :=
  (∀ (s : State) (n : Nat), n ≤ 127 → s.mine n = true → s.nmt ≠ nmBOOT →
    yields (exec (.nmtStartNode n) s) (fun t => t.nmt = nmOP) ∧
    yields (exec (.nmtStopNode n) s) (fun t => t.nmt = nmSTOP) ∧
    yields (exec (.nmtEnterPreop n) s) (fun t => t.nmt = nmPRE)) ∧
  (∀ (s : State) (n : Nat), n ≤ 127 → s.mine n = false →
    yields (exec (.nmtStartNode n) s) (fun t => t.nmt = s.nmt) ∧
    yields (exec (.nmtStopNode n) s) (fun t => t.nmt = s.nmt) ∧
    yields (exec (.nmtEnterPreop n) s) (fun t => t.nmt = s.nmt)) ∧
  (∀ (s : State) (n : Nat), n ≤ 127 → s.mine n = true → s.net.nodeId ≠ 0 →
    yields (exec (.nmtResetComm n) s) fun t =>
      t.nmt = (if s.g K.dev_AUTO_OP = 1 then nmOP else nmPRE) ∧ t.canErr = 0) ∧
  (∀ (s : State) (n : Nat) (info : StartInfo), partOk s → n ≤ 127 → s.mine n = true → s.startInfoOk info = true →
    s.canStart (s.g K.sup_SUPMODE) info.resDv = true → s.es esEMBER_LOST = false →
    ((s.die 0).trigger = 0 ∨ 8 ≤ (s.die 0).trigger) →
    yields (exec (.nmtResetNode n info) s) fun t =>
      t.g K.dev_START_KIND = 1 ∧ t.g K.dev_START_CAUSE = 8 ∧ t.ready = true ∧ t.halt = 0)

/-- The requests of a server, SDO or USDO, as commands: `u` says which. -/
def sdoDown (u : Bool) (i j : Nat) (n : Option Nat) (d : Option (List Nat)) : Instr :=
  if u then .usdoDownloadInitiate i j n d else .sdoDownloadInitiate i j n d
def sdoDownSeg (u tog last : Bool) (d : List Nat) : Instr :=
  if u then .usdoDownloadSegment tog last d else .sdoDownloadSegment tog last d
def sdoUp (u : Bool) (i j : Nat) : Instr := if u then .usdoUploadInitiate i j else .sdoUploadInitiate i j
def sdoUpSeg (u tog : Bool) : Instr := if u then .usdoUploadSegment tog else .sdoUploadSegment tog

/-- The SDO and the USDO server. An initiate ends a transfer in progress (R608): an expedited download writes its entry
and is answered with success, one without data begins a segmented download (R608); a segment with the right toggle bit
is added to the data and one with the wrong bit ends the transfer with 0x05030000 (R609); an expedited upload answers
the entry's bytes (R608), and an upload segment the next bytes (R609); how many bytes one answer carries is the model's
choice, log entry 24. An unsupported request is answered with 0x05040001 (R608), and an expired transfer ends with
0x05040000 unless its next segment comes in the same cycle (R37, R609). -/
def Obligations.ServerAnswers : Prop :=
  (∀ (s : State) (u : Bool) (v : Nat), s.talks = true → v < 65536 →
    s.isOpen .can = false → s.directCheck .can K.dev_SDO_TMO (leBytes 2 v) = 0 →
    yields (exec (sdoDown u 0x2000 0x65 (some 2) (some (leBytes 2 v))) s) fun t =>
      t.g K.dev_SDO_TMO = v ∧ t.net.abort = 0 ∧ t.net.wait = none) ∧
  (∀ (s : State) (u : Bool) (i j : Nat), s.talks = true → i < 65536 → j < 256 →
    yields (exec (sdoDown u i j none none) s) fun t =>
      t.net.abort = 0 ∧ t.net.xfer = some { upload := false, usdo := u, key := i * 256 + j, size := none,
                                            expiry := s.sdoExp }) ∧
  (∀ (s : State) (u : Bool) (d : List Nat) (x : Transfer), s.talks = true → isBytes d = true → d.length ≤ 7 →
    s.net.xfer = some x → x.upload = false → x.usdo = u → x.size = none →
    tooLong x.key (x.data.length + d.length) = false →
    yields (exec (sdoDownSeg u x.toggle false d) s) (fun t =>
      t.net.abort = 0 ∧ t.net.xfer = some { x with data := x.data ++ d, toggle := !x.toggle, expiry := s.sdoExp }) ∧
    yields (exec (sdoDownSeg u (!x.toggle) false d) s) (fun t => t.net.abort = 0x05030000 ∧ t.net.xfer = none)) ∧
  (∀ (s : State) (u : Bool), s.talks = true →
    s.lag.look 0 K.dev_SDO_TMO = 0 →
    yields (exec (sdoUp u 0x2000 0x65) s) fun t =>
      t.net.abort = 0 ∧ t.net.resp = leBytes 2 (s.g K.dev_SDO_TMO) ∧ t.net.xfer = none) ∧
  (∀ (s : State) (u : Bool) (x : Transfer), s.talks = true → s.net.xfer = some x → x.upload = true → x.usdo = u →
    yields (exec (sdoUpSeg u x.toggle) s) fun t =>
      t.net.abort = 0 ∧ t.net.resp = x.data.take (segBytes u) ∧
      (x.data.drop (segBytes u) ≠ [] → t.net.xfer.map (·.data) = some (x.data.drop (segBytes u)))) ∧
  (∀ s : State, s.talks = true →
    yields (exec .sdoUnsupportedRequest s) fun t => t.net.abort = 0x05040001 ∧ t.net.xfer = s.net.xfer) ∧
  (∀ (s : State) (x : Transfer), s.net.xfer = some x → cycReached s.cyc x.expiry = true →
    ¬ (s.cyc = x.expiry ∧ s.segmentComing x = true) →
    yields (exec .sdoTmoExpiry s) fun t => t.net.abort = 0x05040000 ∧ t.net.xfer = none)

/-- A SYNC, received with any counter byte or produced, shows its cycle in SYNC_CYC and opens the SYNC window, and has a
TPDO that each SYNC sends captured at the end of the cycle (R599, R617, R618); production counts on and places the next
SYNC a whole number of periods after the node entered its state (R599). The end of the window drops the synchronous
TPDOs that still wait (R618). A TIME message out of range is counted, another is compared with a read of the ember
(R600, R601). A TPDO's event timer triggers it for the end of the cycle, and so does the end of its inhibit time for a
TPDO that waited on it (R617); the timer starts anew at its expiry by the model's choice, log entry 59. -/
def Obligations.SyncTimeAndTimers : Prop :=
  (∀ (s : State) (c : Nat), c < 256 → s.talks = true → s.net.rpdoWait = [] →
    yields (exec (.syncReceived c) s) fun t =>
      t.g K.dev_SYNC_CYC = s.cyc ∧
      t.net.syncWinEnd = (if s.g K.comm_SYNC_WIN = 0 then none
        else some (cycPlus s.cyc (winCycles (s.g K.comm_SYNC_WIN) + 1))) ∧
      ∀ n, n < 16 → s.nmt = nmOP → s.tpdoValid n = true → s.g (K.comm_TPDO_TYPE n) = 1 → s.g K.comm_SYNC_OVF = 0 →
        bitAt t.net.due n = true) ∧
  (∀ (s : State) (c : Nat), s.net.syncNext = some c → s.talks = true → s.pstate 0 ≤ 1 → cycReached s.cyc c = true →
    s.net.rpdoWait = [] →
    yields (exec .syncProduce s) fun t =>
      t.g K.dev_SYNC_CYC = s.cyc ∧ t.net.syncCounter = s.nextCounter ∧
      t.net.syncNext = some (nextMultiple s.net.syncBase (syncCycles (s.g K.comm_SYNC_PERIOD)) s.cyc)) ∧
  (∀ (s : State) (c : Nat), s.net.syncWinEnd = some c → cycReached s.cyc c = true →
    yields (exec .syncWinExpiry s) fun t =>
      t.net.syncWinEnd = none ∧ ∀ f ∈ t.net.txQ, f.cls = 3 → 240 < s.g (K.comm_TPDO_TYPE f.pdo)) ∧
  (∀ (s : State) (ms days : Nat), ms < 2 ^ 28 → days < 65536 → s.talks = true →
    yields (exec (.timeReceived ms days) s) fun t =>
      if s.netMs ms days < 0 ∨ 3155760000000 ≤ s.netMs ms days then
        t.g K.dev_TIME_BAD = wrap32 (s.g K.dev_TIME_BAD + 1)
      else s.g K.dev_TIME_MODE ≠ 0 →
        t.net.timeWait = some ((s.netMs ms days).toNat, 0) ∧
        t.ember.reqs = s.ember.reqs ++ [{ key := K.emb_RTC_BIN, write := false, who := .boundary }]) ∧
  (∀ (s : State) (n : Nat), n < 16 → s.onBus = true → s.net.evtAt.look 0 n ≠ 0 →
    cycReached s.cyc (s.net.evtAt.look 0 n - 1) = true → s.tpdoValid n = true → s.nmt = nmOP →
    254 ≤ s.g (K.comm_TPDO_TYPE n) → s.g (K.comm_TPDO_EVT n) ≠ 0 →
    yields (exec (.tpdoEventTimer n) s) fun t =>
      bitAt t.net.trig n = true ∧
      t.net.evtAt.look 0 n = cycPlus s.cyc (s.g (K.comm_TPDO_EVT n) * 24576) + 1) ∧
  (∀ (s : State) (n : Nat), n < 16 → s.onBus = true → s.nmt = nmOP → s.tpdoValid n = true →
    s.net.inhWait.look 0 n = 1 → s.inhibitOver n = true →
    yields (exec (.tpdoInhibitEnd n) s) fun t => bitAt t.net.due n = true)

/-- A heartbeat is sent when its period has passed, and the next one is due a whole number of periods after the boot-up
message (R596); one received starts its consumer's time anew, and a consumer that runs out, with no heartbeat in the
same cycle, sets HB_LOST and ERR_BEHAV's reaction follows (R37, R595, R597, R598). EMCY_SEND sends the oldest message
once its inhibit time has passed (R602, R607), and a new transmit window starts the frames that waited, oldest first, up
to the budget (R657). A frame with bit-rate switching has its loop delay measured, and above 400 ns no secondary sample
point (R732). -/
def Obligations.HeartbeatsAndWindows : Prop :=
  (∀ (s : State) (c : Nat), s.net.hbNext = some c → s.ready = true → s.pstate 0 ≤ 1 → cycReached s.cyc c = true →
    yields (exec .heartbeatProduce s) fun t =>
      t.net.hbNext = some (nextMultiple s.net.bootAt (s.g K.comm_HB_PROD * 24576) s.cyc) ∧
      (s.net.inReset = false → s.canErr ≠ 2 → s.net.txQ = [] → s.net.started < s.g K.sag_CAN_BUDGET →
        { id := 0x700 + s.net.nodeId, data := [s.nmt] } ∈ t.net.sent)) ∧
  (∀ (s : State) (n e : Nat), 1 ≤ n → n ≤ 127 → e < 4 → s.onBus = true →
    hbNode (s.g (K.comm_HB_CONS (e + 1))) = n → hbTime (s.g (K.comm_HB_CONS (e + 1))) ≠ 0 →
    yields (exec (.heartbeatReceived n) s) fun t =>
      t.net.hbTimers.look 0 e = cycPlus s.cyc (hbTime (s.g (K.comm_HB_CONS (e + 1))) * 24576) + 1) ∧
  (∀ (s : State) (e : Nat), e < 4 → s.d0Clock = true → s.ready = true → s.net.hbTimers.look 0 e ≠ 0 →
    cycReached s.cyc (s.net.hbTimers.look 0 e - 1) = true →
    ¬ (s.cyc = s.net.hbTimers.look 0 e - 1 ∧ s.onBus = true ∧ s.beatComing e = true) →
    yields (exec (.heartbeatConsumerTimeout e) s) fun t =>
      t.net.hbTimers.look 0 e = 0 ∧ bitSet t K.dev_CAN_STAT 11 ∧
      (s.g K.comm_ERR_BEHAV = 0 → t.nmt = (if s.nmt = nmOP then nmPRE else s.nmt)) ∧
      (s.g K.comm_ERR_BEHAV = 2 → s.nmt ≠ nmBOOT → t.nmt = nmSTOP)) ∧
  (∀ (s : State) (m : List Nat) (rest : List (List Nat)), s.net.emcyQ = m :: rest → s.talks = true →
    s.pstate 0 ≤ 1 → s.emcyDue = true →
    yields (exec .emcySend s) fun t => t.net.emcyQ = rest ∧ t.net.lastEmcy = s.cyc + 1) ∧
  (∀ s : State, s.d0Clock = true → s.windowDue = true → s.transmitting = true →
    yields (exec .transmitWindowBoundary s) fun t =>
      t.net.txQ = s.net.txQ.drop (s.g K.sag_CAN_BUDGET) ∧
      ∀ f ∈ s.net.txQ.take (s.g K.sag_CAN_BUDGET), s.timeFrame f ∈ t.net.sent) ∧
  (∀ (s : State) (f : CanFrame), f.fd = true → s.net.dataRate ≠ 0 →
    (s.timeFrame f).delay = some (Config.loopDelay s.cyc) ∧
    (loopTooLong (Config.loopDelay s.cyc) = true → (s.timeFrame f).ssp = none))

/-- The controller's error states: passive and back, off the bus with a count and only EMCY messages kept, the recovery
that the end of the hold begins, and its end, which makes the controller error active with its counters at 0 (R589,
R658). A reset of communication that waited for the end of the hold is carried out then (R658). -/
def Obligations.ErrorStates : Prop :=
  (∀ s : State, s.onBus = true → s.canErr = 0 → yields (exec .canErrorPassive s) fun t => t.canErr = 1) ∧
  (∀ s : State, s.onBus = true → s.canErr = 1 → yields (exec .canErrorActive s) fun t => t.canErr = 0) ∧
  (∀ s : State, s.onBus = true →
    yields (exec .canBusOff s) fun t =>
      t.canErr = 2 ∧ t.net.busoffAt = some s.cyc ∧ t.g K.dev_BUSOFF_COUNT = wrap32 (s.g K.dev_BUSOFF_COUNT + 1) ∧
      ∀ f ∈ t.net.txQ, f.cls = 2) ∧
  (∀ (s : State) (c : Nat), s.net.busoffAt = some c → s.d0Clock = true → s.canErr = 2 → s.net.recovering = false →
    cycReached s.cyc (cycPlus c (s.g K.sag_BUSOFF_HOLD * 24576)) = true → s.net.resetDue = false →
    yields (exec .busoffHoldEnd s) fun t => t.net.recovering = true ∧ t.canErr = 2) ∧
  (∀ (s : State) (c : Nat), s.net.busoffAt = some c → s.d0Clock = true → s.canErr = 2 → s.net.recovering = false →
    cycReached s.cyc (cycPlus c (s.g K.sag_BUSOFF_HOLD * 24576)) = true → s.net.resetDue = true → s.net.nodeId ≠ 0 →
    yields (exec .busoffHoldEnd s) fun t =>
      t.canErr = 0 ∧ t.nmt = (if s.g K.dev_AUTO_OP = 1 then nmOP else nmPRE)) ∧
  (∀ s : State, s.d0Clock = true → s.canErr = 2 → s.net.recovering = true →
    yields (exec .canBusoffRecovered s) fun t => t.canErr = 0 ∧ t.g K.dev_TEC = 0 ∧ t.net.busoffAt = none)

-- the block as a whole

/-- A step takes the command at the front of the queue and runs it with the queue's rest. -/
def Obligations.StepRunsFront : Prop :=
  ∀ (s : State) (c : Instr) (rest : List Instr), s.pending = c :: rest →
    step s = exec c { s with pending := rest }

/-- With an empty queue one HCLK cycle passes (the model's choice, log entry 1): CYC counts modulo 2^48 while D0's HCLK
runs (R11), and the part, the SRAM banks and the queue stay, the totals where no booking waits; fuses are never unblown
(R675). The cycle that ends captures the TPDOs its writes triggered or its SYNC called for (R617, R618), and HIRQ
follows the unmasked flags (R638). In the cycle that begins the outcome of a firing that has applied shows in FIRE_STAT
(R414), and a kiln-log entry whose 36 cyc have passed leaves the ledger buffer (R700). -/
def Obligations.IdleCycle : Prop :=
  (∀ s : State, s.pending = [] →
    yields (step s) fun t =>
      t.cyc = (if s.d0Clock then (s.cyc + 1) % 2 ^ 48 else s.cyc) ∧ t.pending = [] ∧ t.dies = s.dies ∧
      (s.bill.waiting = [] → t.led = s.led) ∧ t.sram = s.sram ∧ t.otp.oemHash = s.otp.oemHash ∧
      (s.otp.arb ≤ 64 → s.otp.arb ≤ t.otp.arb ∧ t.otp.arb ≤ 64)) ∧
  (∀ s : State, s.pending = [] →
    yields (step s) fun t =>
      (∀ n, n < 16 → s.tpdoValid n = true → s.nmt = nmOP →
        ((254 ≤ s.g (K.comm_TPDO_TYPE n) ∧ bitAt s.net.trig n = true ∧ s.inhibitOver n = true) ∨
         (1 ≤ s.g (K.comm_TPDO_TYPE n) ∧ s.g (K.comm_TPDO_TYPE n) ≤ 240 ∧ bitAt s.net.due n = true)) →
        t.net.lastTx.look 0 n = s.cyc + 1) ∧
      (s.pstate 0 ≤ 1 → t.host.hirq = decide (Nat.land s.host.irqFlag s.host.irqMask ≠ 0)) ∧
      (∀ o, o < 3 → s.fireState o = 3 → (s.fire o).outcome ≠ 0 → (s.fire o).applyAt ≠ t.cyc →
        t.g (K.fire_FIRE_STAT o) =
          fireStat 4 (s.fire o).outcome (((s.fire o).held.getLast?).elim 0 (·.slots))) ∧
      (∀ n rest, s.d0Clock = true → s.ledger.log = n :: rest →
        cycReached t.cyc (cycPlus s.ledger.logFrom logCycles) = true → t.ledger.log = rest))

/-- The state after reset has the invariant: one of the three parts (R1), CYC within 48 bits (R11), totals within 64
bits (R325, R362), at most 64 fuses blown (R666), and SRAM banks in canonical form. -/
def Obligations.InvAtReset : Prop := Inv State.reset

/-- Every step keeps the invariant, from every state that has it. -/
def Obligations.InvKept : Prop := ∀ s t : State, Inv s → step s = .next t → Inv t

/-- Every command answers a next state in every state: none stops. One that is not well-formed on the part, because it
names a resource the part does not carry (R1, R4) or an operand its row does not give, changes nothing. -/
def Obligations.CompletesWhenWellFormed : Prop :=
  ∀ (i : Instr) (s : State), (∃ t, exec i s = .next t) ∧ (wellFormed s.dies i = false → exec i s = .next s)

/-- No command touches the queue or the dies fitted; CYC moves only by a start or a wake; the totals move only by a
booking, a firing or a start; the SRAM banks only by a request, a write-back or a start; and no command but the end of a
blowing counts fuses. -/
def Obligations.CoreKept : Prop :=
  ∀ (i : Instr) (s t : State), exec i s = .next t →
    t.pending = s.pending ∧ t.dies = s.dies ∧
    (starts i = false → t.cyc = s.cyc) ∧
    (starts i = false → booksTotals i = false → t.led = s.led) ∧
    (starts i = false → worksSram i = false → t.sram = s.sram) ∧
    (i ≠ .arbFusesDone → t.otp.arb = s.otp.arb)

/-- Frames of the ports and paths. A port's commands change its own object and record. The stop commands change the
path's record alone. A path's commands change its own entries, its two ports, its die, its template and the marks of
firings on GAIN. A slot inside a frame changes the paths and ports of its die, and the sections' waits. A calibration
changes its die's object and record; the energy window the ports' entries, bursts that are over, and the counts of
half-pairs. -/
def Obligations.PathFrames : Prop :=
  (∀ (s t : State) (n c r : Nat) (i : Instr),
    i ∈ [Instr.burstEnd n c, .bridgeOvercurrent n c, .impedanceCheckDone n c r, .recheckExpiry n] →
    exec i s = .next t →
    onlyOwn (fun k => ixOf k = 0x2140 + n) { s with ports := t.ports } t ∧ ∀ m, m ≠ n → t.port m = s.port m) ∧
  (∀ (s t : State) (n c : Nat) (d : Dir) (i : Instr),
    i ∈ [Instr.comparatorArm n d, .stopAccepted n d c, .receiveWindowExpiry n d, .refinementStart n] →
    exec i s = .next t →
    onlyOwn (fun _ => False) { s with paths := t.paths } t ∧ ∀ m, m ≠ n → t.path m = s.path m) ∧
  (∀ (s t : State) (n mv : Nat) (d : Dir) (m : ShotMeas) (smp : List Int) (x y : ShotRaw) (i : Instr),
    i ∈ [Instr.attemptStart n mv, .seqSecondShot n, .shotVerdict n d m, .captureDmaDone n d smp, .refinementDone n,
      .referencePairStart n, .referencePairDone n x y, .retryCancelDelivered n] →
    exec i s = .next t →
    onlyOwn (pathOwn n) { s with
      dieRt := t.dieRt, ports := t.ports, paths := t.paths, stores := t.stores, fires := t.fires, blobs := t.blobs
      unsaved := t.unsaved } t ∧
    (∀ p, p ≠ n → t.path p = s.path p) ∧ (∀ p, p ≠ 2 * n → p ≠ 2 * n + 1 → t.port p = s.port p) ∧
    (∀ e, e ≠ n / 4 → sameDie (s.die e) (t.die e) ∧ t.store e = s.store e) ∧
    (∀ o, t.fire o = { s.fire o with dirty := (t.fire o).dirty }) ∧
    (∀ k, k ≠ K.path_TEMPLATE n → t.blobs.look [] k = s.blobs.look [] k)) ∧
  (∀ (s t : State) (d e mv : Nat), exec (.slotStart d e mv) s = .next t → cycPlus s.cyc 1 ≠ s.nextBoundary →
    onlyOwn (fun k => ∃ j, j < 4 ∧ pathOwn (4 * d + j) k) { s with
      dieRt := t.dieRt, ports := t.ports, paths := t.paths, sects := t.sects } t ∧
    (∀ p, p / 4 ≠ d → t.path p = s.path p) ∧ (∀ p, p / 8 ≠ d → t.port p = s.port p) ∧
    (∀ i, t.sect i = { s.sect i with work := (t.sect i).work }) ∧
    (∀ f, f ≠ d → sameDie (s.die f) (t.die f))) ∧
  (∀ (s t : State) (d : Nat) (rs : List CalRes) (m : List (List Int)) (i : Instr),
    i ∈ [Instr.calFullStart d, .calFullDone d rs, .calQuickStart d, .calQuickDone d m] → exec i s = .next t →
    onlyOwn (fun k => ixOf k = 0x2001 + d) { s with dieRt := t.dieRt } t ∧
    ∀ e, e ≠ d → sameDie (s.die e) (t.die e)) ∧
  (∀ s t : State, exec .energyWindowBoundary s = .next t →
    onlyOwn (fun k => 0x2140 ≤ ixOf k ∧ ixOf k < 0x2140 + s.nPorts) { s with
      ports := t.ports, paths := t.paths, once := t.once } t ∧
    (∀ m, t.port m = { s.port m with burst := (t.port m).burst }) ∧
    ∀ m, t.path m = { s.path m with halfPrev := (t.path m).halfPrev, halfNow := (t.path m).halfNow })

/-- Frames of the sections, the sense front end, the pulse inputs and the lantern: a computation changes its section's
results, totals, demand and record; a delivered record its path and the sections' waits; a conversion the pins and
channels it uses; a pulse input its own entries; the lantern its own object, the power states, and the
path it takes with its ports; a wake that passes into a new energy window restarts every port's. -/
def Obligations.FlowFrames : Prop :=
  (∀ (s t : State) (i : Nat), exec (.sectionComputation i) s = .next t →
    onlyOwn (fun k => ixOf k = 0x2210 + i ∨ k = K.dev_FVF_TIME ∨ k = K.sect_E_HOLD_TIME i) { s with
      led := t.led, sects := t.sects, bill := t.bill, host := t.host, ledger := t.ledger } t ∧
    (∀ j, j ≠ i → t.sect j = s.sect j) ∧
    (∀ k, k ∉ [K.dem_INT_FWD i, K.dem_INT_HEAT i, K.dem_INT_COOL i] →
      (∀ q, q < 4 → k ≠ totKey i q + s.bookTariff ∧ k ≠ totKey i q + 9) → t.led.look 0 k = s.led.look 0 k) ∧
    t.bill = { s.bill with waiting := t.bill.waiting, held := t.bill.held } ∧
    t.host = { s.host with irqFlag := t.host.irqFlag, irqNow := t.host.irqNow }) ∧
  (∀ (s t : State) (n : Nat), exec (.pathRecordDelivered n) s = .next t →
    onlyOwn (fun k => ixOf k = 0x2120 + n) { s with paths := t.paths, sects := t.sects, vel := t.vel } t ∧
    ∀ m, m ≠ n → t.path m = s.path m ∧ t.vel.look none m = s.vel.look none m) ∧
  (∀ (s t : State) (i n : Nat), exec (.sectionResultTimeout i n) s = .next t →
    onlyOwn (fun k => ixOf k = 0x2120 + n) { s with paths := t.paths, sects := t.sects } t ∧
    (∀ m, m ≠ n → t.path m = s.path m) ∧ ∀ j, j ≠ i → t.sect j = s.sect j) ∧
  (∀ (s t : State) (i : Nat), exec (.holdTimerExpiry i) s = .next t →
    onlyOwn (fun _ => False) { s with sects := t.sects } t ∧ ∀ j, j ≠ i → t.sect j = s.sect j) ∧
  (∀ (s t : State) (d : Nat), exec (.scanStart d) s = .next t →
    onlyOwn (fun k => k = K.die_SCAN_NO d) { s with dieRt := t.dieRt, chans := t.chans } t ∧
    (∀ e, e ≠ d → sameDie (s.die e) (t.die e)) ∧ ∀ c, c / 16 ≠ d → t.chan c = s.chan c) ∧
  (∀ (s t : State) (d c : Nat) (rest : List Nat) (v : Conv) (m : PhaseMeas), exec (.phaseComplete d m) s = .next t →
    (s.die d).scanLeft = c :: rest → (s.chan c).conv = some v →
    onlyOwn (fun k => (∃ p ∈ v.roles.pins, k = K.die_PIN_STAT d p) ∨ ixOf k = 0x2300 + c ∨
      ∃ j, j < v.n ∧ ixOf k = 0x2300 + (c + j)) { s with dieRt := t.dieRt, chans := t.chans, pins := t.pins } t ∧
    (∀ e, e ≠ c / 16 → sameDie (s.die e) (t.die e)) ∧
    ∀ q, (∀ p ∈ v.roles.pins, q ≠ 16 * d + p) → t.pin q = s.pin q) ∧
  (∀ (s t : State) (d p : Nat), exec (.clampHit d p) s = .next t →
    onlyOwn (fun k => k = K.die_CLAMP_COUNT d p ∨ k = K.die_PIN_STAT d p) { s with pins := t.pins } t ∧
    ∀ q, q ≠ 16 * d + p → t.pin q = s.pin q) ∧
  (∀ (s t : State) (c : Nat), exec (.channelStartDelivered c) s = .next t →
    onlyOwn (fun _ => False) { s with chans := t.chans, sects := t.sects } t ∧
    (∀ m, m ≠ c → t.chan m = s.chan m) ∧ ∀ i, t.sect i = { s.sect i with chanWait := (t.sect i).chanWait }) ∧
  (∀ (s t : State) (j c : Nat) (i : Instr), i ∈ [Instr.channelResultTimeout j c, .channelResultDelivered c] →
    exec i s = .next t →
    onlyOwn (fun k => ∃ m, k = K.chan_CH_FLAGS m) { s with dieRt := t.dieRt, chans := t.chans, sects := t.sects } t ∧
    (∀ i, t.sect i = { s.sect i with chanWait := (t.sect i).chanWait }) ∧
    ∀ e, sameDie { s.die e with scanLeft := (t.die e).scanLeft, scanOn := (t.die e).scanOn } (t.die e)) ∧
  (∀ (s t : State) (n : Nat) (l : List LineSample) (i : Instr),
    i ∈ [Instr.pulseAccepted n l, .pulseLineFault n l, .pulseLineClear n l] → exec i s = .next t →
    onlyOwn (fun k => k = K.pin_PI_STAT n ∨ k = K.pin_PI_COUNT n) { s with pulses := t.pulses } t ∧
    ∀ m, m ≠ n → t.pulse m = s.pulse m) ∧
  (∀ s t : State, exec .pulseProcess s = .next t →
    onlyOwn (fun k => ∃ i, k = K.res_E_FLAGS i ∨ k = K.sect_E_HOLD_TIME i) { s with
      led := t.led, sects := t.sects, pulses := t.pulses, bill := t.bill, ledger := t.ledger } t ∧
    (∀ m, t.pulse m = { s.pulse m with latched := (t.pulse m).latched, base := (t.pulse m).base }) ∧
    t.bill = { s.bill with waiting := t.bill.waiting, held := t.bill.held }) ∧
  (∀ (s t : State) (a b : Nat), exec (.lanternWake a b) s = .next t →
    onlyOwn (fun k => ixOf k = 0x2500 ∨ k = K.sup_PWR_STATE 0 ∨ (0x2140 ≤ ixOf k ∧ ixOf k < 0x2140 + s.nPorts) ∨
        ixOf k = 0x2140 + endA s.lant.path ∨ ixOf k = 0x2140 + endB s.lant.path) { s with
      cyc := t.cyc, lant := t.lant, dieRt := t.dieRt, paths := t.paths, ports := t.ports, once := t.once } t ∧
    (∀ m, m ≠ s.lant.path → t.path m = { s.path m with halfPrev := (t.path m).halfPrev, halfNow := (t.path m).halfNow }) ∧
    (∀ m, m ≠ endA s.lant.path → m ≠ endB s.lant.path → t.port m = { s.port m with burst := (t.port m).burst }) ∧
    ∀ e, sameDie { s.die e with deepCyc := (t.die e).deepCyc } (t.die e) ∧ (e ≠ 0 → (t.die e).deepCyc = (s.die e).deepCyc)) ∧
  (∀ (s t : State) (x y : ShotRaw) (i : Instr), i ∈ [Instr.lanternStart, .lanternPairComplete x y] → exec i s = .next t →
    onlyOwn (fun k => ixOf k = 0x2500 ∨ ∃ d, k = K.sup_PWR_STATE d) { s with
      cyc := t.cyc, lant := t.lant, dieRt := t.dieRt, paths := t.paths } t ∧
    (∀ m, m ≠ s.lant.path → t.path m = s.path m) ∧
    ∀ e, sameDie { s.die e with deepCyc := (t.die e).deepCyc } (t.die e) ∧ (e ≠ 0 → (t.die e).deepCyc = (s.die e).deepCyc))

/-- Frames of the chip's own units: guy lines, power, the ember, the kiln log, the die temperature, the loop, GPIO, the
stores, the SRAM banks and security. Each command changes its own object and record. -/
def Obligations.ChipFrames : Prop :=
  (∀ (s t : State) (d n : Nat) (x : Lane) (e : LineEnd) (i : Instr),
    i ∈ [Instr.glFrameStart d x, .glAckToggle d x, .syncAckReceived d e n, .syncDoneReceived d e, .syncFrameRepeat d e,
      .cycCheckSend d] → exec i s = .next t →
    onlyOwn (fun k => ixOf k = 0x2001 + d) { s with lines := t.lines } t ∧ ∀ m, m ≠ d → t.line m = s.line m) ∧
  (∀ (s t : State) (d : Nat), exec (.counterSend d) s = .next t →
    onlyOwn (fun _ => False) { s with lines := t.lines } t ∧
    (∀ e, t.line e = { s.line e with countAt := (t.line e).countAt } ∧ (e ≠ d → t.line e = s.line e)) ∧
    ∀ k, keyDie k ≠ d → t.lag.look 0 k = s.lag.look 0 k) ∧
  (∀ (s t : State) (v a b c p q : Nat) (l : Bool) (i : Instr),
    i ∈ [Instr.allowanceSample v a b c p q l, .governorForced v] → exec i s = .next t →
    onlyOwn (fun k => ixOf k = 0x3000) { s with pow := t.pow } t) ∧
  (∀ (s t : State) (d : Nat), exec (.allowanceDelivered d) s = .next t →
    onlyOwn (fun _ => False) { s with pow := t.pow, dieRt := t.dieRt } t ∧
    (∀ e, e ≠ d → sameDie (s.die e) (t.die e)) ∧
    sameDie { s.die d with allowNext := (t.die d).allowNext } (t.die d)) ∧
  (∀ (s t : State) (d : Nat) (r : Rail) (i : Instr), i ∈ [Instr.railExcursion d r, .railFaultClear d r] →
    exec i s = .next t →
    onlyOwn (fun _ => False) { s with dieRt := t.dieRt } t ∧
    ∀ e, sameDie { s.die e with railMain := (t.die e).railMain, railCore := (t.die e).railCore,
                                mainAt := (t.die e).mainAt, coreAt := (t.die e).coreAt } (t.die e)) ∧
  (∀ (s t : State) (d : Nat) (i : Instr), i ∈ [Instr.coreWait d, .interruptWake d, .wakeComplete d] →
    exec i s = .next t →
    onlyOwn (fun k => k = K.sup_PWR_STATE d ∨ k = K.sup_PWR_REQ 0) { s with dieRt := t.dieRt } t ∧
    ∀ e, e ≠ d → sameDie (s.die e) (t.die e)) ∧
  (∀ (s t : State) (n u : Nat) (h : Bool) (i : Instr),
    i ∈ [Instr.bkcapPor, .supplySwitch n u, .cellDisconnect n, .emberSecondTick n, .wakeAccepted h, .tamperEpisode n h,
      .tamperRearm n h, .oscStopDetect, .correctionPeriodStart, .xchkGateClose n, .emberAccess u, .alarmDelivered,
      .wakeDelivered, .tamperDelivered n, .oscStopDelivered] → exec i s = .next t →
    onlyOwn (fun k => ixOf k = 0x2800) { s with ember := t.ember, lant := t.lant, dieRt := t.dieRt, blobs := t.blobs } t ∧
    t.lant = { s.lant with nextIn := t.lant.nextIn } ∧
    (∀ k, ixOf k ≠ 0x2800 → t.blobs.look [] k = s.blobs.look [] k) ∧
    onlyWakes s t) ∧
  (∀ (s t : State) (d : Nat), exec (.logEntryAccept d) s = .next t →
    onlyOwn (fun k => ixOf k = 0x2C00 ∨ ixOf k = 0x1003 ∨ k = K.dev_EMCY_DROP) { s with
      klog := t.klog, logRead := t.logRead, dropsAt := t.dropsAt, host := t.host, net := t.net, ledger := t.ledger } t ∧
    t.ledger = { s.ledger with log := t.ledger.log, logFrom := t.ledger.logFrom } ∧
    t.host = { s.host with irqFlag := t.host.irqFlag, irqNow := t.host.irqNow }) ∧
  (∀ (s t : State) (d : Nat) (x : Int), exec (.dieTempMeasure d x) s = .next t →
    onlyOwn (fun k => ixOf k = 0x2001 + d) { s with dieRt := t.dieRt } t ∧
    ∀ e, e ≠ d → sameDie (s.die e) (t.die e)) ∧
  (∀ (s t : State) (n : Nat) (i : Instr), i ∈ [Instr.loopSlewMove, .loopMeasure n] → exec i s = .next t →
    onlyOwn (fun k => ixOf k = 0x2900) { s with loop := t.loop } t) ∧
  (∀ (s t : State) (d l : Nat), exec (.gpioInputChange d l) s = .next t →
    onlyOwn (fun k => k = K.die_GP_IN d) s t) ∧
  (∀ (s t : State) (d p : Nat) (i : Instr),
    i ∈ [Instr.gatherWaitExpiry d, .gatherCommitDone d, .partitionLockExpiry d p] → exec i s = .next t →
    onlyOwn (fun k => ixOf k = 0x2B00) { s with stores := t.stores, saved := t.saved, unsaved := t.unsaved } t ∧
    (∀ e, e ≠ d → t.store e = s.store e) ∧ (i ≠ .gatherCommitDone d → t.saved = s.saved ∧ t.unsaved = s.unsaved)) ∧
  (∀ (s t : State) (d n : Nat) (l : List WordErr), exec (.scrubRead d n l) s = .next t →
    onlyOwn (fun k => ixOf k = 0x2B00 ∨ k = K.snap_SNAP_COUNT) { s with
      stores := t.stores, saved := t.saved, bill := t.bill } t ∧
    (∀ e, e ≠ d → t.store e = s.store e) ∧ t.bill = { s.bill with snaps := t.bill.snaps } ∧
    ((objAt d n = none ∨ decodeLine l ≠ .uncorrectable) → t.saved = s.saved ∧ t.bill = s.bill)) ∧
  (∀ (s t : State) (d : Nat) (r : List SramReq) (i : Instr), i ∈ [Instr.sramRequest d r, .sramWriteBack d] →
    exec i s = .next t →
    onlyOwn (fun k => ixOf k = 0x2001 + d) { s with sram := t.sram } t ∧ ∀ e, e ≠ d → t.bank e = s.bank e) ∧
  (∀ (s t : State) (b : Bool) (i : Instr),
    i ∈ [Instr.imgVerifyDone b, .digestRecomputeDone, .attCapture, .attSignDone, .arbFusesDone] → exec i s = .next t →
    onlyOwn (fun k => ixOf k = 0x2D00) { s with sec := t.sec, otp := t.otp } t ∧ t.otp.oemHash = s.otp.oemHash)

/-- Frames of the host window and the network. A window command that runs no access changes the window's record and
wakes D0 at most; the timers and messages of the node change the network's record and wake D0 at most; the error states
CAN_STAT and TEC. A write that a check refuses answers with its abort code and changes nothing else, but for the
security event of a write to a total. -/
def Obligations.AccessFrames : Prop :=
  (∀ (s t : State) (w : Nat) (i : Instr),
    i ∈ [Instr.resetPtr, .odDataWrite w, .odDataRead, .snapCtlWrite w, .cycCapture, .winKeyWrite w, .winKeyExpiry,
      .keyClose] → exec i s = .next t →
    onlyOwn (fun _ => False) { s with host := t.host, dieRt := t.dieRt } t ∧ onlyWakes s t) ∧
  (∀ (s t : State) (n : Nat) (i : Instr),
    i ∈ [Instr.heartbeatReceived n, .heartbeatProduce, .syncWinExpiry, .transmitWindowBoundary, .emcySend,
      .tpdoEventTimer n, .tpdoInhibitEnd n, .sdoTmoExpiry, .sdoUnsupportedRequest] → exec i s = .next t →
    onlyOwn (fun k => k = K.dev_TPDO_LATE ∧ i = .syncWinExpiry) { s with net := t.net, dieRt := t.dieRt } t ∧
    onlyWakes s t) ∧
  (∀ (s t : State) (i : Instr), i ∈ [Instr.canErrorPassive, .canErrorActive, .canBusoffRecovered] →
    exec i s = .next t →
    onlyOwn (fun k => k = K.dev_CAN_STAT ∨ k = K.dev_TEC) { s with net := t.net } t) ∧
  (∀ (s : State) (who : Orig) (i j : Nat) (data : List Nat), s.serving = true → who ≠ .boundary → i < 65536 →
    j < 256 → isBytes data = true → (s.isOpen who = false ∨ i = 0x2A00) →
    s.directCheck who (i * 256 + j) data ≠ 0 →
    yields (exec (.dictWrite who i j data) s) fun t =>
      t.resp = s.directCheck who (i * 256 + j) data ∧
      (isLedgerTarget (i * 256 + j) = false →
        onlyOwn (fun _ => False) { s with resp := t.resp, respData := t.respData } t))
end

