-- ==== Sys2Proof/Laws/Bits.lean ====
section
/-! SUPPORT. The laws of the bit helpers: a bit read after it is set, and every other bit untouched. -/

namespace Sys2Proof.Machine

theorem bitAt_eq_testBit (w n : Nat) : bitAt w n = w.testBit n := by
  simp [bitAt, Nat.testBit_eq_decide_div_mod_eq, beq_eq_decide]

/-- Adding a power of two whose bit is clear sets that bit. -/
theorem add_two_pow_eq_or {w n : Nat} (h : w.testBit n = false) : w + 2 ^ n = w ||| 2 ^ n := by
  have hq : w / 2 ^ n % 2 = 0 := by
    have := h
    rw [Nat.testBit_eq_decide_div_mod_eq] at this
    have h2 := Nat.mod_two_eq_zero_or_one (w / 2 ^ n)
    rcases h2 with h2 | h2
    · exact h2
    · simp [h2] at this
  have hr : w % 2 ^ n < 2 ^ n := Nat.mod_lt _ (Nat.two_pow_pos n)
  have hw : w = 2 ^ (n + 1) * (w / 2 ^ n / 2) + w % 2 ^ n := by
    have h1 := Nat.div_add_mod w (2 ^ n)
    have h2 := Nat.div_add_mod (w / 2 ^ n) 2
    rw [hq] at h2
    have h3 : 2 ^ (n + 1) * (w / 2 ^ n / 2) = 2 ^ n * (w / 2 ^ n) := by
      rw [Nat.pow_succ, Nat.mul_assoc]
      congr 1
    omega
  have h1 : 2 ^ n * 1 + w % 2 ^ n = 2 ^ n * 1 ||| w % 2 ^ n := Nat.two_pow_add_eq_or_of_lt hr 1
  have h2 : 2 ^ n + w % 2 ^ n < 2 ^ (n + 1) := by rw [Nat.pow_succ]; omega
  have h3 : w % 2 ^ n < 2 ^ (n + 1) := by rw [Nat.pow_succ]; omega
  have ha := Nat.two_pow_add_eq_or_of_lt h2 (w / 2 ^ n / 2)
  have hb := Nat.two_pow_add_eq_or_of_lt h3 (w / 2 ^ n / 2)
  rw [Nat.mul_one] at h1
  calc w + 2 ^ n = 2 ^ (n + 1) * (w / 2 ^ n / 2) + (2 ^ n + w % 2 ^ n) := by omega
    _ = 2 ^ (n + 1) * (w / 2 ^ n / 2) ||| (2 ^ n ||| w % 2 ^ n) := by rw [ha, h1]
    _ = (2 ^ (n + 1) * (w / 2 ^ n / 2) ||| w % 2 ^ n) ||| 2 ^ n := by
        rw [Nat.or_comm (2 ^ n), Nat.or_assoc]
    _ = w ||| 2 ^ n := by rw [← hb, ← hw]

/-- A bit reads as it was set. -/
@[simp] theorem bitAt_setBit_same (w n : Nat) (b : Bool) : bitAt (setBit w n b) n = b := by
  unfold setBit
  cases b
  · simp only [Bool.false_eq_true, if_false]
    split
    · next h =>
      rw [bitAt_eq_testBit] at h ⊢
      have hge : 2 ^ n ≤ w := Nat.ge_two_pow_of_testBit h
      have := Nat.testBit_two_pow_add_eq (w - 2 ^ n) n
      rw [show 2 ^ n + (w - 2 ^ n) = w by omega, h] at this
      simpa using this.symm
    · next h => simpa using h
  · simp only [if_true]
    split
    · assumption
    · next h =>
      rw [bitAt_eq_testBit] at h ⊢
      rw [Nat.add_comm, Nat.testBit_two_pow_add_eq]
      simpa using h

/-- Setting a bit leaves every other bit alone. -/
@[simp] theorem bitAt_setBit_ne (w : Nat) {n m : Nat} (b : Bool) (h : m ≠ n) :
    bitAt (setBit w n b) m = bitAt w m := by
  have key : ∀ u : Nat, u.testBit n = false → (u + 2 ^ n).testBit m = u.testBit m := by
    intro u hu
    rw [add_two_pow_eq_or hu, Nat.testBit_or, Nat.testBit_two_pow]
    simp [Ne.symm h]
  unfold setBit
  cases b
  · simp only [Bool.false_eq_true, if_false]
    split
    · next hb =>
      rw [bitAt_eq_testBit] at hb
      rw [bitAt_eq_testBit, bitAt_eq_testBit]
      have hge : 2 ^ n ≤ w := Nat.ge_two_pow_of_testBit hb
      have hu : (w - 2 ^ n).testBit n = false := by
        have := Nat.testBit_two_pow_add_eq (w - 2 ^ n) n
        rw [show 2 ^ n + (w - 2 ^ n) = w by omega, hb] at this
        simpa using this.symm
      have := key (w - 2 ^ n) hu
      rw [show w - 2 ^ n + 2 ^ n = w by omega] at this
      exact this.symm
    · rfl
  · simp only [if_true]
    split
    · rfl
    · next hb =>
      rw [bitAt_eq_testBit] at hb
      rw [bitAt_eq_testBit, bitAt_eq_testBit]
      exact key w (by simpa using hb)

theorem satAt_eq_min (top v : Nat) : satAt top v = min v top := by unfold satAt; split <;> omega

theorem satAt_le (top v : Nat) : satAt top v ≤ top := by unfold satAt; split <;> omega

theorem wrap32_lt (v : Nat) : wrap32 v < two32 := Nat.mod_lt _ (by decide)

end Sys2Proof.Machine
end

