-- ==== Sys2Proof/Laws/Tab.lean ====
section
/-! SUPPORT. The laws of tables: a read after a store, and the canonical form that every store keeps. -/

namespace Sys2Proof.Machine

variable {α : Type}

theorem Tab.look_insertAt_same (t : Tab α) (d : α) (k : Nat) (v : α) : (t.insertAt k v).look d k = v := by
  induction t with
  | nil => simp [Tab.insertAt, Tab.look]
  | cons e r ih =>
    obtain ⟨j, w⟩ := e
    simp only [Tab.insertAt]
    split
    · simp [Tab.look]
    · split
      · simp [Tab.look]
      · next h => simp [Tab.look, ih, Ne.symm h]

theorem Tab.look_insertAt_ne (t : Tab α) (d : α) {k j : Nat} (v : α) (h : j ≠ k) :
    (t.insertAt k v).look d j = t.look d j := by
  induction t with
  | nil => simp [Tab.insertAt, Tab.look, Ne.symm h]
  | cons e r ih =>
    obtain ⟨i, w⟩ := e
    simp only [Tab.insertAt]
    split
    · simp [Tab.look, Ne.symm h]
    · split
      · next e => subst e; simp [Tab.look, Ne.symm h]
      · simp [Tab.look, ih]

theorem Tab.look_erase_same (t : Tab α) (d : α) (k : Nat) : (t.erase k).look d k = d := by
  induction t with
  | nil => rfl
  | cons e r ih =>
    obtain ⟨j, w⟩ := e
    simp only [Tab.erase]
    split
    · exact ih
    · next h => simp [Tab.look, h, ih]

theorem Tab.look_erase_ne (t : Tab α) (d : α) {k j : Nat} (h : j ≠ k) : (t.erase k).look d j = t.look d j := by
  induction t with
  | nil => rfl
  | cons e r ih =>
    obtain ⟨i, w⟩ := e
    simp only [Tab.erase]
    split
    · next hi => subst hi; simp [Tab.look, Ne.symm h, ih]
    · simp [Tab.look, ih]

/-- A read after a store to the same key gives the value stored. -/
@[simp] theorem Tab.look_store_same [DecidableEq α] (t : Tab α) (d : α) (k : Nat) (v : α) : (t.store d k v).look d k = v := by
  unfold Tab.store
  split
  · next h => rw [look_erase_same, h]
  · exact look_insertAt_same t d k v

/-- A store leaves every other key alone. -/
@[simp] theorem Tab.look_store_ne [DecidableEq α] (t : Tab α) (d d' : α) {k j : Nat} (v : α) (h : j ≠ k) :
    (t.store d k v).look d' j = t.look d' j := by
  unfold Tab.store
  split
  · exact look_erase_ne t d' h
  · exact look_insertAt_ne t d' v h

theorem Tab.look_store [DecidableEq α] (t : Tab α) (d : α) (k j : Nat) (v : α) :
    (t.store d k v).look d j = if j = k then v else t.look d j := by
  split
  · next h => subst h; simp
  · next h => simp [h]

-- membership

theorem Tab.mem_insertAt {t : Tab α} {k : Nat} {v : α} {e : Nat × α} (h : e ∈ t.insertAt k v) : e = (k, v) ∨ e ∈ t := by
  induction t with
  | nil => simpa [Tab.insertAt] using h
  | cons a r ih =>
    obtain ⟨j, w⟩ := a
    simp only [Tab.insertAt] at h
    split at h
    · simpa using h
    · split at h
      · rcases List.mem_cons.1 h with h | h
        · exact .inl h
        · exact .inr (List.mem_cons_of_mem _ h)
      · rcases List.mem_cons.1 h with h | h
        · exact .inr (h ▸ List.mem_cons_self)
        · exact (ih h).imp id (List.mem_cons_of_mem _)

theorem Tab.mem_erase {t : Tab α} {k : Nat} {e : Nat × α} (h : e ∈ t.erase k) : e ∈ t := by
  induction t with
  | nil => exact h
  | cons a r ih =>
    obtain ⟨j, w⟩ := a
    simp only [Tab.erase] at h
    split at h
    · exact List.mem_cons_of_mem _ (ih h)
    · rcases List.mem_cons.1 h with h | h
      · exact h ▸ List.mem_cons_self
      · exact List.mem_cons_of_mem _ (ih h)

/-- What a stored table lists is the new pair or was listed before. -/
theorem Tab.mem_store [DecidableEq α] {t : Tab α} {d : α} {k : Nat} {v : α} {e : Nat × α} (h : e ∈ t.store d k v) :
    e = (k, v) ∨ e ∈ t := by
  unfold Tab.store at h
  split at h
  · exact .inr (Tab.mem_erase h)
  · exact Tab.mem_insertAt h

-- the canonical form

theorem Tab.rising_insertAt {t : Tab α} {lo k : Nat} {v : α} (hk : lo ≤ k) (h : Tab.rising lo t = true) :
    Tab.rising lo (t.insertAt k v) = true := by
  induction t generalizing lo with
  | nil => simp [Tab.insertAt, Tab.rising, hk]
  | cons e r ih =>
    obtain ⟨j, w⟩ := e
    simp only [Tab.rising, Bool.and_eq_true, decide_eq_true_eq] at h
    simp only [Tab.insertAt]
    split
    · next hlt => simp only [Tab.rising, Bool.and_eq_true, decide_eq_true_eq]; exact ⟨hk, by omega, h.2⟩
    · split
      · next he => subst he; simp only [Tab.rising, Bool.and_eq_true, decide_eq_true_eq]; exact ⟨hk, h.2⟩
      · next hlt hne =>
        simp only [Tab.rising, Bool.and_eq_true, decide_eq_true_eq]
        exact ⟨h.1, ih (by omega) h.2⟩

theorem Tab.rising_mono {t : Tab α} {lo lo' : Nat} (hl : lo' ≤ lo) (h : Tab.rising lo t = true) :
    Tab.rising lo' t = true := by
  cases t with
  | nil => rfl
  | cons e r =>
    simp only [Tab.rising, Bool.and_eq_true, decide_eq_true_eq] at *
    exact ⟨by omega, h.2⟩

theorem Tab.rising_erase {t : Tab α} {lo k : Nat} (h : Tab.rising lo t = true) : Tab.rising lo (t.erase k) = true := by
  induction t generalizing lo with
  | nil => rfl
  | cons e r ih =>
    obtain ⟨j, w⟩ := e
    simp only [Tab.rising, Bool.and_eq_true, decide_eq_true_eq] at h
    simp only [Tab.erase]
    split
    · exact Tab.rising_mono (by omega) (ih h.2)
    · simp only [Tab.rising, Bool.and_eq_true, decide_eq_true_eq]
      exact ⟨h.1, ih h.2⟩

/-- A store keeps the canonical form. -/
theorem Tab.wf_store [DecidableEq α] {dflt : Nat → α} {t : Tab α} {k : Nat} {v : α} (h : Tab.wf dflt t = true) :
    Tab.wf dflt (t.store (dflt k) k v) = true := by
  simp only [Tab.wf, Bool.and_eq_true, List.all_eq_true, decide_eq_true_eq] at *
  constructor
  · unfold Tab.store
    split
    · exact Tab.rising_erase h.1
    · exact Tab.rising_insertAt (Nat.zero_le _) h.1
  · intro e he
    unfold Tab.store at he
    split at he
    · exact h.2 e (Tab.mem_erase he)
    · next hv =>
      rcases Tab.mem_insertAt he with rfl | he
      · exact hv
      · exact h.2 e he

end Sys2Proof.Machine
end

