-- ==== Sys2Proof/Laws/State.lean ====
section
/-! SUPPORT. What each plain update of the state leaves as it was, field by field, so that no proof unfolds a record
update; and what a record reads as after it is stored. -/

namespace Sys2Proof.Machine

-- setPort

@[simp] theorem State.setPort_dies (s : State) (n : Nat) (r : PortRt) : (s.setPort n r).dies = s.dies := rfl
@[simp] theorem State.setPort_cyc (s : State) (n : Nat) (r : PortRt) : (s.setPort n r).cyc = s.cyc := rfl
@[simp] theorem State.setPort_od (s : State) (n : Nat) (r : PortRt) : (s.setPort n r).od = s.od := rfl
@[simp] theorem State.setPort_led (s : State) (n : Nat) (r : PortRt) : (s.setPort n r).led = s.led := rfl
@[simp] theorem State.setPort_ledger (s : State) (n : Nat) (r : PortRt) : (s.setPort n r).ledger = s.ledger := rfl
@[simp] theorem State.setPort_blobs (s : State) (n : Nat) (r : PortRt) : (s.setPort n r).blobs = s.blobs := rfl
@[simp] theorem State.setPort_lag (s : State) (n : Nat) (r : PortRt) : (s.setPort n r).lag = s.lag := rfl
@[simp] theorem State.setPort_paths (s : State) (n : Nat) (r : PortRt) : (s.setPort n r).paths = s.paths := rfl
@[simp] theorem State.setPort_sects (s : State) (n : Nat) (r : PortRt) : (s.setPort n r).sects = s.sects := rfl
@[simp] theorem State.setPort_chans (s : State) (n : Nat) (r : PortRt) : (s.setPort n r).chans = s.chans := rfl
@[simp] theorem State.setPort_pins (s : State) (n : Nat) (r : PortRt) : (s.setPort n r).pins = s.pins := rfl
@[simp] theorem State.setPort_pulses (s : State) (n : Nat) (r : PortRt) : (s.setPort n r).pulses = s.pulses := rfl
@[simp] theorem State.setPort_dieRt (s : State) (n : Nat) (r : PortRt) : (s.setPort n r).dieRt = s.dieRt := rfl
@[simp] theorem State.setPort_lines (s : State) (n : Nat) (r : PortRt) : (s.setPort n r).lines = s.lines := rfl
@[simp] theorem State.setPort_gpio (s : State) (n : Nat) (r : PortRt) : (s.setPort n r).gpio = s.gpio := rfl
@[simp] theorem State.setPort_stores (s : State) (n : Nat) (r : PortRt) : (s.setPort n r).stores = s.stores := rfl
@[simp] theorem State.setPort_vel (s : State) (n : Nat) (r : PortRt) : (s.setPort n r).vel = s.vel := rfl
@[simp] theorem State.setPort_lant (s : State) (n : Nat) (r : PortRt) : (s.setPort n r).lant = s.lant := rfl
@[simp] theorem State.setPort_pow (s : State) (n : Nat) (r : PortRt) : (s.setPort n r).pow = s.pow := rfl
@[simp] theorem State.setPort_f0 (s : State) (n : Nat) (r : PortRt) : (s.setPort n r).f0 = s.f0 := rfl
@[simp] theorem State.setPort_frameLen (s : State) (n : Nat) (r : PortRt) : (s.setPort n r).frameLen = s.frameLen := rfl
@[simp] theorem State.setPort_frameAt (s : State) (n : Nat) (r : PortRt) : (s.setPort n r).frameAt = s.frameAt := rfl
@[simp] theorem State.setPort_frameSeq (s : State) (n : Nat) (r : PortRt) : (s.setPort n r).frameSeq = s.frameSeq := rfl
@[simp] theorem State.setPort_frameRtc (s : State) (n : Nat) (r : PortRt) : (s.setPort n r).frameRtc = s.frameRtc := rfl
@[simp] theorem State.setPort_lenPend (s : State) (n : Nat) (r : PortRt) : (s.setPort n r).lenPend = s.lenPend := rfl
@[simp] theorem State.setPort_framing (s : State) (n : Nat) (r : PortRt) : (s.setPort n r).framing = s.framing := rfl
@[simp] theorem State.setPort_ready (s : State) (n : Nat) (r : PortRt) : (s.setPort n r).ready = s.ready := rfl
@[simp] theorem State.setPort_halt (s : State) (n : Nat) (r : PortRt) : (s.setPort n r).halt = s.halt := rfl
@[simp] theorem State.setPort_wdWarm (s : State) (n : Nat) (r : PortRt) : (s.setPort n r).wdWarm = s.wdWarm := rfl
@[simp] theorem State.setPort_klog (s : State) (n : Nat) (r : PortRt) : (s.setPort n r).klog = s.klog := rfl
@[simp] theorem State.setPort_logRead (s : State) (n : Nat) (r : PortRt) : (s.setPort n r).logRead = s.logRead := rfl
@[simp] theorem State.setPort_dropsAt (s : State) (n : Nat) (r : PortRt) : (s.setPort n r).dropsAt = s.dropsAt := rfl
@[simp] theorem State.setPort_standing (s : State) (n : Nat) (r : PortRt) : (s.setPort n r).standing = s.standing := rfl
@[simp] theorem State.setPort_once (s : State) (n : Nat) (r : PortRt) : (s.setPort n r).once = s.once := rfl
@[simp] theorem State.setPort_fires (s : State) (n : Nat) (r : PortRt) : (s.setPort n r).fires = s.fires := rfl
@[simp] theorem State.setPort_bill (s : State) (n : Nat) (r : PortRt) : (s.setPort n r).bill = s.bill := rfl
@[simp] theorem State.setPort_ember (s : State) (n : Nat) (r : PortRt) : (s.setPort n r).ember = s.ember := rfl
@[simp] theorem State.setPort_net (s : State) (n : Nat) (r : PortRt) : (s.setPort n r).net = s.net := rfl
@[simp] theorem State.setPort_host (s : State) (n : Nat) (r : PortRt) : (s.setPort n r).host = s.host := rfl
@[simp] theorem State.setPort_loop (s : State) (n : Nat) (r : PortRt) : (s.setPort n r).loop = s.loop := rfl
@[simp] theorem State.setPort_sec (s : State) (n : Nat) (r : PortRt) : (s.setPort n r).sec = s.sec := rfl
@[simp] theorem State.setPort_otp (s : State) (n : Nat) (r : PortRt) : (s.setPort n r).otp = s.otp := rfl
@[simp] theorem State.setPort_sram (s : State) (n : Nat) (r : PortRt) : (s.setPort n r).sram = s.sram := rfl
@[simp] theorem State.setPort_saved (s : State) (n : Nat) (r : PortRt) : (s.setPort n r).saved = s.saved := rfl
@[simp] theorem State.setPort_unsaved (s : State) (n : Nat) (r : PortRt) : (s.setPort n r).unsaved = s.unsaved := rfl
@[simp] theorem State.setPort_resp (s : State) (n : Nat) (r : PortRt) : (s.setPort n r).resp = s.resp := rfl
@[simp] theorem State.setPort_respData (s : State) (n : Nat) (r : PortRt) : (s.setPort n r).respData = s.respData := rfl
@[simp] theorem State.setPort_arbiter (s : State) (n : Nat) (r : PortRt) : (s.setPort n r).arbiter = s.arbiter := rfl
@[simp] theorem State.setPort_pending (s : State) (n : Nat) (r : PortRt) : (s.setPort n r).pending = s.pending := rfl

@[simp] theorem State.setPort_g (s : State) (n : Nat) (r : PortRt) (k : Nat) : (s.setPort n r).g k = s.g k := rfl
@[simp] theorem State.port_setPort (s : State) (n : Nat) (r : PortRt) : (s.setPort n r).port n = r := by
  simp [State.port, State.setPort]
theorem State.port_setPort_ne (s : State) {n m : Nat} (r : PortRt) (h : m ≠ n) : (s.setPort n r).port m = s.port m := by
  simp [State.port, State.setPort, h]
@[simp] theorem State.path_setPort (s : State) (n : Nat) (r : PortRt) (m : Nat) : (s.setPort n r).path m = s.path m := rfl
@[simp] theorem State.sect_setPort (s : State) (n : Nat) (r : PortRt) (m : Nat) : (s.setPort n r).sect m = s.sect m := rfl
@[simp] theorem State.chan_setPort (s : State) (n : Nat) (r : PortRt) (m : Nat) : (s.setPort n r).chan m = s.chan m := rfl
@[simp] theorem State.pin_setPort (s : State) (n : Nat) (r : PortRt) (m : Nat) : (s.setPort n r).pin m = s.pin m := rfl
@[simp] theorem State.pulse_setPort (s : State) (n : Nat) (r : PortRt) (m : Nat) : (s.setPort n r).pulse m = s.pulse m := rfl
@[simp] theorem State.die_setPort (s : State) (n : Nat) (r : PortRt) (m : Nat) : (s.setPort n r).die m = s.die m := rfl
@[simp] theorem State.line_setPort (s : State) (n : Nat) (r : PortRt) (m : Nat) : (s.setPort n r).line m = s.line m := rfl
@[simp] theorem State.store_setPort (s : State) (n : Nat) (r : PortRt) (m : Nat) : (s.setPort n r).store m = s.store m := rfl
@[simp] theorem State.fire_setPort (s : State) (n : Nat) (r : PortRt) (m : Nat) : (s.setPort n r).fire m = s.fire m := rfl
@[simp] theorem State.bank_setPort (s : State) (n : Nat) (r : PortRt) (m : Nat) : (s.setPort n r).bank m = s.bank m := rfl

-- setPath

@[simp] theorem State.setPath_dies (s : State) (n : Nat) (r : PathRt) : (s.setPath n r).dies = s.dies := rfl
@[simp] theorem State.setPath_cyc (s : State) (n : Nat) (r : PathRt) : (s.setPath n r).cyc = s.cyc := rfl
@[simp] theorem State.setPath_od (s : State) (n : Nat) (r : PathRt) : (s.setPath n r).od = s.od := rfl
@[simp] theorem State.setPath_led (s : State) (n : Nat) (r : PathRt) : (s.setPath n r).led = s.led := rfl
@[simp] theorem State.setPath_ledger (s : State) (n : Nat) (r : PathRt) : (s.setPath n r).ledger = s.ledger := rfl
@[simp] theorem State.setPath_blobs (s : State) (n : Nat) (r : PathRt) : (s.setPath n r).blobs = s.blobs := rfl
@[simp] theorem State.setPath_lag (s : State) (n : Nat) (r : PathRt) : (s.setPath n r).lag = s.lag := rfl
@[simp] theorem State.setPath_ports (s : State) (n : Nat) (r : PathRt) : (s.setPath n r).ports = s.ports := rfl
@[simp] theorem State.setPath_sects (s : State) (n : Nat) (r : PathRt) : (s.setPath n r).sects = s.sects := rfl
@[simp] theorem State.setPath_chans (s : State) (n : Nat) (r : PathRt) : (s.setPath n r).chans = s.chans := rfl
@[simp] theorem State.setPath_pins (s : State) (n : Nat) (r : PathRt) : (s.setPath n r).pins = s.pins := rfl
@[simp] theorem State.setPath_pulses (s : State) (n : Nat) (r : PathRt) : (s.setPath n r).pulses = s.pulses := rfl
@[simp] theorem State.setPath_dieRt (s : State) (n : Nat) (r : PathRt) : (s.setPath n r).dieRt = s.dieRt := rfl
@[simp] theorem State.setPath_lines (s : State) (n : Nat) (r : PathRt) : (s.setPath n r).lines = s.lines := rfl
@[simp] theorem State.setPath_gpio (s : State) (n : Nat) (r : PathRt) : (s.setPath n r).gpio = s.gpio := rfl
@[simp] theorem State.setPath_stores (s : State) (n : Nat) (r : PathRt) : (s.setPath n r).stores = s.stores := rfl
@[simp] theorem State.setPath_vel (s : State) (n : Nat) (r : PathRt) : (s.setPath n r).vel = s.vel := rfl
@[simp] theorem State.setPath_lant (s : State) (n : Nat) (r : PathRt) : (s.setPath n r).lant = s.lant := rfl
@[simp] theorem State.setPath_pow (s : State) (n : Nat) (r : PathRt) : (s.setPath n r).pow = s.pow := rfl
@[simp] theorem State.setPath_f0 (s : State) (n : Nat) (r : PathRt) : (s.setPath n r).f0 = s.f0 := rfl
@[simp] theorem State.setPath_frameLen (s : State) (n : Nat) (r : PathRt) : (s.setPath n r).frameLen = s.frameLen := rfl
@[simp] theorem State.setPath_frameAt (s : State) (n : Nat) (r : PathRt) : (s.setPath n r).frameAt = s.frameAt := rfl
@[simp] theorem State.setPath_frameSeq (s : State) (n : Nat) (r : PathRt) : (s.setPath n r).frameSeq = s.frameSeq := rfl
@[simp] theorem State.setPath_frameRtc (s : State) (n : Nat) (r : PathRt) : (s.setPath n r).frameRtc = s.frameRtc := rfl
@[simp] theorem State.setPath_lenPend (s : State) (n : Nat) (r : PathRt) : (s.setPath n r).lenPend = s.lenPend := rfl
@[simp] theorem State.setPath_framing (s : State) (n : Nat) (r : PathRt) : (s.setPath n r).framing = s.framing := rfl
@[simp] theorem State.setPath_ready (s : State) (n : Nat) (r : PathRt) : (s.setPath n r).ready = s.ready := rfl
@[simp] theorem State.setPath_halt (s : State) (n : Nat) (r : PathRt) : (s.setPath n r).halt = s.halt := rfl
@[simp] theorem State.setPath_wdWarm (s : State) (n : Nat) (r : PathRt) : (s.setPath n r).wdWarm = s.wdWarm := rfl
@[simp] theorem State.setPath_klog (s : State) (n : Nat) (r : PathRt) : (s.setPath n r).klog = s.klog := rfl
@[simp] theorem State.setPath_logRead (s : State) (n : Nat) (r : PathRt) : (s.setPath n r).logRead = s.logRead := rfl
@[simp] theorem State.setPath_dropsAt (s : State) (n : Nat) (r : PathRt) : (s.setPath n r).dropsAt = s.dropsAt := rfl
@[simp] theorem State.setPath_standing (s : State) (n : Nat) (r : PathRt) : (s.setPath n r).standing = s.standing := rfl
@[simp] theorem State.setPath_once (s : State) (n : Nat) (r : PathRt) : (s.setPath n r).once = s.once := rfl
@[simp] theorem State.setPath_fires (s : State) (n : Nat) (r : PathRt) : (s.setPath n r).fires = s.fires := rfl
@[simp] theorem State.setPath_bill (s : State) (n : Nat) (r : PathRt) : (s.setPath n r).bill = s.bill := rfl
@[simp] theorem State.setPath_ember (s : State) (n : Nat) (r : PathRt) : (s.setPath n r).ember = s.ember := rfl
@[simp] theorem State.setPath_net (s : State) (n : Nat) (r : PathRt) : (s.setPath n r).net = s.net := rfl
@[simp] theorem State.setPath_host (s : State) (n : Nat) (r : PathRt) : (s.setPath n r).host = s.host := rfl
@[simp] theorem State.setPath_loop (s : State) (n : Nat) (r : PathRt) : (s.setPath n r).loop = s.loop := rfl
@[simp] theorem State.setPath_sec (s : State) (n : Nat) (r : PathRt) : (s.setPath n r).sec = s.sec := rfl
@[simp] theorem State.setPath_otp (s : State) (n : Nat) (r : PathRt) : (s.setPath n r).otp = s.otp := rfl
@[simp] theorem State.setPath_sram (s : State) (n : Nat) (r : PathRt) : (s.setPath n r).sram = s.sram := rfl
@[simp] theorem State.setPath_saved (s : State) (n : Nat) (r : PathRt) : (s.setPath n r).saved = s.saved := rfl
@[simp] theorem State.setPath_unsaved (s : State) (n : Nat) (r : PathRt) : (s.setPath n r).unsaved = s.unsaved := rfl
@[simp] theorem State.setPath_resp (s : State) (n : Nat) (r : PathRt) : (s.setPath n r).resp = s.resp := rfl
@[simp] theorem State.setPath_respData (s : State) (n : Nat) (r : PathRt) : (s.setPath n r).respData = s.respData := rfl
@[simp] theorem State.setPath_arbiter (s : State) (n : Nat) (r : PathRt) : (s.setPath n r).arbiter = s.arbiter := rfl
@[simp] theorem State.setPath_pending (s : State) (n : Nat) (r : PathRt) : (s.setPath n r).pending = s.pending := rfl

@[simp] theorem State.setPath_g (s : State) (n : Nat) (r : PathRt) (k : Nat) : (s.setPath n r).g k = s.g k := rfl
@[simp] theorem State.path_setPath (s : State) (n : Nat) (r : PathRt) : (s.setPath n r).path n = r := by
  simp [State.path, State.setPath]
theorem State.path_setPath_ne (s : State) {n m : Nat} (r : PathRt) (h : m ≠ n) : (s.setPath n r).path m = s.path m := by
  simp [State.path, State.setPath, h]
@[simp] theorem State.port_setPath (s : State) (n : Nat) (r : PathRt) (m : Nat) : (s.setPath n r).port m = s.port m := rfl
@[simp] theorem State.sect_setPath (s : State) (n : Nat) (r : PathRt) (m : Nat) : (s.setPath n r).sect m = s.sect m := rfl
@[simp] theorem State.chan_setPath (s : State) (n : Nat) (r : PathRt) (m : Nat) : (s.setPath n r).chan m = s.chan m := rfl
@[simp] theorem State.pin_setPath (s : State) (n : Nat) (r : PathRt) (m : Nat) : (s.setPath n r).pin m = s.pin m := rfl
@[simp] theorem State.pulse_setPath (s : State) (n : Nat) (r : PathRt) (m : Nat) : (s.setPath n r).pulse m = s.pulse m := rfl
@[simp] theorem State.die_setPath (s : State) (n : Nat) (r : PathRt) (m : Nat) : (s.setPath n r).die m = s.die m := rfl
@[simp] theorem State.line_setPath (s : State) (n : Nat) (r : PathRt) (m : Nat) : (s.setPath n r).line m = s.line m := rfl
@[simp] theorem State.store_setPath (s : State) (n : Nat) (r : PathRt) (m : Nat) : (s.setPath n r).store m = s.store m := rfl
@[simp] theorem State.fire_setPath (s : State) (n : Nat) (r : PathRt) (m : Nat) : (s.setPath n r).fire m = s.fire m := rfl
@[simp] theorem State.bank_setPath (s : State) (n : Nat) (r : PathRt) (m : Nat) : (s.setPath n r).bank m = s.bank m := rfl

-- setSect

@[simp] theorem State.setSect_dies (s : State) (n : Nat) (r : SectRt) : (s.setSect n r).dies = s.dies := rfl
@[simp] theorem State.setSect_cyc (s : State) (n : Nat) (r : SectRt) : (s.setSect n r).cyc = s.cyc := rfl
@[simp] theorem State.setSect_od (s : State) (n : Nat) (r : SectRt) : (s.setSect n r).od = s.od := rfl
@[simp] theorem State.setSect_led (s : State) (n : Nat) (r : SectRt) : (s.setSect n r).led = s.led := rfl
@[simp] theorem State.setSect_ledger (s : State) (n : Nat) (r : SectRt) : (s.setSect n r).ledger = s.ledger := rfl
@[simp] theorem State.setSect_blobs (s : State) (n : Nat) (r : SectRt) : (s.setSect n r).blobs = s.blobs := rfl
@[simp] theorem State.setSect_lag (s : State) (n : Nat) (r : SectRt) : (s.setSect n r).lag = s.lag := rfl
@[simp] theorem State.setSect_ports (s : State) (n : Nat) (r : SectRt) : (s.setSect n r).ports = s.ports := rfl
@[simp] theorem State.setSect_paths (s : State) (n : Nat) (r : SectRt) : (s.setSect n r).paths = s.paths := rfl
@[simp] theorem State.setSect_chans (s : State) (n : Nat) (r : SectRt) : (s.setSect n r).chans = s.chans := rfl
@[simp] theorem State.setSect_pins (s : State) (n : Nat) (r : SectRt) : (s.setSect n r).pins = s.pins := rfl
@[simp] theorem State.setSect_pulses (s : State) (n : Nat) (r : SectRt) : (s.setSect n r).pulses = s.pulses := rfl
@[simp] theorem State.setSect_dieRt (s : State) (n : Nat) (r : SectRt) : (s.setSect n r).dieRt = s.dieRt := rfl
@[simp] theorem State.setSect_lines (s : State) (n : Nat) (r : SectRt) : (s.setSect n r).lines = s.lines := rfl
@[simp] theorem State.setSect_gpio (s : State) (n : Nat) (r : SectRt) : (s.setSect n r).gpio = s.gpio := rfl
@[simp] theorem State.setSect_stores (s : State) (n : Nat) (r : SectRt) : (s.setSect n r).stores = s.stores := rfl
@[simp] theorem State.setSect_vel (s : State) (n : Nat) (r : SectRt) : (s.setSect n r).vel = s.vel := rfl
@[simp] theorem State.setSect_lant (s : State) (n : Nat) (r : SectRt) : (s.setSect n r).lant = s.lant := rfl
@[simp] theorem State.setSect_pow (s : State) (n : Nat) (r : SectRt) : (s.setSect n r).pow = s.pow := rfl
@[simp] theorem State.setSect_f0 (s : State) (n : Nat) (r : SectRt) : (s.setSect n r).f0 = s.f0 := rfl
@[simp] theorem State.setSect_frameLen (s : State) (n : Nat) (r : SectRt) : (s.setSect n r).frameLen = s.frameLen := rfl
@[simp] theorem State.setSect_frameAt (s : State) (n : Nat) (r : SectRt) : (s.setSect n r).frameAt = s.frameAt := rfl
@[simp] theorem State.setSect_frameSeq (s : State) (n : Nat) (r : SectRt) : (s.setSect n r).frameSeq = s.frameSeq := rfl
@[simp] theorem State.setSect_frameRtc (s : State) (n : Nat) (r : SectRt) : (s.setSect n r).frameRtc = s.frameRtc := rfl
@[simp] theorem State.setSect_lenPend (s : State) (n : Nat) (r : SectRt) : (s.setSect n r).lenPend = s.lenPend := rfl
@[simp] theorem State.setSect_framing (s : State) (n : Nat) (r : SectRt) : (s.setSect n r).framing = s.framing := rfl
@[simp] theorem State.setSect_ready (s : State) (n : Nat) (r : SectRt) : (s.setSect n r).ready = s.ready := rfl
@[simp] theorem State.setSect_halt (s : State) (n : Nat) (r : SectRt) : (s.setSect n r).halt = s.halt := rfl
@[simp] theorem State.setSect_wdWarm (s : State) (n : Nat) (r : SectRt) : (s.setSect n r).wdWarm = s.wdWarm := rfl
@[simp] theorem State.setSect_klog (s : State) (n : Nat) (r : SectRt) : (s.setSect n r).klog = s.klog := rfl
@[simp] theorem State.setSect_logRead (s : State) (n : Nat) (r : SectRt) : (s.setSect n r).logRead = s.logRead := rfl
@[simp] theorem State.setSect_dropsAt (s : State) (n : Nat) (r : SectRt) : (s.setSect n r).dropsAt = s.dropsAt := rfl
@[simp] theorem State.setSect_standing (s : State) (n : Nat) (r : SectRt) : (s.setSect n r).standing = s.standing := rfl
@[simp] theorem State.setSect_once (s : State) (n : Nat) (r : SectRt) : (s.setSect n r).once = s.once := rfl
@[simp] theorem State.setSect_fires (s : State) (n : Nat) (r : SectRt) : (s.setSect n r).fires = s.fires := rfl
@[simp] theorem State.setSect_bill (s : State) (n : Nat) (r : SectRt) : (s.setSect n r).bill = s.bill := rfl
@[simp] theorem State.setSect_ember (s : State) (n : Nat) (r : SectRt) : (s.setSect n r).ember = s.ember := rfl
@[simp] theorem State.setSect_net (s : State) (n : Nat) (r : SectRt) : (s.setSect n r).net = s.net := rfl
@[simp] theorem State.setSect_host (s : State) (n : Nat) (r : SectRt) : (s.setSect n r).host = s.host := rfl
@[simp] theorem State.setSect_loop (s : State) (n : Nat) (r : SectRt) : (s.setSect n r).loop = s.loop := rfl
@[simp] theorem State.setSect_sec (s : State) (n : Nat) (r : SectRt) : (s.setSect n r).sec = s.sec := rfl
@[simp] theorem State.setSect_otp (s : State) (n : Nat) (r : SectRt) : (s.setSect n r).otp = s.otp := rfl
@[simp] theorem State.setSect_sram (s : State) (n : Nat) (r : SectRt) : (s.setSect n r).sram = s.sram := rfl
@[simp] theorem State.setSect_saved (s : State) (n : Nat) (r : SectRt) : (s.setSect n r).saved = s.saved := rfl
@[simp] theorem State.setSect_unsaved (s : State) (n : Nat) (r : SectRt) : (s.setSect n r).unsaved = s.unsaved := rfl
@[simp] theorem State.setSect_resp (s : State) (n : Nat) (r : SectRt) : (s.setSect n r).resp = s.resp := rfl
@[simp] theorem State.setSect_respData (s : State) (n : Nat) (r : SectRt) : (s.setSect n r).respData = s.respData := rfl
@[simp] theorem State.setSect_arbiter (s : State) (n : Nat) (r : SectRt) : (s.setSect n r).arbiter = s.arbiter := rfl
@[simp] theorem State.setSect_pending (s : State) (n : Nat) (r : SectRt) : (s.setSect n r).pending = s.pending := rfl

@[simp] theorem State.setSect_g (s : State) (n : Nat) (r : SectRt) (k : Nat) : (s.setSect n r).g k = s.g k := rfl
@[simp] theorem State.sect_setSect (s : State) (n : Nat) (r : SectRt) : (s.setSect n r).sect n = r := by
  simp [State.sect, State.setSect]
theorem State.sect_setSect_ne (s : State) {n m : Nat} (r : SectRt) (h : m ≠ n) : (s.setSect n r).sect m = s.sect m := by
  simp [State.sect, State.setSect, h]
@[simp] theorem State.port_setSect (s : State) (n : Nat) (r : SectRt) (m : Nat) : (s.setSect n r).port m = s.port m := rfl
@[simp] theorem State.path_setSect (s : State) (n : Nat) (r : SectRt) (m : Nat) : (s.setSect n r).path m = s.path m := rfl
@[simp] theorem State.chan_setSect (s : State) (n : Nat) (r : SectRt) (m : Nat) : (s.setSect n r).chan m = s.chan m := rfl
@[simp] theorem State.pin_setSect (s : State) (n : Nat) (r : SectRt) (m : Nat) : (s.setSect n r).pin m = s.pin m := rfl
@[simp] theorem State.pulse_setSect (s : State) (n : Nat) (r : SectRt) (m : Nat) : (s.setSect n r).pulse m = s.pulse m := rfl
@[simp] theorem State.die_setSect (s : State) (n : Nat) (r : SectRt) (m : Nat) : (s.setSect n r).die m = s.die m := rfl
@[simp] theorem State.line_setSect (s : State) (n : Nat) (r : SectRt) (m : Nat) : (s.setSect n r).line m = s.line m := rfl
@[simp] theorem State.store_setSect (s : State) (n : Nat) (r : SectRt) (m : Nat) : (s.setSect n r).store m = s.store m := rfl
@[simp] theorem State.fire_setSect (s : State) (n : Nat) (r : SectRt) (m : Nat) : (s.setSect n r).fire m = s.fire m := rfl
@[simp] theorem State.bank_setSect (s : State) (n : Nat) (r : SectRt) (m : Nat) : (s.setSect n r).bank m = s.bank m := rfl

-- setChan

@[simp] theorem State.setChan_dies (s : State) (n : Nat) (r : ChanRt) : (s.setChan n r).dies = s.dies := rfl
@[simp] theorem State.setChan_cyc (s : State) (n : Nat) (r : ChanRt) : (s.setChan n r).cyc = s.cyc := rfl
@[simp] theorem State.setChan_od (s : State) (n : Nat) (r : ChanRt) : (s.setChan n r).od = s.od := rfl
@[simp] theorem State.setChan_led (s : State) (n : Nat) (r : ChanRt) : (s.setChan n r).led = s.led := rfl
@[simp] theorem State.setChan_ledger (s : State) (n : Nat) (r : ChanRt) : (s.setChan n r).ledger = s.ledger := rfl
@[simp] theorem State.setChan_blobs (s : State) (n : Nat) (r : ChanRt) : (s.setChan n r).blobs = s.blobs := rfl
@[simp] theorem State.setChan_lag (s : State) (n : Nat) (r : ChanRt) : (s.setChan n r).lag = s.lag := rfl
@[simp] theorem State.setChan_ports (s : State) (n : Nat) (r : ChanRt) : (s.setChan n r).ports = s.ports := rfl
@[simp] theorem State.setChan_paths (s : State) (n : Nat) (r : ChanRt) : (s.setChan n r).paths = s.paths := rfl
@[simp] theorem State.setChan_sects (s : State) (n : Nat) (r : ChanRt) : (s.setChan n r).sects = s.sects := rfl
@[simp] theorem State.setChan_pins (s : State) (n : Nat) (r : ChanRt) : (s.setChan n r).pins = s.pins := rfl
@[simp] theorem State.setChan_pulses (s : State) (n : Nat) (r : ChanRt) : (s.setChan n r).pulses = s.pulses := rfl
@[simp] theorem State.setChan_dieRt (s : State) (n : Nat) (r : ChanRt) : (s.setChan n r).dieRt = s.dieRt := rfl
@[simp] theorem State.setChan_lines (s : State) (n : Nat) (r : ChanRt) : (s.setChan n r).lines = s.lines := rfl
@[simp] theorem State.setChan_gpio (s : State) (n : Nat) (r : ChanRt) : (s.setChan n r).gpio = s.gpio := rfl
@[simp] theorem State.setChan_stores (s : State) (n : Nat) (r : ChanRt) : (s.setChan n r).stores = s.stores := rfl
@[simp] theorem State.setChan_vel (s : State) (n : Nat) (r : ChanRt) : (s.setChan n r).vel = s.vel := rfl
@[simp] theorem State.setChan_lant (s : State) (n : Nat) (r : ChanRt) : (s.setChan n r).lant = s.lant := rfl
@[simp] theorem State.setChan_pow (s : State) (n : Nat) (r : ChanRt) : (s.setChan n r).pow = s.pow := rfl
@[simp] theorem State.setChan_f0 (s : State) (n : Nat) (r : ChanRt) : (s.setChan n r).f0 = s.f0 := rfl
@[simp] theorem State.setChan_frameLen (s : State) (n : Nat) (r : ChanRt) : (s.setChan n r).frameLen = s.frameLen := rfl
@[simp] theorem State.setChan_frameAt (s : State) (n : Nat) (r : ChanRt) : (s.setChan n r).frameAt = s.frameAt := rfl
@[simp] theorem State.setChan_frameSeq (s : State) (n : Nat) (r : ChanRt) : (s.setChan n r).frameSeq = s.frameSeq := rfl
@[simp] theorem State.setChan_frameRtc (s : State) (n : Nat) (r : ChanRt) : (s.setChan n r).frameRtc = s.frameRtc := rfl
@[simp] theorem State.setChan_lenPend (s : State) (n : Nat) (r : ChanRt) : (s.setChan n r).lenPend = s.lenPend := rfl
@[simp] theorem State.setChan_framing (s : State) (n : Nat) (r : ChanRt) : (s.setChan n r).framing = s.framing := rfl
@[simp] theorem State.setChan_ready (s : State) (n : Nat) (r : ChanRt) : (s.setChan n r).ready = s.ready := rfl
@[simp] theorem State.setChan_halt (s : State) (n : Nat) (r : ChanRt) : (s.setChan n r).halt = s.halt := rfl
@[simp] theorem State.setChan_wdWarm (s : State) (n : Nat) (r : ChanRt) : (s.setChan n r).wdWarm = s.wdWarm := rfl
@[simp] theorem State.setChan_klog (s : State) (n : Nat) (r : ChanRt) : (s.setChan n r).klog = s.klog := rfl
@[simp] theorem State.setChan_logRead (s : State) (n : Nat) (r : ChanRt) : (s.setChan n r).logRead = s.logRead := rfl
@[simp] theorem State.setChan_dropsAt (s : State) (n : Nat) (r : ChanRt) : (s.setChan n r).dropsAt = s.dropsAt := rfl
@[simp] theorem State.setChan_standing (s : State) (n : Nat) (r : ChanRt) : (s.setChan n r).standing = s.standing := rfl
@[simp] theorem State.setChan_once (s : State) (n : Nat) (r : ChanRt) : (s.setChan n r).once = s.once := rfl
@[simp] theorem State.setChan_fires (s : State) (n : Nat) (r : ChanRt) : (s.setChan n r).fires = s.fires := rfl
@[simp] theorem State.setChan_bill (s : State) (n : Nat) (r : ChanRt) : (s.setChan n r).bill = s.bill := rfl
@[simp] theorem State.setChan_ember (s : State) (n : Nat) (r : ChanRt) : (s.setChan n r).ember = s.ember := rfl
@[simp] theorem State.setChan_net (s : State) (n : Nat) (r : ChanRt) : (s.setChan n r).net = s.net := rfl
@[simp] theorem State.setChan_host (s : State) (n : Nat) (r : ChanRt) : (s.setChan n r).host = s.host := rfl
@[simp] theorem State.setChan_loop (s : State) (n : Nat) (r : ChanRt) : (s.setChan n r).loop = s.loop := rfl
@[simp] theorem State.setChan_sec (s : State) (n : Nat) (r : ChanRt) : (s.setChan n r).sec = s.sec := rfl
@[simp] theorem State.setChan_otp (s : State) (n : Nat) (r : ChanRt) : (s.setChan n r).otp = s.otp := rfl
@[simp] theorem State.setChan_sram (s : State) (n : Nat) (r : ChanRt) : (s.setChan n r).sram = s.sram := rfl
@[simp] theorem State.setChan_saved (s : State) (n : Nat) (r : ChanRt) : (s.setChan n r).saved = s.saved := rfl
@[simp] theorem State.setChan_unsaved (s : State) (n : Nat) (r : ChanRt) : (s.setChan n r).unsaved = s.unsaved := rfl
@[simp] theorem State.setChan_resp (s : State) (n : Nat) (r : ChanRt) : (s.setChan n r).resp = s.resp := rfl
@[simp] theorem State.setChan_respData (s : State) (n : Nat) (r : ChanRt) : (s.setChan n r).respData = s.respData := rfl
@[simp] theorem State.setChan_arbiter (s : State) (n : Nat) (r : ChanRt) : (s.setChan n r).arbiter = s.arbiter := rfl
@[simp] theorem State.setChan_pending (s : State) (n : Nat) (r : ChanRt) : (s.setChan n r).pending = s.pending := rfl

@[simp] theorem State.setChan_g (s : State) (n : Nat) (r : ChanRt) (k : Nat) : (s.setChan n r).g k = s.g k := rfl
@[simp] theorem State.chan_setChan (s : State) (n : Nat) (r : ChanRt) : (s.setChan n r).chan n = r := by
  simp [State.chan, State.setChan]
theorem State.chan_setChan_ne (s : State) {n m : Nat} (r : ChanRt) (h : m ≠ n) : (s.setChan n r).chan m = s.chan m := by
  simp [State.chan, State.setChan, h]
@[simp] theorem State.port_setChan (s : State) (n : Nat) (r : ChanRt) (m : Nat) : (s.setChan n r).port m = s.port m := rfl
@[simp] theorem State.path_setChan (s : State) (n : Nat) (r : ChanRt) (m : Nat) : (s.setChan n r).path m = s.path m := rfl
@[simp] theorem State.sect_setChan (s : State) (n : Nat) (r : ChanRt) (m : Nat) : (s.setChan n r).sect m = s.sect m := rfl
@[simp] theorem State.pin_setChan (s : State) (n : Nat) (r : ChanRt) (m : Nat) : (s.setChan n r).pin m = s.pin m := rfl
@[simp] theorem State.pulse_setChan (s : State) (n : Nat) (r : ChanRt) (m : Nat) : (s.setChan n r).pulse m = s.pulse m := rfl
@[simp] theorem State.die_setChan (s : State) (n : Nat) (r : ChanRt) (m : Nat) : (s.setChan n r).die m = s.die m := rfl
@[simp] theorem State.line_setChan (s : State) (n : Nat) (r : ChanRt) (m : Nat) : (s.setChan n r).line m = s.line m := rfl
@[simp] theorem State.store_setChan (s : State) (n : Nat) (r : ChanRt) (m : Nat) : (s.setChan n r).store m = s.store m := rfl
@[simp] theorem State.fire_setChan (s : State) (n : Nat) (r : ChanRt) (m : Nat) : (s.setChan n r).fire m = s.fire m := rfl
@[simp] theorem State.bank_setChan (s : State) (n : Nat) (r : ChanRt) (m : Nat) : (s.setChan n r).bank m = s.bank m := rfl

-- setPin

@[simp] theorem State.setPin_dies (s : State) (n : Nat) (r : PinRt) : (s.setPin n r).dies = s.dies := rfl
@[simp] theorem State.setPin_cyc (s : State) (n : Nat) (r : PinRt) : (s.setPin n r).cyc = s.cyc := rfl
@[simp] theorem State.setPin_od (s : State) (n : Nat) (r : PinRt) : (s.setPin n r).od = s.od := rfl
@[simp] theorem State.setPin_led (s : State) (n : Nat) (r : PinRt) : (s.setPin n r).led = s.led := rfl
@[simp] theorem State.setPin_ledger (s : State) (n : Nat) (r : PinRt) : (s.setPin n r).ledger = s.ledger := rfl
@[simp] theorem State.setPin_blobs (s : State) (n : Nat) (r : PinRt) : (s.setPin n r).blobs = s.blobs := rfl
@[simp] theorem State.setPin_lag (s : State) (n : Nat) (r : PinRt) : (s.setPin n r).lag = s.lag := rfl
@[simp] theorem State.setPin_ports (s : State) (n : Nat) (r : PinRt) : (s.setPin n r).ports = s.ports := rfl
@[simp] theorem State.setPin_paths (s : State) (n : Nat) (r : PinRt) : (s.setPin n r).paths = s.paths := rfl
@[simp] theorem State.setPin_sects (s : State) (n : Nat) (r : PinRt) : (s.setPin n r).sects = s.sects := rfl
@[simp] theorem State.setPin_chans (s : State) (n : Nat) (r : PinRt) : (s.setPin n r).chans = s.chans := rfl
@[simp] theorem State.setPin_pulses (s : State) (n : Nat) (r : PinRt) : (s.setPin n r).pulses = s.pulses := rfl
@[simp] theorem State.setPin_dieRt (s : State) (n : Nat) (r : PinRt) : (s.setPin n r).dieRt = s.dieRt := rfl
@[simp] theorem State.setPin_lines (s : State) (n : Nat) (r : PinRt) : (s.setPin n r).lines = s.lines := rfl
@[simp] theorem State.setPin_gpio (s : State) (n : Nat) (r : PinRt) : (s.setPin n r).gpio = s.gpio := rfl
@[simp] theorem State.setPin_stores (s : State) (n : Nat) (r : PinRt) : (s.setPin n r).stores = s.stores := rfl
@[simp] theorem State.setPin_vel (s : State) (n : Nat) (r : PinRt) : (s.setPin n r).vel = s.vel := rfl
@[simp] theorem State.setPin_lant (s : State) (n : Nat) (r : PinRt) : (s.setPin n r).lant = s.lant := rfl
@[simp] theorem State.setPin_pow (s : State) (n : Nat) (r : PinRt) : (s.setPin n r).pow = s.pow := rfl
@[simp] theorem State.setPin_f0 (s : State) (n : Nat) (r : PinRt) : (s.setPin n r).f0 = s.f0 := rfl
@[simp] theorem State.setPin_frameLen (s : State) (n : Nat) (r : PinRt) : (s.setPin n r).frameLen = s.frameLen := rfl
@[simp] theorem State.setPin_frameAt (s : State) (n : Nat) (r : PinRt) : (s.setPin n r).frameAt = s.frameAt := rfl
@[simp] theorem State.setPin_frameSeq (s : State) (n : Nat) (r : PinRt) : (s.setPin n r).frameSeq = s.frameSeq := rfl
@[simp] theorem State.setPin_frameRtc (s : State) (n : Nat) (r : PinRt) : (s.setPin n r).frameRtc = s.frameRtc := rfl
@[simp] theorem State.setPin_lenPend (s : State) (n : Nat) (r : PinRt) : (s.setPin n r).lenPend = s.lenPend := rfl
@[simp] theorem State.setPin_framing (s : State) (n : Nat) (r : PinRt) : (s.setPin n r).framing = s.framing := rfl
@[simp] theorem State.setPin_ready (s : State) (n : Nat) (r : PinRt) : (s.setPin n r).ready = s.ready := rfl
@[simp] theorem State.setPin_halt (s : State) (n : Nat) (r : PinRt) : (s.setPin n r).halt = s.halt := rfl
@[simp] theorem State.setPin_wdWarm (s : State) (n : Nat) (r : PinRt) : (s.setPin n r).wdWarm = s.wdWarm := rfl
@[simp] theorem State.setPin_klog (s : State) (n : Nat) (r : PinRt) : (s.setPin n r).klog = s.klog := rfl
@[simp] theorem State.setPin_logRead (s : State) (n : Nat) (r : PinRt) : (s.setPin n r).logRead = s.logRead := rfl
@[simp] theorem State.setPin_dropsAt (s : State) (n : Nat) (r : PinRt) : (s.setPin n r).dropsAt = s.dropsAt := rfl
@[simp] theorem State.setPin_standing (s : State) (n : Nat) (r : PinRt) : (s.setPin n r).standing = s.standing := rfl
@[simp] theorem State.setPin_once (s : State) (n : Nat) (r : PinRt) : (s.setPin n r).once = s.once := rfl
@[simp] theorem State.setPin_fires (s : State) (n : Nat) (r : PinRt) : (s.setPin n r).fires = s.fires := rfl
@[simp] theorem State.setPin_bill (s : State) (n : Nat) (r : PinRt) : (s.setPin n r).bill = s.bill := rfl
@[simp] theorem State.setPin_ember (s : State) (n : Nat) (r : PinRt) : (s.setPin n r).ember = s.ember := rfl
@[simp] theorem State.setPin_net (s : State) (n : Nat) (r : PinRt) : (s.setPin n r).net = s.net := rfl
@[simp] theorem State.setPin_host (s : State) (n : Nat) (r : PinRt) : (s.setPin n r).host = s.host := rfl
@[simp] theorem State.setPin_loop (s : State) (n : Nat) (r : PinRt) : (s.setPin n r).loop = s.loop := rfl
@[simp] theorem State.setPin_sec (s : State) (n : Nat) (r : PinRt) : (s.setPin n r).sec = s.sec := rfl
@[simp] theorem State.setPin_otp (s : State) (n : Nat) (r : PinRt) : (s.setPin n r).otp = s.otp := rfl
@[simp] theorem State.setPin_sram (s : State) (n : Nat) (r : PinRt) : (s.setPin n r).sram = s.sram := rfl
@[simp] theorem State.setPin_saved (s : State) (n : Nat) (r : PinRt) : (s.setPin n r).saved = s.saved := rfl
@[simp] theorem State.setPin_unsaved (s : State) (n : Nat) (r : PinRt) : (s.setPin n r).unsaved = s.unsaved := rfl
@[simp] theorem State.setPin_resp (s : State) (n : Nat) (r : PinRt) : (s.setPin n r).resp = s.resp := rfl
@[simp] theorem State.setPin_respData (s : State) (n : Nat) (r : PinRt) : (s.setPin n r).respData = s.respData := rfl
@[simp] theorem State.setPin_arbiter (s : State) (n : Nat) (r : PinRt) : (s.setPin n r).arbiter = s.arbiter := rfl
@[simp] theorem State.setPin_pending (s : State) (n : Nat) (r : PinRt) : (s.setPin n r).pending = s.pending := rfl

@[simp] theorem State.setPin_g (s : State) (n : Nat) (r : PinRt) (k : Nat) : (s.setPin n r).g k = s.g k := rfl
@[simp] theorem State.pin_setPin (s : State) (n : Nat) (r : PinRt) : (s.setPin n r).pin n = r := by
  simp [State.pin, State.setPin]
theorem State.pin_setPin_ne (s : State) {n m : Nat} (r : PinRt) (h : m ≠ n) : (s.setPin n r).pin m = s.pin m := by
  simp [State.pin, State.setPin, h]
@[simp] theorem State.port_setPin (s : State) (n : Nat) (r : PinRt) (m : Nat) : (s.setPin n r).port m = s.port m := rfl
@[simp] theorem State.path_setPin (s : State) (n : Nat) (r : PinRt) (m : Nat) : (s.setPin n r).path m = s.path m := rfl
@[simp] theorem State.sect_setPin (s : State) (n : Nat) (r : PinRt) (m : Nat) : (s.setPin n r).sect m = s.sect m := rfl
@[simp] theorem State.chan_setPin (s : State) (n : Nat) (r : PinRt) (m : Nat) : (s.setPin n r).chan m = s.chan m := rfl
@[simp] theorem State.pulse_setPin (s : State) (n : Nat) (r : PinRt) (m : Nat) : (s.setPin n r).pulse m = s.pulse m := rfl
@[simp] theorem State.die_setPin (s : State) (n : Nat) (r : PinRt) (m : Nat) : (s.setPin n r).die m = s.die m := rfl
@[simp] theorem State.line_setPin (s : State) (n : Nat) (r : PinRt) (m : Nat) : (s.setPin n r).line m = s.line m := rfl
@[simp] theorem State.store_setPin (s : State) (n : Nat) (r : PinRt) (m : Nat) : (s.setPin n r).store m = s.store m := rfl
@[simp] theorem State.fire_setPin (s : State) (n : Nat) (r : PinRt) (m : Nat) : (s.setPin n r).fire m = s.fire m := rfl
@[simp] theorem State.bank_setPin (s : State) (n : Nat) (r : PinRt) (m : Nat) : (s.setPin n r).bank m = s.bank m := rfl

-- setPulse

@[simp] theorem State.setPulse_dies (s : State) (n : Nat) (r : PulseRt) : (s.setPulse n r).dies = s.dies := rfl
@[simp] theorem State.setPulse_cyc (s : State) (n : Nat) (r : PulseRt) : (s.setPulse n r).cyc = s.cyc := rfl
@[simp] theorem State.setPulse_od (s : State) (n : Nat) (r : PulseRt) : (s.setPulse n r).od = s.od := rfl
@[simp] theorem State.setPulse_led (s : State) (n : Nat) (r : PulseRt) : (s.setPulse n r).led = s.led := rfl
@[simp] theorem State.setPulse_ledger (s : State) (n : Nat) (r : PulseRt) : (s.setPulse n r).ledger = s.ledger := rfl
@[simp] theorem State.setPulse_blobs (s : State) (n : Nat) (r : PulseRt) : (s.setPulse n r).blobs = s.blobs := rfl
@[simp] theorem State.setPulse_lag (s : State) (n : Nat) (r : PulseRt) : (s.setPulse n r).lag = s.lag := rfl
@[simp] theorem State.setPulse_ports (s : State) (n : Nat) (r : PulseRt) : (s.setPulse n r).ports = s.ports := rfl
@[simp] theorem State.setPulse_paths (s : State) (n : Nat) (r : PulseRt) : (s.setPulse n r).paths = s.paths := rfl
@[simp] theorem State.setPulse_sects (s : State) (n : Nat) (r : PulseRt) : (s.setPulse n r).sects = s.sects := rfl
@[simp] theorem State.setPulse_chans (s : State) (n : Nat) (r : PulseRt) : (s.setPulse n r).chans = s.chans := rfl
@[simp] theorem State.setPulse_pins (s : State) (n : Nat) (r : PulseRt) : (s.setPulse n r).pins = s.pins := rfl
@[simp] theorem State.setPulse_dieRt (s : State) (n : Nat) (r : PulseRt) : (s.setPulse n r).dieRt = s.dieRt := rfl
@[simp] theorem State.setPulse_lines (s : State) (n : Nat) (r : PulseRt) : (s.setPulse n r).lines = s.lines := rfl
@[simp] theorem State.setPulse_gpio (s : State) (n : Nat) (r : PulseRt) : (s.setPulse n r).gpio = s.gpio := rfl
@[simp] theorem State.setPulse_stores (s : State) (n : Nat) (r : PulseRt) : (s.setPulse n r).stores = s.stores := rfl
@[simp] theorem State.setPulse_vel (s : State) (n : Nat) (r : PulseRt) : (s.setPulse n r).vel = s.vel := rfl
@[simp] theorem State.setPulse_lant (s : State) (n : Nat) (r : PulseRt) : (s.setPulse n r).lant = s.lant := rfl
@[simp] theorem State.setPulse_pow (s : State) (n : Nat) (r : PulseRt) : (s.setPulse n r).pow = s.pow := rfl
@[simp] theorem State.setPulse_f0 (s : State) (n : Nat) (r : PulseRt) : (s.setPulse n r).f0 = s.f0 := rfl
@[simp] theorem State.setPulse_frameLen (s : State) (n : Nat) (r : PulseRt) : (s.setPulse n r).frameLen = s.frameLen := rfl
@[simp] theorem State.setPulse_frameAt (s : State) (n : Nat) (r : PulseRt) : (s.setPulse n r).frameAt = s.frameAt := rfl
@[simp] theorem State.setPulse_frameSeq (s : State) (n : Nat) (r : PulseRt) : (s.setPulse n r).frameSeq = s.frameSeq := rfl
@[simp] theorem State.setPulse_frameRtc (s : State) (n : Nat) (r : PulseRt) : (s.setPulse n r).frameRtc = s.frameRtc := rfl
@[simp] theorem State.setPulse_lenPend (s : State) (n : Nat) (r : PulseRt) : (s.setPulse n r).lenPend = s.lenPend := rfl
@[simp] theorem State.setPulse_framing (s : State) (n : Nat) (r : PulseRt) : (s.setPulse n r).framing = s.framing := rfl
@[simp] theorem State.setPulse_ready (s : State) (n : Nat) (r : PulseRt) : (s.setPulse n r).ready = s.ready := rfl
@[simp] theorem State.setPulse_halt (s : State) (n : Nat) (r : PulseRt) : (s.setPulse n r).halt = s.halt := rfl
@[simp] theorem State.setPulse_wdWarm (s : State) (n : Nat) (r : PulseRt) : (s.setPulse n r).wdWarm = s.wdWarm := rfl
@[simp] theorem State.setPulse_klog (s : State) (n : Nat) (r : PulseRt) : (s.setPulse n r).klog = s.klog := rfl
@[simp] theorem State.setPulse_logRead (s : State) (n : Nat) (r : PulseRt) : (s.setPulse n r).logRead = s.logRead := rfl
@[simp] theorem State.setPulse_dropsAt (s : State) (n : Nat) (r : PulseRt) : (s.setPulse n r).dropsAt = s.dropsAt := rfl
@[simp] theorem State.setPulse_standing (s : State) (n : Nat) (r : PulseRt) : (s.setPulse n r).standing = s.standing := rfl
@[simp] theorem State.setPulse_once (s : State) (n : Nat) (r : PulseRt) : (s.setPulse n r).once = s.once := rfl
@[simp] theorem State.setPulse_fires (s : State) (n : Nat) (r : PulseRt) : (s.setPulse n r).fires = s.fires := rfl
@[simp] theorem State.setPulse_bill (s : State) (n : Nat) (r : PulseRt) : (s.setPulse n r).bill = s.bill := rfl
@[simp] theorem State.setPulse_ember (s : State) (n : Nat) (r : PulseRt) : (s.setPulse n r).ember = s.ember := rfl
@[simp] theorem State.setPulse_net (s : State) (n : Nat) (r : PulseRt) : (s.setPulse n r).net = s.net := rfl
@[simp] theorem State.setPulse_host (s : State) (n : Nat) (r : PulseRt) : (s.setPulse n r).host = s.host := rfl
@[simp] theorem State.setPulse_loop (s : State) (n : Nat) (r : PulseRt) : (s.setPulse n r).loop = s.loop := rfl
@[simp] theorem State.setPulse_sec (s : State) (n : Nat) (r : PulseRt) : (s.setPulse n r).sec = s.sec := rfl
@[simp] theorem State.setPulse_otp (s : State) (n : Nat) (r : PulseRt) : (s.setPulse n r).otp = s.otp := rfl
@[simp] theorem State.setPulse_sram (s : State) (n : Nat) (r : PulseRt) : (s.setPulse n r).sram = s.sram := rfl
@[simp] theorem State.setPulse_saved (s : State) (n : Nat) (r : PulseRt) : (s.setPulse n r).saved = s.saved := rfl
@[simp] theorem State.setPulse_unsaved (s : State) (n : Nat) (r : PulseRt) : (s.setPulse n r).unsaved = s.unsaved := rfl
@[simp] theorem State.setPulse_resp (s : State) (n : Nat) (r : PulseRt) : (s.setPulse n r).resp = s.resp := rfl
@[simp] theorem State.setPulse_respData (s : State) (n : Nat) (r : PulseRt) : (s.setPulse n r).respData = s.respData := rfl
@[simp] theorem State.setPulse_arbiter (s : State) (n : Nat) (r : PulseRt) : (s.setPulse n r).arbiter = s.arbiter := rfl
@[simp] theorem State.setPulse_pending (s : State) (n : Nat) (r : PulseRt) : (s.setPulse n r).pending = s.pending := rfl

@[simp] theorem State.setPulse_g (s : State) (n : Nat) (r : PulseRt) (k : Nat) : (s.setPulse n r).g k = s.g k := rfl
@[simp] theorem State.pulse_setPulse (s : State) (n : Nat) (r : PulseRt) : (s.setPulse n r).pulse n = r := by
  simp [State.pulse, State.setPulse]
theorem State.pulse_setPulse_ne (s : State) {n m : Nat} (r : PulseRt) (h : m ≠ n) : (s.setPulse n r).pulse m = s.pulse m := by
  simp [State.pulse, State.setPulse, h]
@[simp] theorem State.port_setPulse (s : State) (n : Nat) (r : PulseRt) (m : Nat) : (s.setPulse n r).port m = s.port m := rfl
@[simp] theorem State.path_setPulse (s : State) (n : Nat) (r : PulseRt) (m : Nat) : (s.setPulse n r).path m = s.path m := rfl
@[simp] theorem State.sect_setPulse (s : State) (n : Nat) (r : PulseRt) (m : Nat) : (s.setPulse n r).sect m = s.sect m := rfl
@[simp] theorem State.chan_setPulse (s : State) (n : Nat) (r : PulseRt) (m : Nat) : (s.setPulse n r).chan m = s.chan m := rfl
@[simp] theorem State.pin_setPulse (s : State) (n : Nat) (r : PulseRt) (m : Nat) : (s.setPulse n r).pin m = s.pin m := rfl
@[simp] theorem State.die_setPulse (s : State) (n : Nat) (r : PulseRt) (m : Nat) : (s.setPulse n r).die m = s.die m := rfl
@[simp] theorem State.line_setPulse (s : State) (n : Nat) (r : PulseRt) (m : Nat) : (s.setPulse n r).line m = s.line m := rfl
@[simp] theorem State.store_setPulse (s : State) (n : Nat) (r : PulseRt) (m : Nat) : (s.setPulse n r).store m = s.store m := rfl
@[simp] theorem State.fire_setPulse (s : State) (n : Nat) (r : PulseRt) (m : Nat) : (s.setPulse n r).fire m = s.fire m := rfl
@[simp] theorem State.bank_setPulse (s : State) (n : Nat) (r : PulseRt) (m : Nat) : (s.setPulse n r).bank m = s.bank m := rfl

-- setDie

@[simp] theorem State.setDie_dies (s : State) (n : Nat) (r : DieRt) : (s.setDie n r).dies = s.dies := rfl
@[simp] theorem State.setDie_cyc (s : State) (n : Nat) (r : DieRt) : (s.setDie n r).cyc = s.cyc := rfl
@[simp] theorem State.setDie_od (s : State) (n : Nat) (r : DieRt) : (s.setDie n r).od = s.od := rfl
@[simp] theorem State.setDie_led (s : State) (n : Nat) (r : DieRt) : (s.setDie n r).led = s.led := rfl
@[simp] theorem State.setDie_ledger (s : State) (n : Nat) (r : DieRt) : (s.setDie n r).ledger = s.ledger := rfl
@[simp] theorem State.setDie_blobs (s : State) (n : Nat) (r : DieRt) : (s.setDie n r).blobs = s.blobs := rfl
@[simp] theorem State.setDie_lag (s : State) (n : Nat) (r : DieRt) : (s.setDie n r).lag = s.lag := rfl
@[simp] theorem State.setDie_ports (s : State) (n : Nat) (r : DieRt) : (s.setDie n r).ports = s.ports := rfl
@[simp] theorem State.setDie_paths (s : State) (n : Nat) (r : DieRt) : (s.setDie n r).paths = s.paths := rfl
@[simp] theorem State.setDie_sects (s : State) (n : Nat) (r : DieRt) : (s.setDie n r).sects = s.sects := rfl
@[simp] theorem State.setDie_chans (s : State) (n : Nat) (r : DieRt) : (s.setDie n r).chans = s.chans := rfl
@[simp] theorem State.setDie_pins (s : State) (n : Nat) (r : DieRt) : (s.setDie n r).pins = s.pins := rfl
@[simp] theorem State.setDie_pulses (s : State) (n : Nat) (r : DieRt) : (s.setDie n r).pulses = s.pulses := rfl
@[simp] theorem State.setDie_lines (s : State) (n : Nat) (r : DieRt) : (s.setDie n r).lines = s.lines := rfl
@[simp] theorem State.setDie_gpio (s : State) (n : Nat) (r : DieRt) : (s.setDie n r).gpio = s.gpio := rfl
@[simp] theorem State.setDie_stores (s : State) (n : Nat) (r : DieRt) : (s.setDie n r).stores = s.stores := rfl
@[simp] theorem State.setDie_vel (s : State) (n : Nat) (r : DieRt) : (s.setDie n r).vel = s.vel := rfl
@[simp] theorem State.setDie_lant (s : State) (n : Nat) (r : DieRt) : (s.setDie n r).lant = s.lant := rfl
@[simp] theorem State.setDie_pow (s : State) (n : Nat) (r : DieRt) : (s.setDie n r).pow = s.pow := rfl
@[simp] theorem State.setDie_f0 (s : State) (n : Nat) (r : DieRt) : (s.setDie n r).f0 = s.f0 := rfl
@[simp] theorem State.setDie_frameLen (s : State) (n : Nat) (r : DieRt) : (s.setDie n r).frameLen = s.frameLen := rfl
@[simp] theorem State.setDie_frameAt (s : State) (n : Nat) (r : DieRt) : (s.setDie n r).frameAt = s.frameAt := rfl
@[simp] theorem State.setDie_frameSeq (s : State) (n : Nat) (r : DieRt) : (s.setDie n r).frameSeq = s.frameSeq := rfl
@[simp] theorem State.setDie_frameRtc (s : State) (n : Nat) (r : DieRt) : (s.setDie n r).frameRtc = s.frameRtc := rfl
@[simp] theorem State.setDie_lenPend (s : State) (n : Nat) (r : DieRt) : (s.setDie n r).lenPend = s.lenPend := rfl
@[simp] theorem State.setDie_framing (s : State) (n : Nat) (r : DieRt) : (s.setDie n r).framing = s.framing := rfl
@[simp] theorem State.setDie_ready (s : State) (n : Nat) (r : DieRt) : (s.setDie n r).ready = s.ready := rfl
@[simp] theorem State.setDie_halt (s : State) (n : Nat) (r : DieRt) : (s.setDie n r).halt = s.halt := rfl
@[simp] theorem State.setDie_wdWarm (s : State) (n : Nat) (r : DieRt) : (s.setDie n r).wdWarm = s.wdWarm := rfl
@[simp] theorem State.setDie_klog (s : State) (n : Nat) (r : DieRt) : (s.setDie n r).klog = s.klog := rfl
@[simp] theorem State.setDie_logRead (s : State) (n : Nat) (r : DieRt) : (s.setDie n r).logRead = s.logRead := rfl
@[simp] theorem State.setDie_dropsAt (s : State) (n : Nat) (r : DieRt) : (s.setDie n r).dropsAt = s.dropsAt := rfl
@[simp] theorem State.setDie_standing (s : State) (n : Nat) (r : DieRt) : (s.setDie n r).standing = s.standing := rfl
@[simp] theorem State.setDie_once (s : State) (n : Nat) (r : DieRt) : (s.setDie n r).once = s.once := rfl
@[simp] theorem State.setDie_fires (s : State) (n : Nat) (r : DieRt) : (s.setDie n r).fires = s.fires := rfl
@[simp] theorem State.setDie_bill (s : State) (n : Nat) (r : DieRt) : (s.setDie n r).bill = s.bill := rfl
@[simp] theorem State.setDie_ember (s : State) (n : Nat) (r : DieRt) : (s.setDie n r).ember = s.ember := rfl
@[simp] theorem State.setDie_net (s : State) (n : Nat) (r : DieRt) : (s.setDie n r).net = s.net := rfl
@[simp] theorem State.setDie_host (s : State) (n : Nat) (r : DieRt) : (s.setDie n r).host = s.host := rfl
@[simp] theorem State.setDie_loop (s : State) (n : Nat) (r : DieRt) : (s.setDie n r).loop = s.loop := rfl
@[simp] theorem State.setDie_sec (s : State) (n : Nat) (r : DieRt) : (s.setDie n r).sec = s.sec := rfl
@[simp] theorem State.setDie_otp (s : State) (n : Nat) (r : DieRt) : (s.setDie n r).otp = s.otp := rfl
@[simp] theorem State.setDie_sram (s : State) (n : Nat) (r : DieRt) : (s.setDie n r).sram = s.sram := rfl
@[simp] theorem State.setDie_saved (s : State) (n : Nat) (r : DieRt) : (s.setDie n r).saved = s.saved := rfl
@[simp] theorem State.setDie_unsaved (s : State) (n : Nat) (r : DieRt) : (s.setDie n r).unsaved = s.unsaved := rfl
@[simp] theorem State.setDie_resp (s : State) (n : Nat) (r : DieRt) : (s.setDie n r).resp = s.resp := rfl
@[simp] theorem State.setDie_respData (s : State) (n : Nat) (r : DieRt) : (s.setDie n r).respData = s.respData := rfl
@[simp] theorem State.setDie_arbiter (s : State) (n : Nat) (r : DieRt) : (s.setDie n r).arbiter = s.arbiter := rfl
@[simp] theorem State.setDie_pending (s : State) (n : Nat) (r : DieRt) : (s.setDie n r).pending = s.pending := rfl

@[simp] theorem State.setDie_g (s : State) (n : Nat) (r : DieRt) (k : Nat) : (s.setDie n r).g k = s.g k := rfl
@[simp] theorem State.die_setDie (s : State) (n : Nat) (r : DieRt) : (s.setDie n r).die n = r := by
  simp [State.die, State.setDie]
theorem State.die_setDie_ne (s : State) {n m : Nat} (r : DieRt) (h : m ≠ n) : (s.setDie n r).die m = s.die m := by
  simp [State.die, State.setDie, h]
@[simp] theorem State.port_setDie (s : State) (n : Nat) (r : DieRt) (m : Nat) : (s.setDie n r).port m = s.port m := rfl
@[simp] theorem State.path_setDie (s : State) (n : Nat) (r : DieRt) (m : Nat) : (s.setDie n r).path m = s.path m := rfl
@[simp] theorem State.sect_setDie (s : State) (n : Nat) (r : DieRt) (m : Nat) : (s.setDie n r).sect m = s.sect m := rfl
@[simp] theorem State.chan_setDie (s : State) (n : Nat) (r : DieRt) (m : Nat) : (s.setDie n r).chan m = s.chan m := rfl
@[simp] theorem State.pin_setDie (s : State) (n : Nat) (r : DieRt) (m : Nat) : (s.setDie n r).pin m = s.pin m := rfl
@[simp] theorem State.pulse_setDie (s : State) (n : Nat) (r : DieRt) (m : Nat) : (s.setDie n r).pulse m = s.pulse m := rfl
@[simp] theorem State.line_setDie (s : State) (n : Nat) (r : DieRt) (m : Nat) : (s.setDie n r).line m = s.line m := rfl
@[simp] theorem State.store_setDie (s : State) (n : Nat) (r : DieRt) (m : Nat) : (s.setDie n r).store m = s.store m := rfl
@[simp] theorem State.fire_setDie (s : State) (n : Nat) (r : DieRt) (m : Nat) : (s.setDie n r).fire m = s.fire m := rfl
@[simp] theorem State.bank_setDie (s : State) (n : Nat) (r : DieRt) (m : Nat) : (s.setDie n r).bank m = s.bank m := rfl

-- setLine

@[simp] theorem State.setLine_dies (s : State) (n : Nat) (r : LineRt) : (s.setLine n r).dies = s.dies := rfl
@[simp] theorem State.setLine_cyc (s : State) (n : Nat) (r : LineRt) : (s.setLine n r).cyc = s.cyc := rfl
@[simp] theorem State.setLine_od (s : State) (n : Nat) (r : LineRt) : (s.setLine n r).od = s.od := rfl
@[simp] theorem State.setLine_led (s : State) (n : Nat) (r : LineRt) : (s.setLine n r).led = s.led := rfl
@[simp] theorem State.setLine_ledger (s : State) (n : Nat) (r : LineRt) : (s.setLine n r).ledger = s.ledger := rfl
@[simp] theorem State.setLine_blobs (s : State) (n : Nat) (r : LineRt) : (s.setLine n r).blobs = s.blobs := rfl
@[simp] theorem State.setLine_lag (s : State) (n : Nat) (r : LineRt) : (s.setLine n r).lag = s.lag := rfl
@[simp] theorem State.setLine_ports (s : State) (n : Nat) (r : LineRt) : (s.setLine n r).ports = s.ports := rfl
@[simp] theorem State.setLine_paths (s : State) (n : Nat) (r : LineRt) : (s.setLine n r).paths = s.paths := rfl
@[simp] theorem State.setLine_sects (s : State) (n : Nat) (r : LineRt) : (s.setLine n r).sects = s.sects := rfl
@[simp] theorem State.setLine_chans (s : State) (n : Nat) (r : LineRt) : (s.setLine n r).chans = s.chans := rfl
@[simp] theorem State.setLine_pins (s : State) (n : Nat) (r : LineRt) : (s.setLine n r).pins = s.pins := rfl
@[simp] theorem State.setLine_pulses (s : State) (n : Nat) (r : LineRt) : (s.setLine n r).pulses = s.pulses := rfl
@[simp] theorem State.setLine_dieRt (s : State) (n : Nat) (r : LineRt) : (s.setLine n r).dieRt = s.dieRt := rfl
@[simp] theorem State.setLine_gpio (s : State) (n : Nat) (r : LineRt) : (s.setLine n r).gpio = s.gpio := rfl
@[simp] theorem State.setLine_stores (s : State) (n : Nat) (r : LineRt) : (s.setLine n r).stores = s.stores := rfl
@[simp] theorem State.setLine_vel (s : State) (n : Nat) (r : LineRt) : (s.setLine n r).vel = s.vel := rfl
@[simp] theorem State.setLine_lant (s : State) (n : Nat) (r : LineRt) : (s.setLine n r).lant = s.lant := rfl
@[simp] theorem State.setLine_pow (s : State) (n : Nat) (r : LineRt) : (s.setLine n r).pow = s.pow := rfl
@[simp] theorem State.setLine_f0 (s : State) (n : Nat) (r : LineRt) : (s.setLine n r).f0 = s.f0 := rfl
@[simp] theorem State.setLine_frameLen (s : State) (n : Nat) (r : LineRt) : (s.setLine n r).frameLen = s.frameLen := rfl
@[simp] theorem State.setLine_frameAt (s : State) (n : Nat) (r : LineRt) : (s.setLine n r).frameAt = s.frameAt := rfl
@[simp] theorem State.setLine_frameSeq (s : State) (n : Nat) (r : LineRt) : (s.setLine n r).frameSeq = s.frameSeq := rfl
@[simp] theorem State.setLine_frameRtc (s : State) (n : Nat) (r : LineRt) : (s.setLine n r).frameRtc = s.frameRtc := rfl
@[simp] theorem State.setLine_lenPend (s : State) (n : Nat) (r : LineRt) : (s.setLine n r).lenPend = s.lenPend := rfl
@[simp] theorem State.setLine_framing (s : State) (n : Nat) (r : LineRt) : (s.setLine n r).framing = s.framing := rfl
@[simp] theorem State.setLine_ready (s : State) (n : Nat) (r : LineRt) : (s.setLine n r).ready = s.ready := rfl
@[simp] theorem State.setLine_halt (s : State) (n : Nat) (r : LineRt) : (s.setLine n r).halt = s.halt := rfl
@[simp] theorem State.setLine_wdWarm (s : State) (n : Nat) (r : LineRt) : (s.setLine n r).wdWarm = s.wdWarm := rfl
@[simp] theorem State.setLine_klog (s : State) (n : Nat) (r : LineRt) : (s.setLine n r).klog = s.klog := rfl
@[simp] theorem State.setLine_logRead (s : State) (n : Nat) (r : LineRt) : (s.setLine n r).logRead = s.logRead := rfl
@[simp] theorem State.setLine_dropsAt (s : State) (n : Nat) (r : LineRt) : (s.setLine n r).dropsAt = s.dropsAt := rfl
@[simp] theorem State.setLine_standing (s : State) (n : Nat) (r : LineRt) : (s.setLine n r).standing = s.standing := rfl
@[simp] theorem State.setLine_once (s : State) (n : Nat) (r : LineRt) : (s.setLine n r).once = s.once := rfl
@[simp] theorem State.setLine_fires (s : State) (n : Nat) (r : LineRt) : (s.setLine n r).fires = s.fires := rfl
@[simp] theorem State.setLine_bill (s : State) (n : Nat) (r : LineRt) : (s.setLine n r).bill = s.bill := rfl
@[simp] theorem State.setLine_ember (s : State) (n : Nat) (r : LineRt) : (s.setLine n r).ember = s.ember := rfl
@[simp] theorem State.setLine_net (s : State) (n : Nat) (r : LineRt) : (s.setLine n r).net = s.net := rfl
@[simp] theorem State.setLine_host (s : State) (n : Nat) (r : LineRt) : (s.setLine n r).host = s.host := rfl
@[simp] theorem State.setLine_loop (s : State) (n : Nat) (r : LineRt) : (s.setLine n r).loop = s.loop := rfl
@[simp] theorem State.setLine_sec (s : State) (n : Nat) (r : LineRt) : (s.setLine n r).sec = s.sec := rfl
@[simp] theorem State.setLine_otp (s : State) (n : Nat) (r : LineRt) : (s.setLine n r).otp = s.otp := rfl
@[simp] theorem State.setLine_sram (s : State) (n : Nat) (r : LineRt) : (s.setLine n r).sram = s.sram := rfl
@[simp] theorem State.setLine_saved (s : State) (n : Nat) (r : LineRt) : (s.setLine n r).saved = s.saved := rfl
@[simp] theorem State.setLine_unsaved (s : State) (n : Nat) (r : LineRt) : (s.setLine n r).unsaved = s.unsaved := rfl
@[simp] theorem State.setLine_resp (s : State) (n : Nat) (r : LineRt) : (s.setLine n r).resp = s.resp := rfl
@[simp] theorem State.setLine_respData (s : State) (n : Nat) (r : LineRt) : (s.setLine n r).respData = s.respData := rfl
@[simp] theorem State.setLine_arbiter (s : State) (n : Nat) (r : LineRt) : (s.setLine n r).arbiter = s.arbiter := rfl
@[simp] theorem State.setLine_pending (s : State) (n : Nat) (r : LineRt) : (s.setLine n r).pending = s.pending := rfl

@[simp] theorem State.setLine_g (s : State) (n : Nat) (r : LineRt) (k : Nat) : (s.setLine n r).g k = s.g k := rfl
@[simp] theorem State.line_setLine (s : State) (n : Nat) (r : LineRt) : (s.setLine n r).line n = r := by
  simp [State.line, State.setLine]
theorem State.line_setLine_ne (s : State) {n m : Nat} (r : LineRt) (h : m ≠ n) : (s.setLine n r).line m = s.line m := by
  simp [State.line, State.setLine, h]
@[simp] theorem State.port_setLine (s : State) (n : Nat) (r : LineRt) (m : Nat) : (s.setLine n r).port m = s.port m := rfl
@[simp] theorem State.path_setLine (s : State) (n : Nat) (r : LineRt) (m : Nat) : (s.setLine n r).path m = s.path m := rfl
@[simp] theorem State.sect_setLine (s : State) (n : Nat) (r : LineRt) (m : Nat) : (s.setLine n r).sect m = s.sect m := rfl
@[simp] theorem State.chan_setLine (s : State) (n : Nat) (r : LineRt) (m : Nat) : (s.setLine n r).chan m = s.chan m := rfl
@[simp] theorem State.pin_setLine (s : State) (n : Nat) (r : LineRt) (m : Nat) : (s.setLine n r).pin m = s.pin m := rfl
@[simp] theorem State.pulse_setLine (s : State) (n : Nat) (r : LineRt) (m : Nat) : (s.setLine n r).pulse m = s.pulse m := rfl
@[simp] theorem State.die_setLine (s : State) (n : Nat) (r : LineRt) (m : Nat) : (s.setLine n r).die m = s.die m := rfl
@[simp] theorem State.store_setLine (s : State) (n : Nat) (r : LineRt) (m : Nat) : (s.setLine n r).store m = s.store m := rfl
@[simp] theorem State.fire_setLine (s : State) (n : Nat) (r : LineRt) (m : Nat) : (s.setLine n r).fire m = s.fire m := rfl
@[simp] theorem State.bank_setLine (s : State) (n : Nat) (r : LineRt) (m : Nat) : (s.setLine n r).bank m = s.bank m := rfl

-- setStore

@[simp] theorem State.setStore_dies (s : State) (n : Nat) (r : StoreRt) : (s.setStore n r).dies = s.dies := rfl
@[simp] theorem State.setStore_cyc (s : State) (n : Nat) (r : StoreRt) : (s.setStore n r).cyc = s.cyc := rfl
@[simp] theorem State.setStore_od (s : State) (n : Nat) (r : StoreRt) : (s.setStore n r).od = s.od := rfl
@[simp] theorem State.setStore_led (s : State) (n : Nat) (r : StoreRt) : (s.setStore n r).led = s.led := rfl
@[simp] theorem State.setStore_ledger (s : State) (n : Nat) (r : StoreRt) : (s.setStore n r).ledger = s.ledger := rfl
@[simp] theorem State.setStore_blobs (s : State) (n : Nat) (r : StoreRt) : (s.setStore n r).blobs = s.blobs := rfl
@[simp] theorem State.setStore_lag (s : State) (n : Nat) (r : StoreRt) : (s.setStore n r).lag = s.lag := rfl
@[simp] theorem State.setStore_ports (s : State) (n : Nat) (r : StoreRt) : (s.setStore n r).ports = s.ports := rfl
@[simp] theorem State.setStore_paths (s : State) (n : Nat) (r : StoreRt) : (s.setStore n r).paths = s.paths := rfl
@[simp] theorem State.setStore_sects (s : State) (n : Nat) (r : StoreRt) : (s.setStore n r).sects = s.sects := rfl
@[simp] theorem State.setStore_chans (s : State) (n : Nat) (r : StoreRt) : (s.setStore n r).chans = s.chans := rfl
@[simp] theorem State.setStore_pins (s : State) (n : Nat) (r : StoreRt) : (s.setStore n r).pins = s.pins := rfl
@[simp] theorem State.setStore_pulses (s : State) (n : Nat) (r : StoreRt) : (s.setStore n r).pulses = s.pulses := rfl
@[simp] theorem State.setStore_dieRt (s : State) (n : Nat) (r : StoreRt) : (s.setStore n r).dieRt = s.dieRt := rfl
@[simp] theorem State.setStore_lines (s : State) (n : Nat) (r : StoreRt) : (s.setStore n r).lines = s.lines := rfl
@[simp] theorem State.setStore_gpio (s : State) (n : Nat) (r : StoreRt) : (s.setStore n r).gpio = s.gpio := rfl
@[simp] theorem State.setStore_vel (s : State) (n : Nat) (r : StoreRt) : (s.setStore n r).vel = s.vel := rfl
@[simp] theorem State.setStore_lant (s : State) (n : Nat) (r : StoreRt) : (s.setStore n r).lant = s.lant := rfl
@[simp] theorem State.setStore_pow (s : State) (n : Nat) (r : StoreRt) : (s.setStore n r).pow = s.pow := rfl
@[simp] theorem State.setStore_f0 (s : State) (n : Nat) (r : StoreRt) : (s.setStore n r).f0 = s.f0 := rfl
@[simp] theorem State.setStore_frameLen (s : State) (n : Nat) (r : StoreRt) : (s.setStore n r).frameLen = s.frameLen := rfl
@[simp] theorem State.setStore_frameAt (s : State) (n : Nat) (r : StoreRt) : (s.setStore n r).frameAt = s.frameAt := rfl
@[simp] theorem State.setStore_frameSeq (s : State) (n : Nat) (r : StoreRt) : (s.setStore n r).frameSeq = s.frameSeq := rfl
@[simp] theorem State.setStore_frameRtc (s : State) (n : Nat) (r : StoreRt) : (s.setStore n r).frameRtc = s.frameRtc := rfl
@[simp] theorem State.setStore_lenPend (s : State) (n : Nat) (r : StoreRt) : (s.setStore n r).lenPend = s.lenPend := rfl
@[simp] theorem State.setStore_framing (s : State) (n : Nat) (r : StoreRt) : (s.setStore n r).framing = s.framing := rfl
@[simp] theorem State.setStore_ready (s : State) (n : Nat) (r : StoreRt) : (s.setStore n r).ready = s.ready := rfl
@[simp] theorem State.setStore_halt (s : State) (n : Nat) (r : StoreRt) : (s.setStore n r).halt = s.halt := rfl
@[simp] theorem State.setStore_wdWarm (s : State) (n : Nat) (r : StoreRt) : (s.setStore n r).wdWarm = s.wdWarm := rfl
@[simp] theorem State.setStore_klog (s : State) (n : Nat) (r : StoreRt) : (s.setStore n r).klog = s.klog := rfl
@[simp] theorem State.setStore_logRead (s : State) (n : Nat) (r : StoreRt) : (s.setStore n r).logRead = s.logRead := rfl
@[simp] theorem State.setStore_dropsAt (s : State) (n : Nat) (r : StoreRt) : (s.setStore n r).dropsAt = s.dropsAt := rfl
@[simp] theorem State.setStore_standing (s : State) (n : Nat) (r : StoreRt) : (s.setStore n r).standing = s.standing := rfl
@[simp] theorem State.setStore_once (s : State) (n : Nat) (r : StoreRt) : (s.setStore n r).once = s.once := rfl
@[simp] theorem State.setStore_fires (s : State) (n : Nat) (r : StoreRt) : (s.setStore n r).fires = s.fires := rfl
@[simp] theorem State.setStore_bill (s : State) (n : Nat) (r : StoreRt) : (s.setStore n r).bill = s.bill := rfl
@[simp] theorem State.setStore_ember (s : State) (n : Nat) (r : StoreRt) : (s.setStore n r).ember = s.ember := rfl
@[simp] theorem State.setStore_net (s : State) (n : Nat) (r : StoreRt) : (s.setStore n r).net = s.net := rfl
@[simp] theorem State.setStore_host (s : State) (n : Nat) (r : StoreRt) : (s.setStore n r).host = s.host := rfl
@[simp] theorem State.setStore_loop (s : State) (n : Nat) (r : StoreRt) : (s.setStore n r).loop = s.loop := rfl
@[simp] theorem State.setStore_sec (s : State) (n : Nat) (r : StoreRt) : (s.setStore n r).sec = s.sec := rfl
@[simp] theorem State.setStore_otp (s : State) (n : Nat) (r : StoreRt) : (s.setStore n r).otp = s.otp := rfl
@[simp] theorem State.setStore_sram (s : State) (n : Nat) (r : StoreRt) : (s.setStore n r).sram = s.sram := rfl
@[simp] theorem State.setStore_saved (s : State) (n : Nat) (r : StoreRt) : (s.setStore n r).saved = s.saved := rfl
@[simp] theorem State.setStore_unsaved (s : State) (n : Nat) (r : StoreRt) : (s.setStore n r).unsaved = s.unsaved := rfl
@[simp] theorem State.setStore_resp (s : State) (n : Nat) (r : StoreRt) : (s.setStore n r).resp = s.resp := rfl
@[simp] theorem State.setStore_respData (s : State) (n : Nat) (r : StoreRt) : (s.setStore n r).respData = s.respData := rfl
@[simp] theorem State.setStore_arbiter (s : State) (n : Nat) (r : StoreRt) : (s.setStore n r).arbiter = s.arbiter := rfl
@[simp] theorem State.setStore_pending (s : State) (n : Nat) (r : StoreRt) : (s.setStore n r).pending = s.pending := rfl

@[simp] theorem State.setStore_g (s : State) (n : Nat) (r : StoreRt) (k : Nat) : (s.setStore n r).g k = s.g k := rfl
@[simp] theorem State.store_setStore (s : State) (n : Nat) (r : StoreRt) : (s.setStore n r).store n = r := by
  simp [State.store, State.setStore]
theorem State.store_setStore_ne (s : State) {n m : Nat} (r : StoreRt) (h : m ≠ n) : (s.setStore n r).store m = s.store m := by
  simp [State.store, State.setStore, h]
@[simp] theorem State.port_setStore (s : State) (n : Nat) (r : StoreRt) (m : Nat) : (s.setStore n r).port m = s.port m := rfl
@[simp] theorem State.path_setStore (s : State) (n : Nat) (r : StoreRt) (m : Nat) : (s.setStore n r).path m = s.path m := rfl
@[simp] theorem State.sect_setStore (s : State) (n : Nat) (r : StoreRt) (m : Nat) : (s.setStore n r).sect m = s.sect m := rfl
@[simp] theorem State.chan_setStore (s : State) (n : Nat) (r : StoreRt) (m : Nat) : (s.setStore n r).chan m = s.chan m := rfl
@[simp] theorem State.pin_setStore (s : State) (n : Nat) (r : StoreRt) (m : Nat) : (s.setStore n r).pin m = s.pin m := rfl
@[simp] theorem State.pulse_setStore (s : State) (n : Nat) (r : StoreRt) (m : Nat) : (s.setStore n r).pulse m = s.pulse m := rfl
@[simp] theorem State.die_setStore (s : State) (n : Nat) (r : StoreRt) (m : Nat) : (s.setStore n r).die m = s.die m := rfl
@[simp] theorem State.line_setStore (s : State) (n : Nat) (r : StoreRt) (m : Nat) : (s.setStore n r).line m = s.line m := rfl
@[simp] theorem State.fire_setStore (s : State) (n : Nat) (r : StoreRt) (m : Nat) : (s.setStore n r).fire m = s.fire m := rfl
@[simp] theorem State.bank_setStore (s : State) (n : Nat) (r : StoreRt) (m : Nat) : (s.setStore n r).bank m = s.bank m := rfl

-- setFire

@[simp] theorem State.setFire_dies (s : State) (n : Nat) (r : FireRt) : (s.setFire n r).dies = s.dies := rfl
@[simp] theorem State.setFire_cyc (s : State) (n : Nat) (r : FireRt) : (s.setFire n r).cyc = s.cyc := rfl
@[simp] theorem State.setFire_od (s : State) (n : Nat) (r : FireRt) : (s.setFire n r).od = s.od := rfl
@[simp] theorem State.setFire_led (s : State) (n : Nat) (r : FireRt) : (s.setFire n r).led = s.led := rfl
@[simp] theorem State.setFire_ledger (s : State) (n : Nat) (r : FireRt) : (s.setFire n r).ledger = s.ledger := rfl
@[simp] theorem State.setFire_blobs (s : State) (n : Nat) (r : FireRt) : (s.setFire n r).blobs = s.blobs := rfl
@[simp] theorem State.setFire_lag (s : State) (n : Nat) (r : FireRt) : (s.setFire n r).lag = s.lag := rfl
@[simp] theorem State.setFire_ports (s : State) (n : Nat) (r : FireRt) : (s.setFire n r).ports = s.ports := rfl
@[simp] theorem State.setFire_paths (s : State) (n : Nat) (r : FireRt) : (s.setFire n r).paths = s.paths := rfl
@[simp] theorem State.setFire_sects (s : State) (n : Nat) (r : FireRt) : (s.setFire n r).sects = s.sects := rfl
@[simp] theorem State.setFire_chans (s : State) (n : Nat) (r : FireRt) : (s.setFire n r).chans = s.chans := rfl
@[simp] theorem State.setFire_pins (s : State) (n : Nat) (r : FireRt) : (s.setFire n r).pins = s.pins := rfl
@[simp] theorem State.setFire_pulses (s : State) (n : Nat) (r : FireRt) : (s.setFire n r).pulses = s.pulses := rfl
@[simp] theorem State.setFire_dieRt (s : State) (n : Nat) (r : FireRt) : (s.setFire n r).dieRt = s.dieRt := rfl
@[simp] theorem State.setFire_lines (s : State) (n : Nat) (r : FireRt) : (s.setFire n r).lines = s.lines := rfl
@[simp] theorem State.setFire_gpio (s : State) (n : Nat) (r : FireRt) : (s.setFire n r).gpio = s.gpio := rfl
@[simp] theorem State.setFire_stores (s : State) (n : Nat) (r : FireRt) : (s.setFire n r).stores = s.stores := rfl
@[simp] theorem State.setFire_vel (s : State) (n : Nat) (r : FireRt) : (s.setFire n r).vel = s.vel := rfl
@[simp] theorem State.setFire_lant (s : State) (n : Nat) (r : FireRt) : (s.setFire n r).lant = s.lant := rfl
@[simp] theorem State.setFire_pow (s : State) (n : Nat) (r : FireRt) : (s.setFire n r).pow = s.pow := rfl
@[simp] theorem State.setFire_f0 (s : State) (n : Nat) (r : FireRt) : (s.setFire n r).f0 = s.f0 := rfl
@[simp] theorem State.setFire_frameLen (s : State) (n : Nat) (r : FireRt) : (s.setFire n r).frameLen = s.frameLen := rfl
@[simp] theorem State.setFire_frameAt (s : State) (n : Nat) (r : FireRt) : (s.setFire n r).frameAt = s.frameAt := rfl
@[simp] theorem State.setFire_frameSeq (s : State) (n : Nat) (r : FireRt) : (s.setFire n r).frameSeq = s.frameSeq := rfl
@[simp] theorem State.setFire_frameRtc (s : State) (n : Nat) (r : FireRt) : (s.setFire n r).frameRtc = s.frameRtc := rfl
@[simp] theorem State.setFire_lenPend (s : State) (n : Nat) (r : FireRt) : (s.setFire n r).lenPend = s.lenPend := rfl
@[simp] theorem State.setFire_framing (s : State) (n : Nat) (r : FireRt) : (s.setFire n r).framing = s.framing := rfl
@[simp] theorem State.setFire_ready (s : State) (n : Nat) (r : FireRt) : (s.setFire n r).ready = s.ready := rfl
@[simp] theorem State.setFire_halt (s : State) (n : Nat) (r : FireRt) : (s.setFire n r).halt = s.halt := rfl
@[simp] theorem State.setFire_wdWarm (s : State) (n : Nat) (r : FireRt) : (s.setFire n r).wdWarm = s.wdWarm := rfl
@[simp] theorem State.setFire_klog (s : State) (n : Nat) (r : FireRt) : (s.setFire n r).klog = s.klog := rfl
@[simp] theorem State.setFire_logRead (s : State) (n : Nat) (r : FireRt) : (s.setFire n r).logRead = s.logRead := rfl
@[simp] theorem State.setFire_dropsAt (s : State) (n : Nat) (r : FireRt) : (s.setFire n r).dropsAt = s.dropsAt := rfl
@[simp] theorem State.setFire_standing (s : State) (n : Nat) (r : FireRt) : (s.setFire n r).standing = s.standing := rfl
@[simp] theorem State.setFire_once (s : State) (n : Nat) (r : FireRt) : (s.setFire n r).once = s.once := rfl
@[simp] theorem State.setFire_bill (s : State) (n : Nat) (r : FireRt) : (s.setFire n r).bill = s.bill := rfl
@[simp] theorem State.setFire_ember (s : State) (n : Nat) (r : FireRt) : (s.setFire n r).ember = s.ember := rfl
@[simp] theorem State.setFire_net (s : State) (n : Nat) (r : FireRt) : (s.setFire n r).net = s.net := rfl
@[simp] theorem State.setFire_host (s : State) (n : Nat) (r : FireRt) : (s.setFire n r).host = s.host := rfl
@[simp] theorem State.setFire_loop (s : State) (n : Nat) (r : FireRt) : (s.setFire n r).loop = s.loop := rfl
@[simp] theorem State.setFire_sec (s : State) (n : Nat) (r : FireRt) : (s.setFire n r).sec = s.sec := rfl
@[simp] theorem State.setFire_otp (s : State) (n : Nat) (r : FireRt) : (s.setFire n r).otp = s.otp := rfl
@[simp] theorem State.setFire_sram (s : State) (n : Nat) (r : FireRt) : (s.setFire n r).sram = s.sram := rfl
@[simp] theorem State.setFire_saved (s : State) (n : Nat) (r : FireRt) : (s.setFire n r).saved = s.saved := rfl
@[simp] theorem State.setFire_unsaved (s : State) (n : Nat) (r : FireRt) : (s.setFire n r).unsaved = s.unsaved := rfl
@[simp] theorem State.setFire_resp (s : State) (n : Nat) (r : FireRt) : (s.setFire n r).resp = s.resp := rfl
@[simp] theorem State.setFire_respData (s : State) (n : Nat) (r : FireRt) : (s.setFire n r).respData = s.respData := rfl
@[simp] theorem State.setFire_arbiter (s : State) (n : Nat) (r : FireRt) : (s.setFire n r).arbiter = s.arbiter := rfl
@[simp] theorem State.setFire_pending (s : State) (n : Nat) (r : FireRt) : (s.setFire n r).pending = s.pending := rfl

@[simp] theorem State.setFire_g (s : State) (n : Nat) (r : FireRt) (k : Nat) : (s.setFire n r).g k = s.g k := rfl
@[simp] theorem State.fire_setFire (s : State) (n : Nat) (r : FireRt) : (s.setFire n r).fire n = r := by
  simp [State.fire, State.setFire]
theorem State.fire_setFire_ne (s : State) {n m : Nat} (r : FireRt) (h : m ≠ n) : (s.setFire n r).fire m = s.fire m := by
  simp [State.fire, State.setFire, h]
@[simp] theorem State.port_setFire (s : State) (n : Nat) (r : FireRt) (m : Nat) : (s.setFire n r).port m = s.port m := rfl
@[simp] theorem State.path_setFire (s : State) (n : Nat) (r : FireRt) (m : Nat) : (s.setFire n r).path m = s.path m := rfl
@[simp] theorem State.sect_setFire (s : State) (n : Nat) (r : FireRt) (m : Nat) : (s.setFire n r).sect m = s.sect m := rfl
@[simp] theorem State.chan_setFire (s : State) (n : Nat) (r : FireRt) (m : Nat) : (s.setFire n r).chan m = s.chan m := rfl
@[simp] theorem State.pin_setFire (s : State) (n : Nat) (r : FireRt) (m : Nat) : (s.setFire n r).pin m = s.pin m := rfl
@[simp] theorem State.pulse_setFire (s : State) (n : Nat) (r : FireRt) (m : Nat) : (s.setFire n r).pulse m = s.pulse m := rfl
@[simp] theorem State.die_setFire (s : State) (n : Nat) (r : FireRt) (m : Nat) : (s.setFire n r).die m = s.die m := rfl
@[simp] theorem State.line_setFire (s : State) (n : Nat) (r : FireRt) (m : Nat) : (s.setFire n r).line m = s.line m := rfl
@[simp] theorem State.store_setFire (s : State) (n : Nat) (r : FireRt) (m : Nat) : (s.setFire n r).store m = s.store m := rfl
@[simp] theorem State.bank_setFire (s : State) (n : Nat) (r : FireRt) (m : Nat) : (s.setFire n r).bank m = s.bank m := rfl

-- setBank

@[simp] theorem State.setBank_dies (s : State) (n : Nat) (r : SramRt) : (s.setBank n r).dies = s.dies := rfl
@[simp] theorem State.setBank_cyc (s : State) (n : Nat) (r : SramRt) : (s.setBank n r).cyc = s.cyc := rfl
@[simp] theorem State.setBank_od (s : State) (n : Nat) (r : SramRt) : (s.setBank n r).od = s.od := rfl
@[simp] theorem State.setBank_led (s : State) (n : Nat) (r : SramRt) : (s.setBank n r).led = s.led := rfl
@[simp] theorem State.setBank_ledger (s : State) (n : Nat) (r : SramRt) : (s.setBank n r).ledger = s.ledger := rfl
@[simp] theorem State.setBank_blobs (s : State) (n : Nat) (r : SramRt) : (s.setBank n r).blobs = s.blobs := rfl
@[simp] theorem State.setBank_lag (s : State) (n : Nat) (r : SramRt) : (s.setBank n r).lag = s.lag := rfl
@[simp] theorem State.setBank_ports (s : State) (n : Nat) (r : SramRt) : (s.setBank n r).ports = s.ports := rfl
@[simp] theorem State.setBank_paths (s : State) (n : Nat) (r : SramRt) : (s.setBank n r).paths = s.paths := rfl
@[simp] theorem State.setBank_sects (s : State) (n : Nat) (r : SramRt) : (s.setBank n r).sects = s.sects := rfl
@[simp] theorem State.setBank_chans (s : State) (n : Nat) (r : SramRt) : (s.setBank n r).chans = s.chans := rfl
@[simp] theorem State.setBank_pins (s : State) (n : Nat) (r : SramRt) : (s.setBank n r).pins = s.pins := rfl
@[simp] theorem State.setBank_pulses (s : State) (n : Nat) (r : SramRt) : (s.setBank n r).pulses = s.pulses := rfl
@[simp] theorem State.setBank_dieRt (s : State) (n : Nat) (r : SramRt) : (s.setBank n r).dieRt = s.dieRt := rfl
@[simp] theorem State.setBank_lines (s : State) (n : Nat) (r : SramRt) : (s.setBank n r).lines = s.lines := rfl
@[simp] theorem State.setBank_gpio (s : State) (n : Nat) (r : SramRt) : (s.setBank n r).gpio = s.gpio := rfl
@[simp] theorem State.setBank_stores (s : State) (n : Nat) (r : SramRt) : (s.setBank n r).stores = s.stores := rfl
@[simp] theorem State.setBank_vel (s : State) (n : Nat) (r : SramRt) : (s.setBank n r).vel = s.vel := rfl
@[simp] theorem State.setBank_lant (s : State) (n : Nat) (r : SramRt) : (s.setBank n r).lant = s.lant := rfl
@[simp] theorem State.setBank_pow (s : State) (n : Nat) (r : SramRt) : (s.setBank n r).pow = s.pow := rfl
@[simp] theorem State.setBank_f0 (s : State) (n : Nat) (r : SramRt) : (s.setBank n r).f0 = s.f0 := rfl
@[simp] theorem State.setBank_frameLen (s : State) (n : Nat) (r : SramRt) : (s.setBank n r).frameLen = s.frameLen := rfl
@[simp] theorem State.setBank_frameAt (s : State) (n : Nat) (r : SramRt) : (s.setBank n r).frameAt = s.frameAt := rfl
@[simp] theorem State.setBank_frameSeq (s : State) (n : Nat) (r : SramRt) : (s.setBank n r).frameSeq = s.frameSeq := rfl
@[simp] theorem State.setBank_frameRtc (s : State) (n : Nat) (r : SramRt) : (s.setBank n r).frameRtc = s.frameRtc := rfl
@[simp] theorem State.setBank_lenPend (s : State) (n : Nat) (r : SramRt) : (s.setBank n r).lenPend = s.lenPend := rfl
@[simp] theorem State.setBank_framing (s : State) (n : Nat) (r : SramRt) : (s.setBank n r).framing = s.framing := rfl
@[simp] theorem State.setBank_ready (s : State) (n : Nat) (r : SramRt) : (s.setBank n r).ready = s.ready := rfl
@[simp] theorem State.setBank_halt (s : State) (n : Nat) (r : SramRt) : (s.setBank n r).halt = s.halt := rfl
@[simp] theorem State.setBank_wdWarm (s : State) (n : Nat) (r : SramRt) : (s.setBank n r).wdWarm = s.wdWarm := rfl
@[simp] theorem State.setBank_klog (s : State) (n : Nat) (r : SramRt) : (s.setBank n r).klog = s.klog := rfl
@[simp] theorem State.setBank_logRead (s : State) (n : Nat) (r : SramRt) : (s.setBank n r).logRead = s.logRead := rfl
@[simp] theorem State.setBank_dropsAt (s : State) (n : Nat) (r : SramRt) : (s.setBank n r).dropsAt = s.dropsAt := rfl
@[simp] theorem State.setBank_standing (s : State) (n : Nat) (r : SramRt) : (s.setBank n r).standing = s.standing := rfl
@[simp] theorem State.setBank_once (s : State) (n : Nat) (r : SramRt) : (s.setBank n r).once = s.once := rfl
@[simp] theorem State.setBank_fires (s : State) (n : Nat) (r : SramRt) : (s.setBank n r).fires = s.fires := rfl
@[simp] theorem State.setBank_bill (s : State) (n : Nat) (r : SramRt) : (s.setBank n r).bill = s.bill := rfl
@[simp] theorem State.setBank_ember (s : State) (n : Nat) (r : SramRt) : (s.setBank n r).ember = s.ember := rfl
@[simp] theorem State.setBank_net (s : State) (n : Nat) (r : SramRt) : (s.setBank n r).net = s.net := rfl
@[simp] theorem State.setBank_host (s : State) (n : Nat) (r : SramRt) : (s.setBank n r).host = s.host := rfl
@[simp] theorem State.setBank_loop (s : State) (n : Nat) (r : SramRt) : (s.setBank n r).loop = s.loop := rfl
@[simp] theorem State.setBank_sec (s : State) (n : Nat) (r : SramRt) : (s.setBank n r).sec = s.sec := rfl
@[simp] theorem State.setBank_otp (s : State) (n : Nat) (r : SramRt) : (s.setBank n r).otp = s.otp := rfl
@[simp] theorem State.setBank_saved (s : State) (n : Nat) (r : SramRt) : (s.setBank n r).saved = s.saved := rfl
@[simp] theorem State.setBank_unsaved (s : State) (n : Nat) (r : SramRt) : (s.setBank n r).unsaved = s.unsaved := rfl
@[simp] theorem State.setBank_resp (s : State) (n : Nat) (r : SramRt) : (s.setBank n r).resp = s.resp := rfl
@[simp] theorem State.setBank_respData (s : State) (n : Nat) (r : SramRt) : (s.setBank n r).respData = s.respData := rfl
@[simp] theorem State.setBank_arbiter (s : State) (n : Nat) (r : SramRt) : (s.setBank n r).arbiter = s.arbiter := rfl
@[simp] theorem State.setBank_pending (s : State) (n : Nat) (r : SramRt) : (s.setBank n r).pending = s.pending := rfl

@[simp] theorem State.setBank_g (s : State) (n : Nat) (r : SramRt) (k : Nat) : (s.setBank n r).g k = s.g k := rfl
@[simp] theorem State.bank_setBank (s : State) (n : Nat) (r : SramRt) : (s.setBank n r).bank n = r := by
  simp [State.bank, State.setBank]
theorem State.bank_setBank_ne (s : State) {n m : Nat} (r : SramRt) (h : m ≠ n) : (s.setBank n r).bank m = s.bank m := by
  simp [State.bank, State.setBank, h]
@[simp] theorem State.port_setBank (s : State) (n : Nat) (r : SramRt) (m : Nat) : (s.setBank n r).port m = s.port m := rfl
@[simp] theorem State.path_setBank (s : State) (n : Nat) (r : SramRt) (m : Nat) : (s.setBank n r).path m = s.path m := rfl
@[simp] theorem State.sect_setBank (s : State) (n : Nat) (r : SramRt) (m : Nat) : (s.setBank n r).sect m = s.sect m := rfl
@[simp] theorem State.chan_setBank (s : State) (n : Nat) (r : SramRt) (m : Nat) : (s.setBank n r).chan m = s.chan m := rfl
@[simp] theorem State.pin_setBank (s : State) (n : Nat) (r : SramRt) (m : Nat) : (s.setBank n r).pin m = s.pin m := rfl
@[simp] theorem State.pulse_setBank (s : State) (n : Nat) (r : SramRt) (m : Nat) : (s.setBank n r).pulse m = s.pulse m := rfl
@[simp] theorem State.die_setBank (s : State) (n : Nat) (r : SramRt) (m : Nat) : (s.setBank n r).die m = s.die m := rfl
@[simp] theorem State.line_setBank (s : State) (n : Nat) (r : SramRt) (m : Nat) : (s.setBank n r).line m = s.line m := rfl
@[simp] theorem State.store_setBank (s : State) (n : Nat) (r : SramRt) (m : Nat) : (s.setBank n r).store m = s.store m := rfl
@[simp] theorem State.fire_setBank (s : State) (n : Nat) (r : SramRt) (m : Nat) : (s.setBank n r).fire m = s.fire m := rfl

-- p

@[simp] theorem State.p_dies (s : State) (k v : Nat) : (s.p k v).dies = s.dies := by unfold State.p; split <;> rfl
@[simp] theorem State.p_cyc (s : State) (k v : Nat) : (s.p k v).cyc = s.cyc := by unfold State.p; split <;> rfl
@[simp] theorem State.p_led (s : State) (k v : Nat) : (s.p k v).led = s.led := by unfold State.p; split <;> rfl
@[simp] theorem State.p_ledger (s : State) (k v : Nat) : (s.p k v).ledger = s.ledger := by unfold State.p; split <;> rfl
@[simp] theorem State.p_blobs (s : State) (k v : Nat) : (s.p k v).blobs = s.blobs := by unfold State.p; split <;> rfl
@[simp] theorem State.p_lag (s : State) (k v : Nat) : (s.p k v).lag = s.lag := by unfold State.p; split <;> rfl
@[simp] theorem State.p_ports (s : State) (k v : Nat) : (s.p k v).ports = s.ports := by unfold State.p; split <;> rfl
@[simp] theorem State.p_paths (s : State) (k v : Nat) : (s.p k v).paths = s.paths := by unfold State.p; split <;> rfl
@[simp] theorem State.p_sects (s : State) (k v : Nat) : (s.p k v).sects = s.sects := by unfold State.p; split <;> rfl
@[simp] theorem State.p_chans (s : State) (k v : Nat) : (s.p k v).chans = s.chans := by unfold State.p; split <;> rfl
@[simp] theorem State.p_pins (s : State) (k v : Nat) : (s.p k v).pins = s.pins := by unfold State.p; split <;> rfl
@[simp] theorem State.p_pulses (s : State) (k v : Nat) : (s.p k v).pulses = s.pulses := by unfold State.p; split <;> rfl
@[simp] theorem State.p_dieRt (s : State) (k v : Nat) : (s.p k v).dieRt = s.dieRt := by unfold State.p; split <;> rfl
@[simp] theorem State.p_lines (s : State) (k v : Nat) : (s.p k v).lines = s.lines := by unfold State.p; split <;> rfl
@[simp] theorem State.p_gpio (s : State) (k v : Nat) : (s.p k v).gpio = s.gpio := by unfold State.p; split <;> rfl
@[simp] theorem State.p_stores (s : State) (k v : Nat) : (s.p k v).stores = s.stores := by unfold State.p; split <;> rfl
@[simp] theorem State.p_vel (s : State) (k v : Nat) : (s.p k v).vel = s.vel := by unfold State.p; split <;> rfl
@[simp] theorem State.p_lant (s : State) (k v : Nat) : (s.p k v).lant = s.lant := by unfold State.p; split <;> rfl
@[simp] theorem State.p_pow (s : State) (k v : Nat) : (s.p k v).pow = s.pow := by unfold State.p; split <;> rfl
@[simp] theorem State.p_f0 (s : State) (k v : Nat) : (s.p k v).f0 = s.f0 := by unfold State.p; split <;> rfl
@[simp] theorem State.p_frameLen (s : State) (k v : Nat) : (s.p k v).frameLen = s.frameLen := by unfold State.p; split <;> rfl
@[simp] theorem State.p_frameAt (s : State) (k v : Nat) : (s.p k v).frameAt = s.frameAt := by unfold State.p; split <;> rfl
@[simp] theorem State.p_frameSeq (s : State) (k v : Nat) : (s.p k v).frameSeq = s.frameSeq := by unfold State.p; split <;> rfl
@[simp] theorem State.p_frameRtc (s : State) (k v : Nat) : (s.p k v).frameRtc = s.frameRtc := by unfold State.p; split <;> rfl
@[simp] theorem State.p_lenPend (s : State) (k v : Nat) : (s.p k v).lenPend = s.lenPend := by unfold State.p; split <;> rfl
@[simp] theorem State.p_framing (s : State) (k v : Nat) : (s.p k v).framing = s.framing := by unfold State.p; split <;> rfl
@[simp] theorem State.p_ready (s : State) (k v : Nat) : (s.p k v).ready = s.ready := by unfold State.p; split <;> rfl
@[simp] theorem State.p_halt (s : State) (k v : Nat) : (s.p k v).halt = s.halt := by unfold State.p; split <;> rfl
@[simp] theorem State.p_wdWarm (s : State) (k v : Nat) : (s.p k v).wdWarm = s.wdWarm := by unfold State.p; split <;> rfl
@[simp] theorem State.p_klog (s : State) (k v : Nat) : (s.p k v).klog = s.klog := by unfold State.p; split <;> rfl
@[simp] theorem State.p_logRead (s : State) (k v : Nat) : (s.p k v).logRead = s.logRead := by unfold State.p; split <;> rfl
@[simp] theorem State.p_dropsAt (s : State) (k v : Nat) : (s.p k v).dropsAt = s.dropsAt := by unfold State.p; split <;> rfl
@[simp] theorem State.p_standing (s : State) (k v : Nat) : (s.p k v).standing = s.standing := by unfold State.p; split <;> rfl
@[simp] theorem State.p_once (s : State) (k v : Nat) : (s.p k v).once = s.once := by unfold State.p; split <;> rfl
@[simp] theorem State.p_fires (s : State) (k v : Nat) : (s.p k v).fires = s.fires := by unfold State.p; split <;> rfl
@[simp] theorem State.p_bill (s : State) (k v : Nat) : (s.p k v).bill = s.bill := by unfold State.p; split <;> rfl
@[simp] theorem State.p_ember (s : State) (k v : Nat) : (s.p k v).ember = s.ember := by unfold State.p; split <;> rfl
@[simp] theorem State.p_host (s : State) (k v : Nat) : (s.p k v).host = s.host := by unfold State.p; split <;> rfl
@[simp] theorem State.p_loop (s : State) (k v : Nat) : (s.p k v).loop = s.loop := by unfold State.p; split <;> rfl
@[simp] theorem State.p_sec (s : State) (k v : Nat) : (s.p k v).sec = s.sec := by unfold State.p; split <;> rfl
@[simp] theorem State.p_otp (s : State) (k v : Nat) : (s.p k v).otp = s.otp := by unfold State.p; split <;> rfl
@[simp] theorem State.p_sram (s : State) (k v : Nat) : (s.p k v).sram = s.sram := by unfold State.p; split <;> rfl
@[simp] theorem State.p_saved (s : State) (k v : Nat) : (s.p k v).saved = s.saved := by unfold State.p; split <;> rfl
@[simp] theorem State.p_unsaved (s : State) (k v : Nat) : (s.p k v).unsaved = s.unsaved := by unfold State.p; split <;> rfl
@[simp] theorem State.p_resp (s : State) (k v : Nat) : (s.p k v).resp = s.resp := by unfold State.p; split <;> rfl
@[simp] theorem State.p_respData (s : State) (k v : Nat) : (s.p k v).respData = s.respData := by unfold State.p; split <;> rfl
@[simp] theorem State.p_arbiter (s : State) (k v : Nat) : (s.p k v).arbiter = s.arbiter := by unfold State.p; split <;> rfl
@[simp] theorem State.p_pending (s : State) (k v : Nat) : (s.p k v).pending = s.pending := by unfold State.p; split <;> rfl
@[simp] theorem State.port_p (s : State) (k v : Nat) (m : Nat) : (s.p k v).port m = s.port m := by simp [State.port]
@[simp] theorem State.path_p (s : State) (k v : Nat) (m : Nat) : (s.p k v).path m = s.path m := by simp [State.path]
@[simp] theorem State.sect_p (s : State) (k v : Nat) (m : Nat) : (s.p k v).sect m = s.sect m := by simp [State.sect]
@[simp] theorem State.chan_p (s : State) (k v : Nat) (m : Nat) : (s.p k v).chan m = s.chan m := by simp [State.chan]
@[simp] theorem State.pin_p (s : State) (k v : Nat) (m : Nat) : (s.p k v).pin m = s.pin m := by simp [State.pin]
@[simp] theorem State.pulse_p (s : State) (k v : Nat) (m : Nat) : (s.p k v).pulse m = s.pulse m := by simp [State.pulse]
@[simp] theorem State.die_p (s : State) (k v : Nat) (m : Nat) : (s.p k v).die m = s.die m := by simp [State.die]
@[simp] theorem State.line_p (s : State) (k v : Nat) (m : Nat) : (s.p k v).line m = s.line m := by simp [State.line]
@[simp] theorem State.store_p (s : State) (k v : Nat) (m : Nat) : (s.p k v).store m = s.store m := by simp [State.store]
@[simp] theorem State.fire_p (s : State) (k v : Nat) (m : Nat) : (s.p k v).fire m = s.fire m := by simp [State.fire]
@[simp] theorem State.bank_p (s : State) (k v : Nat) (m : Nat) : (s.p k v).bank m = s.bank m := by simp [State.bank]

-- pLed

@[simp] theorem State.pLed_dies (s : State) (k v : Nat) : (s.pLed k v).dies = s.dies := by unfold State.pLed; split <;> rfl
@[simp] theorem State.pLed_cyc (s : State) (k v : Nat) : (s.pLed k v).cyc = s.cyc := by unfold State.pLed; split <;> rfl
@[simp] theorem State.pLed_od (s : State) (k v : Nat) : (s.pLed k v).od = s.od := by unfold State.pLed; split <;> rfl
@[simp] theorem State.pLed_ledger (s : State) (k v : Nat) : (s.pLed k v).ledger = s.ledger := by unfold State.pLed; split <;> rfl
@[simp] theorem State.pLed_blobs (s : State) (k v : Nat) : (s.pLed k v).blobs = s.blobs := by unfold State.pLed; split <;> rfl
@[simp] theorem State.pLed_lag (s : State) (k v : Nat) : (s.pLed k v).lag = s.lag := by unfold State.pLed; split <;> rfl
@[simp] theorem State.pLed_ports (s : State) (k v : Nat) : (s.pLed k v).ports = s.ports := by unfold State.pLed; split <;> rfl
@[simp] theorem State.pLed_paths (s : State) (k v : Nat) : (s.pLed k v).paths = s.paths := by unfold State.pLed; split <;> rfl
@[simp] theorem State.pLed_sects (s : State) (k v : Nat) : (s.pLed k v).sects = s.sects := by unfold State.pLed; split <;> rfl
@[simp] theorem State.pLed_chans (s : State) (k v : Nat) : (s.pLed k v).chans = s.chans := by unfold State.pLed; split <;> rfl
@[simp] theorem State.pLed_pins (s : State) (k v : Nat) : (s.pLed k v).pins = s.pins := by unfold State.pLed; split <;> rfl
@[simp] theorem State.pLed_pulses (s : State) (k v : Nat) : (s.pLed k v).pulses = s.pulses := by unfold State.pLed; split <;> rfl
@[simp] theorem State.pLed_dieRt (s : State) (k v : Nat) : (s.pLed k v).dieRt = s.dieRt := by unfold State.pLed; split <;> rfl
@[simp] theorem State.pLed_lines (s : State) (k v : Nat) : (s.pLed k v).lines = s.lines := by unfold State.pLed; split <;> rfl
@[simp] theorem State.pLed_gpio (s : State) (k v : Nat) : (s.pLed k v).gpio = s.gpio := by unfold State.pLed; split <;> rfl
@[simp] theorem State.pLed_stores (s : State) (k v : Nat) : (s.pLed k v).stores = s.stores := by unfold State.pLed; split <;> rfl
@[simp] theorem State.pLed_vel (s : State) (k v : Nat) : (s.pLed k v).vel = s.vel := by unfold State.pLed; split <;> rfl
@[simp] theorem State.pLed_lant (s : State) (k v : Nat) : (s.pLed k v).lant = s.lant := by unfold State.pLed; split <;> rfl
@[simp] theorem State.pLed_pow (s : State) (k v : Nat) : (s.pLed k v).pow = s.pow := by unfold State.pLed; split <;> rfl
@[simp] theorem State.pLed_f0 (s : State) (k v : Nat) : (s.pLed k v).f0 = s.f0 := by unfold State.pLed; split <;> rfl
@[simp] theorem State.pLed_frameLen (s : State) (k v : Nat) : (s.pLed k v).frameLen = s.frameLen := by unfold State.pLed; split <;> rfl
@[simp] theorem State.pLed_frameAt (s : State) (k v : Nat) : (s.pLed k v).frameAt = s.frameAt := by unfold State.pLed; split <;> rfl
@[simp] theorem State.pLed_frameSeq (s : State) (k v : Nat) : (s.pLed k v).frameSeq = s.frameSeq := by unfold State.pLed; split <;> rfl
@[simp] theorem State.pLed_frameRtc (s : State) (k v : Nat) : (s.pLed k v).frameRtc = s.frameRtc := by unfold State.pLed; split <;> rfl
@[simp] theorem State.pLed_lenPend (s : State) (k v : Nat) : (s.pLed k v).lenPend = s.lenPend := by unfold State.pLed; split <;> rfl
@[simp] theorem State.pLed_framing (s : State) (k v : Nat) : (s.pLed k v).framing = s.framing := by unfold State.pLed; split <;> rfl
@[simp] theorem State.pLed_ready (s : State) (k v : Nat) : (s.pLed k v).ready = s.ready := by unfold State.pLed; split <;> rfl
@[simp] theorem State.pLed_halt (s : State) (k v : Nat) : (s.pLed k v).halt = s.halt := by unfold State.pLed; split <;> rfl
@[simp] theorem State.pLed_wdWarm (s : State) (k v : Nat) : (s.pLed k v).wdWarm = s.wdWarm := by unfold State.pLed; split <;> rfl
@[simp] theorem State.pLed_klog (s : State) (k v : Nat) : (s.pLed k v).klog = s.klog := by unfold State.pLed; split <;> rfl
@[simp] theorem State.pLed_logRead (s : State) (k v : Nat) : (s.pLed k v).logRead = s.logRead := by unfold State.pLed; split <;> rfl
@[simp] theorem State.pLed_dropsAt (s : State) (k v : Nat) : (s.pLed k v).dropsAt = s.dropsAt := by unfold State.pLed; split <;> rfl
@[simp] theorem State.pLed_standing (s : State) (k v : Nat) : (s.pLed k v).standing = s.standing := by unfold State.pLed; split <;> rfl
@[simp] theorem State.pLed_once (s : State) (k v : Nat) : (s.pLed k v).once = s.once := by unfold State.pLed; split <;> rfl
@[simp] theorem State.pLed_fires (s : State) (k v : Nat) : (s.pLed k v).fires = s.fires := by unfold State.pLed; split <;> rfl
@[simp] theorem State.pLed_bill (s : State) (k v : Nat) : (s.pLed k v).bill = s.bill := by unfold State.pLed; split <;> rfl
@[simp] theorem State.pLed_ember (s : State) (k v : Nat) : (s.pLed k v).ember = s.ember := by unfold State.pLed; split <;> rfl
@[simp] theorem State.pLed_host (s : State) (k v : Nat) : (s.pLed k v).host = s.host := by unfold State.pLed; split <;> rfl
@[simp] theorem State.pLed_loop (s : State) (k v : Nat) : (s.pLed k v).loop = s.loop := by unfold State.pLed; split <;> rfl
@[simp] theorem State.pLed_sec (s : State) (k v : Nat) : (s.pLed k v).sec = s.sec := by unfold State.pLed; split <;> rfl
@[simp] theorem State.pLed_otp (s : State) (k v : Nat) : (s.pLed k v).otp = s.otp := by unfold State.pLed; split <;> rfl
@[simp] theorem State.pLed_sram (s : State) (k v : Nat) : (s.pLed k v).sram = s.sram := by unfold State.pLed; split <;> rfl
@[simp] theorem State.pLed_saved (s : State) (k v : Nat) : (s.pLed k v).saved = s.saved := by unfold State.pLed; split <;> rfl
@[simp] theorem State.pLed_unsaved (s : State) (k v : Nat) : (s.pLed k v).unsaved = s.unsaved := by unfold State.pLed; split <;> rfl
@[simp] theorem State.pLed_resp (s : State) (k v : Nat) : (s.pLed k v).resp = s.resp := by unfold State.pLed; split <;> rfl
@[simp] theorem State.pLed_respData (s : State) (k v : Nat) : (s.pLed k v).respData = s.respData := by unfold State.pLed; split <;> rfl
@[simp] theorem State.pLed_arbiter (s : State) (k v : Nat) : (s.pLed k v).arbiter = s.arbiter := by unfold State.pLed; split <;> rfl
@[simp] theorem State.pLed_pending (s : State) (k v : Nat) : (s.pLed k v).pending = s.pending := by unfold State.pLed; split <;> rfl
@[simp] theorem State.port_pLed (s : State) (k v : Nat) (m : Nat) : (s.pLed k v).port m = s.port m := by simp [State.port]
@[simp] theorem State.path_pLed (s : State) (k v : Nat) (m : Nat) : (s.pLed k v).path m = s.path m := by simp [State.path]
@[simp] theorem State.sect_pLed (s : State) (k v : Nat) (m : Nat) : (s.pLed k v).sect m = s.sect m := by simp [State.sect]
@[simp] theorem State.chan_pLed (s : State) (k v : Nat) (m : Nat) : (s.pLed k v).chan m = s.chan m := by simp [State.chan]
@[simp] theorem State.pin_pLed (s : State) (k v : Nat) (m : Nat) : (s.pLed k v).pin m = s.pin m := by simp [State.pin]
@[simp] theorem State.pulse_pLed (s : State) (k v : Nat) (m : Nat) : (s.pLed k v).pulse m = s.pulse m := by simp [State.pulse]
@[simp] theorem State.die_pLed (s : State) (k v : Nat) (m : Nat) : (s.pLed k v).die m = s.die m := by simp [State.die]
@[simp] theorem State.line_pLed (s : State) (k v : Nat) (m : Nat) : (s.pLed k v).line m = s.line m := by simp [State.line]
@[simp] theorem State.store_pLed (s : State) (k v : Nat) (m : Nat) : (s.pLed k v).store m = s.store m := by simp [State.store]
@[simp] theorem State.fire_pLed (s : State) (k v : Nat) (m : Nat) : (s.pLed k v).fire m = s.fire m := by simp [State.fire]
@[simp] theorem State.bank_pLed (s : State) (k v : Nat) (m : Nat) : (s.pLed k v).bank m = s.bank m := by simp [State.bank]

-- bitTo

@[simp] theorem State.bitTo_dies (s : State) (k n : Nat) (b : Bool) : (s.bitTo k n b).dies = s.dies := by simp [State.bitTo]
@[simp] theorem State.bitTo_cyc (s : State) (k n : Nat) (b : Bool) : (s.bitTo k n b).cyc = s.cyc := by simp [State.bitTo]
@[simp] theorem State.bitTo_led (s : State) (k n : Nat) (b : Bool) : (s.bitTo k n b).led = s.led := by simp [State.bitTo]
@[simp] theorem State.bitTo_ledger (s : State) (k n : Nat) (b : Bool) : (s.bitTo k n b).ledger = s.ledger := by simp [State.bitTo]
@[simp] theorem State.bitTo_blobs (s : State) (k n : Nat) (b : Bool) : (s.bitTo k n b).blobs = s.blobs := by simp [State.bitTo]
@[simp] theorem State.bitTo_lag (s : State) (k n : Nat) (b : Bool) : (s.bitTo k n b).lag = s.lag := by simp [State.bitTo]
@[simp] theorem State.bitTo_ports (s : State) (k n : Nat) (b : Bool) : (s.bitTo k n b).ports = s.ports := by simp [State.bitTo]
@[simp] theorem State.bitTo_paths (s : State) (k n : Nat) (b : Bool) : (s.bitTo k n b).paths = s.paths := by simp [State.bitTo]
@[simp] theorem State.bitTo_sects (s : State) (k n : Nat) (b : Bool) : (s.bitTo k n b).sects = s.sects := by simp [State.bitTo]
@[simp] theorem State.bitTo_chans (s : State) (k n : Nat) (b : Bool) : (s.bitTo k n b).chans = s.chans := by simp [State.bitTo]
@[simp] theorem State.bitTo_pins (s : State) (k n : Nat) (b : Bool) : (s.bitTo k n b).pins = s.pins := by simp [State.bitTo]
@[simp] theorem State.bitTo_pulses (s : State) (k n : Nat) (b : Bool) : (s.bitTo k n b).pulses = s.pulses := by simp [State.bitTo]
@[simp] theorem State.bitTo_dieRt (s : State) (k n : Nat) (b : Bool) : (s.bitTo k n b).dieRt = s.dieRt := by simp [State.bitTo]
@[simp] theorem State.bitTo_lines (s : State) (k n : Nat) (b : Bool) : (s.bitTo k n b).lines = s.lines := by simp [State.bitTo]
@[simp] theorem State.bitTo_gpio (s : State) (k n : Nat) (b : Bool) : (s.bitTo k n b).gpio = s.gpio := by simp [State.bitTo]
@[simp] theorem State.bitTo_stores (s : State) (k n : Nat) (b : Bool) : (s.bitTo k n b).stores = s.stores := by simp [State.bitTo]
@[simp] theorem State.bitTo_vel (s : State) (k n : Nat) (b : Bool) : (s.bitTo k n b).vel = s.vel := by simp [State.bitTo]
@[simp] theorem State.bitTo_lant (s : State) (k n : Nat) (b : Bool) : (s.bitTo k n b).lant = s.lant := by simp [State.bitTo]
@[simp] theorem State.bitTo_pow (s : State) (k n : Nat) (b : Bool) : (s.bitTo k n b).pow = s.pow := by simp [State.bitTo]
@[simp] theorem State.bitTo_f0 (s : State) (k n : Nat) (b : Bool) : (s.bitTo k n b).f0 = s.f0 := by simp [State.bitTo]
@[simp] theorem State.bitTo_frameLen (s : State) (k n : Nat) (b : Bool) : (s.bitTo k n b).frameLen = s.frameLen := by simp [State.bitTo]
@[simp] theorem State.bitTo_frameAt (s : State) (k n : Nat) (b : Bool) : (s.bitTo k n b).frameAt = s.frameAt := by simp [State.bitTo]
@[simp] theorem State.bitTo_frameSeq (s : State) (k n : Nat) (b : Bool) : (s.bitTo k n b).frameSeq = s.frameSeq := by simp [State.bitTo]
@[simp] theorem State.bitTo_frameRtc (s : State) (k n : Nat) (b : Bool) : (s.bitTo k n b).frameRtc = s.frameRtc := by simp [State.bitTo]
@[simp] theorem State.bitTo_lenPend (s : State) (k n : Nat) (b : Bool) : (s.bitTo k n b).lenPend = s.lenPend := by simp [State.bitTo]
@[simp] theorem State.bitTo_framing (s : State) (k n : Nat) (b : Bool) : (s.bitTo k n b).framing = s.framing := by simp [State.bitTo]
@[simp] theorem State.bitTo_ready (s : State) (k n : Nat) (b : Bool) : (s.bitTo k n b).ready = s.ready := by simp [State.bitTo]
@[simp] theorem State.bitTo_halt (s : State) (k n : Nat) (b : Bool) : (s.bitTo k n b).halt = s.halt := by simp [State.bitTo]
@[simp] theorem State.bitTo_wdWarm (s : State) (k n : Nat) (b : Bool) : (s.bitTo k n b).wdWarm = s.wdWarm := by simp [State.bitTo]
@[simp] theorem State.bitTo_klog (s : State) (k n : Nat) (b : Bool) : (s.bitTo k n b).klog = s.klog := by simp [State.bitTo]
@[simp] theorem State.bitTo_logRead (s : State) (k n : Nat) (b : Bool) : (s.bitTo k n b).logRead = s.logRead := by simp [State.bitTo]
@[simp] theorem State.bitTo_dropsAt (s : State) (k n : Nat) (b : Bool) : (s.bitTo k n b).dropsAt = s.dropsAt := by simp [State.bitTo]
@[simp] theorem State.bitTo_standing (s : State) (k n : Nat) (b : Bool) : (s.bitTo k n b).standing = s.standing := by simp [State.bitTo]
@[simp] theorem State.bitTo_once (s : State) (k n : Nat) (b : Bool) : (s.bitTo k n b).once = s.once := by simp [State.bitTo]
@[simp] theorem State.bitTo_fires (s : State) (k n : Nat) (b : Bool) : (s.bitTo k n b).fires = s.fires := by simp [State.bitTo]
@[simp] theorem State.bitTo_bill (s : State) (k n : Nat) (b : Bool) : (s.bitTo k n b).bill = s.bill := by simp [State.bitTo]
@[simp] theorem State.bitTo_ember (s : State) (k n : Nat) (b : Bool) : (s.bitTo k n b).ember = s.ember := by simp [State.bitTo]
@[simp] theorem State.bitTo_host (s : State) (k n : Nat) (b : Bool) : (s.bitTo k n b).host = s.host := by simp [State.bitTo]
@[simp] theorem State.bitTo_loop (s : State) (k n : Nat) (b : Bool) : (s.bitTo k n b).loop = s.loop := by simp [State.bitTo]
@[simp] theorem State.bitTo_sec (s : State) (k n : Nat) (b : Bool) : (s.bitTo k n b).sec = s.sec := by simp [State.bitTo]
@[simp] theorem State.bitTo_otp (s : State) (k n : Nat) (b : Bool) : (s.bitTo k n b).otp = s.otp := by simp [State.bitTo]
@[simp] theorem State.bitTo_sram (s : State) (k n : Nat) (b : Bool) : (s.bitTo k n b).sram = s.sram := by simp [State.bitTo]
@[simp] theorem State.bitTo_saved (s : State) (k n : Nat) (b : Bool) : (s.bitTo k n b).saved = s.saved := by simp [State.bitTo]
@[simp] theorem State.bitTo_unsaved (s : State) (k n : Nat) (b : Bool) : (s.bitTo k n b).unsaved = s.unsaved := by simp [State.bitTo]
@[simp] theorem State.bitTo_resp (s : State) (k n : Nat) (b : Bool) : (s.bitTo k n b).resp = s.resp := by simp [State.bitTo]
@[simp] theorem State.bitTo_respData (s : State) (k n : Nat) (b : Bool) : (s.bitTo k n b).respData = s.respData := by simp [State.bitTo]
@[simp] theorem State.bitTo_arbiter (s : State) (k n : Nat) (b : Bool) : (s.bitTo k n b).arbiter = s.arbiter := by simp [State.bitTo]
@[simp] theorem State.bitTo_pending (s : State) (k n : Nat) (b : Bool) : (s.bitTo k n b).pending = s.pending := by simp [State.bitTo]
@[simp] theorem State.port_bitTo (s : State) (k n : Nat) (b : Bool) (m : Nat) : (s.bitTo k n b).port m = s.port m := by simp [State.port]
@[simp] theorem State.path_bitTo (s : State) (k n : Nat) (b : Bool) (m : Nat) : (s.bitTo k n b).path m = s.path m := by simp [State.path]
@[simp] theorem State.sect_bitTo (s : State) (k n : Nat) (b : Bool) (m : Nat) : (s.bitTo k n b).sect m = s.sect m := by simp [State.sect]
@[simp] theorem State.chan_bitTo (s : State) (k n : Nat) (b : Bool) (m : Nat) : (s.bitTo k n b).chan m = s.chan m := by simp [State.chan]
@[simp] theorem State.pin_bitTo (s : State) (k n : Nat) (b : Bool) (m : Nat) : (s.bitTo k n b).pin m = s.pin m := by simp [State.pin]
@[simp] theorem State.pulse_bitTo (s : State) (k n : Nat) (b : Bool) (m : Nat) : (s.bitTo k n b).pulse m = s.pulse m := by simp [State.pulse]
@[simp] theorem State.die_bitTo (s : State) (k n : Nat) (b : Bool) (m : Nat) : (s.bitTo k n b).die m = s.die m := by simp [State.die]
@[simp] theorem State.line_bitTo (s : State) (k n : Nat) (b : Bool) (m : Nat) : (s.bitTo k n b).line m = s.line m := by simp [State.line]
@[simp] theorem State.store_bitTo (s : State) (k n : Nat) (b : Bool) (m : Nat) : (s.bitTo k n b).store m = s.store m := by simp [State.store]
@[simp] theorem State.fire_bitTo (s : State) (k n : Nat) (b : Bool) (m : Nat) : (s.bitTo k n b).fire m = s.fire m := by simp [State.fire]
@[simp] theorem State.bank_bitTo (s : State) (k n : Nat) (b : Bool) (m : Nat) : (s.bitTo k n b).bank m = s.bank m := by simp [State.bank]

-- addTo

@[simp] theorem State.addTo_dies (s : State) (k n : Nat) : (s.addTo k n).dies = s.dies := by simp [State.addTo]
@[simp] theorem State.addTo_cyc (s : State) (k n : Nat) : (s.addTo k n).cyc = s.cyc := by simp [State.addTo]
@[simp] theorem State.addTo_led (s : State) (k n : Nat) : (s.addTo k n).led = s.led := by simp [State.addTo]
@[simp] theorem State.addTo_ledger (s : State) (k n : Nat) : (s.addTo k n).ledger = s.ledger := by simp [State.addTo]
@[simp] theorem State.addTo_blobs (s : State) (k n : Nat) : (s.addTo k n).blobs = s.blobs := by simp [State.addTo]
@[simp] theorem State.addTo_lag (s : State) (k n : Nat) : (s.addTo k n).lag = s.lag := by simp [State.addTo]
@[simp] theorem State.addTo_ports (s : State) (k n : Nat) : (s.addTo k n).ports = s.ports := by simp [State.addTo]
@[simp] theorem State.addTo_paths (s : State) (k n : Nat) : (s.addTo k n).paths = s.paths := by simp [State.addTo]
@[simp] theorem State.addTo_sects (s : State) (k n : Nat) : (s.addTo k n).sects = s.sects := by simp [State.addTo]
@[simp] theorem State.addTo_chans (s : State) (k n : Nat) : (s.addTo k n).chans = s.chans := by simp [State.addTo]
@[simp] theorem State.addTo_pins (s : State) (k n : Nat) : (s.addTo k n).pins = s.pins := by simp [State.addTo]
@[simp] theorem State.addTo_pulses (s : State) (k n : Nat) : (s.addTo k n).pulses = s.pulses := by simp [State.addTo]
@[simp] theorem State.addTo_dieRt (s : State) (k n : Nat) : (s.addTo k n).dieRt = s.dieRt := by simp [State.addTo]
@[simp] theorem State.addTo_lines (s : State) (k n : Nat) : (s.addTo k n).lines = s.lines := by simp [State.addTo]
@[simp] theorem State.addTo_gpio (s : State) (k n : Nat) : (s.addTo k n).gpio = s.gpio := by simp [State.addTo]
@[simp] theorem State.addTo_stores (s : State) (k n : Nat) : (s.addTo k n).stores = s.stores := by simp [State.addTo]
@[simp] theorem State.addTo_vel (s : State) (k n : Nat) : (s.addTo k n).vel = s.vel := by simp [State.addTo]
@[simp] theorem State.addTo_lant (s : State) (k n : Nat) : (s.addTo k n).lant = s.lant := by simp [State.addTo]
@[simp] theorem State.addTo_pow (s : State) (k n : Nat) : (s.addTo k n).pow = s.pow := by simp [State.addTo]
@[simp] theorem State.addTo_f0 (s : State) (k n : Nat) : (s.addTo k n).f0 = s.f0 := by simp [State.addTo]
@[simp] theorem State.addTo_frameLen (s : State) (k n : Nat) : (s.addTo k n).frameLen = s.frameLen := by simp [State.addTo]
@[simp] theorem State.addTo_frameAt (s : State) (k n : Nat) : (s.addTo k n).frameAt = s.frameAt := by simp [State.addTo]
@[simp] theorem State.addTo_frameSeq (s : State) (k n : Nat) : (s.addTo k n).frameSeq = s.frameSeq := by simp [State.addTo]
@[simp] theorem State.addTo_frameRtc (s : State) (k n : Nat) : (s.addTo k n).frameRtc = s.frameRtc := by simp [State.addTo]
@[simp] theorem State.addTo_lenPend (s : State) (k n : Nat) : (s.addTo k n).lenPend = s.lenPend := by simp [State.addTo]
@[simp] theorem State.addTo_framing (s : State) (k n : Nat) : (s.addTo k n).framing = s.framing := by simp [State.addTo]
@[simp] theorem State.addTo_ready (s : State) (k n : Nat) : (s.addTo k n).ready = s.ready := by simp [State.addTo]
@[simp] theorem State.addTo_halt (s : State) (k n : Nat) : (s.addTo k n).halt = s.halt := by simp [State.addTo]
@[simp] theorem State.addTo_wdWarm (s : State) (k n : Nat) : (s.addTo k n).wdWarm = s.wdWarm := by simp [State.addTo]
@[simp] theorem State.addTo_klog (s : State) (k n : Nat) : (s.addTo k n).klog = s.klog := by simp [State.addTo]
@[simp] theorem State.addTo_logRead (s : State) (k n : Nat) : (s.addTo k n).logRead = s.logRead := by simp [State.addTo]
@[simp] theorem State.addTo_dropsAt (s : State) (k n : Nat) : (s.addTo k n).dropsAt = s.dropsAt := by simp [State.addTo]
@[simp] theorem State.addTo_standing (s : State) (k n : Nat) : (s.addTo k n).standing = s.standing := by simp [State.addTo]
@[simp] theorem State.addTo_once (s : State) (k n : Nat) : (s.addTo k n).once = s.once := by simp [State.addTo]
@[simp] theorem State.addTo_fires (s : State) (k n : Nat) : (s.addTo k n).fires = s.fires := by simp [State.addTo]
@[simp] theorem State.addTo_bill (s : State) (k n : Nat) : (s.addTo k n).bill = s.bill := by simp [State.addTo]
@[simp] theorem State.addTo_ember (s : State) (k n : Nat) : (s.addTo k n).ember = s.ember := by simp [State.addTo]
@[simp] theorem State.addTo_host (s : State) (k n : Nat) : (s.addTo k n).host = s.host := by simp [State.addTo]
@[simp] theorem State.addTo_loop (s : State) (k n : Nat) : (s.addTo k n).loop = s.loop := by simp [State.addTo]
@[simp] theorem State.addTo_sec (s : State) (k n : Nat) : (s.addTo k n).sec = s.sec := by simp [State.addTo]
@[simp] theorem State.addTo_otp (s : State) (k n : Nat) : (s.addTo k n).otp = s.otp := by simp [State.addTo]
@[simp] theorem State.addTo_sram (s : State) (k n : Nat) : (s.addTo k n).sram = s.sram := by simp [State.addTo]
@[simp] theorem State.addTo_saved (s : State) (k n : Nat) : (s.addTo k n).saved = s.saved := by simp [State.addTo]
@[simp] theorem State.addTo_unsaved (s : State) (k n : Nat) : (s.addTo k n).unsaved = s.unsaved := by simp [State.addTo]
@[simp] theorem State.addTo_resp (s : State) (k n : Nat) : (s.addTo k n).resp = s.resp := by simp [State.addTo]
@[simp] theorem State.addTo_respData (s : State) (k n : Nat) : (s.addTo k n).respData = s.respData := by simp [State.addTo]
@[simp] theorem State.addTo_arbiter (s : State) (k n : Nat) : (s.addTo k n).arbiter = s.arbiter := by simp [State.addTo]
@[simp] theorem State.addTo_pending (s : State) (k n : Nat) : (s.addTo k n).pending = s.pending := by simp [State.addTo]
@[simp] theorem State.port_addTo (s : State) (k n : Nat) (m : Nat) : (s.addTo k n).port m = s.port m := by simp [State.port]
@[simp] theorem State.path_addTo (s : State) (k n : Nat) (m : Nat) : (s.addTo k n).path m = s.path m := by simp [State.path]
@[simp] theorem State.sect_addTo (s : State) (k n : Nat) (m : Nat) : (s.addTo k n).sect m = s.sect m := by simp [State.sect]
@[simp] theorem State.chan_addTo (s : State) (k n : Nat) (m : Nat) : (s.addTo k n).chan m = s.chan m := by simp [State.chan]
@[simp] theorem State.pin_addTo (s : State) (k n : Nat) (m : Nat) : (s.addTo k n).pin m = s.pin m := by simp [State.pin]
@[simp] theorem State.pulse_addTo (s : State) (k n : Nat) (m : Nat) : (s.addTo k n).pulse m = s.pulse m := by simp [State.pulse]
@[simp] theorem State.die_addTo (s : State) (k n : Nat) (m : Nat) : (s.addTo k n).die m = s.die m := by simp [State.die]
@[simp] theorem State.line_addTo (s : State) (k n : Nat) (m : Nat) : (s.addTo k n).line m = s.line m := by simp [State.line]
@[simp] theorem State.store_addTo (s : State) (k n : Nat) (m : Nat) : (s.addTo k n).store m = s.store m := by simp [State.store]
@[simp] theorem State.fire_addTo (s : State) (k n : Nat) (m : Nat) : (s.addTo k n).fire m = s.fire m := by simp [State.fire]
@[simp] theorem State.bank_addTo (s : State) (k n : Nat) (m : Nat) : (s.addTo k n).bank m = s.bank m := by simp [State.bank]

-- pi

@[simp] theorem State.pi_dies (s : State) (b k : Nat) (v : Int) : (State.pi b s k v).dies = s.dies := by simp [State.pi]
@[simp] theorem State.pi_cyc (s : State) (b k : Nat) (v : Int) : (State.pi b s k v).cyc = s.cyc := by simp [State.pi]
@[simp] theorem State.pi_led (s : State) (b k : Nat) (v : Int) : (State.pi b s k v).led = s.led := by simp [State.pi]
@[simp] theorem State.pi_ledger (s : State) (b k : Nat) (v : Int) : (State.pi b s k v).ledger = s.ledger := by simp [State.pi]
@[simp] theorem State.pi_blobs (s : State) (b k : Nat) (v : Int) : (State.pi b s k v).blobs = s.blobs := by simp [State.pi]
@[simp] theorem State.pi_lag (s : State) (b k : Nat) (v : Int) : (State.pi b s k v).lag = s.lag := by simp [State.pi]
@[simp] theorem State.pi_ports (s : State) (b k : Nat) (v : Int) : (State.pi b s k v).ports = s.ports := by simp [State.pi]
@[simp] theorem State.pi_paths (s : State) (b k : Nat) (v : Int) : (State.pi b s k v).paths = s.paths := by simp [State.pi]
@[simp] theorem State.pi_sects (s : State) (b k : Nat) (v : Int) : (State.pi b s k v).sects = s.sects := by simp [State.pi]
@[simp] theorem State.pi_chans (s : State) (b k : Nat) (v : Int) : (State.pi b s k v).chans = s.chans := by simp [State.pi]
@[simp] theorem State.pi_pins (s : State) (b k : Nat) (v : Int) : (State.pi b s k v).pins = s.pins := by simp [State.pi]
@[simp] theorem State.pi_pulses (s : State) (b k : Nat) (v : Int) : (State.pi b s k v).pulses = s.pulses := by simp [State.pi]
@[simp] theorem State.pi_dieRt (s : State) (b k : Nat) (v : Int) : (State.pi b s k v).dieRt = s.dieRt := by simp [State.pi]
@[simp] theorem State.pi_lines (s : State) (b k : Nat) (v : Int) : (State.pi b s k v).lines = s.lines := by simp [State.pi]
@[simp] theorem State.pi_gpio (s : State) (b k : Nat) (v : Int) : (State.pi b s k v).gpio = s.gpio := by simp [State.pi]
@[simp] theorem State.pi_stores (s : State) (b k : Nat) (v : Int) : (State.pi b s k v).stores = s.stores := by simp [State.pi]
@[simp] theorem State.pi_vel (s : State) (b k : Nat) (v : Int) : (State.pi b s k v).vel = s.vel := by simp [State.pi]
@[simp] theorem State.pi_lant (s : State) (b k : Nat) (v : Int) : (State.pi b s k v).lant = s.lant := by simp [State.pi]
@[simp] theorem State.pi_pow (s : State) (b k : Nat) (v : Int) : (State.pi b s k v).pow = s.pow := by simp [State.pi]
@[simp] theorem State.pi_f0 (s : State) (b k : Nat) (v : Int) : (State.pi b s k v).f0 = s.f0 := by simp [State.pi]
@[simp] theorem State.pi_frameLen (s : State) (b k : Nat) (v : Int) : (State.pi b s k v).frameLen = s.frameLen := by simp [State.pi]
@[simp] theorem State.pi_frameAt (s : State) (b k : Nat) (v : Int) : (State.pi b s k v).frameAt = s.frameAt := by simp [State.pi]
@[simp] theorem State.pi_frameSeq (s : State) (b k : Nat) (v : Int) : (State.pi b s k v).frameSeq = s.frameSeq := by simp [State.pi]
@[simp] theorem State.pi_frameRtc (s : State) (b k : Nat) (v : Int) : (State.pi b s k v).frameRtc = s.frameRtc := by simp [State.pi]
@[simp] theorem State.pi_lenPend (s : State) (b k : Nat) (v : Int) : (State.pi b s k v).lenPend = s.lenPend := by simp [State.pi]
@[simp] theorem State.pi_framing (s : State) (b k : Nat) (v : Int) : (State.pi b s k v).framing = s.framing := by simp [State.pi]
@[simp] theorem State.pi_ready (s : State) (b k : Nat) (v : Int) : (State.pi b s k v).ready = s.ready := by simp [State.pi]
@[simp] theorem State.pi_halt (s : State) (b k : Nat) (v : Int) : (State.pi b s k v).halt = s.halt := by simp [State.pi]
@[simp] theorem State.pi_wdWarm (s : State) (b k : Nat) (v : Int) : (State.pi b s k v).wdWarm = s.wdWarm := by simp [State.pi]
@[simp] theorem State.pi_klog (s : State) (b k : Nat) (v : Int) : (State.pi b s k v).klog = s.klog := by simp [State.pi]
@[simp] theorem State.pi_logRead (s : State) (b k : Nat) (v : Int) : (State.pi b s k v).logRead = s.logRead := by simp [State.pi]
@[simp] theorem State.pi_dropsAt (s : State) (b k : Nat) (v : Int) : (State.pi b s k v).dropsAt = s.dropsAt := by simp [State.pi]
@[simp] theorem State.pi_standing (s : State) (b k : Nat) (v : Int) : (State.pi b s k v).standing = s.standing := by simp [State.pi]
@[simp] theorem State.pi_once (s : State) (b k : Nat) (v : Int) : (State.pi b s k v).once = s.once := by simp [State.pi]
@[simp] theorem State.pi_fires (s : State) (b k : Nat) (v : Int) : (State.pi b s k v).fires = s.fires := by simp [State.pi]
@[simp] theorem State.pi_bill (s : State) (b k : Nat) (v : Int) : (State.pi b s k v).bill = s.bill := by simp [State.pi]
@[simp] theorem State.pi_ember (s : State) (b k : Nat) (v : Int) : (State.pi b s k v).ember = s.ember := by simp [State.pi]
@[simp] theorem State.pi_host (s : State) (b k : Nat) (v : Int) : (State.pi b s k v).host = s.host := by simp [State.pi]
@[simp] theorem State.pi_loop (s : State) (b k : Nat) (v : Int) : (State.pi b s k v).loop = s.loop := by simp [State.pi]
@[simp] theorem State.pi_sec (s : State) (b k : Nat) (v : Int) : (State.pi b s k v).sec = s.sec := by simp [State.pi]
@[simp] theorem State.pi_otp (s : State) (b k : Nat) (v : Int) : (State.pi b s k v).otp = s.otp := by simp [State.pi]
@[simp] theorem State.pi_sram (s : State) (b k : Nat) (v : Int) : (State.pi b s k v).sram = s.sram := by simp [State.pi]
@[simp] theorem State.pi_saved (s : State) (b k : Nat) (v : Int) : (State.pi b s k v).saved = s.saved := by simp [State.pi]
@[simp] theorem State.pi_unsaved (s : State) (b k : Nat) (v : Int) : (State.pi b s k v).unsaved = s.unsaved := by simp [State.pi]
@[simp] theorem State.pi_resp (s : State) (b k : Nat) (v : Int) : (State.pi b s k v).resp = s.resp := by simp [State.pi]
@[simp] theorem State.pi_respData (s : State) (b k : Nat) (v : Int) : (State.pi b s k v).respData = s.respData := by simp [State.pi]
@[simp] theorem State.pi_arbiter (s : State) (b k : Nat) (v : Int) : (State.pi b s k v).arbiter = s.arbiter := by simp [State.pi]
@[simp] theorem State.pi_pending (s : State) (b k : Nat) (v : Int) : (State.pi b s k v).pending = s.pending := by simp [State.pi]
@[simp] theorem State.port_pi (s : State) (b k : Nat) (v : Int) (m : Nat) : (State.pi b s k v).port m = s.port m := by simp [State.port]
@[simp] theorem State.path_pi (s : State) (b k : Nat) (v : Int) (m : Nat) : (State.pi b s k v).path m = s.path m := by simp [State.path]
@[simp] theorem State.sect_pi (s : State) (b k : Nat) (v : Int) (m : Nat) : (State.pi b s k v).sect m = s.sect m := by simp [State.sect]
@[simp] theorem State.chan_pi (s : State) (b k : Nat) (v : Int) (m : Nat) : (State.pi b s k v).chan m = s.chan m := by simp [State.chan]
@[simp] theorem State.pin_pi (s : State) (b k : Nat) (v : Int) (m : Nat) : (State.pi b s k v).pin m = s.pin m := by simp [State.pin]
@[simp] theorem State.pulse_pi (s : State) (b k : Nat) (v : Int) (m : Nat) : (State.pi b s k v).pulse m = s.pulse m := by simp [State.pulse]
@[simp] theorem State.die_pi (s : State) (b k : Nat) (v : Int) (m : Nat) : (State.pi b s k v).die m = s.die m := by simp [State.die]
@[simp] theorem State.line_pi (s : State) (b k : Nat) (v : Int) (m : Nat) : (State.pi b s k v).line m = s.line m := by simp [State.line]
@[simp] theorem State.store_pi (s : State) (b k : Nat) (v : Int) (m : Nat) : (State.pi b s k v).store m = s.store m := by simp [State.store]
@[simp] theorem State.fire_pi (s : State) (b k : Nat) (v : Int) (m : Nat) : (State.pi b s k v).fire m = s.fire m := by simp [State.fire]
@[simp] theorem State.bank_pi (s : State) (b k : Nat) (v : Int) (m : Nat) : (State.pi b s k v).bank m = s.bank m := by simp [State.bank]

-- inc

@[simp] theorem State.inc_dies (s : State) (k : Nat) : (s.inc k).dies = s.dies := by unfold State.inc; simp only []; split <;> simp
@[simp] theorem State.inc_cyc (s : State) (k : Nat) : (s.inc k).cyc = s.cyc := by unfold State.inc; simp only []; split <;> simp
@[simp] theorem State.inc_led (s : State) (k : Nat) : (s.inc k).led = s.led := by unfold State.inc; simp only []; split <;> simp
@[simp] theorem State.inc_ledger (s : State) (k : Nat) : (s.inc k).ledger = s.ledger := by unfold State.inc; simp only []; split <;> simp
@[simp] theorem State.inc_blobs (s : State) (k : Nat) : (s.inc k).blobs = s.blobs := by unfold State.inc; simp only []; split <;> simp
@[simp] theorem State.inc_ports (s : State) (k : Nat) : (s.inc k).ports = s.ports := by unfold State.inc; simp only []; split <;> simp
@[simp] theorem State.inc_paths (s : State) (k : Nat) : (s.inc k).paths = s.paths := by unfold State.inc; simp only []; split <;> simp
@[simp] theorem State.inc_sects (s : State) (k : Nat) : (s.inc k).sects = s.sects := by unfold State.inc; simp only []; split <;> simp
@[simp] theorem State.inc_chans (s : State) (k : Nat) : (s.inc k).chans = s.chans := by unfold State.inc; simp only []; split <;> simp
@[simp] theorem State.inc_pins (s : State) (k : Nat) : (s.inc k).pins = s.pins := by unfold State.inc; simp only []; split <;> simp
@[simp] theorem State.inc_pulses (s : State) (k : Nat) : (s.inc k).pulses = s.pulses := by unfold State.inc; simp only []; split <;> simp
@[simp] theorem State.inc_dieRt (s : State) (k : Nat) : (s.inc k).dieRt = s.dieRt := by unfold State.inc; simp only []; split <;> simp
@[simp] theorem State.inc_lines (s : State) (k : Nat) : (s.inc k).lines = s.lines := by unfold State.inc; simp only []; split <;> simp
@[simp] theorem State.inc_gpio (s : State) (k : Nat) : (s.inc k).gpio = s.gpio := by unfold State.inc; simp only []; split <;> simp
@[simp] theorem State.inc_stores (s : State) (k : Nat) : (s.inc k).stores = s.stores := by unfold State.inc; simp only []; split <;> simp
@[simp] theorem State.inc_vel (s : State) (k : Nat) : (s.inc k).vel = s.vel := by unfold State.inc; simp only []; split <;> simp
@[simp] theorem State.inc_lant (s : State) (k : Nat) : (s.inc k).lant = s.lant := by unfold State.inc; simp only []; split <;> simp
@[simp] theorem State.inc_pow (s : State) (k : Nat) : (s.inc k).pow = s.pow := by unfold State.inc; simp only []; split <;> simp
@[simp] theorem State.inc_f0 (s : State) (k : Nat) : (s.inc k).f0 = s.f0 := by unfold State.inc; simp only []; split <;> simp
@[simp] theorem State.inc_frameLen (s : State) (k : Nat) : (s.inc k).frameLen = s.frameLen := by unfold State.inc; simp only []; split <;> simp
@[simp] theorem State.inc_frameAt (s : State) (k : Nat) : (s.inc k).frameAt = s.frameAt := by unfold State.inc; simp only []; split <;> simp
@[simp] theorem State.inc_frameSeq (s : State) (k : Nat) : (s.inc k).frameSeq = s.frameSeq := by unfold State.inc; simp only []; split <;> simp
@[simp] theorem State.inc_frameRtc (s : State) (k : Nat) : (s.inc k).frameRtc = s.frameRtc := by unfold State.inc; simp only []; split <;> simp
@[simp] theorem State.inc_lenPend (s : State) (k : Nat) : (s.inc k).lenPend = s.lenPend := by unfold State.inc; simp only []; split <;> simp
@[simp] theorem State.inc_framing (s : State) (k : Nat) : (s.inc k).framing = s.framing := by unfold State.inc; simp only []; split <;> simp
@[simp] theorem State.inc_ready (s : State) (k : Nat) : (s.inc k).ready = s.ready := by unfold State.inc; simp only []; split <;> simp
@[simp] theorem State.inc_halt (s : State) (k : Nat) : (s.inc k).halt = s.halt := by unfold State.inc; simp only []; split <;> simp
@[simp] theorem State.inc_wdWarm (s : State) (k : Nat) : (s.inc k).wdWarm = s.wdWarm := by unfold State.inc; simp only []; split <;> simp
@[simp] theorem State.inc_klog (s : State) (k : Nat) : (s.inc k).klog = s.klog := by unfold State.inc; simp only []; split <;> simp
@[simp] theorem State.inc_logRead (s : State) (k : Nat) : (s.inc k).logRead = s.logRead := by unfold State.inc; simp only []; split <;> simp
@[simp] theorem State.inc_dropsAt (s : State) (k : Nat) : (s.inc k).dropsAt = s.dropsAt := by unfold State.inc; simp only []; split <;> simp
@[simp] theorem State.inc_standing (s : State) (k : Nat) : (s.inc k).standing = s.standing := by unfold State.inc; simp only []; split <;> simp
@[simp] theorem State.inc_once (s : State) (k : Nat) : (s.inc k).once = s.once := by unfold State.inc; simp only []; split <;> simp
@[simp] theorem State.inc_fires (s : State) (k : Nat) : (s.inc k).fires = s.fires := by unfold State.inc; simp only []; split <;> simp
@[simp] theorem State.inc_bill (s : State) (k : Nat) : (s.inc k).bill = s.bill := by unfold State.inc; simp only []; split <;> simp
@[simp] theorem State.inc_ember (s : State) (k : Nat) : (s.inc k).ember = s.ember := by unfold State.inc; simp only []; split <;> simp
@[simp] theorem State.inc_host (s : State) (k : Nat) : (s.inc k).host = s.host := by unfold State.inc; simp only []; split <;> simp
@[simp] theorem State.inc_loop (s : State) (k : Nat) : (s.inc k).loop = s.loop := by unfold State.inc; simp only []; split <;> simp
@[simp] theorem State.inc_sec (s : State) (k : Nat) : (s.inc k).sec = s.sec := by unfold State.inc; simp only []; split <;> simp
@[simp] theorem State.inc_otp (s : State) (k : Nat) : (s.inc k).otp = s.otp := by unfold State.inc; simp only []; split <;> simp
@[simp] theorem State.inc_sram (s : State) (k : Nat) : (s.inc k).sram = s.sram := by unfold State.inc; simp only []; split <;> simp
@[simp] theorem State.inc_saved (s : State) (k : Nat) : (s.inc k).saved = s.saved := by unfold State.inc; simp only []; split <;> simp
@[simp] theorem State.inc_unsaved (s : State) (k : Nat) : (s.inc k).unsaved = s.unsaved := by unfold State.inc; simp only []; split <;> simp
@[simp] theorem State.inc_resp (s : State) (k : Nat) : (s.inc k).resp = s.resp := by unfold State.inc; simp only []; split <;> simp
@[simp] theorem State.inc_respData (s : State) (k : Nat) : (s.inc k).respData = s.respData := by unfold State.inc; simp only []; split <;> simp
@[simp] theorem State.inc_arbiter (s : State) (k : Nat) : (s.inc k).arbiter = s.arbiter := by unfold State.inc; simp only []; split <;> simp
@[simp] theorem State.inc_pending (s : State) (k : Nat) : (s.inc k).pending = s.pending := by unfold State.inc; simp only []; split <;> simp
@[simp] theorem State.port_inc (s : State) (k : Nat) (m : Nat) : (s.inc k).port m = s.port m := by simp [State.port]
@[simp] theorem State.path_inc (s : State) (k : Nat) (m : Nat) : (s.inc k).path m = s.path m := by simp [State.path]
@[simp] theorem State.sect_inc (s : State) (k : Nat) (m : Nat) : (s.inc k).sect m = s.sect m := by simp [State.sect]
@[simp] theorem State.chan_inc (s : State) (k : Nat) (m : Nat) : (s.inc k).chan m = s.chan m := by simp [State.chan]
@[simp] theorem State.pin_inc (s : State) (k : Nat) (m : Nat) : (s.inc k).pin m = s.pin m := by simp [State.pin]
@[simp] theorem State.pulse_inc (s : State) (k : Nat) (m : Nat) : (s.inc k).pulse m = s.pulse m := by simp [State.pulse]
@[simp] theorem State.die_inc (s : State) (k : Nat) (m : Nat) : (s.inc k).die m = s.die m := by simp [State.die]
@[simp] theorem State.line_inc (s : State) (k : Nat) (m : Nat) : (s.inc k).line m = s.line m := by simp [State.line]
@[simp] theorem State.store_inc (s : State) (k : Nat) (m : Nat) : (s.inc k).store m = s.store m := by simp [State.store]
@[simp] theorem State.fire_inc (s : State) (k : Nat) (m : Nat) : (s.inc k).fire m = s.fire m := by simp [State.fire]
@[simp] theorem State.bank_inc (s : State) (k : Nat) (m : Nat) : (s.inc k).bank m = s.bank m := by simp [State.bank]

-- syncErr

@[simp] theorem State.syncErr_dies (s : State) : (s.syncErr).dies = s.dies := by simp [State.syncErr]
@[simp] theorem State.syncErr_cyc (s : State) : (s.syncErr).cyc = s.cyc := by simp [State.syncErr]
@[simp] theorem State.syncErr_led (s : State) : (s.syncErr).led = s.led := by simp [State.syncErr]
@[simp] theorem State.syncErr_ledger (s : State) : (s.syncErr).ledger = s.ledger := by simp [State.syncErr]
@[simp] theorem State.syncErr_blobs (s : State) : (s.syncErr).blobs = s.blobs := by simp [State.syncErr]
@[simp] theorem State.syncErr_lag (s : State) : (s.syncErr).lag = s.lag := by simp [State.syncErr]
@[simp] theorem State.syncErr_ports (s : State) : (s.syncErr).ports = s.ports := by simp [State.syncErr]
@[simp] theorem State.syncErr_paths (s : State) : (s.syncErr).paths = s.paths := by simp [State.syncErr]
@[simp] theorem State.syncErr_sects (s : State) : (s.syncErr).sects = s.sects := by simp [State.syncErr]
@[simp] theorem State.syncErr_chans (s : State) : (s.syncErr).chans = s.chans := by simp [State.syncErr]
@[simp] theorem State.syncErr_pins (s : State) : (s.syncErr).pins = s.pins := by simp [State.syncErr]
@[simp] theorem State.syncErr_pulses (s : State) : (s.syncErr).pulses = s.pulses := by simp [State.syncErr]
@[simp] theorem State.syncErr_dieRt (s : State) : (s.syncErr).dieRt = s.dieRt := by simp [State.syncErr]
@[simp] theorem State.syncErr_lines (s : State) : (s.syncErr).lines = s.lines := by simp [State.syncErr]
@[simp] theorem State.syncErr_gpio (s : State) : (s.syncErr).gpio = s.gpio := by simp [State.syncErr]
@[simp] theorem State.syncErr_stores (s : State) : (s.syncErr).stores = s.stores := by simp [State.syncErr]
@[simp] theorem State.syncErr_vel (s : State) : (s.syncErr).vel = s.vel := by simp [State.syncErr]
@[simp] theorem State.syncErr_lant (s : State) : (s.syncErr).lant = s.lant := by simp [State.syncErr]
@[simp] theorem State.syncErr_pow (s : State) : (s.syncErr).pow = s.pow := by simp [State.syncErr]
@[simp] theorem State.syncErr_f0 (s : State) : (s.syncErr).f0 = s.f0 := by simp [State.syncErr]
@[simp] theorem State.syncErr_frameLen (s : State) : (s.syncErr).frameLen = s.frameLen := by simp [State.syncErr]
@[simp] theorem State.syncErr_frameAt (s : State) : (s.syncErr).frameAt = s.frameAt := by simp [State.syncErr]
@[simp] theorem State.syncErr_frameSeq (s : State) : (s.syncErr).frameSeq = s.frameSeq := by simp [State.syncErr]
@[simp] theorem State.syncErr_frameRtc (s : State) : (s.syncErr).frameRtc = s.frameRtc := by simp [State.syncErr]
@[simp] theorem State.syncErr_lenPend (s : State) : (s.syncErr).lenPend = s.lenPend := by simp [State.syncErr]
@[simp] theorem State.syncErr_framing (s : State) : (s.syncErr).framing = s.framing := by simp [State.syncErr]
@[simp] theorem State.syncErr_ready (s : State) : (s.syncErr).ready = s.ready := by simp [State.syncErr]
@[simp] theorem State.syncErr_halt (s : State) : (s.syncErr).halt = s.halt := by simp [State.syncErr]
@[simp] theorem State.syncErr_wdWarm (s : State) : (s.syncErr).wdWarm = s.wdWarm := by simp [State.syncErr]
@[simp] theorem State.syncErr_klog (s : State) : (s.syncErr).klog = s.klog := by simp [State.syncErr]
@[simp] theorem State.syncErr_logRead (s : State) : (s.syncErr).logRead = s.logRead := by simp [State.syncErr]
@[simp] theorem State.syncErr_dropsAt (s : State) : (s.syncErr).dropsAt = s.dropsAt := by simp [State.syncErr]
@[simp] theorem State.syncErr_standing (s : State) : (s.syncErr).standing = s.standing := by simp [State.syncErr]
@[simp] theorem State.syncErr_once (s : State) : (s.syncErr).once = s.once := by simp [State.syncErr]
@[simp] theorem State.syncErr_fires (s : State) : (s.syncErr).fires = s.fires := by simp [State.syncErr]
@[simp] theorem State.syncErr_bill (s : State) : (s.syncErr).bill = s.bill := by simp [State.syncErr]
@[simp] theorem State.syncErr_ember (s : State) : (s.syncErr).ember = s.ember := by simp [State.syncErr]
@[simp] theorem State.syncErr_host (s : State) : (s.syncErr).host = s.host := by simp [State.syncErr]
@[simp] theorem State.syncErr_loop (s : State) : (s.syncErr).loop = s.loop := by simp [State.syncErr]
@[simp] theorem State.syncErr_sec (s : State) : (s.syncErr).sec = s.sec := by simp [State.syncErr]
@[simp] theorem State.syncErr_otp (s : State) : (s.syncErr).otp = s.otp := by simp [State.syncErr]
@[simp] theorem State.syncErr_sram (s : State) : (s.syncErr).sram = s.sram := by simp [State.syncErr]
@[simp] theorem State.syncErr_saved (s : State) : (s.syncErr).saved = s.saved := by simp [State.syncErr]
@[simp] theorem State.syncErr_unsaved (s : State) : (s.syncErr).unsaved = s.unsaved := by simp [State.syncErr]
@[simp] theorem State.syncErr_resp (s : State) : (s.syncErr).resp = s.resp := by simp [State.syncErr]
@[simp] theorem State.syncErr_respData (s : State) : (s.syncErr).respData = s.respData := by simp [State.syncErr]
@[simp] theorem State.syncErr_arbiter (s : State) : (s.syncErr).arbiter = s.arbiter := by simp [State.syncErr]
@[simp] theorem State.syncErr_pending (s : State) : (s.syncErr).pending = s.pending := by simp [State.syncErr]
@[simp] theorem State.port_syncErr (s : State) (m : Nat) : (s.syncErr).port m = s.port m := by simp [State.port]
@[simp] theorem State.path_syncErr (s : State) (m : Nat) : (s.syncErr).path m = s.path m := by simp [State.path]
@[simp] theorem State.sect_syncErr (s : State) (m : Nat) : (s.syncErr).sect m = s.sect m := by simp [State.sect]
@[simp] theorem State.chan_syncErr (s : State) (m : Nat) : (s.syncErr).chan m = s.chan m := by simp [State.chan]
@[simp] theorem State.pin_syncErr (s : State) (m : Nat) : (s.syncErr).pin m = s.pin m := by simp [State.pin]
@[simp] theorem State.pulse_syncErr (s : State) (m : Nat) : (s.syncErr).pulse m = s.pulse m := by simp [State.pulse]
@[simp] theorem State.die_syncErr (s : State) (m : Nat) : (s.syncErr).die m = s.die m := by simp [State.die]
@[simp] theorem State.line_syncErr (s : State) (m : Nat) : (s.syncErr).line m = s.line m := by simp [State.line]
@[simp] theorem State.store_syncErr (s : State) (m : Nat) : (s.syncErr).store m = s.store m := by simp [State.store]
@[simp] theorem State.fire_syncErr (s : State) (m : Nat) : (s.syncErr).fire m = s.fire m := by simp [State.fire]
@[simp] theorem State.bank_syncErr (s : State) (m : Nat) : (s.syncErr).bank m = s.bank m := by simp [State.bank]

-- enqueue

@[simp] theorem State.enqueue_dies (s : State) (e : LogEnt) : (s.enqueue e).dies = s.dies := by unfold State.enqueue; simp only []; split <;> simp
@[simp] theorem State.enqueue_cyc (s : State) (e : LogEnt) : (s.enqueue e).cyc = s.cyc := by unfold State.enqueue; simp only []; split <;> simp
@[simp] theorem State.enqueue_led (s : State) (e : LogEnt) : (s.enqueue e).led = s.led := by unfold State.enqueue; simp only []; split <;> simp
@[simp] theorem State.enqueue_ledger (s : State) (e : LogEnt) : (s.enqueue e).ledger = s.ledger := by unfold State.enqueue; simp only []; split <;> simp
@[simp] theorem State.enqueue_blobs (s : State) (e : LogEnt) : (s.enqueue e).blobs = s.blobs := by unfold State.enqueue; simp only []; split <;> simp
@[simp] theorem State.enqueue_ports (s : State) (e : LogEnt) : (s.enqueue e).ports = s.ports := by unfold State.enqueue; simp only []; split <;> simp
@[simp] theorem State.enqueue_paths (s : State) (e : LogEnt) : (s.enqueue e).paths = s.paths := by unfold State.enqueue; simp only []; split <;> simp
@[simp] theorem State.enqueue_sects (s : State) (e : LogEnt) : (s.enqueue e).sects = s.sects := by unfold State.enqueue; simp only []; split <;> simp
@[simp] theorem State.enqueue_chans (s : State) (e : LogEnt) : (s.enqueue e).chans = s.chans := by unfold State.enqueue; simp only []; split <;> simp
@[simp] theorem State.enqueue_pins (s : State) (e : LogEnt) : (s.enqueue e).pins = s.pins := by unfold State.enqueue; simp only []; split <;> simp
@[simp] theorem State.enqueue_pulses (s : State) (e : LogEnt) : (s.enqueue e).pulses = s.pulses := by unfold State.enqueue; simp only []; split <;> simp
@[simp] theorem State.enqueue_lines (s : State) (e : LogEnt) : (s.enqueue e).lines = s.lines := by unfold State.enqueue; simp only []; split <;> simp
@[simp] theorem State.enqueue_gpio (s : State) (e : LogEnt) : (s.enqueue e).gpio = s.gpio := by unfold State.enqueue; simp only []; split <;> simp
@[simp] theorem State.enqueue_stores (s : State) (e : LogEnt) : (s.enqueue e).stores = s.stores := by unfold State.enqueue; simp only []; split <;> simp
@[simp] theorem State.enqueue_vel (s : State) (e : LogEnt) : (s.enqueue e).vel = s.vel := by unfold State.enqueue; simp only []; split <;> simp
@[simp] theorem State.enqueue_lant (s : State) (e : LogEnt) : (s.enqueue e).lant = s.lant := by unfold State.enqueue; simp only []; split <;> simp
@[simp] theorem State.enqueue_pow (s : State) (e : LogEnt) : (s.enqueue e).pow = s.pow := by unfold State.enqueue; simp only []; split <;> simp
@[simp] theorem State.enqueue_f0 (s : State) (e : LogEnt) : (s.enqueue e).f0 = s.f0 := by unfold State.enqueue; simp only []; split <;> simp
@[simp] theorem State.enqueue_frameLen (s : State) (e : LogEnt) : (s.enqueue e).frameLen = s.frameLen := by unfold State.enqueue; simp only []; split <;> simp
@[simp] theorem State.enqueue_frameAt (s : State) (e : LogEnt) : (s.enqueue e).frameAt = s.frameAt := by unfold State.enqueue; simp only []; split <;> simp
@[simp] theorem State.enqueue_frameSeq (s : State) (e : LogEnt) : (s.enqueue e).frameSeq = s.frameSeq := by unfold State.enqueue; simp only []; split <;> simp
@[simp] theorem State.enqueue_frameRtc (s : State) (e : LogEnt) : (s.enqueue e).frameRtc = s.frameRtc := by unfold State.enqueue; simp only []; split <;> simp
@[simp] theorem State.enqueue_lenPend (s : State) (e : LogEnt) : (s.enqueue e).lenPend = s.lenPend := by unfold State.enqueue; simp only []; split <;> simp
@[simp] theorem State.enqueue_framing (s : State) (e : LogEnt) : (s.enqueue e).framing = s.framing := by unfold State.enqueue; simp only []; split <;> simp
@[simp] theorem State.enqueue_ready (s : State) (e : LogEnt) : (s.enqueue e).ready = s.ready := by unfold State.enqueue; simp only []; split <;> simp
@[simp] theorem State.enqueue_halt (s : State) (e : LogEnt) : (s.enqueue e).halt = s.halt := by unfold State.enqueue; simp only []; split <;> simp
@[simp] theorem State.enqueue_wdWarm (s : State) (e : LogEnt) : (s.enqueue e).wdWarm = s.wdWarm := by unfold State.enqueue; simp only []; split <;> simp
@[simp] theorem State.enqueue_klog (s : State) (e : LogEnt) : (s.enqueue e).klog = s.klog := by unfold State.enqueue; simp only []; split <;> simp
@[simp] theorem State.enqueue_logRead (s : State) (e : LogEnt) : (s.enqueue e).logRead = s.logRead := by unfold State.enqueue; simp only []; split <;> simp
@[simp] theorem State.enqueue_dropsAt (s : State) (e : LogEnt) : (s.enqueue e).dropsAt = s.dropsAt := by unfold State.enqueue; simp only []; split <;> simp
@[simp] theorem State.enqueue_standing (s : State) (e : LogEnt) : (s.enqueue e).standing = s.standing := by unfold State.enqueue; simp only []; split <;> simp
@[simp] theorem State.enqueue_once (s : State) (e : LogEnt) : (s.enqueue e).once = s.once := by unfold State.enqueue; simp only []; split <;> simp
@[simp] theorem State.enqueue_fires (s : State) (e : LogEnt) : (s.enqueue e).fires = s.fires := by unfold State.enqueue; simp only []; split <;> simp
@[simp] theorem State.enqueue_bill (s : State) (e : LogEnt) : (s.enqueue e).bill = s.bill := by unfold State.enqueue; simp only []; split <;> simp
@[simp] theorem State.enqueue_ember (s : State) (e : LogEnt) : (s.enqueue e).ember = s.ember := by unfold State.enqueue; simp only []; split <;> simp
@[simp] theorem State.enqueue_host (s : State) (e : LogEnt) : (s.enqueue e).host = s.host := by unfold State.enqueue; simp only []; split <;> simp
@[simp] theorem State.enqueue_loop (s : State) (e : LogEnt) : (s.enqueue e).loop = s.loop := by unfold State.enqueue; simp only []; split <;> simp
@[simp] theorem State.enqueue_sec (s : State) (e : LogEnt) : (s.enqueue e).sec = s.sec := by unfold State.enqueue; simp only []; split <;> simp
@[simp] theorem State.enqueue_otp (s : State) (e : LogEnt) : (s.enqueue e).otp = s.otp := by unfold State.enqueue; simp only []; split <;> simp
@[simp] theorem State.enqueue_sram (s : State) (e : LogEnt) : (s.enqueue e).sram = s.sram := by unfold State.enqueue; simp only []; split <;> simp
@[simp] theorem State.enqueue_saved (s : State) (e : LogEnt) : (s.enqueue e).saved = s.saved := by unfold State.enqueue; simp only []; split <;> simp
@[simp] theorem State.enqueue_unsaved (s : State) (e : LogEnt) : (s.enqueue e).unsaved = s.unsaved := by unfold State.enqueue; simp only []; split <;> simp
@[simp] theorem State.enqueue_resp (s : State) (e : LogEnt) : (s.enqueue e).resp = s.resp := by unfold State.enqueue; simp only []; split <;> simp
@[simp] theorem State.enqueue_respData (s : State) (e : LogEnt) : (s.enqueue e).respData = s.respData := by unfold State.enqueue; simp only []; split <;> simp
@[simp] theorem State.enqueue_arbiter (s : State) (e : LogEnt) : (s.enqueue e).arbiter = s.arbiter := by unfold State.enqueue; simp only []; split <;> simp
@[simp] theorem State.enqueue_pending (s : State) (e : LogEnt) : (s.enqueue e).pending = s.pending := by unfold State.enqueue; simp only []; split <;> simp
@[simp] theorem State.port_enqueue (s : State) (e : LogEnt) (m : Nat) : (s.enqueue e).port m = s.port m := by simp [State.port]
@[simp] theorem State.path_enqueue (s : State) (e : LogEnt) (m : Nat) : (s.enqueue e).path m = s.path m := by simp [State.path]
@[simp] theorem State.sect_enqueue (s : State) (e : LogEnt) (m : Nat) : (s.enqueue e).sect m = s.sect m := by simp [State.sect]
@[simp] theorem State.chan_enqueue (s : State) (e : LogEnt) (m : Nat) : (s.enqueue e).chan m = s.chan m := by simp [State.chan]
@[simp] theorem State.pin_enqueue (s : State) (e : LogEnt) (m : Nat) : (s.enqueue e).pin m = s.pin m := by simp [State.pin]
@[simp] theorem State.pulse_enqueue (s : State) (e : LogEnt) (m : Nat) : (s.enqueue e).pulse m = s.pulse m := by simp [State.pulse]
@[simp] theorem State.line_enqueue (s : State) (e : LogEnt) (m : Nat) : (s.enqueue e).line m = s.line m := by simp [State.line]
@[simp] theorem State.store_enqueue (s : State) (e : LogEnt) (m : Nat) : (s.enqueue e).store m = s.store m := by simp [State.store]
@[simp] theorem State.fire_enqueue (s : State) (e : LogEnt) (m : Nat) : (s.enqueue e).fire m = s.fire m := by simp [State.fire]
@[simp] theorem State.bank_enqueue (s : State) (e : LogEnt) (m : Nat) : (s.enqueue e).bank m = s.bank m := by simp [State.bank]

-- irq

@[simp] theorem State.irq_dies (s : State) (n : Nat) : (s.irq n).dies = s.dies := by rfl
@[simp] theorem State.irq_cyc (s : State) (n : Nat) : (s.irq n).cyc = s.cyc := by rfl
@[simp] theorem State.irq_od (s : State) (n : Nat) : (s.irq n).od = s.od := by rfl
@[simp] theorem State.irq_led (s : State) (n : Nat) : (s.irq n).led = s.led := by rfl
@[simp] theorem State.irq_ledger (s : State) (n : Nat) : (s.irq n).ledger = s.ledger := by rfl
@[simp] theorem State.irq_blobs (s : State) (n : Nat) : (s.irq n).blobs = s.blobs := by rfl
@[simp] theorem State.irq_lag (s : State) (n : Nat) : (s.irq n).lag = s.lag := by rfl
@[simp] theorem State.irq_ports (s : State) (n : Nat) : (s.irq n).ports = s.ports := by rfl
@[simp] theorem State.irq_paths (s : State) (n : Nat) : (s.irq n).paths = s.paths := by rfl
@[simp] theorem State.irq_sects (s : State) (n : Nat) : (s.irq n).sects = s.sects := by rfl
@[simp] theorem State.irq_chans (s : State) (n : Nat) : (s.irq n).chans = s.chans := by rfl
@[simp] theorem State.irq_pins (s : State) (n : Nat) : (s.irq n).pins = s.pins := by rfl
@[simp] theorem State.irq_pulses (s : State) (n : Nat) : (s.irq n).pulses = s.pulses := by rfl
@[simp] theorem State.irq_dieRt (s : State) (n : Nat) : (s.irq n).dieRt = s.dieRt := by rfl
@[simp] theorem State.irq_lines (s : State) (n : Nat) : (s.irq n).lines = s.lines := by rfl
@[simp] theorem State.irq_gpio (s : State) (n : Nat) : (s.irq n).gpio = s.gpio := by rfl
@[simp] theorem State.irq_stores (s : State) (n : Nat) : (s.irq n).stores = s.stores := by rfl
@[simp] theorem State.irq_vel (s : State) (n : Nat) : (s.irq n).vel = s.vel := by rfl
@[simp] theorem State.irq_lant (s : State) (n : Nat) : (s.irq n).lant = s.lant := by rfl
@[simp] theorem State.irq_pow (s : State) (n : Nat) : (s.irq n).pow = s.pow := by rfl
@[simp] theorem State.irq_f0 (s : State) (n : Nat) : (s.irq n).f0 = s.f0 := by rfl
@[simp] theorem State.irq_frameLen (s : State) (n : Nat) : (s.irq n).frameLen = s.frameLen := by rfl
@[simp] theorem State.irq_frameAt (s : State) (n : Nat) : (s.irq n).frameAt = s.frameAt := by rfl
@[simp] theorem State.irq_frameSeq (s : State) (n : Nat) : (s.irq n).frameSeq = s.frameSeq := by rfl
@[simp] theorem State.irq_frameRtc (s : State) (n : Nat) : (s.irq n).frameRtc = s.frameRtc := by rfl
@[simp] theorem State.irq_lenPend (s : State) (n : Nat) : (s.irq n).lenPend = s.lenPend := by rfl
@[simp] theorem State.irq_framing (s : State) (n : Nat) : (s.irq n).framing = s.framing := by rfl
@[simp] theorem State.irq_ready (s : State) (n : Nat) : (s.irq n).ready = s.ready := by rfl
@[simp] theorem State.irq_halt (s : State) (n : Nat) : (s.irq n).halt = s.halt := by rfl
@[simp] theorem State.irq_wdWarm (s : State) (n : Nat) : (s.irq n).wdWarm = s.wdWarm := by rfl
@[simp] theorem State.irq_klog (s : State) (n : Nat) : (s.irq n).klog = s.klog := by rfl
@[simp] theorem State.irq_logRead (s : State) (n : Nat) : (s.irq n).logRead = s.logRead := by rfl
@[simp] theorem State.irq_dropsAt (s : State) (n : Nat) : (s.irq n).dropsAt = s.dropsAt := by rfl
@[simp] theorem State.irq_standing (s : State) (n : Nat) : (s.irq n).standing = s.standing := by rfl
@[simp] theorem State.irq_once (s : State) (n : Nat) : (s.irq n).once = s.once := by rfl
@[simp] theorem State.irq_fires (s : State) (n : Nat) : (s.irq n).fires = s.fires := by rfl
@[simp] theorem State.irq_bill (s : State) (n : Nat) : (s.irq n).bill = s.bill := by rfl
@[simp] theorem State.irq_ember (s : State) (n : Nat) : (s.irq n).ember = s.ember := by rfl
@[simp] theorem State.irq_net (s : State) (n : Nat) : (s.irq n).net = s.net := by rfl
@[simp] theorem State.irq_loop (s : State) (n : Nat) : (s.irq n).loop = s.loop := by rfl
@[simp] theorem State.irq_sec (s : State) (n : Nat) : (s.irq n).sec = s.sec := by rfl
@[simp] theorem State.irq_otp (s : State) (n : Nat) : (s.irq n).otp = s.otp := by rfl
@[simp] theorem State.irq_sram (s : State) (n : Nat) : (s.irq n).sram = s.sram := by rfl
@[simp] theorem State.irq_saved (s : State) (n : Nat) : (s.irq n).saved = s.saved := by rfl
@[simp] theorem State.irq_unsaved (s : State) (n : Nat) : (s.irq n).unsaved = s.unsaved := by rfl
@[simp] theorem State.irq_resp (s : State) (n : Nat) : (s.irq n).resp = s.resp := by rfl
@[simp] theorem State.irq_respData (s : State) (n : Nat) : (s.irq n).respData = s.respData := by rfl
@[simp] theorem State.irq_arbiter (s : State) (n : Nat) : (s.irq n).arbiter = s.arbiter := by rfl
@[simp] theorem State.irq_pending (s : State) (n : Nat) : (s.irq n).pending = s.pending := by rfl
@[simp] theorem State.port_irq (s : State) (n : Nat) (m : Nat) : (s.irq n).port m = s.port m := by simp [State.port]
@[simp] theorem State.path_irq (s : State) (n : Nat) (m : Nat) : (s.irq n).path m = s.path m := by simp [State.path]
@[simp] theorem State.sect_irq (s : State) (n : Nat) (m : Nat) : (s.irq n).sect m = s.sect m := by simp [State.sect]
@[simp] theorem State.chan_irq (s : State) (n : Nat) (m : Nat) : (s.irq n).chan m = s.chan m := by simp [State.chan]
@[simp] theorem State.pin_irq (s : State) (n : Nat) (m : Nat) : (s.irq n).pin m = s.pin m := by simp [State.pin]
@[simp] theorem State.pulse_irq (s : State) (n : Nat) (m : Nat) : (s.irq n).pulse m = s.pulse m := by simp [State.pulse]
@[simp] theorem State.die_irq (s : State) (n : Nat) (m : Nat) : (s.irq n).die m = s.die m := by simp [State.die]
@[simp] theorem State.line_irq (s : State) (n : Nat) (m : Nat) : (s.irq n).line m = s.line m := by simp [State.line]
@[simp] theorem State.store_irq (s : State) (n : Nat) (m : Nat) : (s.irq n).store m = s.store m := by simp [State.store]
@[simp] theorem State.fire_irq (s : State) (n : Nat) (m : Nat) : (s.irq n).fire m = s.fire m := by simp [State.fire]
@[simp] theorem State.bank_irq (s : State) (n : Nat) (m : Nat) : (s.irq n).bank m = s.bank m := by simp [State.bank]

end Sys2Proof.Machine
end

