-- ==== Sys2Proof/Laws/Shared.lean ====
section
/-! SUPPORT. What reading an entry gives after a write, and what raising entries, declaring faults and sending TPDOs
leave as it was. -/

namespace Sys2Proof.Machine

open Sys2Proof

-- entries

theorem State.g_p_same (s : State) {k : Nat} (v : Nat) (h : isLedKey k = false) : (s.p k v).g k = v := by
  simp [State.g, State.p, h]

theorem State.g_p_ne (s : State) {k j : Nat} (v : Nat) (h : j ≠ k) : (s.p k v).g j = s.g j := by
  unfold State.p
  split
  · rfl
  · simp [State.g, h]

theorem State.g_bitTo_ne (s : State) {k j : Nat} (n : Nat) (b : Bool) (h : j ≠ k) : (s.bitTo k n b).g j = s.g j :=
  State.g_p_ne s _ h

theorem State.bit_bitTo_same (s : State) {k : Nat} (n : Nat) (b : Bool) (h : isLedKey k = false) :
    bitAt ((s.bitTo k n b).g k) n = b := by
  rw [State.bitTo, State.g_p_same _ _ h, bitAt_setBit_same]

theorem State.bit_bitTo_ne (s : State) {k : Nat} {n m : Nat} (b : Bool) (h : m ≠ n) :
    bitAt ((s.bitTo k n b).g k) m = bitAt (s.g k) m := by
  by_cases hk : isLedKey k = true
  · simp [State.bitTo, State.p, hk]
  · rw [State.bitTo, State.g_p_same _ _ (by simpa using hk), bitAt_setBit_ne _ _ h]

theorem State.g_inc_ne (s : State) {k j : Nat} (h : j ≠ k) : (s.inc k).g j = s.g j := by
  unfold State.inc
  simp only []
  split
  · exact State.g_p_ne s _ h
  · exact State.g_p_ne s _ h

theorem State.g_inc_same (s : State) {k : Nat} (h : isLedKey k = false) : (s.inc k).g k = wrap32 (s.g k + 1) := by
  unfold State.inc
  simp only []
  split
  · exact State.g_p_same s _ h
  · exact State.g_p_same s _ h

-- what leaves the network's record

theorem sameNet.refl (n : NetRt) : sameNet n n := rfl

theorem sameNet.trans {a b c : NetRt} (x : sameNet a b) (y : sameNet b c) : sameNet a c := by
  unfold sameNet at *
  rw [y, x]

theorem sameNet.touch (n : NetRt) (k : Nat) : sameNet n (n.touch k) := by
  unfold NetRt.touch
  split <;> rfl

theorem State.p_net (s : State) (k v : Nat) : sameNet s.net (s.p k v).net := by
  unfold State.p
  split
  · exact sameNet.refl _
  · exact sameNet.touch _ _

theorem State.inc_net (s : State) (k : Nat) : sameNet s.net (s.inc k).net := by
  unfold State.inc
  simp only []
  split <;> exact State.p_net s k _

-- what is quiet

end Sys2Proof.Machine

namespace Sys2Proof.quiet

open Sys2Proof.Machine

theorem refl (s : State) : quiet s s := ⟨rfl, rfl, fun _ _ => rfl, fun _ => rfl⟩

theorem trans {s t u : State} (a : quiet s t) (b : quiet t u) : quiet s u where
  rest := by rw [b.rest, a.rest]
  net := sameNet.trans a.net b.net
  entries k h := (b.entries k h).trans (a.entries k h)
  dies d := by
    have ha := a.dies d
    have hb := b.dies d
    unfold sameQueue at *
    rw [hb, ha]

theorem p (s : State) {k : Nat} (v : Nat) (h : sharedKey k = true) : quiet s (s.p k v) where
  rest := by unfold State.p; split <;> rfl
  net := State.p_net s k v
  entries j hj := State.g_p_ne s v (by rintro rfl; simp [h] at hj)
  dies d := by simp [sameQueue]

theorem bitTo (s : State) {k : Nat} (n : Nat) (b : Bool) (h : sharedKey k = true) : quiet s (s.bitTo k n b) :=
  p s _ h

theorem inc (s : State) {k : Nat} (h : sharedKey k = true) : quiet s (s.inc k) where
  rest := by unfold State.inc State.p; simp only []; split <;> split <;> rfl
  net := State.inc_net s k
  entries j hj := State.g_inc_ne s (by rintro rfl; simp [h] at hj)
  dies d := by simp [sameQueue]

theorem setDie (s : State) (n : Nat) {r : DieRt} (h : sameQueue (s.die n) r) : quiet s (s.setDie n r) where
  rest := rfl
  net := rfl
  entries _ _ := rfl
  dies d := by
    by_cases hd : d = n
    · subst hd; simpa using h
    · rw [State.die_setDie_ne s r hd]; simp [sameQueue]

theorem enqueue (s : State) (e : LogEnt) : quiet s (s.enqueue e) := by
  unfold State.enqueue
  simp only []
  split
  · exact ((setDie s e.src (by simp [sameQueue])).trans (inc _ (by decide))).trans (bitTo _ _ _ (by decide))
  · exact setDie s e.src (by simp [sameQueue])

theorem raise (s : State) (src level loc event kind serial : Nat) (data : List Nat) :
    quiet s (s.raise src level loc event kind serial data) := enqueue s _

theorem ev (s : State) (src level loc event : Nat) (data : List Nat) : quiet s (s.ev src level loc event data) :=
  enqueue s _

theorem evChip (s : State) (event : Nat) (data : List Nat) : quiet s (s.evChip event data) := enqueue s _

theorem evNet (s : State) (event code : Nat) (data : List Nat) : quiet s (s.evNet event code data) := enqueue s _

theorem react (s : State) (src level loc event serial : Nat) (data : List Nat) :
    quiet s (s.react src level loc event serial data) := enqueue s _

theorem setOnce (s : State) (l : List (Nat × Nat)) : quiet s { s with once := l } :=
  ⟨rfl, rfl, fun _ _ => rfl, fun _ => rfl⟩

theorem onceEv (s : State) (subject src level loc event : Nat) (data : List Nat) :
    quiet s (s.onceEv subject src level loc event data) := by
  unfold State.onceEv
  split
  · exact refl s
  · exact (setOnce s _).trans (ev _ _ _ _ _ _)

theorem syncErr (s : State) : quiet s s.syncErr := (p s _ (by decide)).trans (p _ _ (by decide))

end Sys2Proof.quiet

namespace Sys2Proof.sends

open Sys2Proof.Machine

theorem refl (s : State) : sends s s := ⟨rfl, fun _ _ _ => rfl, fun _ => rfl⟩

theorem trans {s t u : State} (a : sends s t) (b : sends t u) : sends s u where
  rest := by rw [b.rest, a.rest]
  entries k h n := (b.entries k h n).trans (a.entries k h n)
  dies d := by
    have ha := a.dies d
    have hb := b.dies d
    unfold sameQueue at *
    rw [hb, ha]

theorem ofQuiet {s t : State} (h : quiet s t) : sends s t := ⟨h.rest, fun k hk _ => h.entries k hk, h.dies⟩

theorem setNet (s : State) (n : NetRt) : sends s { s with net := n } := ⟨rfl, fun _ _ _ => rfl, fun _ => rfl⟩

theorem bitTo (s : State) {k : Nat} (n : Nat) (b : Bool) (h : sharedKey k = true) : sends s (s.bitTo k n b) :=
  ofQuiet (quiet.bitTo s n b h)

theorem late (s : State) : sends s (s.inc K.dev_TPDO_LATE) where
  rest := by unfold State.inc State.p; simp only []; split <;> split <;> rfl
  entries j _ hj := State.g_inc_ne s hj
  dies d := by simp [sameQueue]

theorem inc (s : State) {k : Nat} (h : sharedKey k = true) : sends s (s.inc k) := ofQuiet (quiet.inc s h)

theorem holdFrame (s : State) (f : CanFrame) : sends s (s.holdFrame f) := by
  unfold State.holdFrame
  simp only []
  split
  · exact setNet s _
  · have h : sends s (State.onceEv { ({ s with net := { s.net with txQ := s.net.txQ ++ [f] } } : State).bitTo K.sag_SAG_STAT 3 true with
        net := { s.net with txQ := s.net.txQ ++ [f], heldInWin := true } } 0 0 3 0 0x8023 []) :=
      (((setNet s _).trans (bitTo _ _ _ (by decide))).trans (setNet _ _)).trans (ofQuiet (quiet.onceEv _ _ _ _ _ _ _))
    split
    · exact h.trans (inc _ (by decide))
    · exact h

theorem drain (s : State) : sends s s.drain := setNet s _

theorem newTxWindow (s : State) : sends s s.newTxWindow := by
  unfold State.newTxWindow
  simp only []
  split
  · exact setNet s _
  · split
    · exact (setNet s _).trans (drain _)
    · exact ((((setNet s _).trans (drain _)).trans (setNet _ _)).trans (holdFrame _ _)).trans (setNet _ _)

theorem windowFirst (s : State) : sends s s.windowFirst := by
  unfold State.windowFirst
  split
  · exact newTxWindow s
  · exact refl s

theorem startFrame (s : State) (f : CanFrame) : sends s (s.startFrame f) := by
  unfold State.startFrame
  simp only []
  split
  · exact (windowFirst s).trans (setNet _ _)
  · exact (windowFirst s).trans (holdFrame _ f)

theorem sendFrame (s : State) (f : CanFrame) : sends s (s.sendFrame f) := by
  unfold State.sendFrame
  split
  · exact refl s
  · split
    · exact setNet s _
    · split
      · split
        · exact setNet s _
        · exact refl s
      · exact startFrame s f

theorem sendTpdo (s : State) (t : Nat) : sends s (s.sendTpdo t) := by
  unfold State.sendTpdo
  simp only []
  split
  · exact ((setNet s _).trans (setNet _ _)).trans (late _)
  · exact (setNet s _).trans (sendFrame _ _)

theorem touchTpdo (s : State) (t : Nat) : sends s (s.touchTpdo t) := by
  unfold State.touchTpdo
  simp only []
  split
  · exact refl s
  · split
    · split
      · exact sendTpdo s t
      · exact setNet s _
    · split
      · exact setNet s _
      · exact refl s

theorem sendDue (s : State) (t : Nat) : sends s (s.sendDue t) := by
  unfold State.sendDue
  simp only []
  split
  · exact refl s
  · split
    · split
      · exact sendTpdo s t
      · exact refl s
    · split
      · exact sendTpdo s t
      · exact refl s

theorem foldl {β : Type} (f : State → β → State) (hf : ∀ s b, sends s (f s b)) (l : List β) (s : State) :
    sends s (l.foldl f s) := by
  induction l generalizing s with
  | nil => exact refl s
  | cons b r ih => exact (hf s b).trans (ih _)

theorem flushPdo (s : State) : sends s s.flushPdo := by
  unfold State.flushPdo
  simp only []
  split
  · exact refl s
  · exact ((setNet s _).trans (foldl _ touchTpdo _ _)).trans (foldl _ sendDue _ _)

end Sys2Proof.sends

namespace Sys2Proof.logsOnly

open Sys2Proof.Machine

theorem refl (s : State) : logsOnly s s := ⟨rfl, rfl, fun _ _ => rfl, fun _ => rfl⟩

theorem trans {s t u : State} (a : logsOnly s t) (b : logsOnly t u) : logsOnly s u where
  rest := by rw [b.rest, a.rest]
  net := sameNet.trans a.net b.net
  entries k h := (b.entries k h).trans (a.entries k h)
  dies d := by
    have ha := a.dies d
    have hb := b.dies d
    unfold sameDie at *
    rw [hb, ha]

theorem ofQuiet {s t : State} (h : quiet s t) : logsOnly s t where
  rest := by rw [h.rest]
  net := h.net
  entries := h.entries
  dies d := by
    have hd := h.dies d
    unfold sameQueue at hd
    unfold sameDie
    rw [hd]

theorem setStanding (s : State) (l : List Standing) : logsOnly s { s with standing := l } :=
  ⟨rfl, rfl, fun _ _ => rfl, fun _ => rfl⟩

theorem setDie (s : State) (n : Nat) {r : DieRt} (h : sameDie (s.die n) r) : logsOnly s (s.setDie n r) where
  rest := rfl
  net := rfl
  entries _ _ := rfl
  dies d := by
    by_cases hd : d = n
    · subst hd; simpa using h
    · rw [State.die_setDie_ne s r hd]; simp [sameDie]

theorem declare (s : State) (d level loc event : Nat) (data : List Nat) :
    logsOnly s (s.declare d level loc event data) := by
  unfold State.declare
  simp only []
  refine trans ?_ (ofQuiet (quiet.syncErr _))
  refine trans ?_ (ofQuiet (quiet.raise _ _ _ _ _ _ _ _))
  have h : logsOnly s (s.setDie d { s.die d with count := nextCount (s.die d).count }) := setDie s d (by simp [sameDie])
  split
  · exact h.trans (setStanding _ _)
  · exact h

theorem endFault (s : State) (serial src level loc event : Nat) (data : List Nat) :
    logsOnly s (s.endFault serial src level loc event data) :=
  ((setStanding s _).trans (ofQuiet (quiet.raise _ _ _ _ _ _ _ _))).trans (ofQuiet (quiet.syncErr _))

end Sys2Proof.logsOnly
end

