-- ==== Sys2Proof/Laws/Sram.lean ====
section
/-! SUPPORT. The SRAM banks: a read after a write, and the canonical form that every operation of the request stage
keeps. -/

namespace Sys2Proof.Machine

open Sys2Proof

-- one bank

/-- A word written is what it holds. -/
theorem SramRt.word_put_same (r : SramRt) (d w v : Nat) : (r.put w v).word d w = v := by
  simp only [SramRt.word, SramRt.put, Tab.look_store_same]
  split
  · next h => split at h <;> simp_all
  · next n h => split at h <;> simp_all

/-- A write leaves every other word alone. -/
theorem SramRt.word_put_ne (r : SramRt) (d : Nat) {w x : Nat} (v : Nat) (h : x ≠ w) :
    (r.put w v).word d x = r.word d x := by
  simp only [SramRt.word, SramRt.put, Tab.look_store_ne _ _ _ _ h]
  rfl

/-- The canonical form, part by part. -/
structure SramRt.Canon (r : SramRt) : Prop where
  words : Tab.wf (fun _ => 0) r.words = true
  listed : ∀ e ∈ r.words, e.1 < sramWords ∧ (r.lost ≠ 0 ∨ e.2 ≠ 1)
  errs : Tab.wf (fun _ => 0) r.errs = true
  wrong : ∀ e ∈ r.errs, e.1 < sramWords
  waiting : ∀ q ∈ r.waiting, q.word < sramWords
  rmw : ∀ e, r.rmw = some e → e.1 < sramWords
  wb : ∀ e, r.wb = some e → e.1 < sramWords

theorem SramRt.wf_iff (r : SramRt) : r.wf = true ↔ r.Canon := by
  constructor
  · intro h
    unfold SramRt.wf at h
    simp only [Bool.and_eq_true, List.all_eq_true, and_assoc] at h
    obtain ⟨h1, h2, h3, h4, h5, h6, h7⟩ := h
    refine ⟨h1, fun e he => by simpa using h2 e he, h3, fun e he => by simpa using h4 e he, fun q hq => by simpa using h5 q hq,
      fun e he => ?_, fun e he => ?_⟩
    · rw [he] at h6; simpa using h6
    · rw [he] at h7; simpa using h7
  · intro h
    unfold SramRt.wf
    simp only [Bool.and_eq_true, List.all_eq_true, and_assoc]
    refine ⟨h.words, fun e he => by simpa using h.listed e he, h.errs, fun e he => by simpa using h.wrong e he,
      fun q hq => by simpa using h.waiting q hq, ?_, ?_⟩
    · cases he : r.rmw with
      | none => rfl
      | some e => simpa using h.rmw e he
    · cases he : r.wb with
      | none => rfl
      | some e => simpa using h.wb e he

theorem SramRt.put_wf {r : SramRt} {w : Nat} (v : Nat) (h : r.wf = true) (hw : w < sramWords) :
    (r.put w v).wf = true := by
  rw [SramRt.wf_iff] at *
  refine { h with words := Tab.wf_store h.words, listed := fun e he => ?_ }
  rcases Tab.mem_store he with rfl | he
  · refine ⟨hw, ?_⟩
    by_cases hl : r.lost = 0
    · by_cases hv : v = 0 <;> simp [hl, hv]
    · exact .inl hl
  · exact h.listed e he

/-- Wrong bits of a word of the bank. -/
theorem SramRt.errs_wf {r : SramRt} {w : Nat} (v : Nat) (h : r.wf = true) (hw : w < sramWords) :
    ({ r with errs := r.errs.store 0 w v } : SramRt).wf = true := by
  rw [SramRt.wf_iff] at *
  refine { h with errs := Tab.wf_store h.errs, wrong := fun e he => ?_ }
  rcases Tab.mem_store he with rfl | he
  · exact hw
  · exact h.wrong e he

theorem SramRt.fresh_wf {r : SramRt} {w : Nat} (v : Nat) (h : r.wf = true) (hw : w < sramWords) :
    (r.fresh w v).wf = true := SramRt.errs_wf 0 (SramRt.put_wf v h hw) hw

theorem SramRt.upset_wf {r : SramRt} {w : Nat} (flips : Nat) (h : r.wf = true) (hw : w < sramWords) :
    (r.upset w flips).wf = true := by
  unfold SramRt.upset
  split
  · exact h
  · exact SramRt.errs_wf _ h hw

theorem SramRt.write_wf {r : SramRt} {w : Nat} (v : Nat) (h : r.wf = true) (hw : w < sramWords) :
    (r.write w v).wf = true := by
  have hp := SramRt.fresh_wf v h hw
  rw [SramRt.wf_iff] at *
  exact { words := hp.words, listed := hp.listed, errs := hp.errs, wrong := hp.wrong, waiting := hp.waiting, rmw := hp.rmw
          wb := fun e he => hp.wb e (Option.filter_eq_some_iff.1 he).1 }

/-- What the operations beside the words change keeps the form. -/
theorem SramRt.wf_of {r q : SramRt} (h : r.wf = true) (hw : q.words = r.words) (hl : q.lost = r.lost)
    (he : q.errs = r.errs) (hq : ∀ x ∈ q.waiting, x.word < sramWords) (hr : ∀ e, q.rmw = some e → e.1 < sramWords)
    (hb : ∀ e, q.wb = some e → e.1 < sramWords) : q.wf = true := by
  rw [SramRt.wf_iff] at *
  exact { words := hw ▸ h.words, listed := fun e m => hl ▸ h.listed e (hw ▸ m), errs := he ▸ h.errs
          wrong := fun e m => h.wrong e (he ▸ m), waiting := hq, rmw := hr, wb := hb }

theorem SramRt.tell_wf {r : SramRt} (q : Requester) (v : Nat) (h : r.wf = true) : (r.tell q v).wf = true :=
  have k := (SramRt.wf_iff r).1 h
  SramRt.wf_of h rfl rfl rfl k.waiting k.rmw k.wb

/-- Noting a cycle keeps the form. -/
theorem SramRt.note_wf {r : SramRt} (now : Nat) (new : List SramReq) (h : r.wf = true) : (r.note now new).wf = true :=
  have k := (SramRt.wf_iff r).1 h
  SramRt.wf_of h rfl rfl rfl k.waiting k.rmw k.wb

theorem SramRt.mem_admit {r : SramRt} {now : Nat} {new : List SramReq} {q : SramReq} (h : q ∈ r.admitReqs now new) : q ∈ new := by
  unfold SramRt.admitReqs at h
  split at h
  · exact h
  · exact (List.mem_filter.1 h).1

-- the state

@[simp] theorem State.raise_sram (s : State) (src level loc event kind serial : Nat) (data : List Nat) :
    (s.raise src level loc event kind serial data).sram = s.sram := State.enqueue_sram _ _

@[simp] theorem State.react_sram (s : State) (src level loc event serial : Nat) (data : List Nat) :
    (s.react src level loc event serial data).sram = s.sram := State.raise_sram _ _ _ _ _ _ _ _

@[simp] theorem State.onceEv_sram (s : State) (subject src level loc event : Nat) (data : List Nat) :
    (s.onceEv subject src level loc event data).sram = s.sram := by
  unfold State.onceEv State.ev
  split <;> simp

@[simp] theorem State.declare_sram (s : State) (d level loc event : Nat) (data : List Nat) :
    (s.declare d level loc event data).sram = s.sram := by
  unfold State.declare
  simp only []
  split <;> simp

end Sys2Proof.Machine

namespace Sys2Proof

open Sys2Proof.Machine

theorem sramOk_of_eq {s t : State} (h : sramOk s) (e : t.sram = s.sram) : sramOk t := by
  unfold sramOk at *; rw [e]; exact h

theorem sramOk.bank {s : State} (h : sramOk s) (d : Nat) : (s.bank d).wf = true := by
  have aux : ∀ l : Tab SramRt, (∀ e ∈ l, e.2.wf = true) → (Tab.look l {} d).wf = true := by
    intro l
    induction l with
    | nil => intro _; rfl
    | cons e r ih =>
      intro hl
      obtain ⟨j, v⟩ := e
      simp only [Tab.look]
      split
      · exact hl _ (List.mem_cons_self ..)
      · exact ih fun e he => hl e (List.mem_cons_of_mem _ he)
  exact aux _ h

theorem sramOk.setBank {s : State} (h : sramOk s) (d : Nat) {r : SramRt} (hr : r.wf = true) :
    sramOk (s.setBank d r) := by
  intro e he
  rcases Tab.mem_store he with rfl | he
  · exact hr
  · exact h e he

theorem sramOk.wlost {s : State} (h : sramOk s) (d : Nat) (q : SramReq) : sramOk (s.wlost d q) :=
  sramOk_of_eq (h.setBank d (SramRt.tell_wf q.who 1 (h.bank d))) (by simp [State.wlost])

theorem sramOk.corrected {s : State} (h : sramOk s) (d : Nat) {w : Nat} (v : Nat) (back : Bool) (hw : w < sramWords) :
    sramOk (s.corrected d w v back) := by
  have k := (SramRt.wf_iff _).1 (h.bank d)
  unfold State.corrected
  simp only []
  have h1 : sramOk (((s.inc (K.die_SRAM_CE_COUNT d)).bitTo (K.die_SRAM_STAT d) srCE_SEEN true).onceEv d d 2 d 0x6040
      (leBytes 2 w)) := sramOk_of_eq h (by simp)
  split
  · refine sramOk_of_eq ?_ (State.bitTo_sram _ _ _ _)
    refine h1.setBank d (SramRt.wf_of (h.bank d) rfl rfl rfl k.waiting k.rmw ?_)
    rintro e he
    cases he
    exact hw
  · exact h1

theorem sramOk.uncorrectable {s : State} (h : sramOk s) (d w : Nat) (q : Requester) :
    sramOk (s.uncorrectable d w q) := by
  have k := (SramRt.wf_iff _).1 (h.bank d)
  have h1 : sramOk ((s.inc (K.die_SRAM_UE_COUNT d)).bitTo (K.die_SRAM_STAT d) srUE_SEEN true) :=
    sramOk_of_eq h (by simp)
  have h2 : ∀ u, ({ s.bank d with lastUe := u } : SramRt).wf = true := fun u =>
    SramRt.wf_of (h.bank d) rfl rfl rfl k.waiting k.rmw k.wb
  unfold State.uncorrectable
  simp only []
  split
  · split
    · exact sramOk_of_eq (h1.setBank d (SramRt.tell_wf q 2 (h.bank d))) (State.react_sram _ _ _ _ _ _ _)
    · refine sramOk_of_eq ?_ (State.declare_sram _ _ _ _ _ _)
      exact h1.setBank d (SramRt.tell_wf q 2 (h2 _))
  · refine sramOk_of_eq ?_ (State.declare_sram _ _ _ _ _ _)
    exact h1.setBank d (SramRt.tell_wf q 2 (h2 _))

theorem sramOk.serve {s : State} (h : sramOk s) (d : Nat) {g : SramReq} (hw : g.word < sramWords) :
    sramOk (s.serve d g) := by
  have hu := SramRt.upset_wf g.flips (h.bank d) hw
  have ht := SramRt.tell_wf g.who 0 hu
  have k := (SramRt.wf_iff _).1 ht
  have hd : ∀ v c, sramOk (s.setBank d { ((s.bank d).upset g.word g.flips).tell g.who 0 with dataOut := v, dataAt := c }) :=
    fun v c => h.setBank d (SramRt.wf_of ht rfl rfl rfl k.waiting k.rmw k.wb)
  have hm : ∀ v, sramOk (s.setBank d { ((s.bank d).upset g.word g.flips).tell g.who 0 with rmw := some (g.word, v) }) :=
    fun v => h.setBank d (SramRt.wf_of ht rfl rfl rfl k.waiting (by rintro e he; cases he; exact hw) k.wb)
  unfold State.serve
  simp only []
  split
  · exact h.setBank d (SramRt.tell_wf g.who 3 hu)
  · split
    · refine sramOk_of_eq ?_ (State.bitTo_sram _ _ _ _)
      exact h.setBank d (SramRt.write_wf _ ht hw)
    · exact hd _ _
    · exact (hd _ _).corrected d _ _ hw
    · exact (hd _ _).uncorrectable d _ _
    · exact hm _
    · exact (hm _).corrected d _ _ hw
    · exact (h.setBank d hu).uncorrectable d _ _

theorem sramOk.countWait {s : State} (h : sramOk s) (d : Nat) : sramOk (s.countWait d) := by
  have k := (SramRt.wf_iff _).1 (h.bank d)
  have hw : ∀ n, ({ s.bank d with dmaWait := n } : SramRt).wf = true := fun n =>
    SramRt.wf_of (h.bank d) rfl rfl rfl k.waiting k.rmw k.wb
  unfold State.countWait
  simp only []
  split
  · refine sramOk_of_eq ?_ (State.p_sram _ _ _)
    exact h.setBank d (hw _)
  · exact h.setBank d (hw _)

-- the request stage

theorem mem_dropReq {q x : SramReq} {l : List SramReq} (h : x ∈ dropReq q l) : x ∈ l := by
  induction l with
  | nil => exact h
  | cons a r ih =>
    simp only [dropReq] at h
    split at h
    · exact List.mem_cons_of_mem _ h
    · rcases List.mem_cons.1 h with rfl | h
      · exact List.mem_cons_self ..
      · exact List.mem_cons_of_mem _ (ih h)

theorem mem_dropAll {lost : List SramReq} {x : SramReq} {l : List SramReq}
    (h : x ∈ lost.foldl (fun l q => dropReq q l) l) : x ∈ l := by
  induction lost generalizing l with
  | nil => exact h
  | cons a r ih => exact mem_dropReq (ih h)

/-- The granted request is one of those presented. -/
theorem granted_mem {s : State} {d : Nat} {l : List SramReq} {g : SramReq} (h : s.granted d l = some g) :
    g ∈ l := by
  obtain ⟨q, -, hq⟩ := List.exists_of_findSome?_eq_some h
  split at hq
  · exact List.mem_of_find?_eq_some hq
  · cases hq

/-- A cycle of the request stage keeps every bank's canonical form. -/
theorem sramOk.sramCycle {s : State} (h : sramOk s) (d : Nat) {new : List SramReq} (hn : ∀ q ∈ new, q.word < sramWords) :
    sramOk (s.sramCycle d new) := by
  have k := (SramRt.wf_iff _).1 (h.bank d)
  have hr := SramRt.note_wf s.cyc ((s.bank d).admitReqs s.cyc new) (h.bank d)
  have kr := (SramRt.wf_iff _).1 hr
  have ha : ∀ q ∈ ((s.bank d).note s.cyc ((s.bank d).admitReqs s.cyc new)).waiting ++ (s.bank d).admitReqs s.cyc new,
      q.word < sramWords := fun q hq =>
    (List.mem_append.1 hq).elim (kr.waiting q) (fun m => hn q (SramRt.mem_admit m))
  unfold State.sramCycle
  simp only []
  split
  · exact h.setBank d (SramRt.wf_of hr rfl rfl rfl ha kr.rmw kr.wb)
  · split
    · next w v hw =>
      have hp := SramRt.write_wf v hr (kr.rmw _ hw)
      have kp := (SramRt.wf_iff _).1 hp
      refine sramOk.countWait ?_ d
      refine sramOk_of_eq ?_ (State.bitTo_sram _ _ _ _)
      exact h.setBank d (SramRt.wf_of hp rfl rfl rfl ha (by rintro e he; cases he) kp.wb)
    · split
      · refine sramOk.countWait ?_ d
        exact h.setBank d (SramRt.wf_of hr rfl rfl rfl ha kr.rmw kr.wb)
      · next g hg =>
        have hg' := ha g (granted_mem hg)
        have hs : ∀ (l : List SramReq) (t : State), sramOk t → sramOk (l.foldl (fun t q => t.wlost d q) t) := by
          intro l
          induction l with
          | nil => exact fun _ ht => ht
          | cons a r ih => exact fun t ht => ih _ (ht.wlost d a)
        refine sramOk.countWait (hs _ _ (sramOk.serve ?_ d hg')) d
        refine h.setBank d (SramRt.wf_of hr rfl rfl rfl ?_ kr.rmw kr.wb)
        exact fun q hq => ha q (mem_dropReq (mem_dropAll hq))

/-- So does a write-back. -/
theorem sramOk.writeBack {s : State} (h : sramOk s) (d : Nat) {w : Nat} (v c : Nat) (hb : (s.bank d).wb = some (w, v)) :
    sramOk (s.setBank d { (s.bank d).fresh w v with wb := none, cycleAt := c }) := by
  have k := (SramRt.wf_iff _).1 (h.bank d)
  have kp := SramRt.fresh_wf v (h.bank d) (k.wb _ hb)
  have kw := (SramRt.wf_iff _).1 kp
  exact h.setBank d (SramRt.wf_of kp rfl rfl rfl kw.waiting kw.rmw (by rintro e he; cases he))

/-- The banks after reset have the form. -/
theorem sramOk_reset : sramOk State.reset := by simp [sramOk, State.reset]

end Sys2Proof
end

