-- ==== Sys2Proof/Machine/Balls.lean ====
section
/-! DEFINITION. The package's balls (R565 to R571), and what stands at the balls of the GPIO cells, HIRQ and CTX (R539,
R572, R576). -/

namespace Sys2Proof.Machine

-- the grid (R565 to R571)

/-- Letters of the 21 rows (R565). -/
def rowLetters : List String :=
  ["A", "B", "C", "D", "E", "F", "G", "H", "J", "K", "L", "M", "N", "P", "T", "U", "V", "W", "Y", "AA", "AB"]

/-- A ball: row and column, both from 0. -/
abbrev Ball : Type := Nat × Nat

/-- The ball's name, its row's letter and its column from 1 (R565). -/
def ballName (b : Ball) : String × Nat := (rowLetters.getD b.1 "", b.2 + 1)

/-- Balls of ring `k`: one at the centre (R566). -/
def ringBalls (k : Nat) : Nat := if k = 11 then 1 else 4 * (20 - 2 * (k - 1))

/-- The ball at position `p` of ring `k`, clockwise from the ring's top-left ball (R566). -/
def ballAt (k p : Nat) : Ball :=
  let o := k - 1
  let e := 20 - 2 * o
  if p < e then (o, o + p)
  else if p < 2 * e then (o + (p - e), o + e)
  else if p < 3 * e then (o + e, o + e - (p - 2 * e))
  else (o + e - (p - 3 * e), o)

/-- First slot of the rings 1 to 5 of a die, and its positions in each (R568). -/
def ringSlots : List (Nat × Nat × Nat) := [(1, 0, 10), (2, 10, 9), (3, 19, 8), (4, 27, 7), (5, 34, 6)]

/-- The ball of slot `q` of die `d` (R568). -/
def slotBall (d q : Nat) : Ball :=
  match ringSlots.reverse.find? (fun r => decide (r.2.1 ≤ q)) with
  | some (k, first, m) => ballAt k (d * m + (q - first))
  | none => (0, 0)

/-- Balls of ports, sense pins, pulse inputs and GPIOs (R568). -/
def portBallP (n : Nat) : Ball := slotBall (n / 8) (2 * (n % 8))
def portBallN (n : Nat) : Ball := slotBall (n / 8) (2 * (n % 8) + 1)
def senseBall (n : Nat) : Ball := slotBall (n / 16) (16 + n % 16)
def pulseBall (n : Nat) : Ball := slotBall (n / 4) (32 + n % 4)
def gpioBall (n : Nat) : Ball := slotBall (n / 4) (36 + n % 4)

/-- Balls of a die's supplies: 0 VDRV, 1 VMAIN, 2 VCORE, 3 and 4 GND (R569). -/
def supplyBall (d t : Nat) : Ball := ballAt 6 (5 * d + t)

/-- The chip-level balls, by row letter and column (R570). -/
def chipBalls : List (String × String × Nat) :=
  [("XIN", "G", 7), ("XOUT", "G", 8), ("X32I", "G", 10), ("X32O", "G", 11), ("BKCAP", "G", 12), ("VBAT", "G", 13),
   ("WAKE", "G", 15), ("PWRON", "H", 8), ("TAMP0", "H", 9), ("TAMP1", "H", 10), ("SEAL", "H", 11),
   ("SUPMODE0", "H", 13), ("SUPMODE1", "H", 14), ("NODEID0", "H", 15), ("NODEID1", "J", 15), ("NODEID2", "K", 15),
   ("NODEID3", "L", 15), ("NODEID4", "M", 15), ("NODEID5", "N", 15), ("NODEID6", "P", 15)] ++
  [("HCS", "J", 14), ("HSCK", "K", 14), ("HMOSI", "L", 14), ("HMISO", "M", 14), ("HIRQ", "N", 14), ("VBUS", "T", 14),
   ("VBUS", "T", 13), ("LOOPP", "T", 11), ("LOOPN", "T", 10), ("LOOPDRV", "T", 8), ("LOOPSNS", "T", 7),
   ("CTX", "P", 13), ("CRX", "P", 12), ("TMS", "P", 7), ("TCK", "N", 7), ("TDI", "M", 7), ("TDO", "L", 7)]

/-- A ball of a die's own is connected: the part carries the die (R2, R571). -/
def State.connected (s : State) (d : Nat) : Bool := decide (d < s.dies)

-- what stands at the output balls

/-- What the part drives a ball to: a level, or nothing, with the pull the cell has: 0 none, 1 up, 2 down. -/
inductive PinDrive where
  | low | high
  | released (pull : Nat)
  deriving DecidableEq, Repr

/-- GPIO `i` of a die: its cell drives GP_OUT, an open-drain output of 1 is released, and an input drives nothing
(R576). In DEEP the cell keeps its level; before the die's start is complete, and in OFF, the ball floats (R539, R572).
-/
def State.gpioDrive (s : State) (d i : Nat) : PinDrive :=
  let r := s.gpio.look {} d
  let c := r.cfg.getD i 0
  if !(s.die d).up || decide (s.pstate d = 4) then .released 0
  else if bitAt c 1 && !(bitAt c 2 && bitAt r.out i) then (if bitAt r.out i then .high else .low)
  else .released (field c 4 3)

/-- HIRQ: push-pull, low from the cycle after an unmasked flag is set; its level is held in SLEEP and DEEP; high
impedance before D0's start is complete, floating in OFF (R539, R572, R638). -/
def State.hirqDrive (s : State) : PinDrive :=
  if !(s.die 0).up || decide (s.pstate 0 = 4) then .released 0 else if s.host.hirq then .low else .high

/-- CTX while the part transmits nothing: recessive, driven high, also before a start is complete and in SLEEP and DEEP;
floating in OFF (R539, R572, R575). -/
def State.ctxIdle (s : State) : PinDrive := if s.pstate 0 = 4 then .released 0 else .high

end Sys2Proof.Machine
end

