-- ==== Sys2Proof/Tests/Slice0.lean ====
section
/-! SUPPORT. Tests: states and operands that meet the hypotheses of every obligation, commands that WellFormed refuses,
and single steps on small states. -/

open Sys2Proof Sys2Proof.Machine

section Tests

-- one theorem at a time: each is checked by the kernel with a stack of its own
set_option Elab.async false

-- small states

/-- An SQF-8480 at the start of a frame, one second after its start: every die up, every line trained, one source
present, the node 1 on the bus and operational. -/
def on : State := ({ State.reset with
  cyc := 24576000, dieRt := (List.range 8).map (fun d => (d, { up := true }))
  lines := (List.range 7).map (fun d => (d + 1, { up := true }))
  ready := true, framing := true, frameAt := 24576000, pow := { loopOn := true }
  net := { inReset := false, nodeId := 1 } }).p K.dev_CAN_STAT 5 |>.p K.emb_EMBER_STAT 0

/-- A calibration of eight interpolators, every U_CAL in its band. -/
def calSeen : List CalRes := List.replicate 8 { uCal := 1024, inl := List.replicate 64 0, inBand := true }

/-- How a die fares in a start that finds nothing wrong. -/
def dieSeen : DieStart :=
  { cause := 0, imgReason := 0, cycOff := [0], marchAt := 0, march := [], scrub := [], calAt := 0, cal := calSeen
    quick := List.replicate 8 [], edgeMean := 0, resid := 0, check := 0 }

/-- A start that finds nothing wrong, on 8 dies. -/
def startSeen : StartInfo :=
  { supmode := 0, nodeId := 1, ledger := [], resDv := 52, cycles := 100000, f0Cycles := 90000, emberCycles := 0
    resynced := [], dies := List.replicate 8 dieSeen }

/-- The part with a pin reset found. -/
def coldOne : State := { State.reset with dieRt := [(0, { trigger := 2 })], pow := { loopOn := true } }

/-- Die 1 selected, with a user partition 15 of 16 lines; partition and line selected. -/
def selOne : State :=
  ((on.setStore 1 { base := [(15, 256)], count := [(15, 16)] }).p K.st_DIE_SEL 1).p K.st_PART_SEL 15 |>.p K.st_LINE_SEL 15

/-- A frozen kiln log whose freezing entry, number 5, every originator has read. -/
def logFrozen : State :=
  { (on.p K.log_LOG_STAT 1).p K.log_FREEZE_NO 5 with logRead := [0, 1, 2] }

/-- The same with its seal open. -/
def onOpen : State := on.p K.sec_SEAL_STATE 1

-- states and operands that meet the hypotheses of the obligations

theorem test_BurstsEnd_met :
    (∃ (s : State) (n : Nat) (charge : Nat),
      partOk s ∧
      n < s.nPorts ∧
      s.burstOver n = true) ∧
    (∃ (s : State) (n : Nat) (charge : Nat),
      partOk s ∧
      n < s.nPorts ∧
      (s.port n).bursting = true) :=
  ⟨⟨on.setPort 63 { bursting := true, burstMv := 50000, win := 1 }, 63, 70000, by decide +kernel⟩,
   ⟨on.setPort 63 { bursting := true, burstMv := 50000 }, 63, 5, by decide +kernel⟩⟩

theorem test_ChecksAndWindows_met :
    (∃ (s : State) (n : Nat) (c : Nat) (r : Nat),
      partOk s ∧
      n < s.nPorts ∧
      s.checkOver n = true) ∧
    (∃ (s : State) (n : Nat) (c : Nat),
      partOk s ∧
      n < s.nPorts ∧
      (s.port n).recheck = some c ∧
      cycReached s.cyc c = true ∧
      (bitSet s (K.port_STATUS n) stOPEN ∨ bitSet s (K.port_STATUS n) stSHORT)) ∧
    (∃ (s : State),
      partOk s ∧
      s.cyc % cycPerSecond = 0) :=
  ⟨⟨(on.p (K.port_STATUS 63) 8).setPort 63 { checkAt := 24551424 }, 63, 30000, 2000, by decide +kernel⟩,
   ⟨(on.p (K.port_STATUS 0) 1).setPort 0 { recheck := some 24576000 }, 0, 24576000, by decide +kernel⟩,
   ⟨on, by decide +kernel⟩⟩

theorem test_ShotCaptures_met :
    (∃ (s : State) (n : Nat) (d : Dir),
      n < s.nPaths ∧
      (s.path n).att.live = true ∧
      ((s.path n).att.shot d).phase = .listening ∧
      ((s.path n).att.shot d).armedAt = none ∧
      ((s.path n).att.shot d).inWindow (s.shotAt ((s.path n).att.shot d)) = true) ∧
    (∃ (s : State) (n : Nat) (code : Nat) (a : Nat) (d : Dir),
      n < s.nPaths ∧
      (s.path n).att.live = true ∧
      ((s.path n).att.shot d).phase = .listening ∧
      ((s.path n).att.shot d).armedAt = some a ∧
      a < s.shotAt ((s.path n).att.shot d) ∧
      ((s.path n).att.shot d).inWindow (s.shotAt ((s.path n).att.shot d)) = true ∧
      ((s.path n).att.shot d).stops.length < ((s.path n).att.shot d).set.stopFirst + ((s.path n).att.shot d).set.stopCount ∧
      ((s.path n).att.shot d).stops.getLast?.map (·.1) ≠ some (s.shotAt ((s.path n).att.shot d))) ∧
    (∃ (s : State) (n : Nat) (d : Dir),
      n < s.nPaths ∧
      (s.path n).att.live = true ∧
      ((s.path n).att.shot d).phase = .listening ∧
      ((s.path n).att.shot d).winEnd ≤ s.shotAt ((s.path n).att.shot d) ∧
      (((s.path n).att.shot d).winEnd < s.shotAt ((s.path n).att.shot d) ∨ s.stopComing n d = false)) :=
  ⟨⟨on.setPath 31 { att := { live := true, dn := { phase := .listening, b := 24575700, set := { winOpen := 256, winLen := 4096, stopFirst := 0, stopCount := 2 }  } } }, 31, .dn, by decide +kernel⟩,
   ⟨on.setPath 31 { att := { live := true, dn := { phase := .listening, b := 24575700, set := { winOpen := 256, winLen := 4096, stopFirst := 0, stopCount := 2 } , armedAt := some 280, stops := [(290, 3)] } } }, 31, 100, 280, .dn, by decide +kernel⟩,
   ⟨on.setPath 31 { att := { live := true, dn := { phase := .listening, b := 24570000, set := { winOpen := 256, winLen := 4096 } } } }, 31, .dn, by decide +kernel⟩⟩

theorem test_CalibrationRuns_met :
    (∃ (s : State) (d : Nat),
      partOk s ∧
      d < s.dies ∧
      (s.die d).calFull = true ∧
      (s.die d).calRun = 0 ∧
      s.dieQuiet d = true ∧
      s.calPlace d = true) ∧
    (∃ (s : State) (d : Nat) (rs : List CalRes),
      partOk s ∧
      d < s.dies ∧
      (s.die d).calRun = 1 ∧
      cycReached s.cyc (cycPlus (s.die d).calStart 1048576) = true ∧
      calResultsOk rs = true) ∧
    (∃ (s : State) (d : Nat),
      partOk s ∧
      d < s.dies ∧
      (s.die d).calQuick = true ∧
      (s.die d).calFull = false ∧
      (s.die d).calRun = 0 ∧
      s.dieQuiet d = true ∧
      s.calPlace d = true) ∧
    (∃ (s : State) (d : Nat) (m : List (List Int)),
      partOk s ∧
      d < s.dies ∧
      (s.die d).calRun = 2 ∧
      cycReached s.cyc (cycPlus (s.die d).calStart 16384) = true ∧
      quickOk m = true) :=
  ⟨⟨on.setDie 7 { up := true, calFull := true }, 7, by decide +kernel⟩,
   ⟨on.setDie 7 { up := true, calRun := 1, calStart := 0 }, 7, calSeen, by decide +kernel⟩,
   ⟨on.setDie 7 { up := true, calQuick := true }, 7, by decide +kernel⟩,
   ⟨on.setDie 7 { up := true, calRun := 2, calStart := 0 }, 7, List.replicate 8 [], by decide +kernel⟩⟩

theorem test_FrameBegins_met :
    ∃ (s : State),
      partOk s ∧
      s.ready = true ∧
      s.d0Clock = true ∧
      s.cyc = s.nextBoundary :=
  ⟨{ on with cyc := 24576000 + 614400 }, by decide +kernel⟩

theorem test_AttemptsStart_met :
    (∃ (s : State) (d : Nat) (e : Nat) (mv : Nat) (n : Nat),
      partOk s ∧
      d < s.dies ∧
      e < 4 ∧
      s.framing = true ∧
      e < (s.die d).slotCount ∧
      0 < slotOfs ((s.slotTable d).getD e 0) ∧
      cycPlus s.cyc 1 = cycPlus s.frameAt (slotOfs ((s.slotTable d).getD e 0)) ∧
      slotPaths d ((s.slotTable d).getD e 0) = [n] ∧
      (s.path n).shoots = true ∧
      (s.path n).slotDue = true ∧
      bitClear s (K.port_STATUS (endA n)) stPEND ∧
      bitClear s (K.port_STATUS (endB n)) stPEND ∧
      mayShoot s n mv ∧
      s.takesSlots d s.frameAt = true ∧
      s.calTakes d = false ∧
      (s.path n).slotSeen ≠ cycPlus s.cyc 1 + 1 ∧
      aloneOn s d) ∧
    (∃ (s : State) (n : Nat) (mv : Nat),
      partOk s ∧
      n < s.nPaths ∧
      s.retryDue n = true ∧
      mayShoot s n mv ∧
      s.dieRuns (n / 4) = true ∧
      aloneOn s (n / 4)) ∧
    (∃ (s : State) (n : Nat) (mv : Nat) (f : FinalRec),
      partOk s ∧
      n < s.nPaths ∧
      s.retryDue n = true ∧
      s.dieRuns (n / 4) = false ∧
      (s.path n).slot.record = some f ∧
      aloneOn s (n / 4)) ∧
    (∃ (s : State) (n : Nat),
      n < s.nPaths ∧
      (s.path n).att.live = true ∧
      (s.path n).att.seq = true ∧
      (s.path n).att.seqSkipped = false ∧
      ((s.path n).att.shot (s.path n).att.secondDir).phase = .none ∧
      cycPlus s.cyc 1 = cycPlus (s.path n).att.b (s.path n).att.seqGap) :=
  ⟨⟨{ on with cyc := 24576999 }.setDie 7 { up := true, slotCount := 4, slots := [0, 0, 0, 16008] } |>.setPath 31 { shoots := true, slotDue := true }, 7, 3, 5000, 31, by decide +kernel⟩,
   ⟨on.setPath 31 { slot := { live := true, b0 := 24576001 - 1000, retryMax := 3, pairLen := 1000, last := some .L } }, 31, 5000, by decide +kernel⟩,
   ⟨(on.setPath 31 { slot := { live := true, b0 := 24576001 - 1000, retryMax := 3, pairLen := 1000, last := some .L, record := some { frameNo := 3, b0 := 24569000, frameSeq := 2, pairCyc := 24570000, cls := .V, corRange := false, tofDn := 2000000000, tofUp := 2000001000, dtCor := 1000, fault := 0 } } }).setDie 7 {}, 31, 5000, { frameNo := 3, b0 := 24569000, frameSeq := 2, pairCyc := 24570000, cls := .V, corRange := false, tofDn := 2000000000, tofUp := 2000001000, dtCor := 1000, fault := 0 }, by decide +kernel⟩,
   ⟨on.setPath 31 { att := { live := true, b := 24576001 - 500, seq := true, seqGap := 500 } }, 31, by decide +kernel⟩⟩

theorem test_ReferencePairs_met :
    (∃ (s : State) (n : Nat),
      partOk s ∧
      n < s.nPaths ∧
      s.refPlace n = true ∧
      s.dieRuns (n / 4) = true ∧
      (s.die (n / 4)).calRun = 0 ∧
      s.pow.govOn = false ∧
      aloneOn s (n / 4)) ∧
    (∃ (s : State) (n : Nat) (p : RefPair) (dn : ShotRaw) (up : ShotRaw),
      partOk s ∧
      n < s.nPaths ∧
      (s.path n).refRun = some p ∧
      p.spoiled = false) :=
  ⟨⟨on.setPath 31 { refDue := true, slot := { b0 := 24576001 - 1000, retryMax := 3, pairLen := 1000, validAt := some 0 } }, 31, by decide +kernel⟩,
   ⟨on.setPath 31 { refRun := some { b := 24570000, role := 0, zcEdge := 1, stopFirst := 0, stopCount := 16, freqA := 1000, freqB := 1000, lockOfs := 0 } }, 31, { b := 24570000, role := 0, zcEdge := 1, stopFirst := 0, stopCount := 16, freqA := 1000, freqB := 1000, lockOfs := 0 }, { stops := [], meas := { amp := 1000, w1 := 1, w2 := 1, w3 := 1, u1 := 100, u2 := 200 } }, { stops := [], meas := { amp := 1000, w1 := 1, w2 := 1, w3 := 1, u1 := 100, u2 := 200 } }, by decide +kernel⟩⟩

theorem test_VerdictJudges_met :
    (∃ (s : State) (n : Nat) (d : Dir) (e : Dir) (m : ShotMeas),
      n < s.nPaths ∧
      d ≠ e ∧
      (s.path n).att.live = true ∧
      s.verdictNow ((s.path n).att.shot d) = true ∧
      (((s.path n).att.shot e).phase = .listening ∨ ((s.path n).att.shot e).phase = .complete)) ∧
    (∃ (s : State) (n : Nat) (d : Dir) (e : Dir) (m : ShotMeas),
      partOk s ∧
      n < s.nPaths ∧
      d ≠ e ∧
      (s.path n).att.live = true ∧
      s.verdictNow ((s.path n).att.shot d) = true ∧
      ((s.path n).att.shot e).phase = .judged) :=
  ⟨⟨on.setPath 31 { att := { live := true, dn := { phase := .complete, b := 24570000, doneAt := some (6000 - 24) }, up := { phase := .listening } } }, 31, .dn, .up, { amp := 1000, w1 := 1, w2 := 1, w3 := 1, u1 := 100, u2 := 200 }, by decide +kernel⟩,
   ⟨on.setPath 31 { att := { live := true, up := { phase := .complete, b := 24570000, doneAt := some (6000 - 24) }, dn := { phase := .judged } } }, 31, .up, .dn, { amp := 1000, w1 := 1, w2 := 1, w3 := 1, u1 := 100, u2 := 200 }, by decide +kernel⟩⟩

theorem test_CaptureAndRefine_met :
    (∃ (s : State) (n : Nat) (chain : Nat) (d : Dir) (c : Capture) (smp : List Int),
      n < s.nPaths ∧
      captureOk smp = true ∧
      (s.path n).oldestCapture d s.cyc = some (chain, c)) ∧
    (∃ (s : State) (n : Nat) (a : Attempt) (rest : List Attempt),
      n < s.nPaths ∧
      (s.path n).lane = a :: rest ∧
      (s.path n).laneBusy = false ∧
      a.captured = true) ∧
    (∃ (s : State) (n : Nat) (a : Attempt) (rest : List Attempt),
      partOk s ∧
      n < s.nPaths ∧
      (s.path n).lane = a :: rest ∧
      (s.path n).laneBusy = true ∧
      cycReached s.cyc (s.path n).laneEnd = true) :=
  ⟨⟨on.setPath 31 { bufY := some { dir := .dn, b := 24570000, at_ := 24575488 }, att := { live := true, dn := { b := 24570000, capOn := true } } }, 31, 1, .dn, { dir := .dn, b := 24570000, at_ := 24575488 }, List.replicate 512 7, by decide +kernel⟩,
   ⟨on.setPath 31 { lane := [{ live := true, b := 24570000, dn := { samples := [1] }, up := { samples := [1] }, cls := some .V }] }, 31, { live := true, b := 24570000, dn := { samples := [1] }, up := { samples := [1] }, cls := some .V }, [], by decide +kernel⟩,
   ⟨on.setPath 31 { lane := [{ live := true, b := 24570000, dn := { samples := [1] }, up := { samples := [1] }, cls := some .V }], laneBusy := true, laneEnd := 24576000 }, 31, { live := true, b := 24570000, dn := { samples := [1] }, up := { samples := [1] }, cls := some .V }, [], by decide +kernel⟩⟩

theorem test_CancelAndHold_met :
    (∃ (s : State) (n : Nat) (k : Nat) (b0 : Nat) (rest : List (Nat × Nat)),
      partOk s ∧
      n < s.nPaths ∧
      (s.path n).cancels = (k, b0) :: rest) ∧
    (∃ (s : State) (i : Nat) (c : Nat),
      i < s.nSects ∧
      (s.sect i).hold = some c ∧
      cycReached s.cyc c = true) ∧
    (∃ (s : State) (i : Nat) (n : Nat) (b0 : Nat),
      partOk s ∧
      i < s.nSects ∧
      n < s.nPaths ∧
      4 ≤ n ∧
      s.expiring i n = some b0) :=
  ⟨⟨on.setPath 31 { cancels := [(5, 9)], slot := { live := true, b0 := 9 } }, 31, 5, 9, [], by decide +kernel⟩,
   ⟨on.setSect 7 { hold := some 24576000 }, 7, 24576000, by decide +kernel⟩,
   ⟨on.setSect 7 { work := [{ frameNo := 3, frameSeq := 2, epoch := 0, waits := [{ path := 31, b0 := 9, expiry := 24576000, state := .armed }] }] }, 7, 31, 9, by decide +kernel⟩⟩

theorem test_SectionsFed_met :
    (∃ (s : State) (n : Nat) (f : FinalRec) (rest : List FinalRec),
      partOk s ∧
      n < s.nPaths ∧
      (s.path n).sent = f :: rest ∧
      (∀ i, i < s.nSects → ∀ w, (s.sect i).waitFor n f.b0 = some w → s.overdue w = false) ∧
      (∀ i, i < s.nSects → ∀ k, (s.sect i).meet n f.b0 ≠ .late k)) ∧
    (∃ (s : State) (n : Nat) (i : Nat) (k : Nat) (f : FinalRec) (rest : List FinalRec),
      partOk s ∧
      n < s.nPaths ∧
      (s.path n).sent = f :: rest ∧
      i < s.nSects ∧
      (s.sect i).meet n f.b0 = .late k ∧
      (∀ j, j < s.nSects → (s.sect j).meet n f.b0 ≠ .onTime)) ∧
    (∃ (s : State) (i : Nat) (f : FrameWork) (rest : List FrameWork),
      partOk s ∧
      i < s.nSects ∧
      (s.sect i).work = f :: rest ∧
      s.workReady i f = true ∧
      s.g (K.sect_PATH_MASK i) ≠ 0 ∧
      s.lowerFirst i = []) :=
  ⟨⟨(on.setPath 31 { sent := [{ frameNo := 3, b0 := 24569000, frameSeq := 2, pairCyc := 24570000, cls := .V, corRange := false, tofDn := 2000000000, tofUp := 2000001000, dtCor := 1000, fault := 0 }] }), 31, { frameNo := 3, b0 := 24569000, frameSeq := 2, pairCyc := 24570000, cls := .V, corRange := false, tofDn := 2000000000, tofUp := 2000001000, dtCor := 1000, fault := 0 }, [], by
    have hn : (on.setPath 31 { sent := [{ frameNo := 3, b0 := 24569000, frameSeq := 2, pairCyc := 24570000, cls := .V, corRange := false, tofDn := 2000000000, tofUp := 2000001000, dtCor := 1000, fault := 0 }] }).sects = [] := by decide +kernel
    have hs : ∀ i, (on.setPath 31 { sent := [{ frameNo := 3, b0 := 24569000, frameSeq := 2, pairCyc := 24570000, cls := .V, corRange := false, tofDn := 2000000000, tofUp := 2000001000, dtCor := 1000, fault := 0 }] }).sect i = {} := fun i => by unfold State.sect; rw [hn]; rfl
    refine ⟨by decide +kernel, by decide +kernel, by decide +kernel, ?_, ?_⟩
    · intro i _ w h; rw [hs i] at h; cases h
    · intro i _ k h; rw [hs i] at h; cases h⟩,
   ⟨(on.setPath 31 { sent := [{ frameNo := 3, b0 := 24569000, frameSeq := 2, pairCyc := 24570000, cls := .V, corRange := false, tofDn := 2000000000, tofUp := 2000001000, dtCor := 1000, fault := 0 }] }).setSect 7 { late := [(31, 24569000, 6)] }, 31, 7, 6, { frameNo := 3, b0 := 24569000, frameSeq := 2, pairCyc := 24570000, cls := .V, corRange := false, tofDn := 2000000000, tofUp := 2000001000, dtCor := 1000, fault := 0 }, [], by decide +kernel⟩,
   ⟨(on.setSect 7 { work := [{ frameNo := 3, frameSeq := 2, epoch := 24576000, waits := [{ path := 31, b0 := 9, expiry := 24580000, state := .got .V none }] }] }).p (K.sect_PATH_MASK 7) (2 ^ 31), 7, { frameNo := 3, frameSeq := 2, epoch := 24576000, waits := [{ path := 31, b0 := 9, expiry := 24580000, state := .got .V none }] }, [], by decide +kernel⟩⟩

theorem test_ScanAndPhase_met :
    (∃ (s : State) (d : Nat),
      partOk s ∧
      d < s.dies ∧
      s.scanDue d = true) ∧
    (∃ (s : State) (d : Nat) (c : Nat) (l : List Nat) (v : Conv) (m : PhaseMeas),
      partOk s ∧
      d < s.dies ∧
      (s.die d).scanLeft = c :: l ∧
      c / 16 = d ∧
      (s.chan c).conv = some v ∧
      s.dieRuns d = true ∧
      (s.die d).scanOn = true ∧
      v.phaseOver s.cyc = true) :=
  ⟨⟨on, 7, by decide +kernel⟩,
   ⟨(on.setDie 7 { up := true, scanOn := true, scanLeft := [127] }).setChan 127 { conv := some { kind := 0, n := 1, first := 127, pins := [4, 5, 6, 7], iexc := 3, gain := 0, cmLo := 0, cmHi := 5000, tol := 100, retry := 1, monitored := false, phaseAt := 0 } }, 7, 127, [], { kind := 0, n := 1, first := 127, pins := [4, 5, 6, 7], iexc := 3, gain := 0, cmLo := 0, cmHi := 5000, tol := 100, retry := 1, monitored := false, phaseAt := 0 }, { code := -5, spMv := 1000, snMv := 900, clamps := [], iEs := 100, iEr := 100 }, by decide +kernel⟩⟩

theorem test_ChannelEvents_met :
    (∃ (s : State) (d : Nat) (pin : Nat),
      partOk s ∧
      d < s.dies ∧
      pin < 16) ∧
    (∃ (s : State) (c : Nat) (m : Nat) (rest : List Nat),
      c < s.nChans ∧
      (s.chan c).starts = m :: rest) ∧
    (∃ (s : State) (i : Nat) (c : Nat),
      partOk s ∧
      i < s.nSects ∧
      c < s.nChans ∧
      (∃ e, (c, e, 0) ∈ (s.sect i).chanWait ∧ cycReached s.cyc e = true) ∧
      s.resultComing c = false) ∧
    (∃ (s : State) (c : Nat) (v : ChanRes) (l : List ChanRes),
      partOk s ∧
      c < s.nChans ∧
      (s.chan c).results = v :: l ∧
      (∀ i, i < s.nSects → ∀ w ∈ (s.sect i).chanWait, ∀ j, j < v.members → w.1 = c + j → w.2.2 = 0 ∧ (cycReached s.cyc w.2.1 = false ∨ s.cyc = w.2.1))) :=
  ⟨⟨on, 7, 15, by decide +kernel⟩,
   ⟨on.setChan 127 { starts := [1] }, 127, 1, [], by decide +kernel⟩,
   ⟨on.setSect 7 { chanWait := [(127, 24576000, 0)] }, 7, 127, ⟨by decide +kernel, by decide +kernel, by decide +kernel,
    ⟨24576000, by decide +kernel, by decide +kernel⟩, by decide +kernel⟩⟩,
   ⟨(on.setSect 7 { chanWait := [(127, 24576000, 0)] }).setChan 127 { results := [{ valid := true, value := 25, resCyc := 24570000, members := 1 }] }, 127, { valid := true, value := 25, resCyc := 24570000, members := 1 }, [], by decide +kernel⟩⟩

theorem test_PulseInputs_met :
    (∃ (s : State) (i : Nat) (l : List LineSample) (high : Bool),
      partOk s ∧
      i < s.nInputs ∧
      debounced (piDebounce (s.g (K.pin_PI_CFG i))) (s.sampleClasses i (s.pulse i).levelFrom l) = some high) ∧
    (∃ (s : State) (i : Nat) (c : Nat) (l : List LineSample),
      partOk s ∧
      i < s.nInputs ∧
      (s.sampleClasses i (s.pulse i).lineFrom l).length = 200 ∧
      (s.sampleClasses i (s.pulse i).lineFrom l).all (2 ≤ ·) = true ∧
      (s.sampleClasses i (s.pulse i).lineFrom l).getLast? = some c ∧
      (s.pulse i).serial = 0) ∧
    (∃ (s : State) (i : Nat) (l : List LineSample),
      partOk s ∧
      i < s.nInputs ∧
      (s.sampleClasses i (s.pulse i).lineFrom l).length = 200 ∧
      (s.sampleClasses i (s.pulse i).lineFrom l).all (· ≤ 1) = true ∧
      (s.pulse i).serial ≠ 0) ∧
    (∃ (s : State),
      s.latchesHere = true) :=
  ⟨⟨on.p (K.pin_PI_CFG 31) 0x8103, 31, List.replicate 3 (.level true), true, by decide +kernel⟩,
   ⟨on.p (K.pin_PI_CFG 31) 0x8203, 31, 3, List.replicate 200 (.ohms 40000), by decide +kernel⟩,
   ⟨(on.p (K.pin_PI_CFG 31) 0x8203).setPulse 31 { serial := 9 }, 31, List.replicate 200 (.ohms 400), by decide +kernel⟩,
   ⟨on, by decide +kernel⟩⟩

theorem test_LanternMeters_met :
    (∃ (s : State),
      partOk s ∧
      s.ember.onVbat = true ∧
      s.pow.pfDone = true ∧
      bitSet s K.lant_LANT_STAT lsARMED ∧
      s.lant.running = false ∧
      s.pow.loopOn = false ∧
      s.pow.busOn = false) ∧
    (∃ (s : State) (vbat : Nat) (n : Nat),
      s.lant.running = true ∧
      s.lant.stopped = false ∧
      s.lant.awake = false ∧
      s.lant.nextIn = 0 ∧
      (∀ x ∈ [endA s.lant.path, endB s.lant.path], s.g (K.port_E_WINDOW x) + (s.port x).ePred ≤ 10 * s.g (K.sag_CAP_ENERGY x))) ∧
    (∃ (s : State) (dn : ShotRaw) (up : ShotRaw),
      s.lant.running = true ∧
      s.lant.awake = true) :=
  ⟨⟨{ on with ember := { onVbat := true }, pow := { pfDone := true } }.p K.lant_LANT_STAT 1, by decide +kernel⟩,
   ⟨({ on with lant := { running := true } }.p (K.port_PULSES 0) 8).p (K.port_PULSES 1) 4, 3000, 32768, by decide +kernel⟩,
   ⟨{ on with lant := { running := true, awake := true } }, { stops := [], meas := { amp := 1000, w1 := 1, w2 := 1, w3 := 1, u1 := 100, u2 := 200 } }, { stops := [], meas := { amp := 1000, w1 := 1, w2 := 1, w3 := 1, u1 := 100, u2 := 200 } }, by decide +kernel⟩⟩

theorem test_GovernorRations_met :
    (∃ (s : State) (vRes : Nat) (vLoop : Nat) (vBus : Nat) (vBat : Nat) (pIn : Nat) (pBase : Nat) (lim : Bool),
      partOk s ∧
      cycPlus s.cyc 4096 = s.nextBoundary ∧
      s.ready = true ∧
      s.pstate 0 ≤ 1) ∧
    (∃ (s : State) (d : Nat),
      d < s.dies ∧
      s.pow.allowSent.look 0 d ≠ 0) ∧
    (∃ (s : State) (vRes : Nat),
      s.pow.govOn = false ∧
      vRes < 100 * s.vRsv) :=
  ⟨⟨{ on with cyc := 24576000 + 614400 - 4096 }, 12000, 24000, 0, 3000, 50000, 9000, true, by decide +kernel⟩,
   ⟨{ on with pow := { allowSent := [(7, 1)] } }, 7, by decide +kernel⟩,
   ⟨on, 3000, by decide +kernel⟩⟩

theorem test_SuppliesAndRails_met :
    (∃ (s : State) (src : Source),
      s.pow.present src = true) ∧
    (∃ (s : State) (src : Source) (vRes : Nat),
      s.pow.present src = false ∧
      s.enables src = true ∧
      100 * s.g K.sup_PF_LEVEL ≤ vRes) ∧
    (∃ (s : State) (dropUv : Nat) (c : Nat),
      partOk s ∧
      s.pow.measAt = some c ∧
      cycReached s.cyc (cycPlus c 24576) = true) ∧
    (∃ (s : State) (d : Nat) (x : Rail),
      d < s.dies ∧
      s.powered = true ∧
      (s.die d).rail x = 0) ∧
    (∃ (s : State) (d : Nat) (x : Rail),
      d < s.dies ∧
      (s.die d).rail x ≠ 0 ∧
      cycReached s.cyc (cycPlus ((s.die d).railAt x) (10 * cycPerSecond)) = true) :=
  ⟨⟨on, .loop, by decide +kernel⟩,
   ⟨on.p K.sup_SUPMODE 2, .bus, 9000, by decide +kernel⟩,
   ⟨{ on with pow := { loopOn := true, measAt := some 24551424 } }, 1000, 24551424, by decide +kernel⟩,
   ⟨on, 7, .vcore, by decide +kernel⟩,
   ⟨{ on with cyc := 245760000 }.setDie 7 { up := true, railMain := 5 }, 7, .vmain, by decide +kernel⟩⟩

theorem test_PowerFails_met :
    (∃ (s : State),
      partOk s ∧
      s.pow.pfArmed = true ∧
      s.powered = false ∧
      s.sourceComing = false ∧
      s.pstate 0 ≤ 2) ∧
    (∃ (s : State),
      partOk s ∧
      s.powered = false ∧
      (bitClear s K.lant_LANT_STAT lsARMED ∨ s.pow.pfDone = false)) :=
  ⟨⟨{ on with pow := { pfArmed := true } }, by decide +kernel⟩,
   ⟨{ on with pow := {} }, by decide +kernel⟩⟩

theorem test_PowerStates_met :
    (∃ (s : State) (d : Nat),
      partOk s ∧
      d < s.dies ∧
      (s.die d).up = true ∧
      s.pstate d = 0) ∧
    (∃ (s : State) (d : Nat),
      partOk s ∧
      d < s.dies ∧
      s.pstate d = 1 ∧
      (s.die d).waking = none) ∧
    (∃ (s : State),
      s.cyc = s.g K.sup_WAKE_CYC ∧
      (s.pstate 0 = 1 ∨ s.pstate 0 = 2) ∧
      (s.die 0).waking = none) ∧
    (∃ (s : State),
      1 ≤ s.pstate 0 ∧
      s.pstate 0 ≤ 3 ∧
      (s.die 0).waking = none) ∧
    (∃ (s : State) (d : Nat) (c : Nat),
      partOk s ∧
      d < s.dies ∧
      (s.die d).waking = some c ∧
      cycReached s.cyc c = true ∧
      s.pstate d ≤ 3 ∧
      (d = 0 → s.pstate d ≤ 2)) ∧
    (∃ (s : State) (d : Nat) (st : Nat),
      partOk s ∧
      d < s.dies ∧
      s.g (K.sup_PWR_REQ d) = 0xFF ∧
      s.pstate 0 = 0 ∧
      (s.die d).lost = false ∧
      2 ≤ st ∧
      st ≤ 4 ∧
      s.pstate d < st ∧
      (d = 0 → 3 ≤ st → s.mustStayUp = false) ∧
      (s.die d).wakeAt ≠ s.cyc + 1 ∧
      s.wakeComing d = false) ∧
    (∃ (s : State) (d : Nat),
      partOk s ∧
      d < s.dies ∧
      d ≠ 0 ∧
      s.g (K.sup_PWR_REQ d) = 0xFF ∧
      s.pstate 0 = 0 ∧
      (s.die d).lost = false ∧
      (s.pstate d = 2 ∨ s.pstate d = 3) ∧
      (s.die d).waking = none) :=
  ⟨⟨on, 7, by decide +kernel⟩,
   ⟨on.p (K.sup_PWR_STATE 7) 1, 7, by decide +kernel⟩,
   ⟨(on.p (K.sup_PWR_STATE 0) 2).p K.sup_WAKE_CYC 24576000, by decide +kernel⟩,
   ⟨on.p (K.sup_PWR_STATE 0) 2, by decide +kernel⟩,
   ⟨(on.p (K.sup_PWR_STATE 7) 3).setDie 7 { up := true, waking := some 24576000 }, 7, 24576000, by decide +kernel⟩,
   ⟨on.p (K.sup_PWR_REQ 7) 255, 7, 4, by decide +kernel⟩,
   ⟨(on.p (K.sup_PWR_REQ 7) 255).p (K.sup_PWR_STATE 7) 3, 7, by decide +kernel⟩⟩

theorem test_LineTransfers_met :
    (∃ (s : State) (d : Nat) (x : Lane),
      partOk s ∧
      s.isFollower d = true ∧
      s.laneRuns d x = true ∧
      ((s.line d).lane x).flight = none ∧
      ((s.line d).lane x).ready s.cyc ≠ [] ∧
      cycReached s.cyc ((s.line d).lane x).idleFrom = true) ∧
    (∃ (s : State) (d : Nat) (x : Lane) (beats : List Nat),
      partOk s ∧
      s.isFollower d = true ∧
      (∀ b ∈ beats, b < 256) ∧
      (s.line d).up = true ∧
      s.pstate (recvDie d x) < 3 ∧
      ((s.line d).lane x).arrives s.cyc = true) ∧
    (∃ (s : State) (d : Nat) (x : Lane) (k : Nat) (tries : Nat) (e : Nat) (ws : List Nat),
      s.isFollower d = true ∧
      (s.line d).up = true ∧
      ((s.line d).lane x).ackDue = true ∧
      ((s.line d).lane x).flight = some (k, ws, tries, e) ∧
      cycReached s.cyc (cycPlus e 1) = true ∧
      cycReached (cycPlus e 8) s.cyc = true) ∧
    (∃ (s : State) (d : Nat) (x : Lane) (k : Nat) (tries : Nat) (e : Nat) (ws : List Nat),
      partOk s ∧
      s.isFollower d = true ∧
      (s.line d).up = true ∧
      ((s.line d).lane x).flight = some (k, ws, tries, e) ∧
      cycReached s.cyc (cycPlus e 8) = true ∧
      ¬ (s.cyc = cycPlus e 8 ∧ ((s.line d).lane x).ackDue = true ∧ .glAckToggle d x ∈ s.pending)) :=
  ⟨⟨on.setLine 7 { up := true, outward := { tx := [(0, 1), (0, 2)] } }, 7, .out, by decide +kernel⟩,
   ⟨on.setLine 7 { up := true, inward := { flight := some (0, [1], 1, 24575999) } }, 7, .inward, [1, 255], by decide +kernel⟩,
   ⟨on.setLine 7 { up := true, outward := { ackDue := true, flight := some (0, [1], 1, 24575999) } }, 7, .out, 0, 1, 24575999, [1], by decide +kernel⟩,
   ⟨on.setLine 7 { up := true, outward := { flight := some (0, [1], 4, 24575992) } }, 7, .out, 0, 4, 24575992, [1], by decide +kernel⟩⟩

theorem test_LinesResynchronise_met :
    (∃ (s : State) (d : Nat) (n : Nat),
      s.isFollower d = true ∧
      (s.line d).step ≠ 0 ∧
      (s.line d).first = .d0) ∧
    (∃ (s : State) (d : Nat) (n : Nat),
      partOk s ∧
      s.isFollower d = true ∧
      (s.line d).step = 0) ∧
    (∃ (s : State) (d : Nat) (n : Nat) (e : LineEnd),
      s.isFollower d = true ∧
      (s.line d).step = 2 ∧
      (s.line d).first = e) ∧
    (∃ (s : State) (d : Nat) (e : LineEnd),
      partOk s ∧
      s.isFollower d = true ∧
      (s.line d).step = 3 ∧
      (s.line d).first ≠ e) ∧
    (∃ (s : State) (d : Nat) (e : LineEnd),
      s.isFollower d = true ∧
      (s.line d).step ≠ 0 ∧
      (s.line d).syncSender = e ∧
      cycReached s.cyc (cycPlus (s.line d).syncAt 32) = true) :=
  ⟨⟨on.setLine 7 { step := 1 }, 7, 3, by decide +kernel⟩,
   ⟨on, 7, 3, by decide +kernel⟩,
   ⟨on.setLine 7 { step := 2 }, 7, 3, .d0, by decide +kernel⟩,
   ⟨on.setLine 7 { step := 3 }, 7, .follower, by decide +kernel⟩,
   ⟨on.setLine 7 { step := 2 }, 7, .follower, by decide +kernel⟩⟩

theorem test_LinesSupervise_met :
    (∃ (s : State) (d : Nat),
      partOk s ∧
      s.isFollower d = true ∧
      (s.line d).step ≠ 0 ∧
      cycReached s.cyc (cycPlus (s.line d).began 24576) = true ∧
      (s.die d).lost = false ∧
      ¬ (s.cyc = cycPlus (s.line d).began 24576 ∧ s.doneComing d = true)) ∧
    (∃ (s : State) (d : Nat) (c : Nat),
      partOk s ∧
      s.isFollower d = true ∧
      (s.die d).lost = true ∧
      (s.die d).lossCause = 1 ∧
      (s.line d).step = 0 ∧
      (s.line d).up = false ∧
      (s.line d).retryAt = some c ∧
      cycReached s.cyc c = true) ∧
    (∃ (s : State) (d : Nat),
      s.isFollower d = true ∧
      (s.die d).up = true ∧
      s.pstate d = 0 ∧
      (s.line d).up = true ∧
      s.cyc % 2 ^ 24 = 0) ∧
    (∃ (s : State) (d : Nat) (c : Nat) (v : Nat),
      partOk s ∧
      s.isFollower d = true ∧
      (s.line d).up = true ∧
      (s.line d).cycSent = some c ∧
      (s.die d).lost = false) ∧
    (∃ (s : State) (d : Nat),
      s.isFollower d = true ∧
      (s.line d).up = true ∧
      s.pstate d ≤ 2) :=
  ⟨⟨on.setLine 7 { step := 1, began := 24551424 }, 7, by decide +kernel⟩,
   ⟨(on.setLine 7 { retryAt := some 24576000 }).setDie 7 { lost := true, lossCause := 1 }, 7, 24576000, by decide +kernel⟩,
   ⟨{ on with cyc := 2 ^ 25 }, 7, by decide +kernel⟩,
   ⟨on.setLine 7 { up := true, cycSent := some 16777216 }, 7, 16777216, 16777217, by decide +kernel⟩,
   ⟨on, 7, by decide +kernel⟩⟩

theorem test_FollowersAnswer_met :
    (∃ (s : State) (d : Nat) (w : FollowWait) (rest : List FollowWait),
      s.isFollower d = true ∧
      (s.line d).up = true ∧
      (s.line d).late = [] ∧
      (s.line d).waits = w :: rest) ∧
    (∃ (s : State) (d : Nat) (serial : Nat) (rest : List Nat),
      s.isFollower d = true ∧
      (s.line d).up = true ∧
      (s.line d).late = serial :: rest) ∧
    (∃ (s : State) (d : Nat) (w : FollowWait) (rest : List FollowWait),
      partOk s ∧
      s.isFollower d = true ∧
      (s.line d).waits = w :: rest ∧
      cycReached s.cyc w.exp = true ∧
      ¬ (s.cyc = w.exp ∧ s.responseComing d = true)) :=
  ⟨⟨on.setLine 7 { up := true, waits := [{ key := K.dev_SDO_TMO, who := .internal, exp := 24576000, data := [1, 2] }] }, 7, { key := K.dev_SDO_TMO, who := .internal, exp := 24576000, data := [1, 2] }, [], by decide +kernel⟩,
   ⟨on.setLine 7 { up := true, late := [9] }, 7, 9, [], by decide +kernel⟩,
   ⟨on.setLine 7 { up := true, waits := [{ key := K.dev_SDO_TMO, who := .internal, exp := 24576000, data := [1, 2] }] }, 7, { key := K.dev_SDO_TMO, who := .internal, exp := 24576000, data := [1, 2] }, [], by decide +kernel⟩⟩

theorem test_ChipStarts_met :
    (∃ (s : State) (cause : Nat) (info : StartInfo),
      partOk s ∧
      1 ≤ cause ∧
      cause ≤ 4 ∧
      s.startInfoOk info = true ∧
      s.triggers ≠ [] ∧
      s.startCause s.triggers = cause ∧
      s.canStart info.supmode info.resDv = true) ∧
    (∃ (s : State) (cause : Nat) (info : StartInfo),
      partOk s ∧
      cause ∈ [5, 6, 7, 8] ∧
      s.startInfoOk info = true ∧
      s.triggers.foldl min 10 = cause ∧
      s.canStart (s.g K.sup_SUPMODE) info.resDv = true ∧
      s.es esEMBER_LOST = false) ∧
    (∃ (s : State) (info : StartInfo),
      partOk s ∧
      s.startInfoOk info = true ∧
      s.chipRuns = true ∧
      s.triggers = [] ∧
      s.canStart (s.g K.sup_SUPMODE) info.resDv = true) :=
  ⟨⟨coldOne, 1, startSeen, by decide +kernel⟩,
   ⟨on.setDie 0 { up := true, trigger := 8 }, 8, startSeen, by decide +kernel⟩,
   ⟨on.setDie 7 { trigger := 10 }, startSeen, by decide +kernel⟩⟩

theorem test_FollowerStarts_met :
    (∃ (s : State) (d : Nat) (x : DieStart),
      partOk s ∧
      s.isFollower d = true ∧
      dieStartOk x = true ∧
      s.chipRuns = true ∧
      (s.die d).lost = false ∧
      startsWell x) ∧
    (∃ (s : State) (d : Nat) (c : Nat) (x : DieStart),
      partOk s ∧
      s.isFollower d = true ∧
      dieStartOk x = true ∧
      s.chipRuns = true ∧
      (s.die d).lost = true ∧
      (s.line d).retryAt = some c ∧
      cycReached s.cyc c = true ∧
      ((s.die d).lossCause = 2 ∨ (s.die d).lossCause = 7 ∨ (s.line d).up = true) ∧
      startsWell x) ∧
    (∃ (s : State) (d : Nat),
      partOk s ∧
      d < s.dies ∧
      s.watchdogDue d = true) ∧
    (∃ (s : State) (d : Nat),
      partOk s ∧
      s.isFollower d = true ∧
      (s.die d).up = false ∧
      (s.die d).lost = false ∧
      s.g (K.die_START_STAT d) % 4 = 1) ∧
    (∃ (s : State) (d : Nat) (reads : List MarchRead) (x : DieStart),
      partOk s ∧
      d < s.dies ∧
      dieStartOk x = true ∧
      marchOk reads = true ∧
      (((s.die d).march = 1 ∧ marchCycles ≤ cycDiff s.cyc (s.die d).marchFrom) ∨ ((s.die d).march = 2 ∧ ((s.die d).marchStop = true ∨ marchBlocks ≤ cycDiff s.cyc (s.die d).marchFrom)))) :=
  ⟨⟨on.setDie 7 {}, 7, dieSeen, by decide +kernel⟩,
   ⟨(on.setDie 7 { lost := true, lossCause := 7 }).setLine 7 { up := true, retryAt := some 24576000 }, 7, 24576000, dieSeen, by decide +kernel⟩,
   ⟨on.setDie 7 { up := true, wdArmed := true }, 7, by decide +kernel⟩,
   ⟨(on.setDie 7 {}).p (K.die_START_STAT 7) 1, 7, by decide +kernel⟩,
   ⟨on.setDie 7 { up := true, march := 2, marchStop := true }, 7, [{ word := 65535, checker := true, element := 5, value := 1 }], dieSeen, by decide +kernel⟩⟩

theorem test_ResourceOrders_met :
    (∃ (s : State) (who : Orig) (n : Nat),
      partOk s ∧
      n < s.nPorts ∧
      accepts s who (K.port_CHECK_CMD n) [1]) ∧
    (∃ (s : State) (who : Orig) (n : Nat) (k : Nat),
      partOk s ∧
      n < s.nPaths ∧
      k < 256 ∧
      accepts s who (K.path_LEARN n) [k]) ∧
    (∃ (s : State) (who : Orig) (d : Nat),
      partOk s ∧
      d < s.dies ∧
      (s.die d).calRun ≠ 1 ∧
      accepts s who (K.die_CAL_CMD d) [1]) ∧
    (∃ (s : State) (who : Orig) (d : Nat),
      partOk s ∧
      d < s.dies ∧
      (s.die d).calRun = 0 ∧
      accepts s who (K.die_CAL_CMD d) [2]) ∧
    (∃ (s : State) (who : Orig) (d : Nat) (x : Nat),
      partOk s ∧
      d < s.dies ∧
      x < 16 ∧
      bitSet s (K.die_PIN_STAT d x) 2 ∧
      (s.pin (16 * d + x)).hitAt ≠ s.cyc + 1 ∧
      .clampHit d x ∉ s.pending ∧
      accepts s who (K.die_PIN_STAT d x) [4, 0]) ∧
    (∃ (s : State) (who : Orig) (d : Nat),
      partOk s ∧
      s.isFollower d = true ∧
      (s.die d).march = 0 ∧
      (s.die d).up = true ∧
      s.pstate d < 2 ∧
      accepts s who (K.die_MARCH_CMD d) [1]) ∧
    (∃ (s : State) (who : Orig) (d : Nat),
      partOk s ∧
      d < s.dies ∧
      (s.die d).march = 0 ∧
      (s.die d).up = true ∧
      s.pstate d < 2 ∧
      accepts s who (K.die_MARCH_CMD d) [2]) ∧
    (∃ (s : State) (who : Orig) (d : Nat),
      partOk s ∧
      d < s.dies ∧
      (s.die d).march = 2 ∧
      accepts s who (K.die_MARCH_CMD d) [3]) ∧
    (∃ (s : State) (who : Orig) (d : Nat) (x : DieStart),
      partOk s ∧
      s.isFollower d = true ∧
      dieStartOk x = true ∧
      accepts s who (K.die_DIE_RESTART d) [1] ∧
      startsWell x) :=
  ⟨⟨on, .internal, 63, by decide +kernel⟩,
   ⟨onOpen, .host, 31, 16, by decide +kernel⟩,
   ⟨on, .can, 7, by decide +kernel⟩,
   ⟨on, .host, 7, by decide +kernel⟩,
   ⟨on.p (K.die_PIN_STAT 7 15) 4, .host, 7, 15, by decide +kernel⟩,
   ⟨on, .host, 7, by decide +kernel⟩,
   ⟨on, .host, 7, by decide +kernel⟩,
   ⟨on.setDie 7 { up := true, march := 2 }, .host, 7, by decide +kernel⟩,
   ⟨on.setDie 7 { lost := true, lossCause := 3 }, .host, 7, dieSeen, by decide +kernel⟩⟩

theorem test_ChipOrders_met :
    (∃ (s : State) (who : Orig) (v : Nat),
      v < 256 ∧
      accepts s who K.sup_CANT_CMD [v]) ∧
    (∃ (s : State) (who : Orig) (v : Nat),
      v < two32 ∧
      accepts s who K.loop_LOOP_SET (leBytes 4 v)) ∧
    (∃ (s : State) (who : Orig) (v : Nat),
      v < 256 ∧
      s.bill.closedAt ≠ s.cyc + 1 ∧
      accepts s who K.snap_BILL_CMD [v]) ∧
    (∃ (s : State) (j : Nat) (v : Nat),
      j = 1 ∨ j = 2 ∧
      v < two32 ∧
      accepts s .can (K.comm_STORE j) (leBytes 4 v)) ∧
    (∃ (s : State) (j : Nat) (v : Nat),
      j = 1 ∨ j = 2 ∧
      v < two32 ∧
      accepts s .can (K.comm_RESTORE j) (leBytes 4 v)) ∧
    (∃ (s : State),
      accepts s .can (K.comm_ERRFIELD 0) [0]) :=
  ⟨⟨on, .host, 1, by decide +kernel⟩,
   ⟨on, .can, 12000, by decide +kernel⟩,
   ⟨on, .host, 1, by decide +kernel⟩,
   ⟨on, 1, 0x65766173, by decide +kernel⟩,
   ⟨on, 2, 0x64616F6C, by decide +kernel⟩,
   ⟨on, by decide +kernel⟩⟩

theorem test_EmberOrders_met :
    (∃ (s : State) (who : Orig) (v : Nat),
      v < 256 ∧
      accepts s who K.emb_XCHK_CMD [v]) ∧
    (∃ (s : State) (who : Orig) (v : Nat),
      v < two32 ∧
      accepts s who K.emb_SET_BIN (leBytes 4 v)) ∧
    (∃ (s : State) (who : Orig) (v : Nat),
      v < two64 ∧
      accepts s who K.emb_SET_CAL (leBytes 8 v)) ∧
    (∃ (s : State) (who : Orig) (v : Nat),
      v < 256 ∧
      accepts s who K.emb_RTC_MODE [v]) ∧
    (∃ (s : State) (who : Orig) (v : Int),
      -32768 ≤ v ∧
      v ≤ 32767 ∧
      accepts s who K.emb_TRIM (leBytes 2 (ofSigned 16 v))) ∧
    (∃ (s : State) (who : Orig),
      accepts s who K.emb_PWRON_CTL [1]) ∧
    (∃ (s : State) (who : Orig),
      accepts s who K.emb_PWRON_CTL [2]) :=
  ⟨⟨on, .host, 10, by decide +kernel⟩,
   ⟨on, .host, 1000, by decide +kernel⟩,
   ⟨on, .host, 0x0000010106000000, by decide +kernel⟩,
   ⟨onOpen, .host, 1, by decide +kernel⟩,
   ⟨onOpen, .host, -3, by decide +kernel⟩,
   ⟨on, .host, by decide +kernel⟩,
   ⟨on, .host, by decide +kernel⟩⟩

theorem test_EntriesWritten_met :
    (∃ (s : State) (who : Orig) (n : Nat) (v : Nat),
      partOk s ∧
      n < s.nPaths ∧
      v < 256 ∧
      accepts s who (K.path_RETRY_MAX n) [v]) ∧
    (∃ (s : State) (who : Orig) (n : Nat) (v : Nat),
      partOk s ∧
      n < s.nPaths ∧
      v < 256 ∧
      s.serving = true ∧
      who ≠ .boundary ∧
      s.isOpen who = true ∧
      s.stageCheck who (K.path_RETRY_MAX n) [v] = 0) ∧
    (∃ (s : State) (r : Nat) (n : Nat) (v : Nat),
      partOk s ∧
      r < 8 ∧
      n < s.nPaths ∧
      v < 256 ∧
      s.onBus = true ∧
      s.nmt = nmOP ∧
      s.rpdoValid r = true ∧
      s.mapOf (K.comm_RPDO_MAP r 0) = [K.path_RETRY_MAX n * 256 + 8] ∧
      254 ≤ s.g (K.comm_RPDO_TYPE r) ∧
      s.directCheck .can (K.path_RETRY_MAX n) [v] = 0) ∧
    (∃ (s : State) (r : Nat) (v : Nat),
      r < 8 ∧
      v < 256 ∧
      s.onBus = true ∧
      s.nmt = nmOP ∧
      s.rpdoValid r = true ∧
      s.mapLen (K.comm_RPDO_MAP r 0) = 1 ∧
      s.g (K.comm_RPDO_TYPE r) ≤ 240) ∧
    (∃ (s : State) (r : Nat),
      r < 8 ∧
      s.onBus = true ∧
      s.nmt = nmOP ∧
      s.rpdoValid r = true ∧
      0 < s.mapLen (K.comm_RPDO_MAP r 0)) :=
  ⟨⟨on, .host, 31, 3, by decide +kernel⟩,
   ⟨on.p (K.fire_FIRE_STAT 1) 8192, .can, 31, 3, by decide +kernel⟩,
   ⟨(((on.p (K.comm_RPDO_COB 7) 0x200).p (K.comm_RPDO_MAP 7 0) 1).p (K.comm_RPDO_MAP 7 1) (K.path_RETRY_MAX 31 * 256 + 8)), 7, 31, 3, by decide +kernel⟩,
   ⟨((((on.p (K.comm_RPDO_COB 7) 0x200).p (K.comm_RPDO_MAP 7 0) 1).p (K.comm_RPDO_MAP 7 1) (K.path_RETRY_MAX 31 * 256 + 8)).p (K.comm_RPDO_TYPE 7) 240), 7, 3, by decide +kernel⟩,
   ⟨(((on.p (K.comm_RPDO_COB 7) 0x200).p (K.comm_RPDO_MAP 7 0) 1).p (K.comm_RPDO_MAP 7 1) (K.path_RETRY_MAX 31 * 256 + 8)), 7, by decide +kernel⟩⟩

theorem test_FiringOrders_met :
    (∃ (s : State) (who : Orig),
      accepts s who (K.fire_FIRE_CTL (origNo who)) [1, 0] ∧
      (s.fireState (origNo who) = 0 ∨ 3 < s.fireState (origNo who))) ∧
    (∃ (s : State) (who : Orig),
      accepts s who (K.fire_FIRE_CTL (origNo who)) [2, 0] ∧
      s.fireState (origNo who) = 1 ∧
      (s.fire (origNo who)).slots ≤ 64) ∧
    (∃ (s : State) (who : Orig),
      accepts s who (K.fire_FIRE_CTL (origNo who)) [3, 0] ∧
      s.fireState (origNo who) = 1) ∧
    (∃ (s : State) (who : Orig),
      who ≠ .boundary ∧
      s.fireState (origNo who) = 1 ∧
      cycReached s.cyc (cycPlus (s.fire (origNo who)).openAt ((s.fire (origNo who)).tmo * cycPerSecond)) = true ∧
      ¬ (s.cyc = cycPlus (s.fire (origNo who)).openAt ((s.fire (origNo who)).tmo * cycPerSecond) ∧ s.commitComing (origNo who) = true)) :=
  ⟨⟨on, .internal, by decide +kernel⟩,
   ⟨(on.p (K.fire_FIRE_STAT 2) 8192).setFire 2 { stages := [{ key := K.path_RETRY_MAX 31, data := [3], slots := 1, cyc := 24570000, persistent := false }] }, .internal, by decide +kernel⟩,
   ⟨on.p (K.fire_FIRE_STAT 2) 8192, .internal, by decide +kernel⟩,
   ⟨(on.p (K.fire_FIRE_STAT 2) 8192).setFire 2 { openAt := 0, tmo := 1 }, .internal, by decide +kernel⟩⟩

theorem test_CommitsRun_met :
    (∃ (s : State) (b : Boundary),
      s.d0Clock = true ∧
      s.kilnBusy = false ∧
      s.boundaryDue = some b) ∧
    (∃ (s : State) (o : Nat) (rest : List Nat),
      s.d0Clock = true ∧
      s.kilnBusy = false ∧
      s.boundaryDue = none ∧
      s.waitingFires = o :: rest ∧
      s.mustFollow o = false ∧
      ((s.fire o).pSlots = 0 ∨ s.bankFree ≠ none)) ∧
    (∃ (s : State) (o : Nat),
      o < 3 ∧
      s.fireState o = 2 ∧
      (s.fire o).start.isSome = true ∧
      (s.fire o).castAt = s.cyc ∧
      (s.fire o).slots ≤ 64 ∧
      (∀ g ∈ (s.fire o).stages, (s.die (keyDie g.key)).lost = false)) :=
  ⟨⟨{ on with bill := { queue := [{ tariff := some 3 }] } }, { tariff := some 3 }, by decide +kernel⟩,
   ⟨(on.p (K.fire_FIRE_STAT 1) 16384).setFire 1 { stages := [{ key := K.path_RETRY_MAX 31, data := [3], slots := 1, cyc := 24570000, persistent := false }], commitAt := some 24570000 }, 1, [], by decide +kernel⟩,
   ⟨(on.p (K.fire_FIRE_STAT 2) 16384).setFire 2 { stages := [{ key := K.path_RETRY_MAX 31, data := [3], slots := 1, cyc := 24570000, persistent := false }], start := some 24575000, castAt := 24576000 }, 2, by decide +kernel⟩⟩

theorem test_FiringsApply_met :
    (∃ (s : State) (o : Nat),
      o ∈ s.dueFires) ∧
    (∃ (s : State) (o : Nat) (n : Nat) (v : Nat) (g : Stage),
      partOk s ∧
      n < s.nPaths ∧
      v < 256 ∧
      s.dueFires = [o] ∧
      (s.fire o).stages = [g] ∧
      g.key = K.path_RETRY_MAX n ∧
      g.data = [v]) ∧
    (∃ (s : State) (who : Orig) (h : Held) (rest : List Held),
      who ≠ .boundary ∧
      (s.fire (origNo who)).held = h :: rest ∧
      (∀ e ∈ s.unsaved, e.2.2.1 ∉ h.keys) ∧
      (s.ledger.fire = false ∨ ∀ k ∈ h.keys, isLedgerTarget k = false)) ∧
    (∃ (s : State),
      s.ledger.due = [] ∧
      s.ledger.write = none) ∧
    (∃ (s : State) (b : Boundary) (rest : List Boundary),
      s.bill.queue = b :: rest ∧
      b.cast = true ∧
      s.cyc = b.applyAt ∧
      b.caught = none) :=
  ⟨⟨(on.p (K.fire_FIRE_STAT 2) 24576).setFire 2 { stages := [{ key := K.path_RETRY_MAX 31, data := [3], slots := 1, cyc := 24570000, persistent := false }], start := some 24575000, castAt := 24575900, applyAt := 24576000 }, 2, by decide +kernel⟩,
   ⟨(on.p (K.fire_FIRE_STAT 2) 24576).setFire 2 { stages := [{ key := K.path_RETRY_MAX 31, data := [3], slots := 1, cyc := 24570000, persistent := false }], start := some 24575000, castAt := 24575900, applyAt := 24576000 }, 2, 31, 3, { key := K.path_RETRY_MAX 31, data := [3], slots := 1, cyc := 24570000, persistent := false }, by decide +kernel⟩,
   ⟨on.setFire 1 { held := [{ slots := 1, bank := none, keys := [] }] }, .can, { slots := 1, bank := none, keys := [] }, [], by decide +kernel⟩,
   ⟨on, by decide +kernel⟩,
   ⟨{ on with bill := { queue := [{ tariff := some 3, cast := true, applyAt := 24576000 }] } }, { tariff := some 3, cast := true, applyAt := 24576000 }, [], by decide +kernel⟩⟩

theorem test_ClockOnD0_met :
    (∃ (s : State),
      s.rtcInvalid ≠ s.cal csCLOCK_INV) ∧
    (∃ (s : State) (e : Nat),
      s.bill.intEnd = some e ∧
      s.cal csCLOCK_INV = true ∧
      cycReached s.cyc e = true) ∧
    (∃ (s : State),
      s.d0Clock = true ∧
      0 < s.ember.ticks) ∧
    (∃ (s : State),
      s.d0Clock = true ∧
      0 < s.ember.alarms) ∧
    (∃ (s : State),
      s.d0Clock = true ∧
      0 < s.ember.wakes) ∧
    (∃ (s : State) (i : Nat),
      i < 2 ∧
      s.d0Clock = true ∧
      0 < (if i = 0 then s.ember.tamp0 else s.ember.tamp1)) ∧
    (∃ (s : State),
      s.d0Clock = true ∧
      0 < s.ember.oscs) :=
  ⟨⟨on, by decide +kernel⟩,
   ⟨{ on with bill := { intEnd := some 24576000 } }.p K.cal_CAL_STAT 128, 24576000, by decide +kernel⟩,
   ⟨{ on with ember := { ticks := 1 }, bill := { rtc := some 59 } }, by decide +kernel⟩,
   ⟨{ on with ember := { alarms := 1 } }, by decide +kernel⟩,
   ⟨{ on with ember := { wakes := 1 } }, by decide +kernel⟩,
   ⟨{ on with ember := { tamp1 := 1 } }.p K.emb_EMBER_STAT (2 ^ (esTAMP0 + 1)), 1, by decide +kernel⟩,
   ⟨{ on with ember := { oscs := 1 } }, by decide +kernel⟩⟩

theorem test_EmberEvents_met :
    (∃ (s : State) (vm : Nat) (vb : Nat),
      s.ember.onVbat = true ∧
      min vb 2850 + 100 < vm ∧
      2600 < vm) ∧
    (∃ (s : State) (vm : Nat) (vb : Nat),
      s.ember.onVbat = false ∧
      (vm < min vb 2850 ∨ vm < 2500)) ∧
    (∃ (s : State) (vb : Nat),
      s.ember.onVbat = true ∧
      vb < 1900) ∧
    (∃ (s : State) (high : Bool),
      high = s.ecfg 1) ∧
    (∃ (s : State),
      s.ember.subsec ≤ s.ember.period ∧
      s.ember.period < 32768) ∧
    (∃ (s : State) (i : Nat) (high : Bool),
      i < 2 ∧
      s.tampActive high = true ∧
      s.ecfg (7 + i) = true ∧
      (if i = 0 then s.ember.armed0 else s.ember.armed1) = true) ∧
    (∃ (s : State) (i : Nat) (high : Bool),
      i < 2 ∧
      s.ecfg (7 + i) = true ∧
      s.tampActive high = false) ∧
    (∃ (s : State) (c : Nat),
      c < two64 ∧
      s.ember.xchkOpen.isSome = true ∧
      s.gateCount c = true) :=
  ⟨⟨{ on with ember := { onVbat := true } }, 2951, 2850, by decide +kernel⟩,
   ⟨on, 2499, 2000, by decide +kernel⟩,
   ⟨{ on with ember := { onVbat := true } }, 1899, by decide +kernel⟩,
   ⟨on, false, by decide +kernel⟩,
   ⟨{ on with ember := { period := 32767 } }, by decide +kernel⟩,
   ⟨on.p K.emb_EMBER_CFG 256, 1, true, by decide +kernel⟩,
   ⟨on.p K.emb_EMBER_CFG 256, 1, false, by decide +kernel⟩,
   ⟨{ on with ember := { xchkOpen := some 10, xchkFrom := 0 } }, 24576002, by decide +kernel⟩⟩

theorem test_EmberPort_met :
    (∃ (s : State) (sub : Nat) (r : EmberReq) (rest : List EmberReq),
      sub < 32768 ∧
      s.ember.subsec ≤ sub ∧
      s.ember.reqs = r :: rest ∧
      s.ember.ans = none ∧
      r.write = false) ∧
    (∃ (s : State) (sub : Nat) (r : EmberReq) (rest : List EmberReq),
      sub < 32768 ∧
      s.ember.subsec ≤ sub ∧
      s.ember.reqs = r :: rest ∧
      s.ember.ans = none ∧
      r.write = true) ∧
    (∃ (s : State) (r : EmberReq) (rest : List EmberReq) (a : EmberAns),
      s.d0Clock = true ∧
      s.ember.reqs = r :: rest ∧
      s.ember.ans = some a ∧
      r.who ≠ .boundary) :=
  ⟨⟨{ on with ember := { reqs := [{ key := K.emb_RTC_BIN, write := false, who := .host }] } }, 32767, { key := K.emb_RTC_BIN, write := false, who := .host }, [], by decide +kernel⟩,
   ⟨{ on with ember := { reqs := [{ key := K.emb_SET_BIN, write := true, value := 77, who := .host }] } }, 32767, { key := K.emb_SET_BIN, write := true, value := 77, who := .host }, [], by decide +kernel⟩,
   ⟨{ on with ember := { reqs := [{ key := K.emb_RTC_BIN, write := false, who := .host }], ans := some { bin := 5 } } }, { key := K.emb_RTC_BIN, write := false, who := .host }, [], { bin := 5 }, by decide +kernel⟩⟩

theorem test_StoreWorks_met :
    (∃ (s : State) (d : Nat),
      d < s.dies ∧
      (s.store d).buf ≠ [] ∧
      (s.store d).run = [] ∧
      gatherWait ≤ cycDiff s.cyc (s.store d).bufAt) ∧
    (∃ (s : State) (d : Nat),
      d < s.dies ∧
      (s.store d).run ≠ []) ∧
    (∃ (s : State) (d : Nat) (line : Nat) (errs : List WordErr),
      d < s.dies ∧
      line < 4096 ∧
      errsOk errs = true ∧
      s.scrubDue d line = true) ∧
    (∃ (l : List WordErr),
      (∀ w ∈ l, w.bits ≤ 2)) :=
  ⟨⟨on.setStore 7 { buf := [(3000, [])], bufAt := 0 }, 7, by decide +kernel⟩,
   ⟨on.setStore 7 { run := [(3000, [])] }, 7, by decide +kernel⟩,
   ⟨{ on with cyc := 2 ^ 40 }.setStore 7 { scrubLine := 4095 }, 7, 4095, [{ word := 32, bits := 72, flagged := false, bytes := [0, 7] }], by decide +kernel⟩,
   ⟨[{ word := 32, bits := 2, flagged := true, bytes := [] }], by decide +kernel⟩⟩

theorem test_PartitionsServed_met :
    (∃ (s : State) (who : Orig) (b : List Nat),
      isBytes b = true ∧
      accepts s who K.st_UNLOCK b ∧
      b.getD 0 0 < 16 ∧
      (b.getD 1 0 = 1 ∨ b.getD 1 0 = 2) ∧
      s.partLocked (s.g K.st_DIE_SEL) (b.getD 0 0) = false) ∧
    (∃ (s : State) (who : Orig) (p : Nat),
      p < 256 ∧
      accepts s who K.st_RELOCK [p]) ∧
    (∃ (s : State) (d : Nat) (p : Nat),
      d < s.dies ∧
      p < 16 ∧
      (s.store d).lockEnd.look 0 p ≠ 0 ∧
      cycReached s.cyc ((s.store d).lockEnd.look 0 p - 1) = true) ∧
    (∃ (s : State) (who : Orig) (b : List Nat),
      isBytes b = true ∧
      accepts s who K.st_PART_DEF b) ∧
    (∃ (s : State) (who : Orig) (b : List Nat),
      isBytes b = true ∧
      accepts s who K.st_LINE_DATA b) ∧
    (∃ (s : State) (who : Orig) (errs : List WordErr),
      who ≠ .boundary ∧
      s.serving = true ∧
      s.g K.st_DIE_SEL < s.dies ∧
      errsOk errs = true ∧
      s.g K.st_LINE_SEL < s.partLines (s.g K.st_DIE_SEL) (s.g K.st_PART_SEL) ∧
      s.partOpen (origNo who) (s.g K.st_DIE_SEL) (s.g K.st_PART_SEL) 1 = true) :=
  ⟨⟨selOne, .host, [15, 1, 0, 0, 0, 0, 0, 0, 0, 0], by decide +kernel⟩,
   ⟨selOne, .host, 15, by decide +kernel⟩,
   ⟨selOne.setStore 1 { lockEnd := [(15, 24576001)] }, 1, 15, by decide +kernel⟩,
   ⟨(selOne.setStore 1 {}).p K.sec_SEAL_STATE 1, .host, [6, 0, 0, 1, 1, 0, 0, 0, 0, 0, 0, 0, 0, 0, 0, 0, 0, 0, 0, 0, 0, 0], by decide +kernel⟩,
   ⟨selOne, .host, List.replicate 256 9, by decide +kernel⟩,
   ⟨selOne, .host, [{ word := 0, bits := 3, flagged := true, bytes := [] }, { word := 1, bits := 2, flagged := true, bytes := [] }], by decide +kernel⟩⟩

theorem test_SramServes_met :
    (∃ (s : State) (d : Nat) (w : Nat) (v : Nat) (f : Nat) (q : Requester),
      d < s.dies ∧
      reqOk { who := q, word := w, op := .write v, flips := f } = true ∧
      portFree s d [{ who := q, word := w, op := .write v, flips := f }] ∧
      s.serves d q = true ∧
      ((s.bank d).locked && Config.imageWord d w) = false) ∧
    (∃ (s : State) (d : Nat) (w : Nat) (f : Nat) (q : Requester),
      partOk s ∧
      d < s.dies ∧
      w < sramWords ∧
      f < 2 ^ 39 ∧
      portFree s d [{ who := q, word := w, op := .read, flips := f }] ∧
      s.serves d q = true) ∧
    (∃ (s : State) (d : Nat) (w : Nat) (v : Nat) (u : Nat),
      partOk s ∧
      d < s.dies ∧
      w < sramWords ∧
      v < two32 ∧
      u < two32 ∧
      portFree s d [{ who := .dma, word := w, op := .write u }, { who := .core, word := w, op := .write v }] ∧
      s.serves d .core = true ∧
      ((s.bank d).locked && Config.imageWord d w) = false) ∧
    (∃ (s : State) (d : Nat) (w : Nat) (v : Nat),
      partOk s ∧
      d < s.dies ∧
      (s.bank d).wb = some (w, v) ∧
      portFree s d [] ∧
      s.requestComing d = false ∧
      (s.die d).march ≠ 1 ∧
      s.pstate d < 2) :=
  ⟨⟨on, 7, 65535, 4294967295, 0, .core, by decide +kernel⟩,
   ⟨on, 7, 65535, 2 ^ 38, .dma, by decide +kernel⟩,
   ⟨on, 7, 65535, 4294967295, 1, by decide +kernel⟩,
   ⟨on.setBank 7 { wb := some (65535, 3) }, 7, 65535, 3, by decide +kernel⟩⟩

theorem test_KilnLog_met :
    (∃ (s : State) (d : Nat) (e : LogEnt) (rest : List LogEnt),
      d < s.dies ∧
      (s.die d).logQ = e :: rest ∧
      s.queueReady d = true ∧
      s.lowerLog d = false ∧
      s.ledger.log.length < 2) ∧
    (∃ (s : State) (d : Nat) (temp : Int),
      partOk s ∧
      d < s.dies ∧
      -32768 ≤ temp ∧
      temp ≤ 32767 ∧
      (s.die d).up = true ∧
      s.pstate d ≤ 2) ∧
    (∃ (s : State) (who : Orig),
      who ≠ .boundary ∧
      s.serving = true) ∧
    (∃ (s : State) (who : Orig) (v : Nat),
      v < two32 ∧
      accepts s who K.log_LOG_RELEASE (leBytes 4 v)) :=
  ⟨⟨on.setDie 7 { up := true, logQ := [{ cyc := 24570000, event := 0x6010, serial := 7, loc := 0, level := 2, kind := 1, src := 7, data := [] }] }, 7, { cyc := 24570000, event := 0x6010, serial := 7, loc := 0, level := 2, kind := 1, src := 7, data := [] }, [], by decide +kernel⟩,
   ⟨on.setDie 7 { up := true, hot := 2 }, 7, 32767, by decide +kernel⟩,
   ⟨on, .internal, by decide +kernel⟩,
   ⟨logFrozen, .host, 5, by decide +kernel⟩⟩

theorem test_LoopAndInputs_met :
    (∃ (s : State),
      s.cyc % 1024 = 0 ∧
      s.d0Clock = true ∧
      s.pstate 0 ≤ 1 ∧
      s.loopMode = 0 ∧
      s.inForce.loopMode = 0) ∧
    (∃ (s : State) (ua : Nat),
      s.d0Clock = true) ∧
    (∃ (s : State) (d : Nat) (v : Nat),
      partOk s ∧
      d < s.dies ∧
      v < 16 ∧
      (s.die d).up = true ∧
      s.pstate d ≤ 2 ∧
      s.lanternOnly d = false) :=
  ⟨⟨on.p K.loop_LOOP_SET 12000, by decide +kernel⟩,
   ⟨on, 70000, by decide +kernel⟩,
   ⟨on, 7, 15, by decide +kernel⟩⟩

theorem test_SealAndImages_met :
    (∃ (s : State) (b : Bool),
      s.sealSampled = true ∧
      s.sealOpen ≠ b) ∧
    (∃ (s : State),
      s.sealInForce = true) ∧
    (∃ (s : State) (who : Orig) (b : List Nat),
      isBytes b = true ∧
      b.length = 256 ∧
      accepts s who K.sec_IMG_DATA b) ∧
    (∃ (s : State) (who : Orig),
      accepts s who K.sec_IMG_CMD [1]) ∧
    (∃ (s : State) (who : Orig),
      accepts s who K.sec_IMG_CMD [2]) ∧
    (∃ (s : State) (readable : Bool),
      s.verifying = true) :=
  ⟨⟨on, true, by decide +kernel⟩,
   ⟨on.p K.sec_SEAL_STATE 1, by decide +kernel⟩,
   ⟨on, .host, List.replicate 256 1, by decide +kernel⟩,
   ⟨on, .host, by decide +kernel⟩,
   ⟨on, .host, by decide +kernel⟩,
   ⟨on.p K.sec_IMG_STAT 1, true, by decide +kernel⟩⟩

theorem test_FusesAndAttestation_met :
    (∃ (s : State) (who : Orig) (v : Nat),
      v < 256 ∧
      s.otp.arb < s.runningSvn ∧
      accepts s who K.sec_ARB_ADVANCE [v]) ∧
    (∃ (s : State),
      bitSet s K.sec_SEC_STAT scARB_BUSY ∧
      s.arbNow = s.sec.arbGoal) ∧
    (∃ (s : State) (who : Orig) (b : List Nat),
      isBytes b = true ∧
      accepts s who K.sec_OEM_HASH b) ∧
    (∃ (s : State) (who : Orig) (b : List Nat),
      isBytes b = true ∧
      accepts s who K.sec_ATT_NONCE b) ∧
    (∃ (s : State) (who : Orig) (v : Nat),
      v < 256 ∧
      accepts s who K.sec_ATT_CMD [v]) ∧
    (∃ (s : State),
      s.g K.sec_ATT_STAT = 1 ∧
      s.sec.quote = [] ∧
      bitClear s K.sec_SEC_STAT scDIGEST_PEND) ∧
    (∃ (s : State),
      s.g K.sec_ATT_STAT = 1 ∧
      s.sec.quote ≠ []) ∧
    (∃ (s : State),
      bitSet s K.sec_SEC_STAT scDIGEST_PEND) :=
  ⟨⟨{ (onOpen.p K.sec_SVN_A 1).p (K.sec_SVN_A + 1) 1 with sec := { header := List.replicate 256 1 } }, .host, 1, by decide +kernel⟩,
   ⟨{ on with sec := { arbGoal := 3, arbFrom := 0 } }.p K.sec_SEC_STAT (2 ^ scARB_BUSY), by decide +kernel⟩,
   ⟨onOpen, .host, List.replicate 64 1, by decide +kernel⟩,
   ⟨on, .host, List.replicate 32 1, by decide +kernel⟩,
   ⟨{ on with sec := { nonce := [1], fresh := true } }, .host, 1, by decide +kernel⟩,
   ⟨on.p K.sec_ATT_STAT 1, by decide +kernel⟩,
   ⟨{ on with sec := { quote := [1] } }.p K.sec_ATT_STAT 1, by decide +kernel⟩,
   ⟨on.p K.sec_SEC_STAT (2 ^ scDIGEST_PEND), by decide +kernel⟩⟩

theorem test_WindowFrames_met :
    (∃ (s : State) (cmd : Nat) (addr : Nat) (len : Nat) (bits : Nat) (ws : List Nat),
      cmd < 128 ∧
      addr < 256 ∧
      len < 256 ∧
      ws.length = len + 1 ∧
      (∀ w ∈ ws, w < 65536) ∧
      s.portServes = true ∧
      (frameOk cmd addr len = false ∨ bits ≠ 24 + 16 * (len + 1))) ∧
    (∃ (s : State) (i : Nat) (j : Nat),
      i < 65536 ∧
      j < 65536 ∧
      s.portServes = true ∧
      s.windowFull = true) ∧
    (∃ (s : State) (cmd : Nat) (addr : Nat) (len : Nat) (bits : Nat),
      128 ≤ cmd ∧
      cmd < 256 ∧
      addr < 256 ∧
      len < 256 ∧
      s.portServes = true ∧
      frameOk cmd addr len = false) ∧
    (∃ (s : State) (a : Nat),
      a ≤ 0x1F ∧
      a ≠ 0x0B ∧
      a ≠ 0x18 ∧
      s.portServes = true ∧
      s.windowFull = true) ∧
    (∃ (s : State) (v : Nat) (l : List Nat),
      v < 65536 ∧
      s.portServes = true ∧
      s.windowFull = true ∧
      s.snapOf v = .ok l) ∧
    (∃ (s : State),
      s.portServes = true) :=
  ⟨⟨on, 127, 255, 255, 0, List.replicate 256 65535, by decide +kernel⟩,
   ⟨on, 65535, 65535, by decide +kernel⟩,
   ⟨on, 129, 0, 0, 40, by decide +kernel⟩,
   ⟨on, 31, by decide +kernel⟩,
   ⟨on, 0, List.replicate 8 0, by decide +kernel⟩,
   ⟨on, by decide +kernel⟩⟩

theorem test_MailboxServes_met :
    (∃ (s : State) (w : Nat),
      w < 65536 ∧
      s.portServes = true ∧
      s.windowFull = true ∧
      s.host.ptr < 1024) ∧
    (∃ (s : State),
      s.portServes = true ∧
      s.windowFull = true ∧
      s.host.ptr + 1 < s.host.odLen ∧
      s.host.ptr < 1024) ∧
    (∃ (s : State),
      s.portServes = true ∧
      s.windowFull = true ∧
      s.host.busy = false) ∧
    (∃ (s : State),
      s.portServes = true ∧
      s.windowFull = true ∧
      s.host.busy = false ∧
      s.host.odKey = K.dev_SDO_TMO ∧
      s.lag.look 0 K.dev_SDO_TMO = 0) ∧
    (∃ (s : State),
      s.portServes = true ∧
      s.windowFull = true ∧
      s.host.busy = false ∧
      s.existence s.host.odKey ≠ 0) ∧
    (∃ (s : State),
      s.portServes = true ∧
      s.windowFull = true ∧
      s.host.busy = false ∧
      s.isOpen .host = false ∧
      s.host.odKey = K.dev_SDO_TMO ∧
      s.host.odLen = 2 ∧
      s.host.ovf = false ∧
      s.directCheck .host K.dev_SDO_TMO (bytesAt s.host.mailbox 0 2) = 0) :=
  ⟨⟨on, 65535, by decide +kernel⟩,
   ⟨{ on with host := { odLen := 2, mailbox := [1, 2] } }, by decide +kernel⟩,
   ⟨on, by decide +kernel⟩,
   ⟨{ on with host := { odIndex := 0x2000, odSub := 0x65 } }, by decide +kernel⟩,
   ⟨{ on with host := { odIndex := 0x5FFF } }, by decide +kernel⟩,
   ⟨{ on with host := { odIndex := 0x2000, odSub := 0x65, odLen := 2, mailbox := [100, 0] } }, by decide +kernel⟩⟩

theorem test_KeyedCommands_met :
    (∃ (s : State),
      s.portServes = true ∧
      s.windowFull = true) ∧
    (∃ (s : State),
      s.portServes = true ∧
      s.windowFull = true ∧
      s.host.key % 2 = 1) ∧
    (∃ (s : State),
      s.host.keyOpen = true ∧
      s.host.key < 4 ∧
      cycReached s.cyc (cycPlus s.host.keyAt cycPerSecond) = true) ∧
    (∃ (s : State),
      s.portServes = true ∧
      s.windowFull = true) ∧
    (∃ (s : State),
      s.portServes = true ∧
      s.windowFull = true ∧
      s.host.keyOpen = true ∧
      s.nmt ≠ nmBOOT) ∧
    (∃ (s : State),
      s.portServes = true ∧
      s.windowFull = true ∧
      s.host.keyOpen = false) ∧
    (∃ (s : State),
      s.portServes = true ∧
      s.windowFull = true ∧
      s.host.keyOpen = true ∧
      s.net.nodeId ≠ 0 ∧
      (s.canErr ≠ 2 ∨ s.net.recovering = true)) ∧
    (∃ (s : State) (info : StartInfo),
      partOk s ∧
      s.startInfoOk info = true ∧
      s.portServes = true ∧
      s.windowFull = true ∧
      s.host.keyOpen = true ∧
      s.canStart (s.g K.sup_SUPMODE) info.resDv = true ∧
      s.es esEMBER_LOST = false ∧
      ((s.die 0).trigger = 0 ∨ 8 ≤ (s.die 0).trigger)) :=
  ⟨⟨on, by decide +kernel⟩,
   ⟨{ on with host := { key := 1 } }, by decide +kernel⟩,
   ⟨{ on with host := { key := 3, keyAt := 0 } }, by decide +kernel⟩,
   ⟨on, by decide +kernel⟩,
   ⟨{ on with host := { key := 2 } }, by decide +kernel⟩,
   ⟨on, by decide +kernel⟩,
   ⟨{ on with host := { key := 2 } }, by decide +kernel⟩,
   ⟨{ on with host := { key := 2 } }, startSeen, by decide +kernel⟩⟩

theorem test_NmtCommands_met :
    (∃ (s : State) (n : Nat),
      n ≤ 127 ∧
      s.mine n = true ∧
      s.nmt ≠ nmBOOT) ∧
    (∃ (s : State) (n : Nat),
      n ≤ 127 ∧
      s.mine n = false) ∧
    (∃ (s : State) (n : Nat),
      n ≤ 127 ∧
      s.mine n = true ∧
      s.net.nodeId ≠ 0) ∧
    (∃ (s : State) (n : Nat) (info : StartInfo),
      partOk s ∧
      n ≤ 127 ∧
      s.mine n = true ∧
      s.startInfoOk info = true ∧
      s.canStart (s.g K.sup_SUPMODE) info.resDv = true ∧
      s.es esEMBER_LOST = false ∧
      ((s.die 0).trigger = 0 ∨ 8 ≤ (s.die 0).trigger)) :=
  ⟨⟨on, 1, by decide +kernel⟩,
   ⟨on, 127, by decide +kernel⟩,
   ⟨on, 0, by decide +kernel⟩,
   ⟨on, 0, startSeen, by decide +kernel⟩⟩

theorem test_ServerAnswers_met :
    (∃ (s : State) (u : Bool) (v : Nat),
      s.talks = true ∧
      v < 65536 ∧
      s.isOpen .can = false ∧
      s.directCheck .can K.dev_SDO_TMO (leBytes 2 v) = 0) ∧
    (∃ (s : State) (u : Bool) (i : Nat) (j : Nat),
      s.talks = true ∧
      i < 65536 ∧
      j < 256) ∧
    (∃ (s : State) (u : Bool) (d : List Nat) (x : Transfer),
      s.talks = true ∧
      isBytes d = true ∧
      d.length ≤ 7 ∧
      s.net.xfer = some x ∧
      x.upload = false ∧
      x.usdo = u ∧
      x.size = none ∧
      tooLong x.key (x.data.length + d.length) = false) ∧
    (∃ (s : State) (u : Bool),
      s.talks = true ∧
      s.lag.look 0 K.dev_SDO_TMO = 0) ∧
    (∃ (s : State) (u : Bool) (x : Transfer),
      s.talks = true ∧
      s.net.xfer = some x ∧
      x.upload = true ∧
      x.usdo = u) ∧
    (∃ (s : State),
      s.talks = true) ∧
    (∃ (s : State) (x : Transfer),
      s.net.xfer = some x ∧
      cycReached s.cyc x.expiry = true ∧
      ¬ (s.cyc = x.expiry ∧ s.segmentComing x = true)) :=
  ⟨⟨on, true, 100, by decide +kernel⟩,
   ⟨on, false, 65535, 255, by decide +kernel⟩,
   ⟨{ on with net := { on.net with xfer := some { upload := false, usdo := true, key := K.dev_SDO_TMO, size := none, data := [], expiry := 24576000 } } }, true, [1, 2], { upload := false, usdo := true, key := K.dev_SDO_TMO, size := none, data := [], expiry := 24576000 }, by decide +kernel⟩,
   ⟨on, true, by decide +kernel⟩,
   ⟨{ on with net := { on.net with xfer := some { upload := true, usdo := true, key := K.dev_SDO_TMO, size := none, data := List.replicate 100 1, expiry := 24576000 } } }, true, { upload := true, usdo := true, key := K.dev_SDO_TMO, size := none, data := List.replicate 100 1, expiry := 24576000 }, by decide +kernel⟩,
   ⟨on, by decide +kernel⟩,
   ⟨{ on with net := { on.net with xfer := some { upload := true, usdo := true, key := K.dev_SDO_TMO, size := none, data := [], expiry := 24576000 } } }, { upload := true, usdo := true, key := K.dev_SDO_TMO, size := none, data := [], expiry := 24576000 }, by decide +kernel⟩⟩

theorem test_SyncTimeAndTimers_met :
    (∃ (s : State) (c : Nat),
      c < 256 ∧
      s.talks = true ∧
      s.net.rpdoWait = []) ∧
    (∃ (s : State) (c : Nat),
      s.net.syncNext = some c ∧
      s.talks = true ∧
      s.pstate 0 ≤ 1 ∧
      cycReached s.cyc c = true ∧
      s.net.rpdoWait = []) ∧
    (∃ (s : State) (c : Nat),
      s.net.syncWinEnd = some c ∧
      cycReached s.cyc c = true) ∧
    (∃ (s : State) (ms : Nat) (days : Nat),
      ms < 2 ^ 28 ∧
      days < 65536 ∧
      s.talks = true) ∧
    (∃ (s : State) (n : Nat),
      n < 16 ∧
      s.onBus = true ∧
      s.net.evtAt.look 0 n ≠ 0 ∧
      cycReached s.cyc (s.net.evtAt.look 0 n - 1) = true ∧
      s.tpdoValid n = true ∧
      s.nmt = nmOP ∧
      254 ≤ s.g (K.comm_TPDO_TYPE n) ∧
      s.g (K.comm_TPDO_EVT n) ≠ 0) ∧
    (∃ (s : State) (n : Nat),
      n < 16 ∧
      s.onBus = true ∧
      s.nmt = nmOP ∧
      s.tpdoValid n = true ∧
      s.net.inhWait.look 0 n = 1 ∧
      s.inhibitOver n = true) :=
  ⟨⟨on, 255, by decide +kernel⟩,
   ⟨{ on with net := { on.net with syncNext := some 24576000 } }, 24576000, by decide +kernel⟩,
   ⟨{ on with net := { on.net with syncWinEnd := some 24576000 } }, 24576000, by decide +kernel⟩,
   ⟨on.p K.dev_TIME_MODE 1, 268435455, 20000, by decide +kernel⟩,
   ⟨(({ on with net := { on.net with evtAt := [(15, 24576001)] } }).p (K.comm_TPDO_COB 15) 0x180).p (K.comm_TPDO_EVT 15) 1000, 15, by decide +kernel⟩,
   ⟨({ on with net := { on.net with inhWait := [(15, 1)] } }).p (K.comm_TPDO_COB 15) 0x180, 15, by decide +kernel⟩⟩

theorem test_HeartbeatsAndWindows_met :
    (∃ (s : State) (c : Nat),
      s.net.hbNext = some c ∧
      s.ready = true ∧
      s.pstate 0 ≤ 1 ∧
      cycReached s.cyc c = true) ∧
    (∃ (s : State) (n : Nat) (e : Nat),
      1 ≤ n ∧
      n ≤ 127 ∧
      e < 4 ∧
      s.onBus = true ∧
      hbNode (s.g (K.comm_HB_CONS (e + 1))) = n ∧
      hbTime (s.g (K.comm_HB_CONS (e + 1))) ≠ 0) ∧
    (∃ (s : State) (e : Nat),
      e < 4 ∧
      s.d0Clock = true ∧
      s.ready = true ∧
      s.net.hbTimers.look 0 e ≠ 0 ∧
      cycReached s.cyc (s.net.hbTimers.look 0 e - 1) = true ∧
      ¬ (s.cyc = s.net.hbTimers.look 0 e - 1 ∧ s.onBus = true ∧ s.beatComing e = true)) ∧
    (∃ (s : State) (m : List Nat) (rest : List (List Nat)),
      s.net.emcyQ = m :: rest ∧
      s.talks = true ∧
      s.pstate 0 ≤ 1 ∧
      s.emcyDue = true) ∧
    (∃ (s : State),
      s.d0Clock = true ∧
      s.windowDue = true ∧
      s.transmitting = true) ∧
    (∃ (s : State) (f : CanFrame),
      f.fd = true ∧
      s.net.dataRate ≠ 0) :=
  ⟨⟨{ on with net := { on.net with hbNext := some 24576000 } }, 24576000, by decide +kernel⟩,
   ⟨on.p (K.comm_HB_CONS 4) (127 * 65536 + 65535), 127, 3, by decide +kernel⟩,
   ⟨{ on with net := { on.net with hbTimers := [(3, 24576001)] } }, 3, by decide +kernel⟩,
   ⟨{ on with net := { on.net with emcyQ := [[0, 0x10, 1, 0, 0, 0, 0, 0]] } }, [0, 0x10, 1, 0, 0, 0, 0, 0], [], by decide +kernel⟩,
   ⟨on, by decide +kernel⟩,
   ⟨on, { id := 0x581, data := [1], fd := true }, by decide +kernel⟩⟩

theorem test_ErrorStates_met :
    (∃ (s : State),
      s.onBus = true ∧
      s.canErr = 0) ∧
    (∃ (s : State),
      s.onBus = true ∧
      s.canErr = 1) ∧
    (∃ (s : State),
      s.onBus = true) ∧
    (∃ (s : State) (c : Nat),
      s.net.busoffAt = some c ∧
      s.d0Clock = true ∧
      s.canErr = 2 ∧
      s.net.recovering = false ∧
      cycReached s.cyc (cycPlus c (s.g K.sag_BUSOFF_HOLD * 24576)) = true ∧
      s.net.resetDue = false) ∧
    (∃ (s : State) (c : Nat),
      s.net.busoffAt = some c ∧
      s.d0Clock = true ∧
      s.canErr = 2 ∧
      s.net.recovering = false ∧
      cycReached s.cyc (cycPlus c (s.g K.sag_BUSOFF_HOLD * 24576)) = true ∧
      s.net.resetDue = true ∧
      s.net.nodeId ≠ 0) ∧
    (∃ (s : State),
      s.d0Clock = true ∧
      s.canErr = 2 ∧
      s.net.recovering = true) :=
  ⟨⟨on, by decide +kernel⟩,
   ⟨on.p K.dev_CAN_STAT 0x105, by decide +kernel⟩,
   ⟨on, by decide +kernel⟩,
   ⟨{ on with net := { on.net with busoffAt := some 0  } }.p K.dev_CAN_STAT 0x205, 0, by decide +kernel⟩,
   ⟨{ on with net := { on.net with busoffAt := some 0 , resetDue := true } }.p K.dev_CAN_STAT 0x205, 0, by decide +kernel⟩,
   ⟨{ on with net := { on.net with busoffAt := some 0 , recovering := true } }.p K.dev_CAN_STAT 0x205, by decide +kernel⟩⟩

theorem test_StepRunsFront_met :
    ∃ (s : State) (c : Instr) (rest : List Instr),
      s.pending = c :: rest :=
  ⟨{ on with pending := [.energyWindowBoundary, .pulseProcess] }, .energyWindowBoundary, [.pulseProcess], by decide +kernel⟩

theorem test_IdleCycle_met :
    (∃ (s : State),
      s.pending = []) ∧
    (∃ (s : State),
      s.pending = []) :=
  ⟨⟨on, by decide +kernel⟩,
   ⟨(((((({ on with net := { on.net with trig := 65535, due := 65535 }, host := { irqFlag := 1, irqMask := 1 }, ledger := { log := [4], logFrom := 24575965 } }).p (K.comm_TPDO_COB 0) 0x181).p (K.comm_TPDO_COB 1) 0x281).p (K.comm_TPDO_TYPE 1) 1).p (K.fire_FIRE_STAT 1) 24576).setFire 1 { outcome := 1, applyAt := 24576000 }), by decide +kernel⟩⟩

-- the invariant and the frames

/-- The command answers a next state. -/
def answers (o : Out) : Bool := match o with | .next _ => true | _ => false

/-- That state. -/
def nextOf (o : Out) : State := match o with | .next t => t | _ => State.reset

theorem runs (o : Out) (h : answers o = true) : o = .next (nextOf o) := by
  cases o <;> simp_all [answers, nextOf]

theorem reset_inv : Inv State.reset := by
  refine ⟨by decide +kernel, ?_, ?_, ?_, ?_⟩ <;> simp [State.reset, cycOk, ledOk, fusesOk, sramOk]

theorem test_CoreKept_met :
    ∃ (s t : State) (i : Instr),
      exec i s = .next t :=
  ⟨on.setPort 63 { bursting := true, burstMv := 50000, win := 1 }, nextOf (exec (.burstEnd 63 70000) (on.setPort 63 { bursting := true, burstMv := 50000, win := 1 })), .burstEnd 63 70000, runs _ (by decide +kernel)⟩

theorem test_InvKept_met : ∃ s t : State, Inv s ∧ step s = .next t :=
  ⟨State.reset, nextOf (step State.reset), reset_inv, runs _ (by decide +kernel)⟩

theorem test_CompletesWhenWellFormed_met :
    ∃ (i : Instr) (s : State), wellFormed s.dies i = false :=
  ⟨.scanStart 8, on, by decide⟩

theorem test_PathFrames_met :
    (∃ (s t : State) (n c r : Nat) (i : Instr),
      i ∈ [Instr.burstEnd n c, .bridgeOvercurrent n c, .impedanceCheckDone n c r, .recheckExpiry n] ∧ exec i s = .next t) ∧
    (∃ (s t : State) (n c : Nat) (d : Dir) (i : Instr),
      i ∈ [Instr.comparatorArm n d, .stopAccepted n d c, .receiveWindowExpiry n d, .refinementStart n] ∧ exec i s = .next t) ∧
    (∃ (s t : State) (n mv : Nat) (d : Dir) (m : ShotMeas) (smp : List Int) (x y : ShotRaw) (i : Instr),
      i ∈ [Instr.attemptStart n mv, .seqSecondShot n, .shotVerdict n d m, .captureDmaDone n d smp, .refinementDone n,
        .referencePairStart n, .referencePairDone n x y, .retryCancelDelivered n] ∧ exec i s = .next t) ∧
    (∃ (s t : State) (d e mv : Nat),
      exec (.slotStart d e mv) s = .next t ∧ cycPlus s.cyc 1 ≠ s.nextBoundary) ∧
    (∃ (s t : State) (d : Nat) (rs : List CalRes) (m : List (List Int)) (i : Instr),
      i ∈ [Instr.calFullStart d, .calFullDone d rs, .calQuickStart d, .calQuickDone d m] ∧ exec i s = .next t) ∧
    (∃ (s t : State),
      exec .energyWindowBoundary s = .next t) :=
  ⟨⟨on.setPort 63 { bursting := true, burstMv := 50000, win := 1 }, nextOf (exec (.burstEnd 63 70000) (on.setPort 63 { bursting := true, burstMv := 50000, win := 1 })), 63, 70000, 0, .burstEnd 63 70000, by simp, runs _ (by decide +kernel)⟩,
   ⟨on.setPath 31 { att := { live := true, dn := { phase := .listening, b := 24575700, set := { winOpen := 256, winLen := 4096, stopFirst := 0, stopCount := 2 } , armedAt := some 280, stops := [(290, 3)] } } }, nextOf (exec (.stopAccepted 31 .dn 100) (on.setPath 31 { att := { live := true, dn := { phase := .listening, b := 24575700, set := { winOpen := 256, winLen := 4096, stopFirst := 0, stopCount := 2 } , armedAt := some 280, stops := [(290, 3)] } } })), 31, 100, .dn, .stopAccepted 31 .dn 100, by simp, runs _ (by decide +kernel)⟩,
   ⟨on.setPath 31 { att := { live := true, up := { phase := .complete, b := 24570000, doneAt := some (6000 - 24) }, dn := { phase := .judged } } }, nextOf (exec (.shotVerdict 31 .up { amp := 1000, w1 := 1, w2 := 1, w3 := 1, u1 := 100, u2 := 200 }) (on.setPath 31 { att := { live := true, up := { phase := .complete, b := 24570000, doneAt := some (6000 - 24) }, dn := { phase := .judged } } })), 31, 5000, .up, { amp := 1000, w1 := 1, w2 := 1, w3 := 1, u1 := 100, u2 := 200 }, [], { stops := [], meas := { amp := 1000, w1 := 1, w2 := 1, w3 := 1, u1 := 100, u2 := 200 } }, { stops := [], meas := { amp := 1000, w1 := 1, w2 := 1, w3 := 1, u1 := 100, u2 := 200 } }, .shotVerdict 31 .up { amp := 1000, w1 := 1, w2 := 1, w3 := 1, u1 := 100, u2 := 200 }, by simp, runs _ (by decide +kernel)⟩,
   ⟨{ on with cyc := 24576999 }.setDie 7 { up := true, slotCount := 4, slots := [0, 0, 0, 16008] } |>.setPath 31 { shoots := true, slotDue := true }, nextOf (exec (.slotStart 7 3 5000) ({ on with cyc := 24576999 }.setDie 7 { up := true, slotCount := 4, slots := [0, 0, 0, 16008] } |>.setPath 31 { shoots := true, slotDue := true })), 7, 3, 5000, runs _ (by decide +kernel), by decide +kernel⟩,
   ⟨on.setDie 7 { up := true, calFull := true }, nextOf (exec (.calFullStart 7) (on.setDie 7 { up := true, calFull := true })), 7, [], [], .calFullStart 7, by simp, runs _ (by decide +kernel)⟩,
   ⟨on, nextOf (exec (.energyWindowBoundary) (on)), runs _ (by decide +kernel)⟩⟩

theorem test_FlowFrames_met :
    (∃ (s t : State) (i : Nat),
      exec (.sectionComputation i) s = .next t) ∧
    (∃ (s t : State) (n : Nat),
      exec (.pathRecordDelivered n) s = .next t) ∧
    (∃ (s t : State) (i n : Nat),
      exec (.sectionResultTimeout i n) s = .next t) ∧
    (∃ (s t : State) (i : Nat),
      exec (.holdTimerExpiry i) s = .next t) ∧
    (∃ (s t : State) (d : Nat),
      exec (.scanStart d) s = .next t) ∧
    (∃ (s t : State) (d c : Nat) (rest : List Nat) (v : Conv) (m : PhaseMeas),
      exec (.phaseComplete d m) s = .next t ∧ (s.die d).scanLeft = c :: rest ∧ (s.chan c).conv = some v) ∧
    (∃ (s t : State) (d p : Nat),
      exec (.clampHit d p) s = .next t) ∧
    (∃ (s t : State) (c : Nat),
      exec (.channelStartDelivered c) s = .next t) ∧
    (∃ (s t : State) (j c : Nat) (i : Instr),
      i ∈ [Instr.channelResultTimeout j c, .channelResultDelivered c] ∧ exec i s = .next t) ∧
    (∃ (s t : State) (n : Nat) (l : List LineSample) (i : Instr),
      i ∈ [Instr.pulseAccepted n l, .pulseLineFault n l, .pulseLineClear n l] ∧ exec i s = .next t) ∧
    (∃ (s t : State),
      exec .pulseProcess s = .next t) ∧
    (∃ (s t : State) (a b : Nat),
      exec (.lanternWake a b) s = .next t) ∧
    (∃ (s t : State) (x y : ShotRaw) (i : Instr),
      i ∈ [Instr.lanternStart, .lanternPairComplete x y] ∧ exec i s = .next t) :=
  ⟨⟨(on.setSect 7 { work := [{ frameNo := 3, frameSeq := 2, epoch := 24576000, waits := [{ path := 31, b0 := 9, expiry := 24580000, state := .got .V none }] }] }).p (K.sect_PATH_MASK 7) (2 ^ 31), nextOf (exec (.sectionComputation 7) ((on.setSect 7 { work := [{ frameNo := 3, frameSeq := 2, epoch := 24576000, waits := [{ path := 31, b0 := 9, expiry := 24580000, state := .got .V none }] }] }).p (K.sect_PATH_MASK 7) (2 ^ 31))), 7, runs _ (by decide +kernel)⟩,
   ⟨(on.setPath 31 { sent := [{ frameNo := 3, b0 := 24569000, frameSeq := 2, pairCyc := 24570000, cls := .V, corRange := false, tofDn := 2000000000, tofUp := 2000001000, dtCor := 1000, fault := 0 }] }), nextOf (exec (.pathRecordDelivered 31) ((on.setPath 31 { sent := [{ frameNo := 3, b0 := 24569000, frameSeq := 2, pairCyc := 24570000, cls := .V, corRange := false, tofDn := 2000000000, tofUp := 2000001000, dtCor := 1000, fault := 0 }] }))), 31, runs _ (by decide +kernel)⟩,
   ⟨on.setSect 7 { work := [{ frameNo := 3, frameSeq := 2, epoch := 0, waits := [{ path := 31, b0 := 9, expiry := 24576000, state := .armed }] }] }, nextOf (exec (.sectionResultTimeout 7 31) (on.setSect 7 { work := [{ frameNo := 3, frameSeq := 2, epoch := 0, waits := [{ path := 31, b0 := 9, expiry := 24576000, state := .armed }] }] })), 7, 31, runs _ (by decide +kernel)⟩,
   ⟨on.setSect 7 { hold := some 24576000 }, nextOf (exec (.holdTimerExpiry 7) (on.setSect 7 { hold := some 24576000 })), 7, runs _ (by decide +kernel)⟩,
   ⟨on, nextOf (exec (.scanStart 7) (on)), 7, runs _ (by decide +kernel)⟩,
   ⟨(on.setDie 7 { up := true, scanOn := true, scanLeft := [127] }).setChan 127 { conv := some { kind := 0, n := 1, first := 127, pins := [4, 5, 6, 7], iexc := 3, gain := 0, cmLo := 0, cmHi := 5000, tol := 100, retry := 1, monitored := false, phaseAt := 0 } }, nextOf (exec (.phaseComplete 7 { code := -5, spMv := 1000, snMv := 900, clamps := [], iEs := 100, iEr := 100 }) ((on.setDie 7 { up := true, scanOn := true, scanLeft := [127] }).setChan 127 { conv := some { kind := 0, n := 1, first := 127, pins := [4, 5, 6, 7], iexc := 3, gain := 0, cmLo := 0, cmHi := 5000, tol := 100, retry := 1, monitored := false, phaseAt := 0 } })), 7, 127, [], { kind := 0, n := 1, first := 127, pins := [4, 5, 6, 7], iexc := 3, gain := 0, cmLo := 0, cmHi := 5000, tol := 100, retry := 1, monitored := false, phaseAt := 0 }, { code := -5, spMv := 1000, snMv := 900, clamps := [], iEs := 100, iEr := 100 }, runs _ (by decide +kernel), by decide +kernel, by decide +kernel⟩,
   ⟨on, nextOf (exec (.clampHit 7 15) (on)), 7, 15, runs _ (by decide +kernel)⟩,
   ⟨on.setChan 127 { starts := [1] }, nextOf (exec (.channelStartDelivered 127) (on.setChan 127 { starts := [1] })), 127, runs _ (by decide +kernel)⟩,
   ⟨on.setSect 7 { chanWait := [(127, 24576000, 0)] }, nextOf (exec (.channelResultTimeout 7 127) (on.setSect 7 { chanWait := [(127, 24576000, 0)] })), 7, 127, .channelResultTimeout 7 127, by simp, runs _ (by decide +kernel)⟩,
   ⟨on.p (K.pin_PI_CFG 31) 0x8103, nextOf (exec (.pulseAccepted 31 [.level true]) (on.p (K.pin_PI_CFG 31) 0x8103)), 31, [.level true], .pulseAccepted 31 [.level true], by simp, runs _ (by decide +kernel)⟩,
   ⟨on, nextOf (exec (.pulseProcess) (on)), runs _ (by decide +kernel)⟩,
   ⟨({ on with lant := { running := true } }.p (K.port_PULSES 0) 8).p (K.port_PULSES 1) 4, nextOf (exec (.lanternWake 3000 32768) (({ on with lant := { running := true } }.p (K.port_PULSES 0) 8).p (K.port_PULSES 1) 4)), 3000, 32768, runs _ (by decide +kernel)⟩,
   ⟨{ on with lant := { running := true, awake := true } }, nextOf (exec (.lanternPairComplete { stops := [], meas := { amp := 1000, w1 := 1, w2 := 1, w3 := 1, u1 := 100, u2 := 200 } } { stops := [], meas := { amp := 1000, w1 := 1, w2 := 1, w3 := 1, u1 := 100, u2 := 200 } }) ({ on with lant := { running := true, awake := true } })), { stops := [], meas := { amp := 1000, w1 := 1, w2 := 1, w3 := 1, u1 := 100, u2 := 200 } }, { stops := [], meas := { amp := 1000, w1 := 1, w2 := 1, w3 := 1, u1 := 100, u2 := 200 } }, .lanternPairComplete { stops := [], meas := { amp := 1000, w1 := 1, w2 := 1, w3 := 1, u1 := 100, u2 := 200 } } { stops := [], meas := { amp := 1000, w1 := 1, w2 := 1, w3 := 1, u1 := 100, u2 := 200 } }, by simp, runs _ (by decide +kernel)⟩⟩

theorem test_ChipFrames_met :
    (∃ (s t : State) (d n : Nat) (x : Lane) (e : LineEnd) (i : Instr),
      i ∈ [Instr.glFrameStart d x, .glAckToggle d x, .syncAckReceived d e n, .syncDoneReceived d e,
        .syncFrameRepeat d e, .cycCheckSend d] ∧ exec i s = .next t) ∧
    (∃ (s t : State) (d : Nat),
      exec (.counterSend d) s = .next t) ∧
    (∃ (s t : State) (v a b c p q : Nat) (l : Bool) (i : Instr),
      i ∈ [Instr.allowanceSample v a b c p q l, .governorForced v] ∧ exec i s = .next t) ∧
    (∃ (s t : State) (d : Nat),
      exec (.allowanceDelivered d) s = .next t) ∧
    (∃ (s t : State) (d : Nat) (r : Rail) (i : Instr),
      i ∈ [Instr.railExcursion d r, .railFaultClear d r] ∧ exec i s = .next t) ∧
    (∃ (s t : State) (d : Nat) (i : Instr),
      i ∈ [Instr.coreWait d, .interruptWake d, .wakeComplete d] ∧ exec i s = .next t) ∧
    (∃ (s t : State) (n u : Nat) (h : Bool) (i : Instr),
      i ∈ [Instr.bkcapPor, .supplySwitch n u, .cellDisconnect n, .emberSecondTick n, .wakeAccepted h, .tamperEpisode n h,
        .tamperRearm n h, .oscStopDetect, .correctionPeriodStart, .xchkGateClose n, .emberAccess u, .alarmDelivered,
        .wakeDelivered, .tamperDelivered n, .oscStopDelivered] ∧ exec i s = .next t) ∧
    (∃ (s t : State) (d : Nat),
      exec (.logEntryAccept d) s = .next t) ∧
    (∃ (s t : State) (d : Nat) (x : Int),
      exec (.dieTempMeasure d x) s = .next t) ∧
    (∃ (s t : State) (n : Nat) (i : Instr),
      i ∈ [Instr.loopSlewMove, .loopMeasure n] ∧ exec i s = .next t) ∧
    (∃ (s t : State) (d l : Nat),
      exec (.gpioInputChange d l) s = .next t) ∧
    (∃ (s t : State) (d p : Nat) (i : Instr),
      i ∈ [Instr.gatherWaitExpiry d, .gatherCommitDone d, .partitionLockExpiry d p] ∧ exec i s = .next t) ∧
    (∃ (s t : State) (d n : Nat) (l : List WordErr),
      exec (.scrubRead d n l) s = .next t) ∧
    (∃ (s t : State) (d : Nat) (r : List SramReq) (i : Instr),
      i ∈ [Instr.sramRequest d r, .sramWriteBack d] ∧ exec i s = .next t) ∧
    (∃ (s t : State) (b : Bool) (i : Instr),
      i ∈ [Instr.imgVerifyDone b, .digestRecomputeDone, .attCapture, .attSignDone, .arbFusesDone] ∧ exec i s = .next t) :=
  ⟨⟨on.setLine 7 { up := true, outward := { tx := [(0, 1), (0, 2)] } }, nextOf (exec (.glFrameStart 7 .out) (on.setLine 7 { up := true, outward := { tx := [(0, 1), (0, 2)] } })), 7, 0, .out, .d0, .glFrameStart 7 .out, by simp, runs _ (by decide +kernel)⟩,
   ⟨on, nextOf (exec (.counterSend 7) (on)), 7, runs _ (by decide +kernel)⟩,
   ⟨on, nextOf (exec (.governorForced 3000) (on)), 3000, 0, 0, 0, 0, 0, true, .governorForced 3000, by simp, runs _ (by decide +kernel)⟩,
   ⟨{ on with pow := { allowSent := [(7, 1)] } }, nextOf (exec (.allowanceDelivered 7) ({ on with pow := { allowSent := [(7, 1)] } })), 7, runs _ (by decide +kernel)⟩,
   ⟨on, nextOf (exec (.railExcursion 7 .vcore) (on)), 7, .vcore, .railExcursion 7 .vcore, by simp, runs _ (by decide +kernel)⟩,
   ⟨on, nextOf (exec (.coreWait 7) (on)), 7, .coreWait 7, by simp, runs _ (by decide +kernel)⟩,
   ⟨on.p K.emb_EMBER_CFG 256, nextOf (exec (.tamperEpisode 1 true) (on.p K.emb_EMBER_CFG 256)), 1, 0, true, .tamperEpisode 1 true, by simp, runs _ (by decide +kernel)⟩,
   ⟨on.setDie 7 { up := true, logQ := [{ cyc := 24570000, event := 0x6010, serial := 7, loc := 0, level := 2, kind := 1, src := 7, data := [] }] }, nextOf (exec (.logEntryAccept 7) (on.setDie 7 { up := true, logQ := [{ cyc := 24570000, event := 0x6010, serial := 7, loc := 0, level := 2, kind := 1, src := 7, data := [] }] })), 7, runs _ (by decide +kernel)⟩,
   ⟨on.setDie 7 { up := true, hot := 2 }, nextOf (exec (.dieTempMeasure 7 32767) (on.setDie 7 { up := true, hot := 2 })), 7, 32767, runs _ (by decide +kernel)⟩,
   ⟨on, nextOf (exec (.loopMeasure 70000) (on)), 70000, .loopMeasure 70000, by simp, runs _ (by decide +kernel)⟩,
   ⟨on, nextOf (exec (.gpioInputChange 7 15) (on)), 7, 15, runs _ (by decide +kernel)⟩,
   ⟨on.setStore 7 { buf := [(3000, [])], bufAt := 0 }, nextOf (exec (.gatherWaitExpiry 7) (on.setStore 7 { buf := [(3000, [])], bufAt := 0 })), 7, 15, .gatherWaitExpiry 7, by simp, runs _ (by decide +kernel)⟩,
   ⟨{ on with cyc := 2 ^ 40 }.setStore 7 { scrubLine := 4095 }, nextOf (exec (.scrubRead 7 4095 []) ({ on with cyc := 2 ^ 40 }.setStore 7 { scrubLine := 4095 })), 7, 4095, [], runs _ (by decide +kernel)⟩,
   ⟨on, nextOf (exec (.sramRequest 7 [{ who := .core, word := 65535, op := .write 1 }]) (on)), 7, [{ who := .core, word := 65535, op := .write 1 }], .sramRequest 7 [{ who := .core, word := 65535, op := .write 1 }], by simp, runs _ (by decide +kernel)⟩,
   ⟨on.p K.sec_IMG_STAT 1, nextOf (exec (.imgVerifyDone true) (on.p K.sec_IMG_STAT 1)), true, .imgVerifyDone true, by simp, runs _ (by decide +kernel)⟩⟩

theorem test_AccessFrames_met :
    (∃ (s t : State) (w : Nat) (i : Instr),
      i ∈ [Instr.resetPtr, .odDataWrite w, .odDataRead, .snapCtlWrite w, .cycCapture, .winKeyWrite w, .winKeyExpiry,
        .keyClose] ∧ exec i s = .next t) ∧
    (∃ (s t : State) (n : Nat) (i : Instr),
      i ∈ [Instr.heartbeatReceived n, .heartbeatProduce, .syncWinExpiry, .transmitWindowBoundary, .emcySend,
        .tpdoEventTimer n, .tpdoInhibitEnd n, .sdoTmoExpiry, .sdoUnsupportedRequest] ∧ exec i s = .next t) ∧
    (∃ (s t : State) (i : Instr),
      i ∈ [Instr.canErrorPassive, .canErrorActive, .canBusoffRecovered] ∧ exec i s = .next t) ∧
    (∃ (s : State) (who : Orig) (i j : Nat) (data : List Nat),
      s.serving = true ∧ who ≠ .boundary ∧ i < 65536 ∧ j < 256 ∧ isBytes data = true ∧
      (s.isOpen who = false ∨ i = 0x2A00) ∧ s.directCheck who (i * 256 + j) data ≠ 0) :=
  ⟨⟨on, nextOf (exec (.odDataWrite 65535) (on)), 65535, .odDataWrite 65535, by simp, runs _ (by decide +kernel)⟩,
   ⟨on.p (K.comm_HB_CONS 4) (127 * 65536 + 65535), nextOf (exec (.heartbeatReceived 127) (on.p (K.comm_HB_CONS 4) (127 * 65536 + 65535))), 127, .heartbeatReceived 127, by simp, runs _ (by decide +kernel)⟩,
   ⟨on, nextOf (exec (.canErrorPassive) (on)), .canErrorPassive, by simp, runs _ (by decide +kernel)⟩,
   ⟨on, .host, 0x2000, 0x65, [0, 0], by decide +kernel⟩⟩

-- ill-formed commands

/-! One ill-formed command for each check of WellFormed, on the part with 8 dies. -/

def illFormed1 : List Instr :=
  [.slotStart 8 0 0, .slotStart 0 4 0, .attemptStart 32 0, .seqSecondShot 32, .referencePairStart 32,
   .refinementDone 32, .captureDmaDone 0 .dn [0], .captureDmaDone 0 .dn (List.replicate 512 2048),
   .burstEnd 64 0, .checkCmd .boundary 0, .checkCmd .host 64, .sectionResultTimeout 8 0, .sectionResultTimeout 0 32,
   .sectionComputation 8, .scanStart 8, .clampHit 0 16, .clampStickyClear .boundary 0 0, .channelStartDelivered 128,
   .channelResultTimeout 8 0, .pulseAccepted 32 [], .calFullDone 0 [], .calQuickDone 0 []]

def illFormed2 : List Instr :=
  [.learn .host 0 256, .learn .boundary 0 0, .calCmdFull .boundary 0, .cantCmd .host 256, .railExcursion 8 .vmain,
   .coldStart 0 startSeen, .coldStart 5 startSeen, .warmStart 9 startSeen, .warmStart 5 { startSeen with dies := [] },
   .warmStart 5 { startSeen with supmode := 4 }, .followerPor 0 dieSeen, .followerPor 8 dieSeen,
   .followerPor 1 { dieSeen with cause := 3 }, .dieRestart .boundary 1 dieSeen, .glFrameStart 0 .out,
   .glFrameReceived 1 .out [256], .followerResponse 0, .tamperEpisode 2 true, .xchkGateClose two64, .emberAccess 32768]

def illFormed3 : List Instr :=
  [.xchkCmd .host 256, .setBin .host two32, .setCal .host two64, .rtcModeWrite .host 256, .trimWrite .host 32768,
   .pwronAssert .boundary, .billCmd .host 256, .fireOpen .boundary, .scrubRead 0 4096 [],
   .scrubRead 0 0 [{ word := 33, bits := 1, flagged := true, bytes := [] }],
   .unlock .host [256], .relock .host 256, .partitionLockExpiry 0 16, .partDef .boundary [], .lineDataWrite .host [256],
   .lineDataRead .boundary [], .sramRequest 0 [{ who := .core, word := 65536, op := .read }],
   .sramRequest 0 [{ who := .dma, word := 0, op := .partialWrite 0 1 0 }],
   .sramRequest 0 [{ who := .core, word := 0, op := .write two32 }], .marchDestructive .boundary 0,
   .marchRunDone 0 [{ word := 65536, checker := false, element := 0, value := 0 }] dieSeen,
   .marchRunDone 0 [{ word := 0, checker := false, element := 6, value := 0 }] dieSeen]

def illFormed4 : List Instr :=
  [.dieTempMeasure 0 32768, .logEntryAccept 8, .logRead .boundary, .logRelease .host two32, .loopSetWrite .host two32,
   .imgData .host [256], .imgBegin .boundary, .arbAdvance .host 256, .oemHashWrite .host [256], .attNonce .host [256],
   .attCmd .host 256, .hostWriteFrame 128 0 0 [0] 40, .hostWriteFrame 0 0 1 [0] 40, .hostWriteFrame 0 0 0 [65536] 40,
   .hostReadFrame 0 0 0 40, .hostReadFrame 128 256 0 40, .odDataWrite 65536, .snapCtlWrite 65536, .winKeyWrite 65536,
   .deviceReset { startSeen with nodeId := 128 }]

def illFormed5 : List Instr :=
  [.nmtStartNode 256, .nmtStopNode 256, .nmtEnterPreop 256, .nmtResetNode 256 startSeen, .nmtResetComm 256,
   .sdoDownloadInitiate 65536 0 none none, .sdoDownloadSegment true true (List.replicate 8 0), .sdoUploadInitiate 0 256,
   .usdoDownloadInitiate 0 256 none none, .usdoDownloadSegment true true (List.replicate 65 0),
   .usdoUploadInitiate 65536 0, .dictWrite .boundary 0 0 [], .dictWrite .host 65536 0 [], .dictWrite .host 0 256 [],
   .dictWrite .host 0 0 [256], .rpdoReceived 8 [], .rpdoReceived 0 (List.replicate 65 0), .syncReceived 256,
   .timeReceived (2 ^ 28) 0, .timeReceived 0 65536]

def illFormed6 : List Instr :=
  [.tpdoEventTimer 16, .tpdoInhibitEnd 16, .heartbeatReceived 0, .heartbeatReceived 128, .heartbeatConsumerTimeout 4,
   .storeParameters 256 0, .restoreDefaults 0 two32, .errorFieldClear 256, .firmwarePowerStateChange 8 2,
   .firmwarePowerStateChange 1 1, .firmwarePowerStateChange 1 5, .firmwarePowerStateChange 0 0, .gpioInputChange 0 16,
   .tamperRearm 2 true]

def illFormed : List Instr :=
  illFormed1 ++ illFormed2 ++ illFormed3 ++ illFormed4 ++ illFormed5 ++ illFormed6

/-- WellFormed refuses each of them. -/
theorem test_wellFormed_refuses : illFormed.all (fun i => !wellFormed 8 i) = true := by decide +kernel

/-- The machine takes none of them up: each changes nothing. -/
theorem test_illFormed_changes_nothing : illFormed.all (fun i => answers (exec i on) && decide (nextOf (exec i on) = on)) = true := by
  decide +kernel

/-- A die that the SQF-8420 does not carry is ill-formed there and well-formed on the SQF-8480. -/
theorem test_wellFormed_part : wellFormed 2 (.scanStart 2) = false ∧ wellFormed 8 (.scanStart 2) = true := by decide +kernel

-- the worked examples of the manual, one step each

/-- 1100 nC at 12.0 V are 13.2 µJ (the reference meter's diametral path). -/
theorem test_burst_energy :
    ((nextOf (exec (.burstEnd 0 1100) (on.setPort 0 { bursting := true, burstMv := 12000 }))).port 0).ePred = 132 := by
  decide +kernel

/-- C_MEAS 2410 pF and R_MEAS 640 Ω: SHORT, declared at cell location 0 with event 0x1003 (same example). -/
theorem test_check_short :
    let t := nextOf (exec (.impedanceCheckDone 0 2410 640) (((on.p (K.port_STATUS 0) 8).p (K.port_PULSES 0) 8).setPort 0 { checkAt := 24551424 }))
    bitAt (t.g (K.port_STATUS 0)) stSHORT = true ∧ (t.die 0).logQ.map (fun e => (e.event, e.loc)) = [(0x1003, 0)] := by
  decide +kernel

/-- An open transducer on TP10, the 0x317th declaration of D1: serial 0x20000317 at location 34 (fault levels). -/
theorem test_check_open :
    let t := nextOf (exec (.impedanceCheckDone 10 50 10000000)
      ((((on.setDie 1 { up := true, count := 0x316 }).p (K.port_STATUS 10) 8).p (K.port_PULSES 10) 8).setPort 10
        { checkAt := 24551424 }))
    (t.die 1).logQ.map (fun e => (e.serial, e.event, e.loc, e.level)) = [(0x20000317, 0x1001, 34, 0)] := by
  decide +kernel

/-- With SEARCH = 8 a pair costs 17 920 cyc of its lane (R132). -/
theorem test_refine_time : refineTime 8 = 17920 := by decide

/-- The refined TOFs of the crossed pair, rounded half up to ft (R118's example). -/
theorem test_tof_rounding : roundHalfUp 27600104112 256 = 107812907 ∧ roundHalfUp 27650355183 256 = 108009200 := by
  decide +kernel

/-- Frame A of the reference meter on a loop: U = 7 016, and 3 508 units for each of its two dies. -/
theorem test_allowance_frame_a :
    let s : State := ({ State.reset with dies := 2, dieRt := [(0, { up := true }), (1, { up := true })] }).ps
      [(K.sup_CANT_C, 470), (K.sup_CANT_MEAS, 482), (K.sup_RSV_SET, 50), (K.sup_GOV_EFF, 205), (K.sup_SHARE 0, 128),
       (K.sup_SHARE 1, 128)]
    s.unitsOf (s.poolOf (s.eAvail 5300) 27000 21000) = 7016 ∧ s.shares 7016 = [3508, 3508] := by
  decide +kernel

/-- The first move of the loop example: from CODE 1 365 to 1 621. -/
theorem test_loop_move :
    (nextOf (exec .loopSlewMove { (on.p K.loop_LOOP_SET 0xAD4E).p K.loop_LOOP_OUT 1365 with cyc := 2050048 })).g
      K.loop_LOOP_OUT = 1621 := by
  decide +kernel

/-- SET_CAL of 2031-02-30 23:59:58: SEC = 983 577 598 (the invalid date in CAL mode). -/
theorem test_set_cal :
    (nextOf (exec (.emberAccess 0)
      ({ on with ember := { reqs := [{ key := K.emb_SET_CAL, write := true, value := 0x0031023001235958, who := .host }]
                            mode := 1 } }.p K.emb_RTC_MODE 1))).ember.sec = 983577598 := by
  decide +kernel

/-- Two seconds later the fields read 2031-02-31 00:00:00: DAY 0x30 is not the last day (same example). -/
theorem test_calendar_day :
    (nextOf (exec (.emberSecondTick 3000)
      ({ on with ember := { sec := 983577599, cal := 0x0031023001235959, mode := 1 } }.p K.emb_RTC_MODE 1))).ember.cal
      = 0x0031023102000000 := by
  decide +kernel

/-- Q_M3H = 1968.40 is held as 0x44F60CCD (the flow-and-totals TPDO). -/
theorem test_real32 : f32bits (mkRat 196840 100) = 0x44F60CCD := by decide +kernel

/-- The contested word: the core's write stands and the DMA's request waits (SRAM, step 1). -/
theorem test_sram_contest :
    let t := nextOf (exec (.sramRequest 1
      [{ who := .core, word := 0x1200, op := .write 11 }, { who := .guyLine, word := 0x1200, op := .write 22 },
       { who := .dma, word := 0x3400, op := .write 33 }]) on)
    (t.bank 1).word 1 0x1200 = 11 ∧ (t.bank 1).status = [0, 1, 0] ∧ (t.bank 1).waiting.map (·.word) = [0x3400] := by
  decide +kernel

/-- The balls of TP26P, TP26N, SP021 and VMAIN1 (the package's worked example). -/
theorem test_balls :
    (ballName (portBallP 26), ballName (portBallN 26)) = (("T", 21), ("U", 21)) ∧
    ballName (senseBall 21) = ("C", 13) ∧ ballName (supplyBall 1 1) = ("F", 12) := by decide +kernel

/-- CYC wraps modulo 2^48 on an idle cycle (R11). -/
theorem test_cyc_wraps :
    (nextOf (step { on with cyc := 2 ^ 48 - 1 })).cyc = 0 := by decide +kernel

/-- The host asks with no bits: the table gives its rows none. -/
theorem test_no_bits (n w : Nat) : decodeTableWord n w = none := rfl

end Tests
end

section
/-! The impedance check, the recheck period and the energy window of a port: what each leaves in STATUS, in the measured
values and in E_WINDOW (R78, R83 to R85, R88, R94). -/

namespace Sys2Proof.Machine

open Sys2Proof

-- the entries of the ports

/-- A fitted port is one of the 64 that the dictionary has objects for (R1, R5). -/
theorem lt_64_of_lt_nPorts {s : State} {n : Nat} (hp : partOk s) (hn : n < s.nPorts) : n < 64 := by
  unfold State.nPorts at hn
  omega

/-- An entry `a` of the object 0x2140, whose namesake of port `n` lies 0x100·n above it. -/
abbrev ofPort (a : Nat) : Prop := 0x214000 ≤ a ∧ a < 0x214100

/-- A port's entry does not lie in D0's ledger. -/
theorem isLedKey_port {a n : Nat} (ha : ofPort a) (hn : n < 64) : isLedKey (a + 256 * n) = false := by
  simp only [isLedKey, Bool.and_eq_false_iff, decide_eq_false_iff_not]
  omega

/-- A port's entry is not a shared one. -/
theorem sharedKey_port {a n : Nat} (ha : ofPort a) (hn : n < 64) : sharedKey (a + 256 * n) = false := by
  simp only [sharedKey, K.log_QUEUE_DROP, K.log_LOG_STAT, K.log_STANDING, K.comm_ERRREG, K.sag_SAG_STAT,
    K.sag_TRIP_COUNT, List.mem_cons, List.not_mem_nil, or_false, decide_eq_false_iff_not]
  omega

/-- Two entries of one port have two keys. -/
theorem portKey_ne {a b : Nat} (n : Nat) (h : a ≠ b) : a + 256 * n ≠ b + 256 * n := by omega

/-- Entries of two ports have two keys. -/
theorem portKey_ne_of_ne {a b m n : Nat} (ha : ofPort a) (hb : ofPort b) (h : m ≠ n) :
    a + 256 * m ≠ b + 256 * n := by omega

/-- What a command keeps of the state before it holds no entry outside the ledger. -/
theorem State.g_keepCore (s t : State) {k : Nat} (h : isLedKey k = false) : (s.keepCore t).g k = t.g k := by
  simp [State.g, State.keepCore, h]

@[simp] theorem State.port_keepCore (s t : State) (n : Nat) : (s.keepCore t).port n = t.port n := rfl

-- a port's STATUS

/-- Where STATUS holds the same, its bits are the same. -/
theorem State.st_congr {s t : State} {n : Nat} (h : t.g (K.port_STATUS n) = s.g (K.port_STATUS n)) (b : Nat) :
    t.st n b = s.st n b :=
  congrArg (fun w => bitAt w b) h

theorem State.st_keepCore (s t : State) {n : Nat} (b : Nat) (hn : n < 64) : (s.keepCore t).st n b = t.st n b :=
  State.st_congr (State.g_keepCore s t (isLedKey_port (by decide) hn)) b

theorem State.st_bitTo_same (s : State) {n : Nat} (b : Nat) (v : Bool) (hn : n < 64) :
    (s.bitTo (K.port_STATUS n) b v).st n b = v :=
  State.bit_bitTo_same s b v (isLedKey_port (by decide) hn)

theorem State.st_bitTo_ne (s : State) (n : Nat) {b c : Nat} (v : Bool) (h : c ≠ b) :
    (s.bitTo (K.port_STATUS n) b v).st n c = s.st n c :=
  State.bit_bitTo_ne s v h

theorem State.st_syncSilent (s : State) (n : Nat) {b : Nat} (h : b ≠ stSILENT) : (s.syncSilent n).st n b = s.st n b :=
  State.st_bitTo_ne s n _ h

theorem State.st_p_ne (s : State) {n k : Nat} (v b : Nat) (h : K.port_STATUS n ≠ k) : (s.p k v).st n b = s.st n b :=
  State.st_congr (State.g_p_ne s v h) b

/-- The port's STATUS once its check is judged: OPEN and SHORT written, SILENT formed anew (R85, R88). -/
def State.judged (s : State) (n : Nat) (isOpen isShort : Bool) : State :=
  ((s.bitTo (K.port_STATUS n) stOPEN isOpen).bitTo (K.port_STATUS n) stSHORT isShort).syncSilent n

theorem State.g_judged_ne (s : State) {n k : Nat} (o sh : Bool) (h : k ≠ K.port_STATUS n) :
    (s.judged n o sh).g k = s.g k := by
  rw [State.judged, State.syncSilent, State.g_bitTo_ne _ _ _ h, State.g_bitTo_ne _ _ _ h, State.g_bitTo_ne _ _ _ h]

theorem State.st_judged_open (s : State) {n : Nat} (o sh : Bool) (hn : n < 64) : (s.judged n o sh).st n stOPEN = o := by
  rw [State.judged, State.st_syncSilent _ _ (by decide), State.st_bitTo_ne _ _ _ (by decide),
    State.st_bitTo_same _ _ _ hn]

theorem State.st_judged_short (s : State) {n : Nat} (o sh : Bool) (hn : n < 64) :
    (s.judged n o sh).st n stSHORT = sh := by
  rw [State.judged, State.st_syncSilent _ _ (by decide), State.st_bitTo_same _ _ _ hn]

theorem State.st_judged_ne (s : State) (n : Nat) {b : Nat} (o sh : Bool) (hO : b ≠ stOPEN) (hS : b ≠ stSHORT)
    (hL : b ≠ stSILENT) : (s.judged n o sh).st n b = s.st n b := by
  rw [State.judged, State.st_syncSilent _ _ hL, State.st_bitTo_ne _ _ _ hS, State.st_bitTo_ne _ _ _ hO]

-- the outcome of a check

/-- Of the entries that are not shared, a failing check writes the port's STATUS alone (R88, R89). -/
theorem State.g_portFails (s : State) (n : Nat) (isOpen : Bool) (event : Nat) {k : Nat} (hk : sharedKey k = false) :
    (s.portFails n isOpen event).g k = (s.judged n isOpen !isOpen).g k := by
  unfold State.portFails
  extract_lets s1 s2 rt
  have hArm : s2.g k = s1.g k := by
    unfold s2
    split <;> rfl
  split
  · exact ((quiet.react _ _ _ _ _ _ _).entries k hk).trans hArm
  · split
    · exact hArm
    · rw [State.setPort_g]
      exact ((logsOnly.declare _ _ _ _ _ _).entries k hk).trans hArm

/-- Of the entries that are not shared, a passing check writes the port's STATUS alone (R88). -/
theorem State.g_portPasses (s : State) (n : Nat) {k : Nat} (hk : sharedKey k = false) :
    (s.portPasses n).g k = (s.judged n false false).g k := by
  unfold State.portPasses
  simp only []
  split
  · rfl
  · exact (logsOnly.endFault _ _ _ _ _ _ _).entries k hk

/-- What a finished check writes before it is judged: CHECK_RUN clear, the measured values, and R_OVER (R83). -/
def State.measured (s : State) (n c r : Nat) : State :=
  (((s.bitTo (K.port_STATUS n) stRUN false).p (K.port_C_MEAS n) (cMeasOf c)).p (K.port_R_MEAS n) (rMeasOf r)).bitTo
    (K.port_STATUS n) stROVER (decide (10000000 < r))

/-- A finished check leaves what it measured, and OPEN and SHORT as it finds the port. -/
theorem State.g_checkDone {s : State} {n : Nat} (c r : Nat) (h : s.checkOver n = true) {k : Nat}
    (hk : sharedKey k = false) :
    (s.checkDone n c r).g k =
      ((s.measured n c r).judged n (decide (s.checkFinds n (cMeasOf c) (rMeasOf r) = some true))
        (decide (s.checkFinds n (cMeasOf c) (rMeasOf r) = some false))).g k := by
  unfold State.checkDone
  simp only [h, Bool.not_true, Bool.false_eq_true, if_false]
  split
  next isOpen hf =>
    rw [hf]
    refine (State.g_portFails _ n isOpen _ hk).trans ?_
    cases isOpen <;> rfl
  next hf =>
    rw [hf]
    exact State.g_portPasses _ n hk

theorem cMeasOf_bounds (c : Nat) : 10 ≤ cMeasOf c ∧ cMeasOf c ≤ 65535 ∧ (10 ≤ c → c ≤ 65535 → cMeasOf c = c) := by
  rw [cMeasOf, satAt_eq_min]
  omega

theorem rMeasOf_bounds (r : Nat) :
    10 ≤ rMeasOf r ∧ rMeasOf r ≤ 10000000 ∧ (10 ≤ r → rMeasOf r = min r 10000000) := by
  rw [rMeasOf, satAt_eq_min]
  omega

section finishedCheck

variable {s : State} {n : Nat} (c r : Nat) (hn : n < 64) (h : s.checkOver n = true)
include hn h

theorem State.g_checkDone_C_MEAS : (s.checkDone n c r).g (K.port_C_MEAS n) = cMeasOf c := by
  rw [State.g_checkDone c r h (sharedKey_port (by decide) hn), State.g_judged_ne _ _ _ (portKey_ne n (by decide)),
    State.measured, State.g_bitTo_ne _ _ _ (portKey_ne n (by decide)), State.g_p_ne _ _ (portKey_ne n (by decide)),
    State.g_p_same _ _ (isLedKey_port (by decide) hn)]

theorem State.g_checkDone_R_MEAS : (s.checkDone n c r).g (K.port_R_MEAS n) = rMeasOf r := by
  rw [State.g_checkDone c r h (sharedKey_port (by decide) hn), State.g_judged_ne _ _ _ (portKey_ne n (by decide)),
    State.measured, State.g_bitTo_ne _ _ _ (portKey_ne n (by decide)), State.g_p_same _ _ (isLedKey_port (by decide) hn)]

/-- STATUS of a port whose check is done, bit by bit. -/
theorem State.st_checkDone (b : Nat) :
    (s.checkDone n c r).st n b =
      ((s.measured n c r).judged n (decide (s.checkFinds n (cMeasOf c) (rMeasOf r) = some true))
        (decide (s.checkFinds n (cMeasOf c) (rMeasOf r) = some false))).st n b :=
  State.st_congr (State.g_checkDone c r h (sharedKey_port (by decide) hn)) b

theorem State.st_checkDone_open : (s.checkDone n c r).st n stOPEN =
    decide (s.checkFinds n (cMeasOf c) (rMeasOf r) = some true) := by
  rw [State.st_checkDone c r hn h, State.st_judged_open _ _ _ hn]

theorem State.st_checkDone_short : (s.checkDone n c r).st n stSHORT =
    decide (s.checkFinds n (cMeasOf c) (rMeasOf r) = some false) := by
  rw [State.st_checkDone c r hn h, State.st_judged_short _ _ _ hn]

theorem State.st_checkDone_rOver : (s.checkDone n c r).st n stROVER = decide (10000000 < r) := by
  rw [State.st_checkDone c r hn h, State.st_judged_ne _ _ _ _ (by decide) (by decide) (by decide), State.measured,
    State.st_bitTo_same _ _ _ hn]

theorem State.st_checkDone_run : (s.checkDone n c r).st n stRUN = false := by
  rw [State.st_checkDone c r hn h, State.st_judged_ne _ _ _ _ (by decide) (by decide) (by decide), State.measured,
    State.st_bitTo_ne _ _ _ (by decide), State.st_p_ne _ _ _ (portKey_ne n (by decide)),
    State.st_p_ne _ _ _ (portKey_ne n (by decide)), State.st_bitTo_same _ _ _ hn]

/-- The port is left in the state of the first row of R85 that the measured values match. -/
theorem State.checkDone_outcome :
    if (0 < s.g (K.port_R_MIN n) ∧ rMeasOf r < s.g (K.port_R_MIN n)) ∨ s.g (K.port_C_MAX n) < cMeasOf c then
      (s.checkDone n c r).st n stSHORT = true ∧ (s.checkDone n c r).st n stOPEN = false
    else if cMeasOf c < s.g (K.port_C_MIN n) then
      (s.checkDone n c r).st n stOPEN = true ∧ (s.checkDone n c r).st n stSHORT = false
    else (s.checkDone n c r).st n stOPEN = false ∧ (s.checkDone n c r).st n stSHORT = false := by
  rw [State.st_checkDone_open c r hn h, State.st_checkDone_short c r hn h, State.checkFinds]
  split
  next => decide
  next => split <;> decide

end finishedCheck

-- the recheck period

/-- The end of the RECHECK period of a failing port asks for a check and arms the period again (R84). -/
theorem State.recheckDue_of_failing {s : State} {n c : Nat} (hc : (s.port n).recheck = some c)
    (hr : cycReached s.cyc c = true) (hf : s.failing n = true) :
    s.recheckDue n = (s.askCheck n).armRecheck n c := by
  simp [State.recheckDue, hc, hr, hf]

theorem State.st_askAndArm (s : State) {n : Nat} (c : Nat) (hn : n < 64) :
    ((s.askCheck n).armRecheck n c).st n stPEND = true :=
  State.st_bitTo_same s stPEND true hn

theorem State.recheck_askAndArm (s : State) (n c : Nat) :
    (((s.askCheck n).armRecheck n c).port n).recheck =
      if s.g (K.port_RECHECK n) = 0 then none else some (cycPlus c (s.g (K.port_RECHECK n) * cycPerSecond)) := by
  have hRecheck : (s.askCheck n).g (K.port_RECHECK n) = s.g (K.port_RECHECK n) :=
    State.g_bitTo_ne s _ _ (portKey_ne n (by decide))
  simp only [State.armRecheck, State.port_setPort, hRecheck]

-- the energy window

/-- The port has used nothing of its energy window and had no burst withheld in it (R78, R94). -/
def State.windowFresh (s : State) (n : Nat) : Prop := s.g (K.port_E_WINDOW n) = 0 ∧ s.st n stWITHHELD = false

/-- The restart of one port's energy window (R78, R94). -/
def State.freshenPort (s : State) (n : Nat) : State :=
  (s.p (K.port_E_WINDOW n) 0).bitTo (K.port_STATUS n) stWITHHELD false

theorem State.windowFresh_freshenPort (s : State) {n : Nat} (hn : n < 64) : (s.freshenPort n).windowFresh n := by
  constructor
  · rw [State.freshenPort, State.g_bitTo_ne _ _ _ (portKey_ne n (by decide)),
      State.g_p_same _ _ (isLedKey_port (by decide) hn)]
  · rw [State.freshenPort, State.st_bitTo_same _ _ _ hn]

/-- Restarting one port's window leaves every other port's as it is. -/
theorem State.windowFresh_freshenPort_ne {s : State} {n m : Nat} (hm : m ≠ n) (h : s.windowFresh m) :
    (s.freshenPort n).windowFresh m := by
  have keeps : ∀ a, ofPort a → (s.freshenPort n).g (a + 256 * m) = s.g (a + 256 * m) := by
    intro a ha
    rw [State.freshenPort, State.g_bitTo_ne _ _ _ (portKey_ne_of_ne ha (by decide) hm),
      State.g_p_ne _ _ (portKey_ne_of_ne ha (by decide) hm)]
  obtain ⟨hw, hb⟩ := h
  exact ⟨(keeps _ (by decide)).trans hw, (State.st_congr (keeps _ (by decide)) stWITHHELD).trans hb⟩

/-- Where `f` establishes `P` at `m` and keeps it elsewhere, a run of `f` over a list that holds `m` ends in `P`. -/
theorem foldl_establishes {f : State → Nat → State} {P : State → Prop} {m : Nat} (does : ∀ t, P (f t m))
    (keeps : ∀ t n, n ≠ m → P t → P (f t n)) (l : List Nat) (s : State) (h : m ∈ l ∨ P s) : P (l.foldl f s) := by
  induction l generalizing s with
  | nil => exact h.resolve_left List.not_mem_nil
  | cons n l ih =>
    rw [List.foldl_cons]
    by_cases hn : n = m
    · subst hn
      exact ih _ (.inr (does s))
    · refine ih _ (h.imp (fun hm => ?_) (keeps s n hn))
      exact (List.mem_cons.1 hm).resolve_left (Ne.symm hn)

/-- A fold whose every step leaves an entry alone leaves it alone. -/
theorem g_foldl {f : State → Nat → State} {k : Nat} (hf : ∀ t n, (f t n).g k = t.g k) (l : List Nat) (s : State) :
    (l.foldl f s).g k = s.g k := by
  induction l generalizing s with
  | nil => rfl
  | cons n l ih => rw [List.foldl_cons, ih, hf]

/-- A new energy window is fresh on every port of the part. -/
theorem State.windowFresh_newWindow {s : State} {n : Nat} (hn : n < s.nPorts) (h64 : n < 64) :
    s.newWindow.windowFresh n := by
  unfold State.newWindow
  extract_lets s1 s2
  have hPaths : ∀ k, s2.g k = s1.g k := by
    intro k
    unfold s2
    exact g_foldl (by intros; rfl) _ s1
  have hPorts : s1.windowFresh n := by
    unfold s1
    refine foldl_establishes (P := fun t => t.windowFresh n) (fun t => ?_) (fun t m hm h => ?_) _ s
      (.inl (List.mem_range.2 hn))
    · exact State.windowFresh_freshenPort _ h64
    · refine State.windowFresh_freshenPort_ne (Ne.symm hm) ?_
      split
      · exact h
      · exact h
  obtain ⟨hw, hb⟩ := hPorts
  exact ⟨(hPaths _).trans hw, (State.st_congr (hPaths _) stWITHHELD).trans hb⟩

-- the three commands

theorem exec_impedanceCheckDone {s : State} {n : Nat} (c r : Nat) (hn : n < s.nPorts) :
    exec (.impedanceCheckDone n c r) s = .next (s.keepCore (s.checkDone n c r)) :=
  if_pos (decide_eq_true hn)

theorem exec_recheckExpiry {s : State} {n : Nat} (hn : n < s.nPorts) :
    exec (.recheckExpiry n) s = .next (s.keepCore (s.recheckDue n)) :=
  if_pos (decide_eq_true hn)

theorem exec_energyWindowBoundary {s : State} (h : s.cyc % cycPerSecond = 0) :
    exec .energyWindowBoundary s = .next (s.keepCore s.newWindow) := by
  have hStart : s.windowStart = true := decide_eq_true h
  change confined s (if s.windowStart then s.newWindow else s) = _
  rw [if_pos hStart]
  rfl

end Sys2Proof.Machine

namespace Sys2Proof

open Sys2Proof.Machine

/-- Settles O2: IMPEDANCE_CHECK_DONE by what `checkDone` leaves in each entry of the port, RECHECK_EXPIRY by
`recheckDue` of a failing port, ENERGY_WINDOW_BOUNDARY by the fold that restarts one port's window after another. -/
theorem checksAndWindows : Obligations.ChecksAndWindows := by
  unfold Obligations.ChecksAndWindows
  refine ⟨fun s n c r hp hn h => ?_, fun s n c hp hn hc hr hf => ?_, fun s hp h => ?_⟩
  · have h64 := lt_64_of_lt_nPorts hp hn
    refine ⟨_, exec_impedanceCheckDone c r hn, ?_⟩
    have kept : ∀ a, ofPort a →
        (s.keepCore (s.checkDone n c r)).g (a + 256 * n) = (s.checkDone n c r).g (a + 256 * n) :=
      fun a ha => State.g_keepCore _ _ (isLedKey_port ha h64)
    simp only [bitSet, bitClear]
    rw [kept _ (by decide), kept _ (by decide), kept _ (by decide), State.g_checkDone_C_MEAS c r h64 h,
      State.g_checkDone_R_MEAS c r h64 h]
    exact ⟨cMeasOf_bounds c, rMeasOf_bounds r, State.st_checkDone_rOver c r h64 h,
      State.st_checkDone_run c r h64 h, State.checkDone_outcome c r h64 h⟩
  · have h64 := lt_64_of_lt_nPorts hp hn
    have hFailing : s.failing n = true := (Bool.or_eq_true _ _).mpr hf
    refine ⟨_, exec_recheckExpiry hn, ?_⟩
    rw [State.recheckDue_of_failing hc hr hFailing]
    exact ⟨(State.st_keepCore _ _ stPEND h64).trans (State.st_askAndArm s c h64), State.recheck_askAndArm s n c⟩
  · refine ⟨_, exec_energyWindowBoundary h, fun n hn => ?_⟩
    have h64 := lt_64_of_lt_nPorts hp hn
    obtain ⟨hw, hb⟩ := State.windowFresh_newWindow hn h64
    exact ⟨(State.g_keepCore _ _ (isLedKey_port (by decide) h64)).trans hw,
      (State.st_keepCore _ _ stWITHHELD h64).trans hb⟩

end Sys2Proof
end

section
/-! The orders of an originator to its firing, and the timeout of one in OPEN: what each leaves in FIRE_STAT, in FIRE_ID
and in the firing's record (R401 to R403). -/

namespace Sys2Proof.Machine

open Sys2Proof

-- the entries of the firings

/-- An entry of the firing object does not lie in D0's ledger. -/
theorem isLedKey_firing {a : Nat} (o : Nat) (ha : 0x2A0000 ≤ a) : isLedKey (a + o) = false := by
  simp only [isLedKey, Bool.and_eq_false_iff, decide_eq_false_iff_not]
  omega

/-- Two entries of one originator have two keys. -/
theorem firingKey_ne {a b : Nat} (o : Nat) (h : a ≠ b) : a + o ≠ b + o := mt Nat.add_right_cancel h

theorem fireStat_ne_greenFree {o : Nat} (ho : o ≤ 2) : K.fire_FIRE_STAT o ≠ K.fire_GREEN_FREE := by
  simp only [K.fire_FIRE_STAT, K.fire_GREEN_FREE]
  omega

/-- An originator's FIRE_STAT is not a shared entry. -/
theorem sharedKey_fireStat {o : Nat} (ho : o ≤ 2) : sharedKey (K.fire_FIRE_STAT o) = false := by
  simp only [sharedKey, K.fire_FIRE_STAT, K.log_QUEUE_DROP, K.log_LOG_STAT, K.log_STANDING, K.comm_ERRREG,
    K.sag_SAG_STAT, K.sag_TRIP_COUNT, List.mem_cons, List.not_mem_nil, or_false, decide_eq_false_iff_not]
  omega

theorem origNo_le_two {who : Orig} (h : who ≠ .boundary) : origNo who ≤ 2 := by
  cases who with
  | host | can | internal => decide
  | boundary => exact absurd rfl h

/-- FIRE_STAT reads back the state it was formed with, its RESULT and its slots within their fields. -/
theorem fireStat_state {state result stages : Nat} (hState : state < 8) (hResult : result < 64)
    (hStages : stages < 128) : fireStat state result stages / 2 ^ 13 % 8 = state := by
  unfold fireStat
  omega

-- FIRE_STAT written

@[simp] theorem State.fire_setFireStat (s : State) (o state result stages n : Nat) :
    (s.setFireStat o state result stages).fire n = s.fire n := by
  unfold State.setFireStat
  simp only []
  split
  · rw [State.fire_irq, State.fire_p]
  · exact State.fire_p s _ _ n

/-- Beside the flag for the host, FIRE_STAT is all that is written. -/
theorem State.g_setFireStat (s : State) (o state result stages k : Nat) :
    (s.setFireStat o state result stages).g k = (s.p (K.fire_FIRE_STAT o) (fireStat state result stages)).g k := by
  unfold State.setFireStat
  simp only []
  split <;> rfl

theorem State.g_setFireStat_same (s : State) (o state result stages : Nat) :
    (s.setFireStat o state result stages).g (K.fire_FIRE_STAT o) = fireStat state result stages :=
  (State.g_setFireStat s o state result stages _).trans (State.g_p_same s _ (isLedKey_firing o (by decide)))

theorem State.g_setFireStat_ne (s : State) {o k : Nat} (state result stages : Nat) (h : k ≠ K.fire_FIRE_STAT o) :
    (s.setFireStat o state result stages).g k = s.g k :=
  (State.g_setFireStat s o state result stages k).trans (State.g_p_ne s _ h)

theorem State.fireState_setFireStat (s : State) (o : Nat) {state result stages : Nat} (hState : state < 8)
    (hResult : result < 64) (hStages : stages < 128) :
    (s.setFireStat o state result stages).fireState o = state := by
  rw [State.fireState, State.g_setFireStat_same, fireStat_state hState hResult hStages]

theorem State.fireState_congr {s t : State} {o : Nat} (h : t.g (K.fire_FIRE_STAT o) = s.g (K.fire_FIRE_STAT o)) :
    t.fireState o = s.fireState o :=
  congrArg (fun w => w / 2 ^ 13 % 8) h

-- a firing that ends without applying

@[simp] theorem State.fire_freeBank (s : State) (bank : Option Nat) (n : Nat) :
    (s.freeBank bank).fire n = s.fire n := by
  cases bank <;> rfl

@[simp] theorem State.fire_syncGreen (s : State) (n : Nat) : s.syncGreen.fire n = s.fire n := State.fire_p s _ _ n

theorem State.stages_dropFire (s : State) (o state result : Nat) :
    ((s.dropFire o state result).fire o).stages = [] := by
  simp [State.dropFire]

/-- A dropped firing shows how it ended, with no slots (R398, R401). -/
theorem State.fireStat_dropFire (s : State) {o : Nat} (state result : Nat) (ho : o ≤ 2) :
    (s.dropFire o state result).g (K.fire_FIRE_STAT o) = fireStat state result 0 := by
  rw [State.dropFire, State.syncGreen, State.g_p_ne _ _ (fireStat_ne_greenFree ho), State.g_setFireStat_same]

-- what FIRE_CTL does

theorem State.fireCtl_open {s : State} {o : Nat} (h : s.fireState o = 0 ∨ 3 < s.fireState o) :
    s.fireCtl o 1 = (s.openFire o, abNone) :=
  if_neg (by omega)

theorem State.fireCtl_commit {s : State} {o : Nat} (h : s.fireState o = 1) :
    s.fireCtl o 2 = (s.commitFire o, abNone) :=
  if_pos h

theorem State.fireCtl_abort {s : State} {o : Nat} (h : s.fireState o = 1) :
    s.fireCtl o 3 = (s.dropFire o 5 0x10, abNone) :=
  if_pos h

/-- The SEQ of an originator's next firing (R402). -/
def FireRt.nextSeq (f : FireRt) : Nat := if 16383 ≤ f.seq then 1 else f.seq + 1

/-- The record of a firing that opens: empty, with COMMIT_LEAD and FIRE_TMO as they stand (R401 to R403). -/
def State.openedFire (s : State) (o : Nat) : FireRt :=
  { s.fire o with
    stages := [], openAt := s.cyc, lead := s.g (K.fire_COMMIT_LEAD o), tmo := s.g (K.fire_FIRE_TMO o)
    seq := (s.fire o).nextSeq, commitAt := none, start := none, dirty := none }

theorem State.openFire_eq (s : State) (o : Nat) :
    s.openFire o = ((s.setFire o (s.openedFire o)).p (K.fire_FIRE_ID o) (o * 2 ^ 14 + (s.fire o).nextSeq)).setFireStat
      o 1 0 0 :=
  rfl

theorem State.fire_openFire (s : State) (o : Nat) : (s.openFire o).fire o = s.openedFire o := by
  rw [State.openFire_eq, State.fire_setFireStat, State.fire_p, State.fire_setFire]

theorem State.fireState_openFire (s : State) (o : Nat) : (s.openFire o).fireState o = 1 :=
  State.fireState_setFireStat _ o (by decide) (by decide) (by decide)

theorem State.fireId_openFire (s : State) (o : Nat) :
    (s.openFire o).g (K.fire_FIRE_ID o) = o * 2 ^ 14 + (s.fire o).nextSeq := by
  rw [State.openFire_eq, State.g_setFireStat_ne _ _ _ _ (firingKey_ne o (by decide)),
    State.g_p_same _ _ (isLedKey_firing o (by decide))]

theorem State.fire_commitFire (s : State) (o : Nat) :
    (s.commitFire o).fire o = { s.fire o with commitAt := some s.cyc } := by
  rw [State.commitFire, State.fire_setFireStat, State.fire_setFire]

theorem State.fireState_commitFire {s : State} {o : Nat} (h : (s.fire o).slots ≤ 64) :
    (s.commitFire o).fireState o = 2 :=
  State.fireState_setFireStat _ o (by decide) (by decide) (by omega)

-- an originator's order to its firing

/-- The state after an originator's access: `t` but for what no access changes. -/
def State.keepAccess (s t : State) : State :=
  { t with
    dies := s.dies, cyc := s.cyc, led := s.led, sram := s.sram, pending := s.pending
    otp := { t.otp with arb := s.otp.arb } }

theorem accessing_eq (s t : State) : accessing s t = .next (s.keepAccess t) := rfl

theorem State.g_keepAccess (s t : State) {k : Nat} (h : isLedKey k = false) : (s.keepAccess t).g k = t.g k := by
  simp [State.g, State.keepAccess, h]

@[simp] theorem State.fire_keepAccess (s t : State) (n : Nat) : (s.keepAccess t).fire n = t.fire n := rfl

@[simp] theorem State.fire_reply (s : State) (abort : Nat) (data : List Nat) (n : Nat) :
    (s.reply abort data).fire n = s.fire n :=
  rfl

/-- An accepted order leaves the originator's entries of the firing object as FIRE_CTL made them. -/
theorem State.g_keepAccess_reply (s t : State) (abort : Nat) {a : Nat} (o : Nat) (ha : 0x2A0000 ≤ a) :
    (s.keepAccess (t.reply abort [])).g (a + o) = t.g (a + o) :=
  State.g_keepAccess s _ (isLedKey_firing o ha)

theorem State.fireState_keepAccess_reply (s t : State) (abort o : Nat) :
    (s.keepAccess (t.reply abort [])).fireState o = t.fireState o :=
  State.fireState_congr (State.g_keepAccess_reply s t abort o (by decide))

@[simp] theorem State.fire_keepCore (s t : State) (n : Nat) : (s.keepCore t).fire n = t.fire n := rfl

/-- A write of FIRE_CTL is never a stage (R405): where it passes its checks, FIRE_CTL judges it. -/
theorem State.writeEntry_fireCtl {s : State} {who : Orig} {data : List Nat}
    (h : accepts s who (K.fire_FIRE_CTL (origNo who)) data) :
    s.writeEntry who (K.fire_FIRE_CTL (origNo who)) data =
      ((s.fireCtl (origNo who) (leNat data)).1, { abort := (s.fireCtl (origNo who) (leNat data)).2 }) := by
  obtain ⟨-, hWho, -, hCheck⟩ := h
  have ho := origNo_le_two hWho
  have hIx : ixOf (K.fire_FIRE_CTL (origNo who)) = 0x2A00 := by
    simp only [ixOf, K.fire_FIRE_CTL]
    omega
  have hSub : subOf (K.fire_FIRE_CTL (origNo who)) ≤ 3 := by
    simp only [subOf, K.fire_FIRE_CTL]
    omega
  simp [State.writeEntry, State.directWrite, hIx, hSub, hCheck]

/-- A command that writes FIRE_CTL, where it is accepted, leaves what FIRE_CTL makes of it, with its answer (R401). -/
theorem ordering_fireCtl {s t : State} {who : Orig} {data : List Nat} {a : Nat}
    (h : accepts s who (K.fire_FIRE_CTL (origNo who)) data) (hCtl : s.fireCtl (origNo who) (leNat data) = (t, a)) :
    ordering who true s (K.fire_FIRE_CTL (origNo who)) data = .next (s.keepAccess (t.reply a [])) := by
  have hWrite := State.writeEntry_fireCtl h
  obtain ⟨hServing, hWho, -, -⟩ := h
  simp [ordering, isOriginator, hWho, State.order, hServing, hWrite, hCtl, accessing_eq]

theorem exec_fireOpen {s : State} {who : Orig} (h : accepts s who (K.fire_FIRE_CTL (origNo who)) [1, 0])
    (hState : s.fireState (origNo who) = 0 ∨ 3 < s.fireState (origNo who)) :
    exec (.fireOpen who) s = .next (s.keepAccess ((s.openFire (origNo who)).reply abNone [])) :=
  ordering_fireCtl h (State.fireCtl_open hState)

theorem exec_fireCommit {s : State} {who : Orig} (h : accepts s who (K.fire_FIRE_CTL (origNo who)) [2, 0])
    (hState : s.fireState (origNo who) = 1) :
    exec (.fireCommit who) s = .next (s.keepAccess ((s.commitFire (origNo who)).reply abNone [])) :=
  ordering_fireCtl h (State.fireCtl_commit hState)

theorem exec_fireAbort {s : State} {who : Orig} (h : accepts s who (K.fire_FIRE_CTL (origNo who)) [3, 0])
    (hState : s.fireState (origNo who) = 1) :
    exec (.fireAbort who) s = .next (s.keepAccess ((s.dropFire (origNo who) 5 0x10).reply abNone [])) :=
  ordering_fireCtl h (State.fireCtl_abort hState)

-- the timeout

/-- FIRE_TMO passed, and no COMMIT comes with its end: the firing is aborted (R37, R403). -/
theorem State.fireLate_of_due {s : State} {o : Nat} (hOpen : s.fireState o = 1)
    (hDue : cycReached s.cyc (cycPlus (s.fire o).openAt ((s.fire o).tmo * cycPerSecond)) = true)
    (hAlone : ¬ (s.cyc = cycPlus (s.fire o).openAt ((s.fire o).tmo * cycPerSecond) ∧ s.commitComing o = true)) :
    s.fireLate o = (s.dropFire o 5 0x11).evChip 0x4083 (fireData [] (s.g (K.fire_FIRE_ID o))) :=
  if_pos ⟨hOpen, hDue, hAlone⟩

theorem exec_fireTmoExpiry (s : State) {who : Orig} (h : who ≠ .boundary) :
    exec (.fireTmoExpiry who) s = .next (s.keepCore (s.fireLate (origNo who))) :=
  if_neg h

@[simp] theorem State.fire_evChip (s : State) (event : Nat) (data : List Nat) (n : Nat) :
    (s.evChip event data).fire n = s.fire n :=
  State.fire_enqueue s _ n

end Sys2Proof.Machine

namespace Sys2Proof

open Sys2Proof.Machine

/-- Settles O30: each order by what FIRE_CTL does where it is accepted, in the entries and the record of the firing, and
FIRE_TMO_EXPIRY by the aborted firing that `fireLate` leaves. -/
theorem firingOrders : Obligations.FiringOrders := by
  unfold Obligations.FiringOrders
  refine ⟨fun s who h hState => ?_, fun s who h hState hSlots => ?_, fun s who h hState => ?_,
    fun s who hWho hState hDue hAlone => ?_⟩
  · refine ⟨_, exec_fireOpen h hState, ?_⟩
    simp only [State.fire_keepAccess, State.fire_reply, State.fire_openFire]
    exact ⟨(State.fireState_keepAccess_reply s _ _ _).trans (State.fireState_openFire s _), rfl, rfl, rfl,
      (State.g_keepAccess_reply s _ _ _ (by decide)).trans (State.fireId_openFire s _)⟩
  · refine ⟨_, exec_fireCommit h hState, ?_⟩
    simp only [State.fire_keepAccess, State.fire_reply, State.fire_commitFire, and_self, and_true]
    exact (State.fireState_keepAccess_reply s _ _ _).trans (State.fireState_commitFire hSlots)
  · have ⟨_, hWho, _, _⟩ := h
    exact ⟨_, exec_fireAbort h hState,
      (State.g_keepAccess_reply s _ _ _ (by decide)).trans (State.fireStat_dropFire s _ _ (origNo_le_two hWho)),
      State.stages_dropFire s _ _ _⟩
  · have ho := origNo_le_two hWho
    refine ⟨_, exec_fireTmoExpiry s hWho, ?_⟩
    rw [State.fireLate_of_due hState hDue hAlone]
    constructor
    · rw [State.g_keepCore _ _ (isLedKey_firing _ (by decide)),
        (quiet.evChip _ _ _).entries _ (sharedKey_fireStat ho), State.fireStat_dropFire s _ _ ho]
    · rw [State.fire_keepCore, State.fire_evChip, State.stages_dropFire]

end Sys2Proof
end

section
/-! Well-formed commands and the step: every command answers a next state, and an ill-formed one the state it found
(R1, R4). -/

namespace Sys2Proof.Machine

open Sys2Proof

/-- A command answers a next state, and the state it found where its operands are not `ok`. -/
def completes (ok : Bool) (s : State) (o : Out) : Prop := (∃ t, o = .next t) ∧ (ok = false → o = .next s)

namespace completes

/-- A well-formed command may answer any state. -/
theorem always (s t : State) : completes true s (.next t) := ⟨⟨t, rfl⟩, nofun⟩

theorem fitted (s : State) (c : Bool) (t : State) : completes c s (ifFitted s c (.next t)) := by
  cases c
  · exact ⟨⟨s, rfl⟩, fun _ => rfl⟩
  · exact always s t

/-- A guard that every ill-formed command meets leaves the state. -/
theorem refusing {ok : Bool} {s : State} {p : Prop} [Decidable p] {t : State} (h : ok = false → p) :
    completes ok s (if p then .next s else .next t) := by
  by_cases hp : p
  · rw [if_pos hp]; exact ⟨⟨s, rfl⟩, fun _ => rfl⟩
  · rw [if_neg hp]; exact ⟨⟨t, rfl⟩, fun hf => absurd (h hf) hp⟩

/-- A guard that only well-formed commands pass. -/
theorem admitting {ok : Bool} {s : State} {p : Prop} [Decidable p] {t : State} (h : p → ok = true) :
    completes ok s (if p then .next t else .next s) := by
  by_cases hp : p
  · rw [if_pos hp, h hp]; exact always s t
  · rw [if_neg hp]; exact ⟨⟨s, rfl⟩, fun _ => rfl⟩

/-- A resource that is not fitted leaves the state, whatever the other operands. -/
theorem inFitted {ok c : Bool} {s : State} {o : Out} (h : c = true → completes ok s o) :
    completes ok s (ifFitted s c o) := by
  cases c
  · exact ⟨⟨s, rfl⟩, fun _ => rfl⟩
  · exact h rfl

end completes

/-- What a start can find depends on the dies fitted alone. -/
theorem part_startInfoOk (s : State) (info : StartInfo) : (part s.dies).startInfoOk info = s.startInfoOk info := rfl

theorem exec_completes (i : Instr) (s : State) : completes (wellFormed s.dies i) s (exec i s) := by
  cases i with
  | energyWindowBoundary | clockValidityChange | demandIntervalCycExpiry | boundaryFiringApply | bkcapPor |
    supplySwitch | cellDisconnect | wakeAccepted | emberSecondTick | correctionPeriodStart | oscStopDetect |
    emberAccessDone | secondTickDelivered | alarmDelivered | wakeDelivered | oscStopDelivered | lanternStart |
    lanternWake | lanternPairComplete | pulseProcess | loopMeasure | sealChange | extestSelect | imgVerifyDone |
    arbFusesDone | digestRecomputeDone | attCapture | attSignDone | allowanceSample | governorForced | cantMeasDone |
    wakeCycCompare | hcsWake | sourceLost | sourcePresent | powerFailCommit | d0VmainLow | resBelowVreg |
    commitStart | commitBroadcast | firingApply | firingRetire | frameBoundary | loopSlewMove | odRead | odWrite |
    resetPtr | odDataRead | cycCapture | winKeyExpiry | keyClose | canResetComm | nmtPreop | nmtOperational |
    nmtStop | sdoTmoExpiry | syncProduce | syncWinExpiry | heartbeatProduce | canErrorPassive | canErrorActive |
    canBusOff | busoffHoldEnd | canBusoffRecovered | transmitWindowBoundary | emcySend =>
    exact completes.always s _
  | burstEnd | bridgeOvercurrent | impedanceCheckDone | recheckExpiry | comparatorArm | stopAccepted |
    receiveWindowExpiry | calFullStart | calQuickStart | gatherWaitExpiry | gatherCommitDone | partitionLockExpiry |
    seqSecondShot | shotVerdict | refinementStart | refinementDone | retryCancelDelivered | slotStart | attemptStart |
    referencePairStart | referencePairDone | pathRecordDelivered | sectionResultTimeout | holdTimerExpiry |
    logEntryAccept | pulseAccepted | pulseLineFault | pulseLineClear | scanStart | phaseComplete | clampHit |
    channelStartDelivered | channelResultTimeout | channelResultDelivered | allowanceDelivered | railExcursion |
    railFaultClear | coreWait | interruptWake | wakeComplete | glFrameStart | glAckToggle | followerResponse |
    followTmoExpiry | syncReqReceived | syncAckReceived | syncDoneReceived | syncFrameRepeat | resyncTimeout |
    resyncRetry | glAckTimeout | cycCheckSend | cycCheckReceived | counterSend | watchdogExpiry |
    followerReadyTimeout | sectionComputation | sramWriteBack =>
    exact completes.fitted s _ _
  | checkCmd | learn | calCmdFull | calCmdQuick | clampStickyClear | marchDestructive | marchTransparent | marchStop |
    cantCmd | loopSetWrite | xchkCmd | setBin | setCal | rtcModeWrite | trimWrite | pwronRelease | pwronAssert |
    billCmd | fireOpen | fireCommit | fireAbort | unlock | relock | partDef | lineDataWrite | logRelease | imgData |
    imgBegin | imgVerify | arbAdvance | oemHashWrite | attNonce | attCmd | dictWrite | storeParameters |
    restoreDefaults | errorFieldClear =>
    exact completes.admitting (by
      simp +contextual [wellFormed, byOriginator, isByte, isWord16, isWord32, fits16, isOriginator])
  | nmtStartNode | nmtStopNode | nmtEnterPreop | nmtResetComm =>
    exact completes.refusing (by simp only [wellFormed, isByte, decide_eq_false_iff_not]; omega)
  | sdoDownloadInitiate | sdoDownloadSegment | sdoUploadInitiate | sdoUploadSegment | sdoUnsupportedRequest |
    usdoDownloadInitiate | usdoDownloadSegment | usdoUploadInitiate | usdoUploadSegment =>
    exact completes.refusing fun h => (Bool.not_eq_true' _).mpr h
  | tamperEpisode | tamperRearm | tamperDelivered => exact completes.admitting fun h => decide_eq_true h
  | xchkGateClose | odDataWrite | snapCtlWrite | winKeyWrite | syncReceived | tpdoEventTimer | tpdoInhibitEnd |
    heartbeatConsumerTimeout => exact completes.refusing fun h => not_lt.mp (of_decide_eq_false h)
  | fireTmoExpiry | logRead => exact completes.refusing fun h => not_not.mp (of_decide_eq_false h)
  | emberAccess => exact completes.refusing fun h => .inl (not_lt.mp (of_decide_eq_false h))
  | deviceReset | hostWriteFrame | hostReadFrame | lineDataRead | coldStart =>
    exact completes.refusing fun h => (Bool.not_eq_true' _).mpr h
  | warmStart cause info =>
    have hs : ∃ t, exec (.warmStart cause info) s =
        if !(decide (cause ∈ [5, 6, 7, 8, 10]) && s.startInfoOk info) then .next s else .next t := by
      by_cases hc : cause = 10
      · subst hc; exact ⟨_, rfl⟩
      · exact ⟨_, by rw [exec, execWarmStart, if_neg hc]; rfl⟩
    obtain ⟨t, ht⟩ := hs
    rw [ht]
    exact completes.refusing fun h => (Bool.not_eq_true' _).mpr h
  | timeReceived | heartbeatReceived | rpdoReceived | nmtResetNode =>
    refine completes.refusing fun h => ?_
    simp only [wellFormed, isByte, isWord16, part_startInfoOk, Bool.and_eq_false_iff, decide_eq_false_iff_not] at h
    grind
  | captureDmaDone | sramRequest =>
    exact completes.inFitted fun hc => completes.admitting fun h => by
      simp only [wellFormed]
      exact (Bool.and_eq_true _ _).mpr ⟨hc, h⟩
  | gpioInputChange | glFrameReceived | followerPor | followerRestartRetry =>
    refine completes.inFitted fun hc => completes.refusing fun h => ?_
    simp_all [wellFormed, State.isFollower, dieFitted, followerFitted, isByte]
  | dieTempMeasure | firmwarePowerStateChange | dieRestart | marchRunDone =>
    refine completes.inFitted fun hc => completes.refusing fun h => ?_
    simp only [wellFormed, dieFitted, fits16, byOriginator, hc, Bool.true_and] at h
    grind
  | scrubRead die line errs =>
    refine completes.inFitted (s := s) fun hc => ?_
    rw [show wellFormed s.dies (.scrubRead die line errs) = true from hc]
    split
    · exact completes.always s _
    · exact completes.always s _
  | calFullDone die rs =>
    refine completes.inFitted fun hc => ?_
    have h : wellFormed s.dies (.calFullDone die rs) = calResultsOk rs := by
        rw [wellFormed, dieFitted, hc, Bool.true_and]
    rw [h]
    refine ⟨⟨_, rfl⟩, fun hr => ?_⟩
    rw [hr, Bool.and_false]
    rfl
  | calQuickDone die m =>
    refine completes.inFitted fun hc => ?_
    have h : wellFormed s.dies (.calQuickDone die m) = quickOk m := by rw [wellFormed, dieFitted, hc, Bool.true_and]
    rw [h]
    refine ⟨⟨_, rfl⟩, fun hr => ?_⟩
    rw [hr, Bool.and_false]
    rfl
end Sys2Proof.Machine

namespace Sys2Proof

open Sys2Proof.Machine

/-- Settles O55: every arm of `exec` is the outcome of its family behind the guards that well-formedness names. -/
theorem completesWhenWellFormed : Obligations.CompletesWhenWellFormed := by
  unfold Obligations.CompletesWhenWellFormed
  exact exec_completes

/-- Settles O51. -/
theorem stepRunsFront : Obligations.StepRunsFront := by
  unfold Obligations.StepRunsFront
  intro s c rest h
  rw [step, h]

/-- Settles O53. -/
theorem invAtReset : Obligations.InvAtReset :=
  ⟨.inr (.inr rfl), Nat.two_pow_pos 48, nofun, Nat.zero_le 64, sramOk_reset⟩

/-- A part whose reserve runs out while a boundary firing retires and a booking of section 0 waits behind it: 5 mL
forward. -/
def failingPart : State :=
  { pow := { pfArmed := true }
    bill := { unretired := true, waiting := [{ sect := 0, dir := 0, vol := 5 }] } }

/-- Refutes O56: POWER_FAIL_COMMIT books what waits (R327) and keeps it where a boundary firing retires (R455), so it
moves totals, and `booksTotals` does not name it. -/
theorem not_coreKept : ¬ Obligations.CoreKept := by
  unfold Obligations.CoreKept
  intro h
  obtain ⟨-, -, -, hled, -, -⟩ := h .powerFailCommit failingPart _ rfl
  exact absurd (hled rfl rfl) (by decide +kernel)

end Sys2Proof
end

section
/-! What commands leave behind in general, the end of a burst, the shots of an attempt and the calibration of the
interpolators: what each leaves in the entries and the record of its port, path or die (R65, R77, R86, R99 to R108, R112
to R114). -/

namespace Sys2Proof

open Sys2Proof.Machine

-- the outcomes of commands

theorem yields.confined {s t : State} {P : State → Prop} (h : P (s.keepCore t)) : yields (confined s t) P := ⟨_, rfl, h⟩

/-- A command of the ordinary families whose condition holds. -/
theorem yields.whenTrue {s t u : State} {c : Prop} [Decidable c] {P : State → Prop} (hc : c) (h : P (s.keepCore t)) :
    yields (Machine.confined s (if c then t else u)) P := by
  rw [if_pos hc]; exact .confined h

theorem yields.fitted {s : State} {c : Bool} {o : Out} {P : State → Prop} (hc : c = true) (h : yields o P) :
    yields (ifFitted s c o) P := by
  rwa [ifFitted, if_pos hc]

-- what updates that log leave

namespace logsOnly

variable {s t : State}

theorem port (h : logsOnly s t) (n : Nat) : t.port n = s.port n := by rw [h.rest]; rfl
theorem path (h : logsOnly s t) (n : Nat) : t.path n = s.path n := by rw [h.rest]; rfl
theorem sect (h : logsOnly s t) (n : Nat) : t.sect n = s.sect n := by rw [h.rest]; rfl
theorem chan (h : logsOnly s t) (n : Nat) : t.chan n = s.chan n := by rw [h.rest]; rfl
theorem pin (h : logsOnly s t) (n : Nat) : t.pin n = s.pin n := by rw [h.rest]; rfl
theorem pulse (h : logsOnly s t) (n : Nat) : t.pulse n = s.pulse n := by rw [h.rest]; rfl
theorem line (h : logsOnly s t) (n : Nat) : t.line n = s.line n := by rw [h.rest]; rfl
theorem store (h : logsOnly s t) (n : Nat) : t.store n = s.store n := by rw [h.rest]; rfl
theorem fire (h : logsOnly s t) (n : Nat) : t.fire n = s.fire n := by rw [h.rest]; rfl

end logsOnly

/-- What a die's record holds beside its kiln-log queue and COUNT stays. -/
theorem sameDie.eq {β : Type} {a b : DieRt} (h : sameDie a b) (f : DieRt → β)
    (hf : ∀ q d c, f { a with logQ := q, qdrop := d, count := c } = f a) : f b = f a := by
  rw [h]; exact hf _ _ _

end Sys2Proof

namespace Sys2Proof.Machine

open Sys2Proof

@[simp] theorem State.path_keepCore (s t : State) (n : Nat) : (s.keepCore t).path n = t.path n := rfl
@[simp] theorem State.sect_keepCore (s t : State) (n : Nat) : (s.keepCore t).sect n = t.sect n := rfl
@[simp] theorem State.chan_keepCore (s t : State) (n : Nat) : (s.keepCore t).chan n = t.chan n := rfl
@[simp] theorem State.pin_keepCore (s t : State) (n : Nat) : (s.keepCore t).pin n = t.pin n := rfl
@[simp] theorem State.pulse_keepCore (s t : State) (n : Nat) : (s.keepCore t).pulse n = t.pulse n := rfl
@[simp] theorem State.die_keepCore (s t : State) (n : Nat) : (s.keepCore t).die n = t.die n := rfl
@[simp] theorem State.line_keepCore (s t : State) (n : Nat) : (s.keepCore t).line n = t.line n := rfl
@[simp] theorem State.store_keepCore (s t : State) (n : Nat) : (s.keepCore t).store n = t.store n := rfl

-- entries read after an update

theorem State.g_bitTo_same (s : State) {k : Nat} (n : Nat) (b : Bool) (h : isLedKey k = false) :
    (s.bitTo k n b).g k = setBit (s.g k) n b := State.g_p_same s _ h

theorem State.g_addTo_same (s : State) {k : Nat} (n : Nat) (h : isLedKey k = false) :
    (s.addTo k n).g k = wrap32 (s.g k + n) := State.g_p_same s _ h

theorem State.g_addTo_ne (s : State) {k j : Nat} (n : Nat) (h : j ≠ k) : (s.addTo k n).g j = s.g j :=
  State.g_p_ne s _ h

theorem State.g_bump_same (s : State) {k : Nat} (h : isLedKey k = false) : (s.bump k).g k = wrap32 (s.g k + 1) :=
  State.g_p_same s _ h

theorem State.g_bump_ne (s : State) {k j : Nat} (h : j ≠ k) : (s.bump k).g j = s.g j := State.g_p_ne s _ h

theorem State.g_pi_same (s : State) (b : Nat) {k : Nat} (v : Int) (h : isLedKey k = false) :
    (State.pi b s k v).g k = ofSigned b v := State.g_p_same s _ h

theorem State.g_pi_ne (s : State) (b : Nat) {k j : Nat} (v : Int) (h : j ≠ k) : (State.pi b s k v).g j = s.g j :=
  State.g_p_ne s _ h

-- entries that are not shared, read after an update that logs

theorem State.g_ev (s : State) (src level loc event : Nat) (data : List Nat) {k : Nat} (h : sharedKey k = false) :
    (s.ev src level loc event data).g k = s.g k := (quiet.ev s src level loc event data).entries k h

theorem State.g_evChip (s : State) (event : Nat) (data : List Nat) {k : Nat} (h : sharedKey k = false) :
    (s.evChip event data).g k = s.g k := (quiet.evChip s event data).entries k h

theorem State.g_evNet (s : State) (event code : Nat) (data : List Nat) {k : Nat} (h : sharedKey k = false) :
    (s.evNet event code data).g k = s.g k := (quiet.evNet s event code data).entries k h

theorem State.g_react (s : State) (src level loc event serial : Nat) (data : List Nat) {k : Nat}
    (h : sharedKey k = false) : (s.react src level loc event serial data).g k = s.g k :=
  (quiet.react s src level loc event serial data).entries k h

theorem State.g_onceEv (s : State) (subject src level loc event : Nat) (data : List Nat) {k : Nat}
    (h : sharedKey k = false) : (s.onceEv subject src level loc event data).g k = s.g k :=
  (quiet.onceEv s subject src level loc event data).entries k h

theorem State.g_syncErr (s : State) {k : Nat} (h : sharedKey k = false) : s.syncErr.g k = s.g k :=
  (quiet.syncErr s).entries k h

theorem State.g_declare (s : State) (d level loc event : Nat) (data : List Nat) {k : Nat} (h : sharedKey k = false) :
    (s.declare d level loc event data).g k = s.g k := (logsOnly.declare s d level loc event data).entries k h

theorem State.g_endFault (s : State) (serial src level loc event : Nat) (data : List Nat) {k : Nat}
    (h : sharedKey k = false) : (s.endFault serial src level loc event data).g k = s.g k :=
  (logsOnly.endFault s serial src level loc event data).entries k h


-- the end of a burst

section
variable (s : State) {n : Nat} (charge : Nat)

theorem State.port_bookBurst (n : Nat) : (s.bookBurst n charge).port n =
    { s.port n with bursting := false, ePred := burstEnergy charge (s.port n).burstMv } := State.port_setPort _ _ _

/-- Of the port's entries, a booking writes Q_LAST and E_WINDOW alone (R77, R79). -/
theorem State.g_bookBurst_ne {k : Nat} (hQ : k ≠ K.port_Q_LAST n) (hE : k ≠ K.port_E_WINDOW n) :
    (s.bookBurst n charge).g k = s.g k := by
  unfold State.bookBurst
  extract_lets r e s1 s2
  have h1 : s1.g k = s.g k := State.g_p_ne _ _ hQ
  rw [State.setPort_g]
  unfold s2
  split
  · rw [State.g_addTo_ne _ _ hE, h1]
  · exact h1

theorem State.g_bookBurst_Q_LAST (hn : n < 64) : (s.bookBurst n charge).g (K.port_Q_LAST n) = min charge 65535 := by
  unfold State.bookBurst
  extract_lets r e s1 s2
  have h1 : s1.g (K.port_Q_LAST n) = min charge 65535 := by
    unfold s1
    rw [State.g_p_same _ _ (isLedKey_port (by decide) hn), satAt_eq_min]
  rw [State.setPort_g]
  unfold s2
  split
  · rw [State.g_addTo_ne _ _ (portKey_ne n (by decide)), h1]
  · exact h1

/-- The energy is booked in the window the burst started in, and in no other (R79). -/
theorem State.g_bookBurst_E_WINDOW (hn : n < 64) : (s.bookBurst n charge).g (K.port_E_WINDOW n) =
    if s.cyc / cycPerSecond = (s.port n).win then
      wrap32 (s.g (K.port_E_WINDOW n) + burstEnergy charge (s.port n).burstMv)
    else s.g (K.port_E_WINDOW n) := by
  unfold State.bookBurst
  extract_lets r e s1 s2
  have h1 : s1.g (K.port_E_WINDOW n) = s.g (K.port_E_WINDOW n) := State.g_p_ne _ _ (portKey_ne n (by decide))
  rw [State.setPort_g]
  unfold s2
  split
  · rw [State.g_addTo_same _ _ (isLedKey_port (by decide) hn), h1]
  · exact h1

/-- A burst that has reached its end is booked, and its charge moves the run of low ones; the third in a row asks for a
check (R87). -/
theorem State.burstEnd_of_over (h : s.burstOver n = true) : ∃ run, s.burstEnd n charge =
      (if run = 3 then ((s.bookBurst n charge).setPort n { (s.bookBurst n charge).port n with lowRun := run }).askCheck
          n
       else (s.bookBurst n charge).setPort n { (s.bookBurst n charge).port n with lowRun := run }) ∧
    ((s.port n).lowRun = 2 → min charge 65535 < s.g (K.port_Q_OPEN n) → run = 3) := by
  unfold State.burstEnd
  rw [h]
  refine ⟨_, rfl, fun hr hq => ?_⟩
  have hlow : (decide (0 < s.g (K.port_Q_OPEN n)) && decide (satAt 65535 charge < s.g (K.port_Q_OPEN n))) = true := by
    rw [satAt_eq_min, Bool.and_eq_true, decide_eq_true_eq, decide_eq_true_eq]
    exact ⟨by omega, hq⟩
  rw [if_pos hlow, hr]
  rfl

/-- An overcurrent books the running burst and fails the port as a short (R86). -/
theorem State.overcurrent_of_bursting (h : (s.port n).bursting = true) :
    ∃ t : State, s.overcurrent n charge = t.portFails n false 0x1002 ∧ (∀ k, t.g k = (s.bookBurst n charge).g k) ∧
      (t.port n).bursting = false := by
  unfold State.overcurrent
  rw [h]
  exact ⟨_, rfl, fun _ => rfl, by rw [State.port_setPort, State.port_bookBurst]⟩

end

/-- What entering OPEN or SHORT leaves of the port's burst: all of it. -/
theorem State.bursting_portFails (s : State) (n : Nat) (isOpen : Bool) (event : Nat) :
    ((s.portFails n isOpen event).port n).bursting = (s.port n).bursting := by
  unfold State.portFails
  extract_lets s1 s2 r
  have h1 : s1.port n = s.port n := by simp [s1, State.syncSilent]
  have h2 : r.bursting = (s.port n).bursting := by
    unfold r s2
    split
    · rw [h1]
    · rw [State.armRecheck, State.port_setPort, h1]
  split
  · rw [(logsOnly.ofQuiet (quiet.react _ _ _ _ _ _ _)).port]
    exact h2
  · split
    · exact h2
    · rw [State.port_setPort]
      exact h2

end Sys2Proof.Machine

namespace Sys2Proof

open Sys2Proof.Machine

/-- Settles O1: a burst that is over and one that an overcurrent cuts are booked by the same `bookBurst`; the first may
ask for a check, the second fails the port. -/
theorem burstsEnd : Obligations.BurstsEnd := by
  unfold Obligations.BurstsEnd
  refine ⟨fun s n charge hp hn h => ?_, fun s n charge hp hn h => ?_⟩
  · have h64 := lt_64_of_lt_nPorts hp hn
    refine yields.fitted (decide_eq_true hn) (yields.confined ?_)
    have kept : ∀ a, ofPort a →
        (s.keepCore (s.burstEnd n charge)).g (a + 256 * n) = (s.burstEnd n charge).g (a + 256 * n) :=
      fun a ha => State.g_keepCore _ _ (isLedKey_port ha h64)
    obtain ⟨run, hEnd, hRun⟩ := s.burstEnd_of_over charge h
    have hg : ∀ a, ofPort a → a ≠ 0x214010 →
        (s.burstEnd n charge).g (a + 256 * n) = (s.bookBurst n charge).g (a + 256 * n) := by
      intro a ha hne
      rw [hEnd]
      split
      · exact State.g_bitTo_ne _ _ _ (portKey_ne n hne)
      · rfl
    have hPort : (s.burstEnd n charge).port n = { (s.bookBurst n charge).port n with lowRun := run } := by
      rw [hEnd]
      split <;> simp [State.askCheck]
    refine ⟨?_, ?_, ?_, fun hr hq => ?_, ?_⟩
    · rw [kept _ (by decide), hg _ (by decide) (by decide), State.g_bookBurst_Q_LAST _ _ h64]
    · rw [State.port_keepCore, hPort, State.port_bookBurst]
    · rw [State.port_keepCore, hPort, State.port_bookBurst]
    · refine (State.st_keepCore _ _ stPEND h64).trans ?_
      rw [hEnd, if_pos (hRun hr hq)]
      exact State.st_bitTo_same _ _ _ h64
    · rw [kept _ (by decide), hg _ (by decide) (by decide), State.g_bookBurst_E_WINDOW _ _ h64]
  · have h64 := lt_64_of_lt_nPorts hp hn
    refine yields.fitted (decide_eq_true hn) (yields.confined ?_)
    obtain ⟨u, hCut, hg, hb⟩ := s.overcurrent_of_bursting charge h
    have hst : ∀ b, (s.keepCore (s.overcurrent n charge)).st n b = (u.judged n false true).st n b := by
      intro b
      rw [State.st_keepCore _ _ _ h64, hCut]
      exact State.st_congr (State.g_portFails u n false _ (sharedKey_port (by decide) h64)) b
    refine ⟨(hst stSHORT).trans (State.st_judged_short _ _ _ h64), (hst stOPEN).trans (State.st_judged_open _ _ _ h64),
      ?_, ?_⟩
    · rw [State.g_keepCore _ _ (isLedKey_port (by decide) h64), hCut,
        State.g_portFails _ _ _ _ (sharedKey_port (by decide) h64), State.g_judged_ne _ _ _ (portKey_ne n (by decide)),
            hg,
        State.g_bookBurst_Q_LAST _ _ h64]
    · rw [State.port_keepCore, hCut, State.bursting_portFails, hb]

end Sys2Proof

namespace Sys2Proof.Machine

open Sys2Proof

-- the shots of an attempt

@[simp] theorem Attempt.shot_setShot (a : Attempt) (d : Dir) (x : Shot) : (a.setShot d x).shot d = x := by
  cases d <;> rfl

theorem Attempt.shot_setShot_ne (a : Attempt) {d e : Dir} (x : Shot) (h : e ≠ d) : (a.setShot d x).shot e = a.shot e :=
  match d, e, h with
  | .dn, .up, _ => rfl
  | .up, .dn, _ => rfl
  | .dn, .dn, h => absurd rfl h
  | .up, .up, h => absurd rfl h

theorem Shot.listens_of_listening {x : Shot} (k : Nat) (h : x.phase = .listening) : x.listens k = true := by
  simp [Shot.listens, h]

theorem Shot.arm_of_window {x : Shot} {k : Nat} (hp : x.phase = .listening) (ha : x.armedAt = none)
    (hw : x.inWindow k = true) : x.arm k = { x with armedAt := some k } :=
  if_pos ⟨Shot.listens_of_listening k hp, ha, hw⟩

/-- A stop that the chain takes is the last of the shot's, and completes it where no more are wanted (R102, R108). -/
theorem Shot.stop_of_taken {x : Shot} {k a : Nat} (code : Nat) (hp : x.phase = .listening) (ha : x.armedAt = some a)
    (hk : a < k) (hw : x.inWindow k = true) (hn : x.stops.length < x.set.stopFirst + x.set.stopCount)
    (hl : x.stops.getLast?.map (·.1) ≠ some k) :
    x.stop k code = if x.stops.length + 1 = x.set.stopFirst + x.set.stopCount then
        { x with stops := x.stops ++ [(k, code)], phase := .complete, doneAt := some (x.completeAt k) }
      else { x with stops := x.stops ++ [(k, code)] } := by
  have hTakes : ¬ ((!x.listens k) = true ∨ (!x.inWindow k) = true ∨ k ≤ a ∨
      x.set.stopFirst + x.set.stopCount ≤ x.stops.length) := by
    rw [Shot.listens_of_listening k hp, hw]
    simp only [Bool.not_true, Bool.false_eq_true, false_or]
    omega
  unfold Shot.stop
  simp only [ha, if_neg hTakes, if_neg hl, List.length_append, List.length_singleton]

theorem Shot.expire_of_listening {x : Shot} (h : x.phase = .listening) :
    x.expire = { x with phase := .complete, doneAt := some (x.winEnd + 1) } := if_pos h

end Sys2Proof.Machine

namespace Sys2Proof

open Sys2Proof.Machine

/-- Settles O3: arming, a stop and the window's end are the shot's own `arm`, `stop` and `expire`. -/
theorem shotCaptures : Obligations.ShotCaptures := by
  unfold Obligations.ShotCaptures
  refine ⟨fun s n d hn hLive hp ha hw => ?_, fun s n code a d hn hLive hp ha hk hw hc hl => ?_,
    fun s n d hn hLive hp hEnd hStop => ?_⟩
  · refine yields.fitted (decide_eq_true hn) (yields.confined ?_)
    rw [if_pos hLive, State.path_keepCore, State.path_setPath, Attempt.shot_setShot, Shot.arm_of_window hp ha hw]
  · refine yields.fitted (decide_eq_true hn) (yields.confined ?_)
    rw [if_pos hLive, State.path_keepCore, State.path_setPath, Attempt.shot_setShot,
        Shot.stop_of_taken code hp ha hk hw hc hl]
    split
    next h => exact ⟨rfl, fun _ => h, fun _ => rfl⟩
    next h => exact ⟨rfl, iff_of_false (fun hq => nomatch hp.symm.trans hq) h⟩
  · refine yields.fitted (decide_eq_true hn) (yields.confined ?_)
    have hOver : ((s.path n).att.live && decide (((s.path n).att.shot d).winEnd ≤ s.shotAt ((s.path n).att.shot d)) &&
        !(decide (((s.path n).att.shot d).winEnd = s.shotAt ((s.path n).att.shot d)) && s.stopComing n d)) = true := by
      rcases hStop with h | h
      · simp [hLive, hEnd, Nat.ne_of_lt h]
      · simp [hLive, hEnd, h]
    rw [if_pos hOver, State.path_keepCore, State.path_setPath, Attempt.shot_setShot, Shot.expire_of_listening hp]
    exact ⟨rfl, rfl⟩

end Sys2Proof

namespace Sys2Proof.Machine

open Sys2Proof

-- calibration

theorem isLedKey_die {a d : Nat} (ha : 0x200000 ≤ a ∧ a < 0x200200) (hd : d < 8) : isLedKey (a + 256 * d) = false := by
  simp only [isLedKey, Bool.and_eq_false_iff, decide_eq_false_iff_not]
  omega

/-- A fitted die is one of the eight that the dictionary has objects for (R1, R5). -/
theorem lt_8_of_lt_dies {s : State} {d : Nat} (hp : partOk s) (hd : d < s.dies) : d < 8 := by omega

theorem indexOf_eq_none {α : Type} {p : α → Bool} {l : List α} : indexOf p l = none ↔ ∀ a ∈ l, p a = false := by
  induction l with
  | nil => simp [indexOf]
  | cons a r ih =>
    cases h : p a <;> simp [indexOf, h, ih]

/-- Every interpolator's U_CAL lies in its band where none is found outside it. -/
theorem indexOf_outOfBand {rs : List CalRes} : indexOf (fun r => !r.inBand) rs = none ↔ rs.all (·.inBand) = true := by
  simp [indexOf_eq_none, List.all_eq_true]

section
variable (s : State) {d : Nat} (hd : d < 8)
include hd

theorem State.g_startFull_CAL_CYC : (s.startFull d).g (K.die_CAL_CYC d) = s.cyc :=
  State.g_p_same _ _ (isLedKey_die (by decide) hd)

theorem State.g_startFull_CAL_STATUS : (s.startFull d).g (K.die_CAL_STATUS d) = 1 := by
  rw [State.startFull, State.g_p_ne _ _ (portKey_ne d (by decide)), State.g_p_same _ _ (isLedKey_die (by decide) hd)]

theorem State.g_calIdle_CAL_STATUS :
    (s.calIdle d).g (K.die_CAL_STATUS d) = if (s.die d).calFailed then 3 else 0 :=
  State.g_p_same _ _ (isLedKey_die (by decide) hd)

end

theorem State.die_startFull (s : State) (d : Nat) :
    ((s.startFull d).die d).calRun = 1 ∧ ((s.startFull d).die d).calFull = false := by
  simp [State.startFull]

theorem State.die_calIdle (s : State) (d : Nat) : (s.calIdle d).die d = { s.die d with calRun := 0 } := by
  simp [State.calIdle]

/-- A calibration that some U_CAL fails keeps its tables (R112, R139). -/
theorem State.endFull_of_outOfBand (s : State) {d : Nat} {rs : List CalRes} (hd : d < 8)
    (h : rs.all (·.inBand) = false) :
    (s.endFull d rs).g (K.die_CAL_STATUS d) = 3 ∧ ((s.endFull d rs).die d).interp = (s.die d).interp ∧
      ((s.endFull d rs).die d).calRun = 0 := by
  unfold State.endFull
  split
  next i _ =>
    have same := (logsOnly.ofQuiet (quiet.ev ((s.setDie d { s.die d with calFailed := true }).calIdle d) d 2 d 0x1011
        [i])).dies d
    refine ⟨?_, ?_, ?_⟩
    · rw [State.g_ev _ _ _ _ _ _ (by grind [sharedKey]), State.g_calIdle_CAL_STATUS _ hd, State.die_setDie]
      rfl
    · rw [same.eq (·.interp) (fun _ _ _ => rfl), State.die_calIdle, State.die_setDie]
    · rw [same.eq (·.calRun) (fun _ _ _ => rfl), State.die_calIdle]
  next hi =>
    rw [indexOf_outOfBand.mp hi] at h
    cases h

/-- A calibration that every U_CAL passes stores its tables and INL_MAX (R112, R140). -/
theorem State.endFull_of_inBand (s : State) {d : Nat} {rs : List CalRes} (hd : d < 8) (h : rs.all (·.inBand) = true) :
    (s.endFull d rs).g (K.die_CAL_STATUS d) = 0 ∧ ((s.endFull d rs).die d).interp = rs ∧
      (s.endFull d rs).g (K.die_INL_MAX d) = min (inlMax rs) 65535 ∧ ((s.endFull d rs).die d).calRun = 0 := by
  unfold State.endFull
  rw [indexOf_outOfBand.mpr h]
  have same := (logsOnly.ofQuiet (quiet.ev (((s.setDie d { s.die d with calFailed := false, interp := rs }).calIdle d).p
    (K.die_INL_MAX d) (satAt 65535 (inlMax rs))) d 2 d 0x1011 [0xFF])).dies d
  refine ⟨?_, ?_, ?_, ?_⟩
  · rw [State.g_ev _ _ _ _ _ _ (by grind [sharedKey]), State.g_p_ne _ _ (portKey_ne d (by decide)),
      State.g_calIdle_CAL_STATUS _ hd, State.die_setDie]
    rfl
  · rw [same.eq (·.interp) (fun _ _ _ => rfl), State.die_p, State.die_calIdle, State.die_setDie]
  · rw [State.g_ev _ _ _ _ _ _ (by grind [sharedKey]), State.g_p_same _ _ (isLedKey_die (by decide) hd), satAt_eq_min]
  · rw [same.eq (·.calRun) (fun _ _ _ => rfl), State.die_p, State.die_calIdle]

end Sys2Proof.Machine

namespace Sys2Proof

open Sys2Proof.Machine

/-- Settles O4: a start is `startFull` or the quick one, an end goes through `calIdle`, and a quick check that fails
ends in `startFull`. -/
theorem calibrationRuns : Obligations.CalibrationRuns := by
  unfold Obligations.CalibrationRuns
  refine ⟨fun s d hp hd hAsk hIdle hQuiet hPlace => ?_, fun s d rs hp hd hRun hOver hOk => ?_,
    fun s d hp hd hAsk hNoFull hIdle hQuiet hPlace => ?_, fun s d m hp hd hRun hOver hOk => ?_⟩
  all_goals
    have h8 := lt_8_of_lt_dies hp hd
    have kept : ∀ a, 0x200000 ≤ a ∧ a < 0x200200 → ∀ t : State, (s.keepCore t).g (a + 256 * d) = t.g (a + 256 * d) :=
      fun a ha t => State.g_keepCore s t (isLedKey_die ha h8)
    refine yields.fitted (decide_eq_true hd) (yields.whenTrue ?_ ?_)
  · simp [hAsk, hIdle, hQuiet, hPlace]
  · rw [kept _ (by decide), kept _ (by decide), State.die_keepCore,
      State.g_startFull_CAL_STATUS s h8, State.g_startFull_CAL_CYC s h8]
    exact ⟨rfl, rfl, State.die_startFull s d⟩
  · simp [hRun, hOver, hOk]
  · rw [kept _ (by decide), kept _ (by decide), State.die_keepCore]
    cases hBand : rs.all (·.inBand) with
    | true =>
      obtain ⟨hStatus, hTables, hMax, hDone⟩ := s.endFull_of_inBand h8 hBand
      exact ⟨hDone, hStatus, hTables, hMax⟩
    | false =>
      obtain ⟨hStatus, hTables, hDone⟩ := s.endFull_of_outOfBand h8 hBand
      exact ⟨hDone, hStatus, hTables⟩
  · simp [hAsk, hNoFull, hIdle, hQuiet, hPlace]
  · rw [kept _ (by decide), State.die_keepCore,
      State.g_p_same _ _ (isLedKey_die (by decide) h8), State.die_p, State.die_setDie]
    exact ⟨rfl, rfl, rfl⟩
  · simp [hRun, hOver, hOk]
  · rw [kept _ (by decide), State.die_keepCore, State.endQuick]
    split
    · rw [State.g_calIdle_CAL_STATUS _ h8, State.die_calIdle]
      exact ⟨rfl, rfl⟩
    · rw [State.g_startFull_CAL_STATUS _ h8]
      exact ⟨rfl, (State.die_startFull _ d).1⟩

end Sys2Proof
end

section
/-! Frames that other commands of the same cycle break: where the queue holds the command of a lower engine or section,
that one is served first (R23, R189, R220). -/

namespace Sys2Proof

open Sys2Proof.Machine

/-- Path 0 waits for its retry in the next cycle, and its command waits in the queue; its die is not up. -/
def retryWaiting : State :=
  { paths := [(0, { slot := { live := true, last := some .L, retryMax := 1, pairLen := 1 } })]
    pending := [.attemptStart 0 0] }

def nothingMeasured : ShotMeas := { amp := 0, w1 := 0, w2 := 0, w3 := 0, u1 := 0, u2 := 0 }

/-- Refutes O57: ATTEMPT_START of path 1 first serves the attempt that path 0, a lower engine of its die, waits for in
the same cycle (R23, R189): here a retry that is withheld, so that the slot of path 0 ends (R163). -/
theorem not_pathFrames : ¬ Obligations.PathFrames := by
  unfold Obligations.PathFrames
  rintro ⟨-, -, h, -, -, -⟩
  obtain ⟨-, hPaths, -⟩ := h retryWaiting _ 1 0 .dn nothingMeasured [] ⟨[], nothingMeasured⟩ ⟨[], nothingMeasured⟩
    (.attemptStart 1 0) List.mem_cons_self rfl
  exact absurd (congrArg (fun r => r.slot.live) (hPaths 0 (by decide))) (by decide +kernel)

end Sys2Proof

namespace Sys2Proof

open Sys2Proof.Machine

/-- Section 0, which uses no path, waits to compute a frame, and its command waits in the queue. -/
def lowerWaiting : State :=
  { sects := [(0, { work := [{ frameNo := 0, frameSeq := 0, epoch := 0, waits := [] }] })]
    pending := [.sectionComputation 0] }

/-- Refutes O58: SECTION_COMPUTATION of section 1 first computes section 0, whose command waits in the same cycle
(R220): its frame leaves the work of section 0. -/
theorem not_flowFrames : ¬ Obligations.FlowFrames := by
  unfold Obligations.FlowFrames
  rintro ⟨h, -⟩
  obtain ⟨-, hSects, -⟩ := h lowerWaiting _ 1 rfl
  exact absurd (congrArg (fun r => r.work.length) (hSects 0 (by decide))) (by decide +kernel)

end Sys2Proof
end

section
/-! The ember domain and D0's clock: what the ember's events show (R368 to R390), the accesses at its port (R381 to
R383), and what D0 makes of its reports (R329, R342, R357, R506). -/

namespace Sys2Proof.Machine

open Sys2Proof

-- the ember's entries and record

theorem State.es_setEs_same (s : State) (n : Nat) (b : Bool) : (s.setEs n b).es n = b :=
  State.bit_bitTo_same _ _ _ (by decide)

theorem State.es_setEs_ne (s : State) {n m : Nat} (b : Bool) (h : m ≠ n) : (s.setEs n b).es m = s.es m :=
  State.bit_bitTo_ne _ _ h

theorem State.g_setEs (s : State) (n : Nat) (b : Bool) {k : Nat} (h : k ≠ K.emb_EMBER_STAT) :
    (s.setEs n b).g k = s.g k :=
  State.g_bitTo_ne _ _ _ h

theorem State.es_p (s : State) {k : Nat} (v n : Nat) (h : K.emb_EMBER_STAT ≠ k) : (s.p k v).es n = s.es n :=
  congrArg (bitAt · n) (State.g_p_ne s v h)

@[simp] theorem State.ember_setEs (s : State) (n : Nat) (b : Bool) : (s.setEs n b).ember = s.ember := by
    simp [State.setEs]
@[simp] theorem State.cyc_setEs (s : State) (n : Nat) (b : Bool) : (s.setEs n b).cyc = s.cyc := by simp [State.setEs]

@[simp] theorem State.g_withEmber (s : State) (e : EmberRt) (k : Nat) :
    ({ s with ember := e } : State).g k = s.g k := rfl
@[simp] theorem State.es_withEmber (s : State) (e : EmberRt) (n : Nat) :
    ({ s with ember := e } : State).es n = s.es n := rfl
@[simp] theorem State.ecfg_withEmber (s : State) (e : EmberRt) (n : Nat) :
    ({ s with ember := e } : State).ecfg n = s.ecfg n :=
  rfl

theorem State.ecfg_setEs (s : State) (n m : Nat) (b : Bool) : (s.setEs n b).ecfg m = s.ecfg m :=
  congrArg (bitAt · m) (State.g_setEs s n b (by decide))

@[simp] theorem State.ember_keepCore (s t : State) : (s.keepCore t).ember = t.ember := rfl

@[simp] theorem State.es_keepCore (s t : State) (n : Nat) : (s.keepCore t).es n = t.es n := by
  simp only [State.es, State.bit]
  rw [State.g_keepCore _ _ (by decide)]

/-- A wake request touches the record of its die alone (R536, R537). -/
theorem State.wake_cases (s : State) (d : Nat) : s.wake d = s ∨
    ∃ w a, s.wake d = s.setDie d { s.die d with waking := w, wakeAt := a } := by
  unfold State.wake
  extract_lets r b
  have hb : ∀ n, b n = s ∨ ∃ w a, b n = s.setDie d { s.die d with waking := w, wakeAt := a } := fun n => by
    unfold b
    split
    · exact .inl rfl
    · exact .inr ⟨_, _, rfl⟩
  split
  case h_1 => exact .inr ⟨_, _, rfl⟩
  all_goals exact hb _

theorem State.wake_keeps {β : Type} (s : State) (d : Nat) (f : State → β) (hf : ∀ r, f (s.setDie d r) = f s) :
    f (s.wake d) = f s := by
  rcases s.wake_cases d with h | ⟨w, a, h⟩ <;> rw [h]
  exact hf _

@[simp] theorem State.g_wake (s : State) (d k : Nat) : (s.wake d).g k = s.g k := s.wake_keeps d (·.g k) fun _ => rfl
@[simp] theorem State.ember_wake (s : State) (d : Nat) : (s.wake d).ember = s.ember :=
  s.wake_keeps d (·.ember) fun _ => rfl
@[simp] theorem State.cyc_wake (s : State) (d : Nat) : (s.wake d).cyc = s.cyc := s.wake_keeps d (·.cyc) fun _ => rfl

theorem State.emberWake_cases (s : State) : s.emberWake = s ∨ s.emberWake = s.wake 0 := by
  unfold State.emberWake
  split
  · exact .inl rfl
  · exact .inr rfl

@[simp] theorem State.g_emberWake (s : State) (k : Nat) : s.emberWake.g k = s.g k := by
  rcases s.emberWake_cases with h | h <;> simp [h]
@[simp] theorem State.ember_emberWake (s : State) : s.emberWake.ember = s.ember := by
  rcases s.emberWake_cases with h | h <;> simp [h]
@[simp] theorem State.es_emberWake (s : State) (n : Nat) : s.emberWake.es n = s.es n :=
  congrArg (bitAt · n) (s.g_emberWake _)

theorem State.es_assertPwron_same (s : State) : s.assertPwron.es esPWRON = true := s.es_setEs_same _ _
theorem State.es_assertPwron_ne (s : State) {n : Nat} (h : n ≠ esPWRON) : s.assertPwron.es n = s.es n :=
  s.es_setEs_ne _ h
theorem State.g_assertPwron (s : State) {k : Nat} (h : k ≠ K.emb_EMBER_STAT) : s.assertPwron.g k = s.g k :=
  s.g_setEs _ _ h
theorem State.ember_assertPwron (s : State) : s.assertPwron.ember = { s.ember with pwronAt := s.cyc + 1 } := rfl

-- the alarm, WAKE and the second tick

/-- The alarm sets ALARM and PWRON at most, and of the ember's record counts itself and marks PWRON's cycle (R384). -/
theorem State.alarm_keeps (s : State) : (∀ n, n ≠ esALARM → n ≠ esPWRON → s.alarm.es n = s.es n) ∧
    (∀ k, k ≠ K.emb_EMBER_STAT → s.alarm.g k = s.g k) ∧
    ∃ a p, s.alarm.ember = { s.ember with alarms := a, pwronAt := p } := by
  unfold State.alarm
  split
  · exact ⟨fun _ _ _ => rfl, fun _ _ => rfl, _, _, rfl⟩
  · extract_lets v e s1 s2
    have he : ∀ n, n ≠ esALARM → s2.es n = s.es n := fun n hn => by
      unfold s2
      split
      · exact (s1.es_emberWake n).trans (s.es_setEs_ne _ hn)
      · exact s.es_setEs_ne _ hn
    have hg : ∀ k, k ≠ K.emb_EMBER_STAT → s2.g k = s.g k := fun k hk => by
      unfold s2
      split
      · exact (s1.g_emberWake k).trans (s.g_setEs _ _ hk)
      · exact s.g_setEs _ _ hk
    have hr : s2.ember = { s.ember with alarms := (s.ember.alarms + 1) % 256 } := by
      unfold s2
      split <;> simp [s1, e]
    split
    · exact ⟨fun n ha hp => (s2.es_assertPwron_ne hp).trans (he n ha),
        fun k hk => (s2.g_assertPwron hk).trans (hg k hk), _, _, by rw [State.ember_assertPwron, hr]⟩
    · exact ⟨fun n ha _ => he n ha, hg, _, _, hr⟩

theorem State.es_alarm (s : State) (h : s.ember.sec = s.g K.emb_ALARM_SEC) : s.alarm.es esALARM = true := by
  unfold State.alarm
  rw [if_neg (not_not.mpr h)]
  extract_lets v e s1 s2
  have h2 : s2.es esALARM = true := by
    unfold s2
    split
    · exact (s1.es_emberWake _).trans (s.es_setEs_same _ _)
    · exact s.es_setEs_same _ _
  split
  · rw [State.es_assertPwron_ne _ (by decide), h2]
  · exact h2

theorem State.acceptWake_shows (s : State) : s.acceptWake.es esWAKE_SEEN = true ∧
    s.acceptWake.ember.wakes = (s.ember.wakes + 1) % 256 ∧ (s.ecfg 2 = true → s.acceptWake.es esPWRON = true) := by
  unfold State.acceptWake
  extract_lets v e s1 s2
  have hs : s2.es esWAKE_SEEN = true := by
    unfold s2
    split
    · exact (s1.es_emberWake _).trans (s.es_setEs_same _ _)
    · exact s.es_setEs_same _ _
  have hw : s2.ember.wakes = (s.ember.wakes + 1) % 256 := by
    unfold s2
    split <;> simp [s1]
  split
  · exact ⟨(s2.es_assertPwron_ne (by decide)).trans hs, hw, fun _ => s2.es_assertPwron_same⟩
  next h => exact ⟨hs, hw, fun hc => absurd hc h⟩

/-- The year's end moves two bits of EMBER_STAT alone (R375). -/
theorem State.yearOver_keeps (s : State) (b : Bool) : (∀ k, k ≠ K.emb_EMBER_STAT → (s.yearOver b).g k = s.g k) ∧
    ∃ y, (s.yearOver b).ember = { s.ember with years := y } := by
  unfold State.yearOver
  split
  · exact ⟨fun k hk => (State.g_setEs _ _ _ hk).trans (State.g_setEs _ _ _ hk), _, rfl⟩
  · exact ⟨fun _ _ => rfl, _, rfl⟩

/-- A second tick moves SEC by one, and of the entries EMBER_STAT alone (R373). -/
theorem State.tickClock_shows (s : State) : s.tickClock.ember.sec = wrap32 (s.ember.sec + 1) ∧
    s.tickClock.ember.ticks = s.ember.ticks ∧ ∀ k, k ≠ K.emb_EMBER_STAT → s.tickClock.g k = s.g k := by
  have hs : s.ember.second.sec = s.ember.sec := by
    unfold EmberRt.second EmberRt.pass
    split <;> rfl
  have ht : s.ember.second.ticks = s.ember.ticks := by
    unfold EmberRt.second EmberRt.pass
    split <;> rfl
  have of_year : ∀ (e : EmberRt) (b : Bool), e.sec = wrap32 (s.ember.second.sec + 1) → e.ticks = s.ember.second.ticks →
      (State.yearOver { s with ember := e } b).ember.sec = wrap32 (s.ember.sec + 1) ∧
      (State.yearOver { s with ember := e } b).ember.ticks = s.ember.ticks ∧
      ∀ k, k ≠ K.emb_EMBER_STAT → (State.yearOver { s with ember := e } b).g k = s.g k := by
    intro e b hes het
    obtain ⟨hg, y, he⟩ := State.yearOver_keeps { s with ember := e } b
    rw [he]
    exact ⟨by rw [← hs]; exact hes, het.trans ht, hg⟩
  unfold State.tickClock
  extract_lets e sec c
  by_cases hm : (if e.modeAt = s.cyc + 1 then e.modeWas else e.mode) = 0
  · rw [if_pos hm]
    exact of_year { e with sec := sec, cal := if e.mode = 0 then e.cal else calWord (binFields sec) } _ rfl rfl
  · rw [if_neg hm]
    exact of_year { e with sec := sec, cal := calWord c.1 } _ rfl rfl

theorem State.tickRest_shows (s : State) (vbat : Nat) : (s.tickRest vbat).ember.sec = s.ember.sec ∧
    (s.tickRest vbat).ember.ticks = wrap32 (s.ember.ticks + 1) ∧
        (vbat < 2000 → (s.tickRest vbat).es esCELL_LOW = true) ∧
    ∀ k, k ≠ K.emb_EMBER_STAT → (s.tickRest vbat).g k = s.g k := by
  unfold State.tickRest
  extract_lets e l s1
  split
  next h => exact ⟨by simp [s1, e], by simp [s1, e], fun _ => State.es_setEs_same _ _ _, fun k hk =>
      State.g_setEs _ _ _ hk⟩
  next h => exact ⟨rfl, rfl, fun hv => absurd hv h, fun _ _ => rfl⟩

/-- What a second tick shows (R370, R373, R384). -/
theorem State.secondTick_shows (s : State) (vbat : Nat) : (s.secondTick vbat).ember.sec = wrap32 (s.ember.sec + 1) ∧
    (s.secondTick vbat).ember.ticks = wrap32 (s.ember.ticks + 1) ∧
    (vbat < 2000 → (s.secondTick vbat).es esCELL_LOW = true) ∧
    (wrap32 (s.ember.sec + 1) = s.g K.emb_ALARM_SEC → (s.secondTick vbat).es esALARM = true) := by
  obtain ⟨cs, ct, cg⟩ := s.tickClock_shows
  obtain ⟨rs, rt, rc, rg⟩ := s.tickClock.tickRest_shows vbat
  obtain ⟨ae, _, a, p, ar⟩ := (s.tickClock.tickRest vbat).alarm_keeps
  refine ⟨?_, ?_, fun hv => ?_, fun hs => State.es_alarm _ ?_⟩
  · rw [State.secondTick, ar, ← cs, ← rs]
  · rw [State.secondTick, ar, ← ct, ← rt]
  · exact (ae _ (by decide) (by decide)).trans (rc hv)
  · rw [rs, cs, rg _ (by decide), cg _ (by decide), hs]

-- tamper inputs

theorem tampKey_cases {i : Nat} (h : i < 2) : i = 0 ∧ tampKey i = K.emb_TAMP0_COUNT ∨ i = 1 ∧
    tampKey i = K.emb_TAMP1_COUNT := by
  rcases Nat.lt_succ_iff_lt_or_eq.mp h with h | h
  · obtain rfl : i = 0 := by omega
    exact .inl ⟨rfl, rfl⟩
  · subst h
    exact .inr ⟨rfl, rfl⟩

/-- An episode counts, keeps its time and disarms its input (R387). -/
theorem State.tamper_shows (s : State) {i : Nat} (hi : i < 2) (he : s.ecfg (7 + i) = true)
    (ha : (if i = 0 then s.ember.armed0 else s.ember.armed1) = true) :
    (s.tamper i).es (esTAMP0 + i) = true ∧ (s.tamper i).g (tampKey i) = min 65535 (s.g (tampKey i) + 1) ∧
      (s.tamper i).g (tampKey i + 2) = s.ember.sec ∧
      (if i = 0 then (s.tamper i).ember.armed0 else (s.tamper i).ember.armed1) = false := by
  have hk : isLedKey (tampKey i) = false ∧ isLedKey (tampKey i + 2) = false ∧ tampKey i ≠ K.emb_EMBER_STAT ∧
      tampKey i + 2 ≠ K.emb_EMBER_STAT := by
    rcases tampKey_cases hi with ⟨_, h⟩ | ⟨_, h⟩ <;> rw [h] <;> decide
  obtain ⟨hl, hl2, hne, hne2⟩ := hk
  unfold State.tamper
  extract_lets e armed k s1 s2 s3
  rw [if_neg (by simp [he, armed, e, ha])]
  have hs : s2.es (esTAMP0 + i) = true := State.es_setEs_same _ _ _
  have hc : s2.g k = min 65535 (s.g k + 1) := by
    unfold s2
    rw [State.g_setEs _ _ _ hne, State.g_p_ne _ _ (by omega), State.g_p_same _ _ hl, satAt_eq_min, Nat.min_comm]
  have ht : s2.g (k + 2) = s.ember.sec := by
    unfold s2
    rw [State.g_setEs _ _ _ hne2, State.g_p_same _ _ hl2]
  have hs3 : s3.es (esTAMP0 + i) = true := hs
  have hr : (if i = 0 then s3.ember.armed0 else s3.ember.armed1) = false := by
    unfold s3
    split <;> simp [*]
  split
  · exact ⟨(s3.es_assertPwron_ne (by simp)).trans hs3, (s3.g_assertPwron hne).trans hc,
      (s3.g_assertPwron hne2).trans ht, hr⟩
  · exact ⟨hs3, hc, ht, hr⟩

theorem State.oscStop_shows (s : State) : s.oscStop.es esOSC_STOP = true ∧ s.oscStop.es esRTC_INV = true ∧
    s.oscStop.ember.xchkOpen = none ∧ (s.ember.xchkOpen.isSome = true → s.oscStop.g K.emb_XCHK_STAT = 3) := by
  unfold State.oscStop
  extract_lets e v s1
  have ho : s1.es esOSC_STOP = true := ((s.setEs esOSC_STOP true).es_setEs_ne _ (by decide)).trans (s.es_setEs_same _ _)
  have hi : s1.es esRTC_INV = true := State.es_setEs_same _ _ _
  split
  · refine ⟨?_, ?_, ?_, fun _ => State.g_p_same _ _ (by decide)⟩
    · rw [State.es_p _ _ _ (by decide), ho]
    · rw [State.es_p _ _ _ (by decide), hi]
    · simp [s1]
  next h => exact ⟨ho, hi, rfl, fun hc => absurd hc h⟩

theorem Tab.look_keep {α : Type} (p : Nat → Bool) (t : Tab α) (d : α) (k : Nat) :
    (t.keep p).look d k = if p k = true then t.look d k else d := by
  induction t with
  | nil => simp [Tab.keep, Tab.look]
  | cons e r ih =>
    by_cases he : p e.1 = true
    · rw [Tab.keep, List.filter_cons_of_pos (p := fun x : Nat × α => p x.1) he]
      simp only [Tab.look]
      split
      next h => rw [← h, if_pos he]
      next h => exact ih
    · rw [Tab.keep, List.filter_cons_of_neg (p := fun x : Nat × α => p x.1) he]
      refine ih.trans ?_
      simp only [Tab.look]
      split
      next hp =>
        rw [if_neg (by rintro rfl; exact he hp)]
      next hp => rfl

/-- A POR leaves the ember's entries at their defaults (R371). -/
theorem State.g_emberPor (s : State) {k : Nat} (hl : isLedKey k = false) (hk : k / 256 = 0x2800)
    (hn : k ≠ K.emb_EMBER_STAT) :
    s.emberPor.g k = defaultOf k := by
  unfold State.emberPor
  extract_lets s1
  rw [State.g_setEs _ _ _ hn]
  simp [State.g, hl, s1, hk, Tab.look_keep]

theorem State.es_emberPor (s : State) {n : Nat} (hn : n ≠ esSUPPLY) :
    s.emberPor.es n = bitAt (defaultOf K.emb_EMBER_STAT) n := by
  unfold State.emberPor
  extract_lets s1
  rw [State.es_setEs_ne _ _ hn, State.es, State.bit]
  simp [State.g, show isLedKey K.emb_EMBER_STAT = false by decide, s1, Tab.look_keep,
      show K.emb_EMBER_STAT / 256 = 0x2800 by decide]

end Sys2Proof.Machine

namespace Sys2Proof

open Sys2Proof.Machine

/-- Settles O34: each event of the ember is one update of its record and of EMBER_STAT, and shows what it set. -/
theorem emberEvents : Obligations.EmberEvents := by
  unfold Obligations.EmberEvents
  refine ⟨fun s => ?_, fun s vm vb hv hl hm => ?_, fun s vm vb hv hl => ?_, fun s vb hv hl => ?_, fun s vb => ?_,
    fun s high hh => ?_, fun s hs hp => ?_, fun s i high hi ha he hr => ?_, fun s i high hi he ha => ?_, fun s => ?_,
    fun s c hc ho hg => ?_⟩
  · refine yields.confined ⟨?_, ?_, ?_, ?_, ?_, ?_, ?_⟩
    · rw [State.ember_keepCore]
      rfl
    · rw [State.es_keepCore, State.es_emberPor _ (by decide)]
      decide
    · rw [State.es_keepCore, State.es_emberPor _ (by decide)]
      decide
    · rw [State.es_keepCore, State.es_emberPor _ (by decide)]
      decide
    · rw [State.es_keepCore, State.es_emberPor _ (by decide)]
      decide
    · rw [State.es_keepCore]
      exact State.es_setEs_same _ _ _
    · rw [State.g_keepCore _ _ (by decide), State.g_emberPor _ (by decide) (by decide) (by decide)]
      decide
  · refine yields.confined ?_
    rw [State.switchSupply, if_pos hv, if_pos ⟨hl, hm⟩]
    exact ⟨by simp, (State.es_keepCore _ _ _).trans (State.es_setEs_same _ _ _)⟩
  · refine yields.confined ?_
    rw [State.switchSupply, if_neg (by simp [hv]), if_pos hl]
    exact ⟨by simp, (State.es_keepCore _ _ _).trans (State.es_setEs_same _ _ _)⟩
  · exact yields.whenTrue (by simp [hv, hl]) rfl
  · refine yields.confined ?_
    by_cases h : s.ember.wroteAt = s.cyc + 1
    · rw [if_pos h, if_pos (.inl h)]
      exact ⟨rfl, rfl⟩
    rw [if_neg h]
    by_cases hw : s.timeWriteComing = true
    · rw [if_pos hw, if_pos (.inr hw)]
      exact ⟨rfl, rfl⟩
    rw [if_neg hw, if_neg (not_or.mpr ⟨h, hw⟩)]
    obtain ⟨hs, ht, hc, ha⟩ := s.secondTick_shows vb
    exact ⟨hs, ht, fun h => (State.es_keepCore _ _ _).trans (hc h), fun h => (State.es_keepCore _ _ _).trans (ha h)⟩
  · refine yields.whenTrue hh ?_
    obtain ⟨hs, hw, hp⟩ := s.acceptWake_shows
    exact ⟨(State.es_keepCore _ _ _).trans hs, hw, fun h => (State.es_keepCore _ _ _).trans (hp h)⟩
  · refine yields.whenTrue ⟨hs, hp⟩ ?_
    show (s.ember.pass (s.ember.period + 1)).trim = _
    rw [EmberRt.pass, if_neg (by omega)]
  · show yields (if i < 2 then _ else _) _
    rw [if_pos hi]
    refine yields.whenTrue ha ?_
    obtain ⟨hs, hc, ht, hd⟩ := s.tamper_shows hi he hr
    have hk : isLedKey (tampKey i) = false ∧ isLedKey (tampKey i + 2) = false := by
      rcases tampKey_cases hi with ⟨_, h⟩ | ⟨_, h⟩ <;> rw [h] <;> decide
    exact ⟨(State.es_keepCore _ _ _).trans hs, (State.g_keepCore _ _ hk.1).trans hc,
        (State.g_keepCore _ _ hk.2).trans ht, hd⟩
  · show yields (if i < 2 then _ else _) _
    rw [if_pos hi]
    refine yields.whenTrue (by simp [he, ha]) ?_
    split <;> simp [*]
  · refine yields.confined ?_
    obtain ⟨ho, hi, hx, hf⟩ := s.oscStop_shows
    exact ⟨(State.es_keepCore _ _ _).trans ho, (State.es_keepCore _ _ _).trans hi, hx,
      fun h => (State.g_keepCore _ _ (by decide)).trans (hf h)⟩
  · show yields (if two64 ≤ c then _ else _) _
    rw [if_neg (by omega)]
    refine yields.whenTrue (by simp [ho, hg]) ⟨?_, ?_, ?_⟩
    · rw [State.g_keepCore _ _ (by decide)]
      exact (State.g_p_ne _ _ (show K.emb_XCHK_COUNT ≠ K.emb_XCHK_STAT by decide)).trans
        (State.g_p_same _ _ (show isLedKey K.emb_XCHK_COUNT = false by decide))
    · rw [State.g_keepCore _ _ (by decide)]
      exact State.g_p_same _ _ (show isLedKey K.emb_XCHK_STAT = false by decide)
    · simp [State.ps]

end Sys2Proof

namespace Sys2Proof

open Sys2Proof.Machine

-- what updates that log leave of the rest

theorem logsOnly.eq {β : Type} {s t : State} (h : logsOnly s t) (f : State → β)
    (hf : ∀ od net lag dieRt once standing, f { s with
      od := od, net := net, lag := lag, dieRt := dieRt, once := once, standing := standing } = f s) : f t = f s := by
  rw [h.rest]
  exact hf _ _ _ _ _ _

theorem quiet.eq {β : Type} {s t : State} (h : quiet s t) (f : State → β)
    (hf : ∀ od net lag dieRt once standing, f { s with
      od := od, net := net, lag := lag, dieRt := dieRt, once := once, standing := standing } = f s) : f t = f s :=
  (logsOnly.ofQuiet h).eq f hf

/-- What a die's record holds beside its kiln-log queue stays. -/
theorem sameQueue.eq {β : Type} {a b : DieRt} (h : sameQueue a b) (f : DieRt → β)
    (hf : ∀ q d, f { a with logQ := q, qdrop := d } = f a) : f b = f a := by
  rw [h]; exact hf _ _

end Sys2Proof

namespace Sys2Proof.Machine

open Sys2Proof

/-- A declaration moves the COUNT of its die (R53). -/
theorem State.count_declare (s : State) (d level loc event : Nat) (data : List Nat) :
    ((s.declare d level loc event data).die d).count = nextCount (s.die d).count := by
  unfold State.declare
  extract_lets serial _ s1 s2
  have h1 : (s1.die d).count = nextCount (s.die d).count := by simp [s1]
  have h2 : s2.die d = s1.die d := by unfold s2; split <;> rfl
  rw [(((quiet.raise s2 d level loc event 1 serial data).trans (quiet.syncErr _)).dies d).eq (·.count) fun _ _ => rfl,
      h2,
    h1]

/-- Faults of other dies leave a die's COUNT. -/
theorem State.count_declare_ne (s : State) {d e : Nat} (level loc event : Nat) (data : List Nat) (h : e ≠ d) :
    ((s.declare d level loc event data).die e).count = (s.die e).count := by
  unfold State.declare
  extract_lets serial _ s1 s2
  have h1 : s1.die e = s.die e := State.die_setDie_ne _ _ h
  have h2 : s2.die e = s1.die e := by unfold s2; split <;> rfl
  rw [(((quiet.raise s2 d level loc event 1 serial data).trans (quiet.syncErr _)).dies e).eq (·.count) fun _ _ => rfl,
      h2,
    h1]

-- D0's clock

/-- What D0 knows of the time stays: the ember's record and last snapshot, CLOCK_INV, its seconds and its cycle-timed
interval. -/
structure keepsClock (s t : State) : Prop where
  ember : t.ember = s.ember
  invalid : t.cal csCLOCK_INV = s.cal csCLOCK_INV
  rtc : t.bill.rtc = s.bill.rtc
  intEnd : t.bill.intEnd = s.bill.intEnd
  snapshot : t.g K.emb_RTC_BIN = s.g K.emb_RTC_BIN

namespace keepsClock

theorem refl (s : State) : keepsClock s s := ⟨rfl, rfl, rfl, rfl, rfl⟩

theorem trans {s t u : State} (a : keepsClock s t) (b : keepsClock t u) : keepsClock s u :=
  ⟨b.ember.trans a.ember, b.invalid.trans a.invalid, b.rtc.trans a.rtc, b.intEnd.trans a.intEnd,
    b.snapshot.trans a.snapshot⟩

theorem ofQuiet {s t : State} (h : quiet s t) : keepsClock s t where
  ember := h.eq (·.ember) fun _ _ _ _ _ _ => rfl
  invalid := congrArg (bitAt · csCLOCK_INV) (h.entries _ (by decide))
  rtc := h.eq (·.bill.rtc) fun _ _ _ _ _ _ => rfl
  intEnd := h.eq (·.bill.intEnd) fun _ _ _ _ _ _ => rfl
  snapshot := h.entries _ (by decide)

theorem p (s : State) {k : Nat} (v : Nat) (h : K.cal_CAL_STAT ≠ k) (hb : K.emb_RTC_BIN ≠ k) : keepsClock s (s.p k v) :=
  ⟨by simp, congrArg (bitAt · csCLOCK_INV) (State.g_p_ne s v h), by simp, by simp, State.g_p_ne s v hb⟩

theorem setCal (s : State) {n : Nat} (b : Bool) (h : csCLOCK_INV ≠ n) : keepsClock s (s.setCal n b) :=
  ⟨by simp [State.setCal], State.bit_bitTo_ne _ _ h, by simp [State.setCal], by simp [State.setCal],
    State.g_bitTo_ne _ _ _ (by decide)⟩

theorem syncKeys (s : State) : keepsClock s s.syncKeys := by
  unfold State.syncKeys
  split <;> exact (p _ _ (by decide) (by decide)).trans (p _ _ (by decide) (by decide))

theorem evalTariff (s : State) : keepsClock s s.evalTariff.1 :=
  ((p _ _ (by decide) (by decide)).trans (p _ _ (by decide) (by decide))).trans (setCal _ _ (by decide))

theorem raiseBkey (s : State) (k : Nat) : keepsClock s (s.raiseBkey k) := p _ _ (by decide) (by decide)

theorem dueCloses (s : State) (k : Nat) : keepsClock s (s.dueCloses k).1 := by
  unfold State.dueCloses
  split
  · exact raiseBkey s k
  · exact refl s

theorem dropManual (s : State) : keepsClock s s.dropManual := by
  unfold State.dropManual
  split
  · exact ⟨rfl, rfl, rfl, rfl, rfl⟩
  · exact refl s

theorem stage (s : State) (p : Plan) : keepsClock s (s.stage p).1 := by
  unfold State.stage
  extract_lets excess keys s1 close switches
  have h1 : keepsClock s s1 := by
    unfold s1
    split
    · exact refl s
    · exact ofQuiet (quiet.evChip _ _ _)
  split
  · exact h1
  · exact ⟨h1.ember, h1.invalid, h1.rtc, h1.intEnd, h1.snapshot⟩

/-- A minute tick stages closes and shows keys; the seconds are not its own (R337). -/
theorem minuteTick (s : State) (n : Nat) : keepsClock s (s.minuteTick n) := by
  unfold State.minuteTick
  extract_lets f k _ s1 first d s2 s3 e ci r t
  have h1 : keepsClock s s1 := by
    unfold s1
    split
    · exact refl s
    · have h : keepsClock s { s with bill := { s.bill with sched := none } } := ⟨rfl, rfl, rfl, rfl, rfl⟩
      exact h.trans (raiseBkey _ k)
  have h2 : keepsClock s1 s2 := by
    unfold s2
    split
    · exact dueCloses s1 k
    · exact (dueCloses s1 k).trans (dropManual _)
  have h3 : keepsClock s2 s3 := by
    unfold s3
    split
    · exact ofQuiet (quiet.evChip _ _ _)
    · exact refl s2
  have ht : keepsClock s t := ((h1.trans h2).trans h3).trans ((evalTariff s3).trans (stage _ _))
  have hb : keepsClock t { t with bill := { t.bill with
      demWritten := false, closedAt := if d.2 = [] then t.bill.closedAt else s.cyc + 1 } } := ⟨rfl, rfl, rfl, rfl, rfl⟩
  exact (ht.trans hb).trans (syncKeys _)

end keepsClock

theorem State.cal_setCal_same (s : State) (n : Nat) (b : Bool) : (s.setCal n b).cal n = b :=
  State.bit_bitTo_same _ _ _ (by decide)

/-- The clock becomes invalid, and CLOCK_INV shows it (R357). -/
theorem State.cal_clockInvalid (s : State) : s.clockInvalid.cal csCLOCK_INV = true := by
  unfold State.clockInvalid
  extract_lets s1 _ s2
  have h1 : keepsClock (s.setCal csCLOCK_INV true) s1 :=
    ((keepsClock.setCal _ _ (by decide)).trans (.ofQuiet (quiet.evChip _ _ _))).trans (.syncKeys _)
  exact (keepsClock.stage s2 _).invalid.trans (h1.invalid.trans (s.cal_setCal_same _ _))

theorem State.cal_clockValid (s : State) : s.clockValid.cal csCLOCK_INV = false := by
  unfold State.clockValid
  extract_lets sec _ _ s1 s2 e
  have h : keepsClock s1
      (e.1.stage { interval := true, closeSec := sec / 60 * 60, keys := [], tariff := some e.2 }).1.syncKeys :=
    (((((keepsClock.raiseBkey s1 _).trans (.ofQuiet (quiet.evChip _ _ _))).trans (.evalTariff s2)).trans
      (.stage e.1 _))).trans (.syncKeys _)
  exact h.invalid.trans (s.cal_setCal_same _ _)

/-- D0's seconds advance by what the ember's counter moved (R506). -/
theorem State.advanceRtc_shows (s : State) (n : Nat) : (s.advanceRtc n).ember = s.ember ∧
    (s.advanceRtc n).bill.rtc = s.bill.rtc.map (fun v => wrap32 (v + n)) := by
  unfold State.advanceRtc
  split
  next h => exact ⟨rfl, by rw [h]; rfl⟩
  next v h =>
    extract_lets b s1 sec
    rw [h]
    split
    · exact ⟨rfl, rfl⟩
    · split
      · exact ⟨rfl, rfl⟩
      · have ht := keepsClock.minuteTick s1 ((n - sec + 59) / 60)
        exact ⟨ht.ember, ht.rtc⟩

/-- A TAMPn flag that D0 has not told of yet is told and declared (R388); the counters are not its own. -/
theorem State.declareTamper_shows (s : State) (i : Nat) : (s.declareTamper i).ember.tamp0 = s.ember.tamp0 ∧
    (s.declareTamper i).ember.tamp1 = s.ember.tamp1 ∧
    (s.es (esTAMP0 + i) = true → (if i = 0 then s.ember.told0 else s.ember.told1) = false →
      (if i = 0 then (s.declareTamper i).ember.told0 else (s.declareTamper i).ember.told1) = true ∧
      ((s.declareTamper i).die 0).count = nextCount (s.die 0).count) := by
  unfold State.declareTamper
  extract_lets e told
  by_cases hd : (told || !s.es (esTAMP0 + i)) = true
  · rw [if_pos hd]
    refine ⟨rfl, rfl, fun hs ht => ?_⟩
    rw [show told = false from ht, hs] at hd
    cases hd
  · rw [if_neg hd]
    have hem := (logsOnly.declare { s with ember :=
        if i = 0 then { e with told0 := true } else { e with told1 := true } }
      0 3 0 0x7010 (i :: leBytes 2 (s.g (tampKey i)))).eq (·.ember) fun _ _ _ _ _ _ => rfl
    dsimp only at hem ⊢
    rw [hem]
    refine ⟨?_, ?_, fun _ _ => ⟨?_, State.count_declare _ _ _ _ _ _⟩⟩
    · split <;> rfl
    · split <;> rfl
    · split <;> simp [*]

/-- A stage of an interval close without billing closes queues one boundary (R342, R352). -/
theorem State.stage_interval (s : State) (p : Plan) (hi : p.interval = true) (hk : p.keys = [])
    (hc : p.catchUp = false) :
    ∃ b, (s.stage p).1.bill.queue = s.bill.queue ++ [b] ∧ b.interval = true ∧ b.billing = false := by
  obtain ⟨interval, closeSec, keys, cause, outage, setFwd, tariff, catchUp⟩ := p
  obtain rfl : interval = true := hi
  obtain rfl : keys = [] := hk
  obtain rfl : catchUp = false := hc
  refine ⟨s.opening { interval := true, closeSec := closeSec, tariff := tariff }, rfl, ?_, ?_⟩ <;>
  · unfold State.opening
    split <;> rfl

end Sys2Proof.Machine

namespace Sys2Proof

open Sys2Proof.Machine

/-- Settles O33: what the ember reports moves CLOCK_INV, the staged closes and the counters that D0 took. -/
theorem clockOnD0 : Obligations.ClockOnD0 := by
  unfold Obligations.ClockOnD0
  refine ⟨fun s h => ?_, fun s e he hi hr => ?_, fun s hc ht => ?_, fun s hc h => ?_, fun s hc h => ?_,
    fun s i hi hc h => ?_, fun s hc h => ?_⟩
  · have cal_keep : ∀ t : State, (s.keepCore t).cal csCLOCK_INV = t.cal csCLOCK_INV := fun t =>
      congrArg (bitAt · csCLOCK_INV) (s.g_keepCore t (by decide))
    refine yields.confined ?_
    rw [if_neg h, cal_keep]
    split
    next hv => rw [hv, State.cal_clockInvalid]
    next hv => rw [Bool.eq_false_of_not_eq_true hv, State.cal_clockValid]
  · refine yields.confined ?_
    simp only [he, hi, hr, Bool.and_self, if_true]
    obtain ⟨b, hq, hb⟩ := State.stage_interval { s with bill := { s.bill with intEnd := some (s.cycInterval e) } }
      { interval := true, closeSec := 0xFFFFFFFF, keys := [], tariff := some 0 } rfl rfl rfl
    exact ⟨(keepsClock.stage { s with bill := { s.bill with intEnd := some (s.cycInterval e) } } _).intEnd, b, hq, hb⟩
  · refine yields.whenTrue (by simp [hc, ht]) ?_
    have hk : keepsClock { s with ember := { s.ember with ticks := 0, years := 0 } }
        (if s.ember.years = 0 then { s with ember := { s.ember with ticks := 0, years := 0 } }
         else State.evChip { s with ember := { s.ember with ticks := 0, years := 0 } } 0x3023 []) := by
      split
      · exact .refl _
      · exact .ofQuiet (quiet.evChip _ _ _)
    obtain ⟨hem, hrt⟩ := State.advanceRtc_shows (if s.ember.years = 0 then
        { s with ember := { s.ember with ticks := 0, years := 0 } }
         else State.evChip { s with ember := { s.ember with ticks := 0, years := 0 } } 0x3023 []) s.ember.ticks
    exact ⟨congrArg EmberRt.ticks (hem.trans hk.ember), hrt.trans (congrArg _ hk.rtc)⟩
  · refine yields.whenTrue (by simp [hc, h]) ?_
    rw [State.ember_keepCore]
    dsimp only
    split
    · rw [State.ember_wake]
    · rfl
  · refine yields.whenTrue (by simp [hc, h]) ?_
    rw [State.ember_keepCore]
    dsimp only
    split
    · rw [State.ember_wake]
    · rfl
  · show yields (if i < 2 then _ else _) _
    rw [if_pos hi]
    refine yields.whenTrue (by simp [hc, h]) ?_
    obtain ⟨h0, h1, hd⟩ := State.declareTamper_shows
      { s with ember := if i = 0 then { s.ember with tamp0 := 0 } else { s.ember with tamp1 := 0 } } i
    rw [State.ember_keepCore, h0, h1]
    refine ⟨by split <;> rfl, fun hs ht => hd hs ?_⟩
    rw [← ht]
    split <;> rfl
  · refine yields.whenTrue (by simp [hc, h]) ?_
    exact (quiet.evChip _ _ _).eq (·.ember.oscs) fun _ _ _ _ _ _ => rfl

end Sys2Proof

namespace Sys2Proof.Machine

open Sys2Proof

-- the ember's port

theorem State.setClock_shows (s : State) (sec cal : Nat) : (s.setClock sec cal).ember.sec = sec ∧
    (s.setClock sec cal).ember.ans.isSome = true ∧ (s.setClock sec cal).es esRTC_INV = false ∧
    (s.setClock sec cal).es esNEVER_SET = false := by
  unfold State.setClock
  extract_lets e s1
  obtain ⟨he, _, a, p, hr⟩ := ((s1.setEs esRTC_INV false).setEs esNEVER_SET false).alarm_keeps
  rw [hr, State.ember_setEs, State.ember_setEs, he _ (by decide) (by decide), he _ (by decide) (by decide),
    State.es_setEs_ne _ _ (by decide), State.es_setEs_same, State.es_setEs_same]
  exact ⟨rfl, rfl, rfl, rfl⟩

theorem State.ans_pwronCtl (s : State) (v : Nat) : (s.pwronCtl v).ember.ans = s.ember.ans := by
  unfold State.pwronCtl
  split
  · rfl
  · split
    · rfl
    · rw [State.ember_setEs]

/-- What both branches have, the choice has. -/
theorem holds_ite {α : Type} {c : Prop} [Decidable c] {a b : α} (P : α → Prop) (ha : P a) (hb : P b) :
    P (if c then a else b) := by
  split
  · exact ha
  · exact hb

/-- Every write is answered in its ember cycle (R383). -/
theorem State.ans_emberWrite (s : State) (r : EmberReq) : (s.emberWrite r).ember.ans.isSome = true := by
  unfold State.emberWrite
  extract_lets _ s1 v e
  have h1 : s1.ember.ans.isSome = true := rfl
  let answered : State → Prop := fun t => t.ember.ans.isSome = true
  refine holds_ite answered (State.setClock_shows _ _ _).2.1 <| holds_ite answered (State.setClock_shows _ _ _).2.1 <|
    holds_ite answered ?_ <| holds_ite answered ?_ <| holds_ite answered ?_ <| holds_ite answered ?_ <|
    holds_ite answered ?_ <| holds_ite answered ?_ <| holds_ite answered ?_ <| holds_ite answered ?_ h1
  · simp [answered, State.setMode, s1]
  · simp [answered, s1, e]
  · simp [answered, State.clearEs, s1]
  · simp [answered, s1]
  · simp [answered, s1]
  · exact (congrArg Option.isSome (s1.ans_pwronCtl v)).trans h1
  · exact h1
  · simp [answered, s1, e]

theorem State.emberWrite_setBin (s : State) (r : EmberReq) (h : r.key = K.emb_SET_BIN) :
    (s.emberWrite r).ember.sec = r.value ∧ (s.emberWrite r).es esRTC_INV = false ∧
      (s.emberWrite r).es esNEVER_SET = false := by
  unfold State.emberWrite
  extract_lets _ s1 v
  rw [if_pos h]
  obtain ⟨hs, _, hi, hn⟩ := s.setClock_shows v (if s.ember.mode = 0 then s.ember.cal else calWord (binFields v))
  exact ⟨hs, hi, hn⟩

theorem State.emberWrite_rtcMode (s : State) (r : EmberReq) (h : r.key = K.emb_RTC_MODE) :
    (s.emberWrite r).ember.mode = r.value ∧ (s.emberWrite r).g K.emb_RTC_MODE = r.value ∧
      (s.emberWrite r).es esRTC_INV = true := by
  unfold State.emberWrite
  extract_lets _ s1 v
  rw [if_neg (by rw [h]; decide), if_neg (by rw [h]; decide), if_pos h, State.setMode]
  refine ⟨by simp [v], ?_, State.es_setEs_same _ _ _⟩
  rw [State.g_setEs _ _ _ (by decide), State.g_p_same _ _ (by decide)]

theorem State.emberWrite_alarmSec (s : State) (r : EmberReq) (h : r.key = K.emb_ALARM_SEC) :
    (s.emberWrite r).g K.emb_ALARM_SEC = r.value := by
  unfold State.emberWrite
  extract_lets _ s1 v
  rw [if_neg (by rw [h]; decide), if_neg (by rw [h]; decide), if_neg (by rw [h]; decide), if_neg (by rw [h]; decide),
    if_neg (by rw [h]; decide), if_neg (by rw [h]; decide), if_pos h]
  exact State.g_p_same _ _ (by decide)

/-- The access in front acts once (R381, R382). -/
theorem State.emberAct_front {s : State} {r : EmberReq} {rest : List EmberReq} (hr : s.ember.reqs = r :: rest)
    (ha : s.ember.ans = none) : s.emberAct = if r.write = true then s.emberWrite r
      else { s with ember := { s.ember with ans := some ((s.tickComing.elim s s.secondTick).emberSnap r) } } := by
  unfold State.emberAct
  rw [hr, ha]

end Sys2Proof.Machine

namespace Sys2Proof.sends

open Sys2Proof.Machine

-- what the sends of a frame leave of the rest

theorem eq {β : Type} {s t : State} (h : sends s t) (f : State → β)
    (hf : ∀ od net lag dieRt once standing, f { s with
      od := od, net := net, lag := lag, dieRt := dieRt, once := once, standing := standing } = f s) : f t = f s := by
  rw [h.rest]
  exact hf _ _ _ _ _ _

theorem finishCan (s : State) (usdo : Bool) (abort : Nat) (data : List Nat) : sends s (s.finishCan usdo abort data) :=
  (setNet s _).trans (sendFrame _ _)

theorem uploadCan (s : State) (usdo : Bool) (abort : Nat) (data : List Nat) :
    sends s (s.uploadCan usdo abort data) := by
  unfold State.uploadCan
  split
  · exact finishCan s _ _ _
  · exact (setNet s _).trans (finishCan _ _ _ _)

end Sys2Proof.sends

namespace Sys2Proof.Machine

open Sys2Proof

/-- An access that has an originator to answer to leaves its outcome in the response (R381). -/
theorem State.answer_shows (s : State) {who : Orig} (abort : Nat) (data : List Nat) (h : who ≠ .boundary) :
    (s.answer who abort data).resp = abort ∧ (s.answer who abort data).respData = data ∧
    (s.answer who abort data).ember = s.ember ∧
    ∀ k, sharedKey k = false → k ≠ K.dev_TPDO_LATE → (s.answer who abort data).g k = s.g k := by
  unfold State.answer
  extract_lets s1
  have of_sends : ∀ u : State, sends s1 u → u.resp = abort ∧ u.respData = data ∧ u.ember = s.ember ∧
      ∀ k, sharedKey k = false → k ≠ K.dev_TPDO_LATE → u.g k = s.g k := fun u hs =>
    ⟨hs.eq (·.resp) fun _ _ _ _ _ _ => rfl, hs.eq (·.respData) fun _ _ _ _ _ _ => rfl,
      hs.eq (·.ember) fun _ _ _ _ _ _ => rfl, hs.entries⟩
  cases who with
  | host =>
    dsimp only
    split
    · exact ⟨rfl, rfl, rfl, fun _ _ _ => rfl⟩
    · exact ⟨rfl, rfl, rfl, fun _ _ _ => rfl⟩
  | can =>
    dsimp only
    split
    · split
      · exact of_sends _ (.uploadCan _ _ _ _)
      · exact of_sends _ (.finishCan _ _ _ _)
    · exact ⟨rfl, rfl, rfl, fun _ _ _ => rfl⟩
  | internal => exact ⟨rfl, rfl, rfl, fun _ _ _ => rfl⟩
  | boundary => exact absurd rfl h

/-- A clock write that D0 processes leaves the ember and its snapshot (R356). -/
theorem State.clockWrite_keeps (s : State) (old new : Nat) : (s.clockWrite old new).ember = s.ember ∧
    (s.clockWrite old new).g K.emb_RTC_BIN = s.g K.emb_RTC_BIN := by
  unfold State.clockWrite
  extract_lets valid _ s0 data s1 d e
  have h1 : keepsClock s0 s1 := by
    unfold s1
    split
    · exact (keepsClock.setCal _ _ (by decide)).trans (.ofQuiet (quiet.evChip _ _ _))
    · split
      · exact (keepsClock.setCal _ _ (by decide)).trans (.ofQuiet (quiet.evChip _ _ _))
      · exact .refl _
  split
  · have h2 := (h1.trans (.dueCloses _ (keyOf s.rtcFields))).trans (.evalTariff d.1)
    exact ⟨(h2.trans ((keepsClock.stage _ _).trans (.syncKeys _))).ember,
      (h2.trans ((keepsClock.stage _ _).trans (.syncKeys _))).snapshot⟩
  · exact ⟨(h1.trans (.stage _ _)).ember, (h1.trans (.stage _ _)).snapshot⟩

/-- A completed access of an originator leaves its port, gives its answer, and of a read keeps the snapshot (R381). -/
theorem State.emberDone_shows {s : State} {r : EmberReq} {rest : List EmberReq} {a : EmberAns}
    (hr : s.ember.reqs = r :: rest) (ha : s.ember.ans = some a) (hw : r.who ≠ .boundary) :
    s.emberDone.ember = { s.ember with reqs := rest, ans := none } ∧ s.emberDone.resp = 0 ∧
      s.emberDone.respData = a.data ∧ (r.write = false → s.emberDone.g K.emb_RTC_BIN = a.bin) := by
  unfold State.emberDone
  split
  next r' rest' a' hr' ha' =>
    obtain ⟨rfl, rfl⟩ : r = r' ∧ rest = rest' := by simpa using hr.symm.trans hr'
    obtain rfl : a = a' := by simpa using ha.symm.trans ha'
    extract_lets e s1 s2 s3
    have h2 : s2.ember = { s.ember with reqs := rest, ans := none } ∧
        (r.write = false → s2.g K.emb_RTC_BIN = a.bin) := by
      unfold s2
      split
      next h => exact ⟨rfl, fun hf => by rw [hf] at h; cases h⟩
      next h =>
        exact ⟨by simp [State.ps, s1, e], fun _ =>
            (State.g_p_ne _ _ (show K.emb_RTC_BIN ≠ K.emb_RTC_CAL by decide)).trans
          (State.g_p_same _ _ (show isLedKey K.emb_RTC_BIN = false by decide))⟩
    have h3 : s3.ember = s2.ember ∧ s3.g K.emb_RTC_BIN = s2.g K.emb_RTC_BIN := by
      unfold s3
      split
      · exact State.clockWrite_keeps _ _ _
      · exact ⟨rfl, rfl⟩
    obtain ⟨ans, data, em, en⟩ := s3.answer_shows 0 a.data hw
    split
    next he _ => exact absurd he hw
    next =>
      exact ⟨em.trans (h3.1.trans h2.1), ans, data, fun hf =>
          (en _ (by decide) (by decide)).trans (h3.2.trans (h2.2 hf))⟩
  next hno => exact absurd ha (hno _ _ _ hr)

@[simp] theorem State.resp_keepCore (s t : State) : (s.keepCore t).resp = t.resp := rfl
@[simp] theorem State.respData_keepCore (s t : State) : (s.keepCore t).respData = t.respData := rfl

theorem EmberRt.pass_keeps (e : EmberRt) (n : Nat) : ∃ trim period,
    e.pass n = { e with trim := trim, period := period } := by
  unfold EmberRt.pass
  split
  · exact ⟨_, _, rfl⟩
  · exact ⟨_, _, rfl⟩

/-- SUBSEC alone moves what a snapshot shows (R373, R394). -/
theorem State.emberSnap_subsecAt (s : State) (n : Nat) (r : EmberReq) :
    (s.subsecAt n).emberSnap r = { data := s.emberBytes r.key n, bin := s.rtcBin n, cal := s.rtcCal } := by
  obtain ⟨trim, period, h⟩ := s.ember.pass_keeps n
  rw [State.subsecAt, h]
  rfl

end Sys2Proof.Machine

namespace Sys2Proof

open Sys2Proof.Machine

/-- Settles O35: an access acts once in its ember cycle, and its answer is what that cycle left in the port. -/
theorem emberPort : Obligations.EmberPort := by
  unfold Obligations.EmberPort
  have at_ : ∀ (s : State) (sub : Nat) (P : State → Prop), sub < 32768 → s.ember.subsec ≤ sub →
      P (s.keepCore (s.subsecAt sub).emberAct) → yields (exec (.emberAccess sub) s) P := by
    intro s sub P hs hb h
    show yields (if 32768 ≤ sub ∨ sub < s.ember.subsec then _ else _) P
    rw [if_neg (by omega)]
    exact .confined h
  have passed : ∀ (s : State) (sub : Nat), (s.subsecAt sub).ember.reqs = s.ember.reqs ∧
      (s.subsecAt sub).ember.ans = s.ember.ans := by
    intro s sub
    obtain ⟨trim, period, h⟩ := s.ember.pass_keeps sub
    rw [State.subsecAt, h]
    exact ⟨rfl, rfl⟩
  refine ⟨fun s sub r rest hs hb hr ha hw => at_ s sub _ hs hb ?_, fun s sub r rest hs hb hr ha hw =>
      at_ s sub _ hs hb ?_,
    fun s r rest a hc hr ha hw => ?_⟩
  · obtain ⟨pr, pa⟩ := passed s sub
    rw [State.emberAct_front (s := s.subsecAt sub) (pr.trans hr) (pa.trans ha), if_neg (by simp [hw])]
    refine ⟨rfl, ?_⟩
    rw [show (s.subsecAt sub).tickComing = s.tickComing from rfl]
    cases s.tickComing with
    | none => exact congrArg some (s.emberSnap_subsecAt sub r)
    | some v => rfl
  · obtain ⟨pr, pa⟩ := passed s sub
    rw [State.emberAct_front (s := s.subsecAt sub) (pr.trans hr) (pa.trans ha), if_pos hw]
    refine ⟨State.ans_emberWrite _ _, fun hk => ?_, fun hk => ?_, fun hk => ?_⟩
    · obtain ⟨h1, h2, h3⟩ := (s.subsecAt sub).emberWrite_setBin r hk
      exact ⟨h1, (State.es_keepCore _ _ _).trans h2, (State.es_keepCore _ _ _).trans h3⟩
    · obtain ⟨h1, h2, h3⟩ := (s.subsecAt sub).emberWrite_rtcMode r hk
      exact ⟨h1, (State.g_keepCore _ _ (by decide)).trans h2, (State.es_keepCore _ _ _).trans h3⟩
    · exact (State.g_keepCore _ _ (by decide)).trans ((s.subsecAt sub).emberWrite_alarmSec r hk)
  · obtain ⟨he, hs, hd, hb⟩ := State.emberDone_shows hr ha hw
    refine yields.whenTrue hc ⟨?_, ?_, hs, hd, fun h => (State.g_keepCore _ _ (by decide)).trans (hb h)⟩
    · rw [State.ember_keepCore, he]
    · rw [State.ember_keepCore, he]

end Sys2Proof
end

section
/-! Orders of CAN for an entry that the host has written in the same cycle: they pass every check, and the host's value
stands (R611, hostFirst). Each statement that lets an accepted order take effect fails there. -/

namespace Sys2Proof

open Sys2Proof.Machine

theorem yields.elim {t : State} {P : State → Prop} (h : yields (.next t) P) : P t := by
  obtain ⟨u, hu, hP⟩ := h
  cases hu
  exact hP

/-- A part that serves, at the second of its start; in this cycle the host has written the entry `key`. -/
def hostWrote (key : Nat) : State :=
  ({ State.reset with
    cyc := 24576000, dieRt := (List.range 8).map (fun d => (d, { up := true }))
    lines := (List.range 7).map (fun d => (d + 1, { up := true }))
    ready := true, framing := true, frameAt := 24576000, pow := { loopOn := true }
    net := { inReset := false, nodeId := 1 }, host := { wroteAt := 24576001, wroteKeys := [key] } }).p K.dev_CAN_STAT 5
      |>.p K.emb_EMBER_STAT 0

/-- Refutes O26: the host has written CHECK_CMD in this cycle, so its value stands, and the order from CAN, which passes
every check, asks for nothing (R611). -/
theorem not_resourceOrders : ¬ Obligations.ResourceOrders := by
  unfold Obligations.ResourceOrders
  rintro ⟨hCheck, -⟩
  have hPend := yields.elim <| hCheck (hostWrote (K.port_CHECK_CMD 0)) .can 0 (by decide +kernel) (by decide +kernel)
    (by decide +kernel)
  exact absurd hPend (by decide +kernel)

/-- Refutes O27: the host has written CANT_CMD in this cycle, and the order from CAN starts no measurement (R611). -/
theorem not_chipOrders : ¬ Obligations.ChipOrders := by
  unfold Obligations.ChipOrders
  rintro ⟨hCant, -⟩
  have hMeas := yields.elim <| hCant (hostWrote K.sup_CANT_CMD) .can 1 (by decide) (by decide +kernel)
  exact absurd hMeas (by decide +kernel)

/-- Refutes O37: CAN has opened partition 6 of D0 and relocks it in a cycle in which the host has written RELOCK, which
relocks for the host alone; the partition stays open to CAN (R440, R611). -/
theorem not_partitionsServed : ¬ Obligations.PartitionsServed := by
  unfold Obligations.PartitionsServed
  rintro ⟨-, hRelock, -⟩
  have hShut := yields.elim <| hRelock ((hostWrote K.st_RELOCK).setStore 0 { unlocked := [(1, 6, 1)] }) .can 6
      (by decide)
    (by decide +kernel)
  exact absurd (hShut 1) (by decide +kernel)

/-- Refutes O41: the host has written IMG_CMD in this cycle, and the BEGIN from CAN leaves IMG_STAT at 3 (R611). -/
theorem not_sealAndImages : ¬ Obligations.SealAndImages := by
  unfold Obligations.SealAndImages
  rintro ⟨-, -, -, hBegin, -⟩
  have hStat := yields.elim <| hBegin ((hostWrote K.sec_IMG_CMD).p K.sec_IMG_STAT 3) .can (by decide +kernel)
  exact absurd hStat (by decide +kernel)

/-- Refutes O42: the host has written ATT_NONCE in this cycle, and the nonce that CAN writes is not taken (R611). -/
theorem not_fusesAndAttestation : ¬ Obligations.FusesAndAttestation := by
  unfold Obligations.FusesAndAttestation
  rintro ⟨-, -, -, hNonce, -⟩
  have hFresh := yields.elim <| hNonce (hostWrote K.sec_ATT_NONCE) .can (List.replicate 32 1) (by decide)
      (by decide +kernel)
  exact absurd hFresh (by decide +kernel)

/-- Refutes O47: the host has written SDO_TMO in this cycle; the download of CAN is answered with success, and the
host's value stands (R611). -/
theorem not_serverAnswers : ¬ Obligations.ServerAnswers := by
  unfold Obligations.ServerAnswers
  rintro ⟨hDown, -⟩
  have hTmo := yields.elim <| hDown (hostWrote K.dev_SDO_TMO) false 100 (by decide +kernel) (by decide)
      (by decide +kernel)
    (by decide +kernel)
  exact absurd hTmo.1 (by decide +kernel)

/-- Refutes O39: the kiln log is frozen and read, the host has written LOG_RELEASE in this cycle with another originator
still to release it, and the release from CAN, which passes every check, leaves the log frozen (R611, R704). -/
theorem not_kilnLog : ¬ Obligations.KilnLog := by
  unfold Obligations.KilnLog
  rintro ⟨-, -, hRelease⟩
  have hRead := yields.elim <| hRelease
    { ((hostWrote K.log_LOG_RELEASE).p K.log_LOG_STAT 1).p K.log_FREEZE_NO 5 with logRead := [0, 1, 2] } .can 5
        (by decide)
    (by decide +kernel)
  exact absurd hRead.1 (by decide +kernel)

end Sys2Proof
end

section
/-! Accepted orders are direct writes (R405); those of the ember's entries wait at its port (R381). -/

namespace Sys2Proof.Machine

open Sys2Proof

-- orders

theorem yields.ordered {s : State} {who : Orig} {ok : Bool} {key : Nat} {data : List Nat} {P : State → Prop}
    (hw : who ≠ .boundary)
    (hok : ok = true) (h : P (s.keepAccess (s.order who key data))) : yields (ordering who ok s key data) P := by
  subst hok
  rw [ordering, isOriginator, decide_eq_true hw, Bool.and_self, if_pos rfl, accessing_eq]
  exact ⟨_, rfl, h⟩

/-- An accepted order is a direct write (R405). -/
theorem State.order_of_accepts {s : State} {who : Orig} {key : Nat} {data : List Nat} (h : accepts s who key data) :
    s.order who key data = if (s.directWrite who key data).2.waits = true then (s.directWrite who key data).1
      else (s.directWrite who key data).1.reply (s.directWrite who key data).2.abort [] := by
  obtain ⟨hServing, -, hOpen, -⟩ := h
  have hDirect : s.writeEntry who key data = s.directWrite who key data := by
    rw [State.writeEntry, if_neg]
    rcases hOpen with h | h <;> simp [h]
  simp only [State.order, hServing, Bool.not_true, Bool.false_eq_true, if_false, hDirect]

theorem leNat_leBytes (n v : Nat) : leNat (leBytes n v) = v % 256 ^ n := by
  induction n generalizing v with
  | zero => simp [leBytes, leNat, Nat.mod_one]
  | succ n ih =>
    rw [leBytes, leNat, ih, Nat.mod_mod, Nat.pow_succ', Nat.mod_mul]

@[simp] theorem State.ember_noteSealed (t s : State) (who : Orig) (key v : Nat) (fire : Bool) :
    (t.noteSealed s who key v fire).ember = t.ember := by
  have hUncapture : t.uncapture.ember = t.ember := by
    unfold State.uncapture
    split <;> rfl
  unfold State.noteSealed
  split
  · unfold State.sealedChange
    rw [State.setSec, State.bitTo_ember, (quiet.evChip _ _ _).eq (·.ember) fun _ _ _ _ _ _ => rfl, State.incSat,
        State.p_ember,
      hUncapture]
  · rfl

/-- An accepted write at the port of the ember waits behind the accesses already there (R381). -/
theorem State.order_ember {s : State} {who : Orig} {key : Nat} {data : List Nat} (h : accepts s who key data)
    (hi : ixOf key = 0x2800) (hr : (findRow key).any (fun r => tyBytes r.ty != 0) = true) :
    (s.order who key data).ember.reqs =
      s.ember.reqs ++ [{ key := key, write := true, who := who, value := leNat data }] := by
  rw [State.order_of_accepts h]
  obtain ⟨-, -, -, hCheck⟩ := h
  have hU : key ≠ K.st_UNLOCK := by
    rintro rfl
    revert hi
    decide
  have hPost : s.directWrite who key data = s.emberPost who key data := by
    simp [State.directWrite, hCheck, hi, hU]
  rw [hPost]
  cases hf : findRow key with
  | none => simp [hf] at hr
  | some r =>
    have hw : tyBytes r.ty ≠ 0 := by simpa [hf] using hr
    simp [State.emberPost, hf, hw, State.postEmber]

end Sys2Proof.Machine

namespace Sys2Proof

open Sys2Proof.Machine

/-- Settles O28: each is an accepted write of an entry of the ember with a value of its own. -/
theorem emberOrders : Obligations.EmberOrders := by
  unfold Obligations.EmberOrders
  have waits : ∀ {s : State} {who : Orig} {ok : Bool} {key : Nat} {data : List Nat} {v : Nat}, accepts s who key data →
      ok = true → ixOf key = 0x2800 → (findRow key).any (fun r => tyBytes r.ty != 0) = true → leNat data = v →
      yields (ordering who ok s key data) fun t =>
        t.ember.reqs = s.ember.reqs ++ [{ key := key, write := true, who := who, value := v }] := by
    intro s who ok key data v h hok hi hr hv
    refine yields.ordered h.2.1 hok ?_
    rw [← hv]
    exact State.order_ember h hi hr
  have one : ∀ v, v < 256 → leNat [v] = v := fun v hv => by simp [leNat, Nat.mod_eq_of_lt hv]
  refine ⟨fun s who v hv h => ?_, fun s who v hv h => ?_, fun s who v hv h => ?_, fun s who v hv h => ?_,
    fun s who v hlo hhi h => ?_, fun s who h => ?_, fun s who h => ?_⟩
  · exact waits h (decide_eq_true hv) (by decide) (by decide) (one v hv)
  · exact waits h (decide_eq_true hv) (by decide) (by decide) ((leNat_leBytes 4 v).trans (Nat.mod_eq_of_lt hv))
  · exact waits h (decide_eq_true hv) (by decide) (by decide) ((leNat_leBytes 8 v).trans (Nat.mod_eq_of_lt hv))
  · exact waits h (decide_eq_true hv) (by decide) (by decide) (one v hv)
  · refine waits h (by simp [hlo, hhi]) (by decide) (by decide) ((leNat_leBytes 2 _).trans (Nat.mod_eq_of_lt ?_))
    unfold ofSigned
    omega
  · exact waits h rfl (by decide) (by decide) rfl
  · exact waits h rfl (by decide) (by decide) rfl

end Sys2Proof
end

section
/-! The store: gather commits, what reading a line counts, and decoding it (R429 to R437). -/

namespace Sys2Proof.Machine

open Sys2Proof

theorem foldl_keeps {α β γ : Type} (f : α → γ) {g : α → β → α} (h : ∀ a b, f (g a b) = f a) (l : List β) (a : α) :
    f (l.foldl g a) = f a := by
  induction l generalizing a with
  | nil => rfl
  | cons b r ih => exact (ih _).trans (h a b)

-- stores

@[simp] theorem State.store_ps (s : State) (l : List (Nat × Nat)) (n : Nat) : (s.ps l).store n = s.store n :=
  foldl_keeps (·.store n) (fun _ _ => State.store_p ..) l s

@[simp] theorem State.store_syncStore (s : State) (n : Nat) : s.syncStore.store n = s.store n := State.store_ps _ _ _

@[simp] theorem State.store_putStore (s : State) (d : Nat) (r : StoreRt) : (s.putStore d r).store d = r := by
  simp [State.putStore]

theorem StoreRt.landLine_keeps {β : Type} (f : StoreRt → β)
    (hf : ∀ r gens goals mixed, f { r with gens := gens, goals := goals, mixed := mixed } = f r) (r : StoreRt)
    (d line : Nat) : f (r.landLine d line) = f r := by
  unfold StoreRt.landLine
  split
  · rfl
  · extract_lets c g
    split
    · rfl
    · split <;> exact hf _ _ _ _

/-- A commit that has landed is counted, and leaves the buffer and what is queued (R430). -/
theorem StoreRt.land_shows (r : StoreRt) (d : Nat) : (r.land d).gathers = wrap32 (r.gathers + 1) ∧
    (r.land d).buf = r.buf ∧ (r.land d).queued = r.queued ∧ (r.land d).run = [] := by
  unfold StoreRt.land
  extract_lets q
  have kept : ∀ {β : Type} (f : StoreRt → β), (∀ r gens goals mixed,
      f { r with gens := gens, goals := goals, mixed := mixed } = f r) → f q = f r := fun f hf =>
    foldl_keeps f (fun t (e : Nat × List Nat) => StoreRt.landLine_keeps f hf t d e.1) _ _
  exact ⟨congrArg (fun n => wrap32 (n + 1)) (kept (·.gathers) fun _ _ _ _ => rfl), kept (·.buf) fun _ _ _ _ => rfl,
    kept (·.queued) fun _ _ _ _ => rfl, rfl⟩

theorem StoreRt.gathers_next (r : StoreRt) (now : Nat) : (r.next now).gathers = r.gathers := by
  unfold StoreRt.next
  split
  · rfl
  · split <;> rfl

/-- With nothing in the buffer and nothing queued, no commit follows (R429). -/
theorem StoreRt.next_of_empty {r : StoreRt} (now : Nat) (hb : r.buf = []) (hq : r.queued = []) : r.next now = r := by
  unfold StoreRt.next
  rw [if_neg (by simp [hb]), hq]

/-- A line written to a store leaves its counts (R429). -/
theorem StoreRt.write_keeps {β : Type} (f : StoreRt → β)
    (hf : ∀ r buf bufAt run, f { r with buf := buf, bufAt := bufAt, run := run } = f r) (r : StoreRt) (now line : Nat)
    (data : List Nat) : f (r.write now line data) = f r := by
  unfold StoreRt.write
  extract_lets r1
  split
  · exact hf r _ _ _
  · exact hf r _ _ _

/-- What a store counts of its lines. -/
def lineCounts (r : StoreRt) : Nat × Nat × Nat := (r.ce, r.rs, r.ue)

theorem State.lineCounts_queueLines (s : State) (d : Nat) (l : List (Nat × List Nat)) :
    lineCounts ((s.queueLines d l).store d) = lineCounts (s.store d) := by
  unfold State.queueLines
  extract_lets batches r
  clear_value batches
  split
  · split
    · rfl
    · rw [State.store_putStore]
      rfl
  · rw [State.store_putStore]
    rfl

theorem State.lineCounts_rewriteCopy (s : State) (d : Nat) (o : StoreObj) (copy used : Nat) :
    lineCounts ((s.rewriteCopy d o copy used).store d) = lineCounts (s.store d) := by
  unfold State.rewriteCopy
  rw [(logsOnly.ofQuiet (quiet.ev _ _ _ _ _ _)).store, State.lineCounts_queueLines, State.store_setStore]
  rfl

theorem State.store_loseObject (s : State) (d : Nat) (o : StoreObj) : (s.loseObject d o).store d = s.store d := by
  have h := (logsOnly.declare s d 2 d 0x4005 [o.code]).store d
  unfold State.loseObject
  generalize s.declare d 2 d 0x4005 [o.code] = t at h
  have hSaved : ∀ saved, ({ t with saved := saved } : State).store d = s.store d := fun _ => h
  by_cases h1 : o.code = 1
  · simp only [if_pos h1]
    rw [State.store_p]
    exact h
  · simp only [if_neg h1]
    by_cases h2 : o.code = 2
    · rw [if_pos h2]
      exact hSaved _
    · rw [if_neg h2]
      exact hSaved _

/-- Comparing the copies of an object leaves what the store counts of its lines (R437). -/
theorem State.lineCounts_resolveObject (s : State) (d : Nat) (o : StoreObj) :
    lineCounts ((s.resolveObject d o).store d) = lineCounts (s.store d) := by
  unfold State.resolveObject
  extract_lets r a b aOk bOk
  split
  · rfl
  · split
    · exact s.lineCounts_rewriteCopy _ _ _ _
    · split
      · exact s.lineCounts_rewriteCopy _ _ _ _
      · split
        · rw [State.store_loseObject]
        · rfl

theorem State.lineCounts_lineLost (s : State) (d line : Nat) :
    lineCounts ((s.lineLost d line).store d) = lineCounts (s.store d) := by
  unfold State.lineLost
  split
  · rfl
  · rw [State.lineCounts_resolveObject, State.store_setStore]
    rfl

/-- What decoding a line adds to what its store counts (R434). -/
def counted (r : StoreRt) : LineOutcome → Nat × Nat × Nat
  | .ok n 0 => (wrap32 (r.ce + n), r.rs, r.ue)
  | .ok _ _ => (r.ce, wrap32 (r.rs + 1), r.ue)
  | .uncorrectable => (r.ce, r.rs, wrap32 (r.ue + 1))

/-- A line that is read counts what its two codes found (R434). -/
theorem State.lineCounts_readLine (s : State) (d line : Nat) (o : LineOutcome) (scrub : Bool) :
    lineCounts ((s.readLine d line o scrub).1.store d) = counted (s.store d) o := by
  unfold State.readLine
  extract_lets r rewrite
  have hRewrite : ∀ t : State, lineCounts ((rewrite t).store d) = lineCounts (t.store d) := fun t => by
    unfold rewrite
    extract_lets q
    split
    · rfl
    · rw [State.store_putStore]
      exact StoreRt.write_keeps lineCounts (fun _ _ _ _ => rfl) q _ _ _
  cases o with
  | ok inner outer =>
    cases outer with
    | zero =>
      dsimp only
      rw [if_pos rfl]
      dsimp only
      split
      · rw [hRewrite, State.store_putStore]
        rfl
      · rw [State.store_putStore]
        rfl
    | succ n =>
      dsimp only
      rw [if_neg (Nat.succ_ne_zero n)]
      dsimp only
      rw [hRewrite, (logsOnly.ofQuiet (quiet.onceEv _ _ _ _ _ _ _)).store, State.store_putStore]
      rfl
  | uncorrectable =>
    dsimp only
    rw [State.lineCounts_lineLost, (logsOnly.declare _ _ _ _ _ _).store, State.store_putStore]
    rfl

-- decoding

/-- With at most two wrong bits in each word, every word that SECDED flags is four erasures, and no other error is left
(R433). -/
theorem decodeLine_uncorrectable_iff {l : List WordErr} (h : ∀ w ∈ l, w.bits ≤ 2) :
    decodeLine l = .uncorrectable ↔ 2 ≤ l.countP (fun w => decide (w.bits = 2)) := by
  have hErr : ∀ c, codewordErrors l c = 0 := by
    intro c
    unfold codewordErrors
    have hw : ∀ w ∈ l, wordErrors w c = 0 := fun w hw => if_neg (fun hb => by have := h w hw; omega)
    clear h
    induction l with
    | nil => rfl
    | cons w r ih =>
      rw [List.foldl_cons, hw w List.mem_cons_self]
      exact ih fun v hv => hw v (List.mem_cons_of_mem _ hv)
  have hFlag : l.countP wordFlagged = l.countP (fun w => decide (w.bits = 2)) := by
    refine List.countP_congr fun w hw => ?_
    have := h w hw
    simp [wordFlagged, show ¬ 3 ≤ w.bits by omega]
  have hOk : ∀ c, codewordOk l c = decide (4 * l.countP (fun w => decide (w.bits = 2)) ≤ 4) := fun c => by
    rw [codewordOk, hErr, erasures, hFlag, Nat.mul_zero, Nat.zero_add]
  unfold decodeLine
  rw [hOk, hOk, Bool.and_self]
  split
  next hc => exact ⟨fun hn => LineOutcome.noConfusion hn, fun hn => by have := of_decide_eq_true hc; omega⟩
  next hc => exact ⟨fun _ => by have := of_decide_eq_false (Bool.eq_false_of_not_eq_true hc); omega, fun _ => rfl⟩

end Sys2Proof.Machine

namespace Sys2Proof

open Sys2Proof.Machine

/-- Settles O36: a commit begins and ends as the store's record says, a scrub read counts what decoding found, and
decoding fails with the second flagged word. -/
theorem storeWorks : Obligations.StoreWorks := by
  unfold Obligations.StoreWorks
  refine ⟨fun s d hd hb hr hw => ?_, fun s d hd hr => ?_, fun s d line errs hd hl he hDue => ?_,
    fun _ => decodeLine_uncorrectable_iff⟩
  · refine yields.fitted (decide_eq_true hd) (yields.confined ?_)
    rw [State.gatherDue, if_pos ⟨hb, hr, hw⟩, State.store_keepCore, State.store_putStore]
    exact ⟨rfl, rfl⟩
  · obtain ⟨hg, hBuf, hq, hRun⟩ := (s.store d).land_shows d
    refine yields.fitted (decide_eq_true hd) (yields.confined ?_)
    rw [if_neg hr, State.store_keepCore]
    rw [show ∀ (t : State) l, (t.settle d l).store d = t.store d from fun _ _ => rfl, State.store_putStore,
      StoreRt.gathers_next]
    refine ⟨hg, fun hb hQ => ?_⟩
    rw [StoreRt.next_of_empty _ (hBuf.trans hb) (hq.trans hQ), hRun]
  · have h := s.lineCounts_readLine d line (decodeLine errs) true
    refine yields.fitted (by simp [hd, hl, he]) ?_
    rw [hDue]
    refine .confined ?_
    rw [State.store_keepCore, State.store_putStore]
    refine ⟨rfl, rfl, ?_⟩
    generalize decodeLine errs = o at h
    match o, h with
    | .ok n 0, h => exact congrArg (·.1) h
    | .ok n (m + 1), h => exact congrArg (·.2.1) h
    | .uncorrectable, h => exact congrArg (·.2.2) h

end Sys2Proof
end

section
/-! The request stage of an SRAM bank (O38). -/

namespace Sys2Proof.Machine

open Sys2Proof

-- the request stage of an SRAM bank

/-- The state after a command of the request stage: `t` but for what no request changes. -/
def State.keepBanking (s t : State) : State :=
  { t with dies := s.dies, cyc := s.cyc, led := s.led, otp := s.otp, pending := s.pending }

theorem yields_banking {s t : State} {P : State → Prop} (h : P (s.keepBanking t)) : yields (banking s t) P :=
    ⟨_, rfl, h⟩

theorem State.g_keepBanking (s t : State) {k : Nat} (h : isLedKey k = false) : (s.keepBanking t).g k = t.g k := by
  simp [State.g, State.keepBanking, h]

@[simp] theorem State.bank_keepBanking (s t : State) (n : Nat) : (s.keepBanking t).bank n = t.bank n := rfl

/-- What a cycle of the port notes in its bank beside the words: what waits, and what has been presented. -/
structure SramRt.noted (r q : SramRt) : Prop where
  words : q.words = r.words
  lost : q.lost = r.lost
  errs : q.errs = r.errs
  wb : q.wb = r.wb
  locked : q.locked = r.locked

theorem SramRt.noted.word {r q : SramRt} (h : r.noted q) (d w : Nat) : q.word d w = r.word d w := by
  simp only [SramRt.word, h.words, h.lost]

theorem SramRt.noted.wrong {r q : SramRt} (h : r.noted q) (w : Nat) : q.wrong w = r.wrong w := by
  simp only [SramRt.wrong, h.errs]

theorem SramRt.noted.upset {r q : SramRt} (h : r.noted q) (w f : Nat) : (r.upset w f).noted (q.upset w f) := by
  unfold SramRt.upset
  split
  · exact h
  · exact ⟨h.words, h.lost, by simp only [h.wrong, h.errs], h.wb, h.locked⟩

/-- Where the port is free, the granted request is performed and the writes it overtakes are dropped (R467, R469). -/
theorem State.sramCycle_of_free {s : State} {d : Nat} {l : List SramReq} {g : SramReq} (h : portFree s d l)
    (hg : s.granted d l = some g) : ∃ q, (s.bank d).noted q ∧
      s.sramCycle d l = ((lostWrites g l).foldl (fun t x => t.wlost d x) ((s.setBank d q).serve d g)).countWait d := by
  obtain ⟨hRmw, hWait, hCyc, hAdmit⟩ := h
  have hNote : ((s.bank d).note s.cyc l).waiting ++ l = l := by
    rw [show ((s.bank d).note s.cyc l).waiting = (s.bank d).waiting from rfl, hWait, List.nil_append]
  unfold State.sramCycle
  dsimp only
  rw [hAdmit, if_neg hCyc]
  rw [show ((s.bank d).note s.cyc l).rmw = none from hRmw, hNote, hg]
  refine ⟨_, ?_, rfl⟩
  exact ⟨rfl, rfl, rfl, rfl, rfl⟩

theorem State.bank_countWait (s : State) (d : Nat) : ∃ w, ∀ n, (s.countWait d).bank n =
    if n = d then { s.bank d with dmaWait := w } else s.bank n := by
  have hSet : ∀ w n, (s.setBank d { s.bank d with dmaWait := w }).bank n =
      if n = d then { s.bank d with dmaWait := w } else s.bank n := fun w n => by
    split
    next hn => rw [hn, State.bank_setBank]
    next hn => exact State.bank_setBank_ne _ _ hn
  unfold State.countWait
  extract_lets r
  split
  · exact ⟨_, fun n => (State.bank_p ..).trans (hSet _ n)⟩
  · exact ⟨_, hSet _⟩

theorem State.g_countWait (s : State) (d : Nat) {k : Nat} (h : k ≠ K.die_DMA_WAIT_MAX d) :
    (s.countWait d).g k = s.g k := by
  unfold State.countWait
  extract_lets r
  split
  · exact State.g_p_ne _ _ h
  · rfl


/-- A whole-word write that the image lock does not stop (R462, R549). -/
theorem State.serve_write (s : State) {d v : Nat} {g : SramReq} (hg : g.op = .write v)
    (hl : ((s.bank d).locked && Config.imageWord d g.word) = false) :
    s.serve d g = (s.setBank d ((((s.bank d).upset g.word g.flips).tell g.who 0).write g.word v)).bitTo
        (K.die_SRAM_STAT d)
      srWB_PEND ((((s.bank d).upset g.word g.flips).tell g.who 0).write g.word v).wb.isSome := by
  have hLocked : ((s.bank d).upset g.word g.flips).locked = (s.bank d).locked := by
    unfold SramRt.upset
    split <;> rfl
  unfold State.serve
  dsimp only
  rw [if_neg (by simp [SramRt.imageLocked, hLocked, reqWrites, hg, hl]), hg]

/-- The requester of a read is answered `v` in the cycle `at_` (R462). -/
def SramRt.answered (r : SramRt) (q : Requester) (v at_ : Nat) : SramRt :=
    { r.tell q 0 with dataOut := v, dataAt := at_ }

/-- A granted read, by what SECDED finds (R462, R464). -/
theorem State.serve_read (s : State) {d : Nat} {g : SramReq} {r : SramRt} (hg : g.op = .read)
    (hr : (s.bank d).upset g.word g.flips = r) :
    s.serve d g = match r.check g.word with
      | .clean => s.setBank d (r.answered g.who (r.word d g.word) (cycPlus s.cyc 1))
      | .single => (s.setBank d (r.answered g.who (r.word d g.word) (cycPlus s.cyc 1))).corrected d g.word
          (r.word d g.word) true
      | .uncorrectable => (s.setBank d (r.answered g.who (Nat.xor (r.word d g.word) (r.wrong g.word % two32))
          (cycPlus s.cyc 1))).uncorrectable d g.word g.who := by
  subst hr
  unfold State.serve
  dsimp only
  rw [if_neg (by simp [SramRt.imageLocked, reqWrites, hg]), hg]
  cases ((s.bank d).upset g.word g.flips).check g.word <;> rfl

@[simp] theorem SramRt.word_upset (r : SramRt) (w f d x : Nat) : (r.upset w f).word d x = r.word d x := by
  unfold SramRt.upset
  split <;> rfl

@[simp] theorem SramRt.word_tell (r : SramRt) (q : Requester) (v d x : Nat) : (r.tell q v).word d x = r.word d x := rfl

theorem SramRt.word_write_same (r : SramRt) (d w v : Nat) : (r.write w v).word d w = v := r.word_put_same d w v

theorem SramRt.word_write_ne (r : SramRt) (d : Nat) {w x : Nat} (v : Nat) (h : x ≠ w) :
    (r.write w v).word d x = r.word d x :=
  r.word_put_ne d v h

theorem SramRt.wrong_write_same (r : SramRt) (w v : Nat) : (r.write w v).wrong w = 0 := by
  simp [SramRt.wrong, SramRt.write, SramRt.fresh]

/-- Dropping a write tells its requester, and no word changes (R470). -/
theorem State.bank_wlost (s : State) (d : Nat) (q : SramReq) (n : Nat) :
    (s.wlost d q).bank n = if n = d then (s.bank d).tell q.who 1 else s.bank n := by
  unfold State.wlost
  extract_lets s1 s2
  rw [(quiet.onceEv _ _ _ _ _ _ _).eq (·.bank _) fun _ _ _ _ _ _ => rfl]
  unfold s2 s1
  rw [State.bank_inc, State.bank_bitTo]
  split
  next h => rw [h, State.bank_setBank]
  next h => exact State.bank_setBank_ne _ _ h

theorem State.bank_corrected (s : State) (d w v : Nat) (n : Nat) :
    (s.corrected d w v true).bank n = if n = d ∧ (s.bank d).wb = none then { s.bank d with wb := some (w, v) } else
        s.bank n := by
  unfold State.corrected
  extract_lets r s1
  have h1 : ∀ m, s1.bank m = s.bank m := fun m => by
    unfold s1
    rw [(quiet.onceEv _ _ _ _ _ _ _).eq (·.bank _) fun _ _ _ _ _ _ => rfl, State.bank_bitTo, State.bank_inc]
  cases hw : (s.bank d).wb with
  | none =>
    rw [if_pos (by decide), State.bank_bitTo]
    by_cases hn : n = d
    · subst hn
      rw [State.bank_setBank, if_pos ⟨rfl, rfl⟩]
    · rw [State.bank_setBank_ne _ _ hn, h1, if_neg (fun h => hn h.1)]
  | some e => rw [if_neg (by simp), h1, if_neg (fun h => nomatch h.2)]

theorem State.g_corrected (s : State) {d : Nat} (w v : Nat) (hd : d < 8) :
    (s.corrected d w v true).g (K.die_SRAM_CE_COUNT d) = wrap32 (s.g (K.die_SRAM_CE_COUNT d) + 1) := by
  unfold State.corrected
  extract_lets r s1
  have h1 : s1.g (K.die_SRAM_CE_COUNT d) = wrap32 (s.g (K.die_SRAM_CE_COUNT d) + 1) := by
    unfold s1
    rw [State.g_onceEv _ _ _ _ _ _ _ (by grind [sharedKey]), State.g_bitTo_ne _ _ _ (by simp),
      State.g_inc_same _ (by grind [isLedKey])]
  split
  · rw [State.g_bitTo_ne _ _ _ (by simp), State.setBank_g, h1]
  · exact h1

/-- An uncorrectable word is counted, and no word changes (R466). -/
theorem State.uncorrectable_shows (s : State) {d : Nat} (w : Nat) (q : Requester) (hd : d < 8) :
    (∀ n x, ((s.uncorrectable d w q).bank n).word n x = (s.bank n).word n x) ∧
    bitSet (s.uncorrectable d w q) (K.die_SRAM_STAT d) srUE_SEEN ∧
    (s.uncorrectable d w q).g (K.die_SRAM_UE_COUNT d) = wrap32 (s.g (K.die_SRAM_UE_COUNT d) + 1) := by
  unfold State.uncorrectable
  extract_lets r s1
  have hStat : bitSet s1 (K.die_SRAM_STAT d) srUE_SEEN := State.bit_bitTo_same _ _ _ (by grind [isLedKey])
  have hCount : s1.g (K.die_SRAM_UE_COUNT d) = wrap32 (s.g (K.die_SRAM_UE_COUNT d) + 1) := by
    unfold s1
    rw [State.g_bitTo_ne _ _ _ (by simp), State.g_inc_same _ (by grind [isLedKey])]
  have hBank : ∀ m, s1.bank m = s.bank m := fun m => (State.bank_bitTo ..).trans (State.bank_inc ..)
  have hWord : ∀ lastUe n x, ((s1.setBank d (SramRt.tell { r with lastUe := lastUe } q 2)).bank n).word n x =
      (s.bank n).word n x := by
    intro lastUe n x
    by_cases hn : n = d
    · subst hn
      rw [State.bank_setBank]
      rfl
    · rw [State.bank_setBank_ne _ _ hn, hBank]
  have of_logs : ∀ lastUe t, logsOnly (s1.setBank d (SramRt.tell { r with lastUe := lastUe } q 2)) t →
      (∀ n x, (t.bank n).word n x = (s.bank n).word n x) ∧ bitSet t (K.die_SRAM_STAT d) srUE_SEEN ∧
      t.g (K.die_SRAM_UE_COUNT d) = wrap32 (s.g (K.die_SRAM_UE_COUNT d) + 1) := by
    intro lastUe t h
    refine ⟨fun n x => ?_, ?_, ?_⟩
    · rw [h.eq (·.bank n) fun _ _ _ _ _ _ => rfl]
      exact hWord lastUe n x
    · exact (congrArg (bitAt · srUE_SEEN) (h.entries _ (by grind [sharedKey]))).trans hStat
    · exact (h.entries _ (by grind [sharedKey])).trans hCount
  split
  · split
    · exact of_logs r.lastUe _ (.ofQuiet (quiet.react _ _ _ _ _ _ _))
    · exact of_logs _ _ (.declare _ _ _ _ _ _)
  · exact of_logs _ _ (.declare _ _ _ _ _ _)

/-- The writes that an access overtook are told so, and the port's wait is counted: no word changes (R468, R470). -/
theorem State.bank_cycleEnd (s : State) (d : Nat) (l : List SramReq) : ∃ st w, ∀ n,
    ((l.foldl (fun t x => t.wlost d x) s).countWait d).bank n =
      if n = d then { s.bank d with status := st, dmaWait := w } else s.bank n := by
  have hFold : ∀ s : State, ∃ st, ∀ n, (l.foldl (fun t x => t.wlost d x) s).bank n =
      if n = d then { s.bank d with status := st } else s.bank n := by
    induction l with
    | nil =>
      refine fun s => ⟨(s.bank d).status, fun n => ?_⟩
      split
      next h => rw [h]; rfl
      next => rfl
    | cons q r ih =>
      intro s
      obtain ⟨st, h⟩ := ih (s.wlost d q)
      refine ⟨st, fun n => ?_⟩
      rw [List.foldl_cons, h, State.bank_wlost, State.bank_wlost, if_pos rfl]
      split
      next => rfl
      next => rfl
  obtain ⟨st, h⟩ := hFold s
  obtain ⟨w, hw⟩ := (l.foldl (fun t x => t.wlost d x) s).bank_countWait d
  refine ⟨st, w, fun n => ?_⟩
  rw [hw, h, h, if_pos rfl]
  split <;> rfl


theorem State.granted_one {s : State} {d : Nat} {g : SramReq} (h : s.serves d g.who = true) :
    s.granted d [g] = some g := by
  unfold State.granted
  cases hw : g.who <;> simp [List.find?, hw, hw ▸ h]

theorem lostWrites_one (g : SramReq) : lostWrites g [g] = [] := by
  unfold lostWrites
  split
  · rfl
  · cases hw : g.who <;> simp [List.find?, hw]

theorem State.bank_serve_write (s : State) {d v : Nat} {g : SramReq} (hg : g.op = .write v)
    (hl : ((s.bank d).locked && Config.imageWord d g.word) = false) (n : Nat) : (s.serve d g).bank n =
      if n = d then (((s.bank d).upset g.word g.flips).tell g.who 0).write g.word v else s.bank n := by
  rw [s.serve_write hg hl, State.bank_bitTo]
  split
  next h => rw [h, State.bank_setBank]
  next h => exact State.bank_setBank_ne _ _ h

theorem SramRt.noted.check {r q : SramRt} (h : r.noted q) (w : Nat) : q.check w = r.check w := by
  unfold SramRt.check
  rw [h.wrong]

theorem SramRt.wb_upset (r : SramRt) (w f : Nat) : (r.upset w f).wb = r.wb := by
  unfold SramRt.upset
  split <;> rfl

/-- What a granted read of a word leaves, by the number of wrong bits it finds (R464 to R466). -/
structure State.readOut (s : State) (d w : Nat) (r : SramRt) (t : State) : Prop where
  words : ∀ n x, (t.bank n).word n x = (s.bank n).word n x
  clean : ones39 (r.wrong w) = 0 → (t.bank d).dataOut = r.word d w
  single : ones39 (r.wrong w) = 1 → (t.bank d).dataOut = r.word d w ∧
      (r.wb = none → (t.bank d).wb = some (w, r.word d w)) ∧
    t.g (K.die_SRAM_CE_COUNT d) = wrap32 (s.g (K.die_SRAM_CE_COUNT d) + 1)
  more : ones39 (r.wrong w) ≠ 0 → ones39 (r.wrong w) ≠ 1 → bitSet t (K.die_SRAM_STAT d) srUE_SEEN ∧
    t.g (K.die_SRAM_UE_COUNT d) = wrap32 (s.g (K.die_SRAM_UE_COUNT d) + 1)

theorem State.words_setBank (s : State) {d : Nat} {q : SramRt} (h : ∀ x, q.word d x = (s.bank d).word d x) (n x : Nat) :
    ((s.setBank d q).bank n).word n x = (s.bank n).word n x := by
  by_cases hn : n = d
  · subst hn
    rw [State.bank_setBank, h]
  · rw [State.bank_setBank_ne _ _ hn]

theorem State.serve_reads (s : State) {d : Nat} {g : SramReq} {r : SramRt} (hg : g.op = .read) (hd : d < 8)
    (hr : (s.bank d).upset g.word g.flips = r) : s.readOut d g.word r (s.serve d g) := by
  have hServe := s.serve_read hg hr
  have hWord : ∀ v c x, (r.answered g.who v c).word d x = (s.bank d).word d x := fun v c x =>
    hr ▸ SramRt.word_upset (s.bank d) g.word g.flips d x
  rcases hn : ones39 (r.wrong g.word) with _ | _ | k
  · rw [show r.check g.word = .clean from by simp only [SramRt.check, hn]] at hServe
    rw [hServe]
    refine ⟨s.words_setBank (hWord _ _), fun _ => ?_, fun h => ?_, fun h => absurd hn h⟩
    · exact congrArg SramRt.dataOut (State.bank_setBank ..)
    · exact absurd (hn.symm.trans h) (by decide)
  · rw [show r.check g.word = .single from by simp only [SramRt.check, hn]] at hServe
    rw [hServe]
    refine ⟨fun n x => ?_, fun h => absurd (hn.symm.trans h) (by decide), fun _ => ⟨?_, fun hwb => ?_, ?_⟩,
      fun _ h => absurd hn h⟩
    · rw [← s.words_setBank (hWord (r.word d g.word) (cycPlus s.cyc 1)) n x, State.bank_corrected]
      split
      next h => rw [h.1]; rfl
      next => rfl
    · rw [State.bank_corrected]
      split
      · exact congrArg SramRt.dataOut (State.bank_setBank ..)
      · exact congrArg SramRt.dataOut (State.bank_setBank ..)
    · rw [State.bank_corrected, if_pos ⟨rfl, by rw [State.bank_setBank]; exact hwb⟩]
    · rw [State.g_corrected _ _ _ hd, State.setBank_g]
  · rw [show r.check g.word = .uncorrectable from by simp only [SramRt.check, hn]] at hServe
    rw [hServe]
    obtain ⟨hWords, hSeen, hCount⟩ :=
        (s.setBank d (r.answered g.who (Nat.xor (r.word d g.word) (r.wrong g.word % two32))
      (cycPlus s.cyc 1))).uncorrectable_shows g.word g.who hd
    refine ⟨fun n x => (hWords n x).trans (s.words_setBank (hWord _ _) n x), fun h =>
        absurd (hn.symm.trans h) (by simp),
      fun h => absurd (hn.symm.trans h) (by simp), fun _ _ => ⟨hSeen, ?_⟩⟩
    rw [hCount, State.setBank_g]

/-- The rest of the cycle keeps what a read has left: it notes the port's wait alone (R468). -/
theorem State.readOut.countWait {s t : State} {d w : Nat} {r : SramRt} (h : s.readOut d w r t) :
    s.readOut d w r (t.countWait d) := by
  obtain ⟨dw, hw⟩ := t.bank_countWait d
  have hStat := t.g_countWait d (k := K.die_SRAM_STAT d) (by simp)
  have hAt : (t.countWait d).bank d = { t.bank d with dmaWait := dw } := by rw [hw, if_pos rfl]
  refine ⟨fun n x => ?_, fun h0 => ?_, fun h1 => ?_, fun h0 h1 => ?_⟩
  · rw [← h.words, hw]
    split
    next hn => rw [hn]; rfl
    next => rfl
  · rw [hAt]
    exact h.clean h0
  · obtain ⟨hOut, hWb, hCount⟩ := h.single h1
    refine ⟨by rw [hAt]; exact hOut, fun hwb => by rw [hAt]; exact hWb hwb, ?_⟩
    rw [t.g_countWait d (by simp), hCount]
  · obtain ⟨hSeen, hCount⟩ := h.more h0 h1
    refine ⟨(congrArg (bitAt · srUE_SEEN) hStat).trans hSeen, ?_⟩
    rw [t.g_countWait d (by simp), hCount]

theorem State.g_wlost (s : State) {d : Nat} {q : SramReq} (hq : q.who = .dma) (hd : d < 8) :
    (s.wlost d q).g (K.die_WLOST_DMA_COUNT d) = wrap32 (s.g (K.die_WLOST_DMA_COUNT d) + 1) := by
  unfold State.wlost
  extract_lets s1 s2
  rw [State.g_onceEv _ _ _ _ _ _ _ (by grind [sharedKey])]
  unfold s2 s1
  rw [if_pos hq, State.g_inc_same _ (by grind [isLedKey]), State.g_bitTo_ne _ _ _ (by simp), State.setBank_g]

end Sys2Proof.Machine

namespace Sys2Proof

open Sys2Proof.Machine

/-- Settles O38: with the port free the cycle performs the granted access, which SECDED judges, and a write-back does
what its bank has noted. -/
theorem sramServes : Obligations.SramServes := by
  unfold Obligations.SramServes
  refine ⟨fun s d w v f q hd hOk hFree hServes hLock => ?_, fun s d w f q hp hd hw hf hFree hServes => ?_,
    fun s d w v u hp hd hw hv hu hFree hServes hLock => ?_, fun s d w v hp hd hwb hFree hNo hMarch hp2 => ?_⟩
  · refine yields.fitted (decide_eq_true hd) ?_
    rw [if_pos (by simpa using hOk)]
    refine yields_banking ?_
    obtain ⟨b, hb, hEq⟩ := State.sramCycle_of_free hFree (State.granted_one hServes)
    rw [hEq, lostWrites_one]
    obtain ⟨st, dw, hEnd⟩ :=
      ((s.setBank d b).serve d { who := q, word := w, op := .write v, flips := f }).bank_cycleEnd d []
    have hServe := (s.setBank d b).bank_serve_write (d := d) (v := v)
      (g := { who := q, word := w, op := .write v, flips := f }) rfl
      (by rw [State.bank_setBank, hb.locked]; exact hLock)
    simp only [State.bank_keepBanking, hEnd, hServe, if_true, State.bank_setBank]
    refine ⟨SramRt.word_write_same _ d w v, SramRt.wrong_write_same _ w v, fun x hx => ?_, fun n hn => ?_⟩
    · refine (SramRt.word_write_ne _ d v hx).trans ?_
      rw [SramRt.word_tell, SramRt.word_upset, hb.word]
    · rw [if_neg hn, if_neg hn, State.bank_setBank_ne _ _ hn]
  · have hd8 := lt_8_of_lt_dies hp hd
    refine yields.fitted (decide_eq_true hd) ?_
    rw [if_pos (by simpa [reqOk, hw] using hf)]
    refine yields_banking ?_
    obtain ⟨b, hb, hEq⟩ := State.sramCycle_of_free hFree (State.granted_one hServes)
    have hOut := ((s.setBank d b).serve_reads (d := d) (g := { who := q, word := w, op := .read, flips := f }) rfl hd8
        rfl).countWait
    obtain ⟨hWords, hClean, hSingle, hMore⟩ := hOut
    rw [State.bank_setBank] at hClean hSingle hMore
    simp only [(hb.upset w f).wrong, (hb.upset w f).word, SramRt.wb_upset, hb.wb, State.setBank_g]
      at hClean hSingle hMore
    rw [hEq, lostWrites_one]
    refine ⟨fun n x => ?_, ?_⟩
    · exact (hWords n x).trans (s.words_setBank (hb.word d) n x)
    · simp only [State.g_keepBanking _ _ (show isLedKey (K.die_SRAM_CE_COUNT d) = false from by grind [isLedKey]),
        State.g_keepBanking _ _ (show isLedKey (K.die_SRAM_UE_COUNT d) = false from by grind [isLedKey]),
        SramRt.wb_upset]
      split
      next h0 => exact hClean h0
      next h0 =>
        split
        next h1 => exact hSingle h1
        next h1 =>
          obtain ⟨hSeen, hCount⟩ := hMore h0 h1
          exact ⟨(congrArg (bitAt · srUE_SEEN) (State.g_keepBanking _ _ (by grind [isLedKey]))).trans hSeen, hCount⟩
  · have hd8 := lt_8_of_lt_dies hp hd
    refine yields.fitted (decide_eq_true hd) ?_
    rw [if_pos (by simp [reqOk, hw, hv, hu])]
    refine yields_banking ?_
    have hGrant : s.granted d [{ who := .dma, word := w, op := .write u },
        { who := .core, word := w, op := .write v }] =
        some { who := .core, word := w, op := .write v } := by
      simp [State.granted, hServes]
    obtain ⟨b, hb, hEq⟩ := State.sramCycle_of_free hFree hGrant
    have hLost : lostWrites { who := .core, word := w, op := .write v }
        [{ who := .dma, word := w, op := .write u }, { who := .core, word := w, op := .write v }] =
        [{ who := .dma, word := w, op := .write u }] := by
      simp [lostWrites, reqWrites, reqWhole]
    have hServe := (s.setBank d b).bank_serve_write (d := d) (v := v) (g :=
        { who := .core, word := w, op := .write v }) rfl
      (by rw [State.bank_setBank, hb.locked]; exact hLock)
    rw [hEq, hLost]
    obtain ⟨st, dw, hEnd⟩ := ((s.setBank d b).serve d { who := .core, word := w, op := .write v }).bank_cycleEnd d
      [{ who := .dma, word := w, op := .write u }]
    refine ⟨?_, ?_⟩
    · rw [State.bank_keepBanking, hEnd, if_pos rfl, hServe, if_pos rfl]
      exact SramRt.word_write_same _ _ _ _
    · rw [State.g_keepBanking _ _ (by grind [isLedKey]), State.g_countWait _ _ (by simp), List.foldl_cons,
        List.foldl_nil,
        State.g_wlost _ rfl hd8, State.serve_write _ (v := v) rfl (by rw [State.bank_setBank, hb.locked]; exact hLock),
        State.g_bitTo_ne _ _ _ (by simp), State.setBank_g, State.setBank_g]
  · have hd8 := lt_8_of_lt_dies hp hd
    obtain ⟨hRmw, hWait, hCyc, -⟩ := hFree
    refine yields.fitted (decide_eq_true hd) (yields_banking ?_)
    rw [hwb]
    dsimp only
    rw [if_neg (by simp [hRmw, hWait, hCyc, hNo, hMarch, hp2])]
    refine ⟨?_, ?_, ?_, ?_⟩
    · rw [State.bank_keepBanking, State.bank_bitTo, State.bank_setBank]
      exact SramRt.word_put_same _ _ _ _
    · rw [State.bank_keepBanking, State.bank_bitTo, State.bank_setBank]
      exact SramRt.wrong_write_same (s.bank d) w v
    · rw [State.bank_keepBanking, State.bank_bitTo, State.bank_setBank]
    · exact (congrArg (bitAt · srWB_PEND) (State.g_keepBanking _ _ (by grind [isLedKey]))).trans
        (State.bit_bitTo_same _ _ _ (by grind [isLedKey]))

end Sys2Proof
end

section
/-! The frames of the chip units (O59), which do not hold. -/

namespace Sys2Proof

open Sys2Proof.Machine

/-- D0 waits in IDLE for the end of its wake; its entry GP_OUT holds a value that its GPIO cells do not carry yet. -/
def gpioBehind : State :=
  { od := [(K.sup_PWR_STATE 0, 1), (K.die_GP_OUT 0, 1)], dieRt := [(0, { waking := some 0 })] }

/-- Refutes O59: WAKE_COMPLETE lets the GPIO cells of the die take the values of their entries (R577), which the frame
of the power commands leaves out. -/
theorem not_chipFrames : ¬ Obligations.ChipFrames := by
  unfold Obligations.ChipFrames
  rintro ⟨-, -, -, -, -, h, -⟩
  obtain ⟨hOwn, -⟩ := h gpioBehind _ 0 (.wakeComplete 0) (by simp) rfl
  exact absurd (congrArg (fun t => (t.gpio.look {} 0).out) hOwn.rest) (by decide +kernel)

end Sys2Proof
end

section
/-! The loop output and the inputs (O40). -/

namespace Sys2Proof.Machine

open Sys2Proof

-- the loop output

theorem State.g_loopShow_OUT (s : State) (mode out : Nat) (b : Bool) :
    (s.loopShow mode out b).g K.loop_LOOP_OUT = out := by
  unfold State.loopShow
  rw [State.g_p_ne _ _ (by decide), State.g_p_same _ _ (by decide)]

/-- A move of a measuring output takes LOOP_OUT one step towards the target of the cycle (R650, R652). -/
theorem State.g_moveLoop {s f : State} (hs : s.loopMode = 0) (hf : f.loopMode = 0) :
    (s.moveLoop f).g K.loop_LOOP_OUT = moveTo (s.g K.loop_LOOP_OUT)
      (if s.loop.wroteAt = s.cyc + 1 then s.loop.oldTarget else f.loopTarget) (s.g K.sag_LOOP_SLEW) := by
  unfold State.moveLoop
  rw [if_neg (by simp [hs, hf])]
  extract_lets target out slewing s1
  have hShown : s1.g K.loop_LOOP_OUT = out := State.g_loopShow_OUT ..
  split
  · exact hShown
  · exact hShown

theorem State.g_compareLoop (s : State) (ua : Nat) : (s.compareLoop ua).g K.loop_LOOP_MEAS = s.g K.loop_LOOP_MEAS := by
  unfold State.compareLoop
  extract_lets l bad s1 s2 good
  have hs2 : s2.g K.loop_LOOP_MEAS = s.g K.loop_LOOP_MEAS := State.g_bitTo_ne _ _ _ (by decide)
  split
  · rfl
  split
  · rfl
  split
  · split
    · rfl
    split
    · exact hs2
    · exact (State.g_evChip _ _ _ (by decide)).trans hs2
  · rfl

/-- The hundredth measurement in a row out of tolerance (R654). -/
theorem State.compareLoop_mismatch {s : State} {ua : Nat} (hEn : s.g K.loop_LOOP_EN ≠ 0)
    (hSlew : s.bit K.loop_LOOP_STAT lpSLEWING = false) (hEnd : s.loop.slewEnd = 0) (hOff : s.loopOff ua = true)
    (hBad : 99 ≤ s.loop.bad) : (s.compareLoop ua).bit K.loop_LOOP_STAT lpMISMATCH = true := by
  unfold State.compareLoop
  extract_lets l bad s1 s2 good
  have hs2 : s2.bit K.loop_LOOP_STAT lpMISMATCH = true := State.bit_bitTo_same _ _ _ (by decide)
  have hHundred : ¬ bad < 100 := by
    simp only [bad, l]
    omega
  rw [if_neg hEn, if_neg (by simp [hSlew, l, hEnd]), if_pos hOff, if_neg hHundred]
  split
  · exact hs2
  · exact (congrArg (bitAt · lpMISMATCH) (State.g_evChip _ _ _ (by decide))).trans hs2

end Sys2Proof.Machine

namespace Sys2Proof

open Sys2Proof.Machine

/-- Settles O40: a move of the loop output, a measurement of it, and a change of a die's balls. -/
theorem loopAndInputs : Obligations.LoopAndInputs := by
  unfold Obligations.LoopAndInputs
  refine ⟨fun s hCyc hClk hRun hMode hForce => ?_, fun s ua hClk => ?_, fun s d v hp hd hv hUp hState hLant => ?_⟩
  · refine yields.whenTrue ⟨hCyc, hClk, hRun⟩ ?_
    rw [State.g_keepCore _ _ (by decide), State.g_moveLoop hMode hForce]
    rfl
  · refine yields.whenTrue hClk ⟨?_, fun hEn hSlew hEnd hOff hBad => ?_⟩
    · rw [State.g_keepCore _ _ (by decide), State.g_compareLoop, State.g_p_same _ _ (by decide), satAt_eq_min]
    · refine (congrArg (bitAt · lpMISMATCH) (State.g_keepCore _ _ (by decide))).trans
        (State.compareLoop_mismatch ?_ ?_ ?_ ?_ ?_)
      · rwa [State.g_p_ne _ _ (by decide)]
      · exact (congrArg (bitAt · lpSLEWING) (State.g_p_ne _ _ (by decide))).trans hSlew
      · exact hEnd
      · unfold State.loopOff at hOff ⊢
        rwa [State.g_p_ne _ _ (by decide), State.g_p_ne _ _ (by decide), satAt_eq_min]
      · exact hBad
  · have hd8 := lt_8_of_lt_dies hp hd
    refine yields.fitted (decide_eq_true hd) ?_
    rw [if_neg (by omega)]
    refine yields.whenTrue (by simp [hUp, hState, hLant]) ?_
    rw [State.g_keepCore _ _ (by grind [isLedKey]), State.g_p_same _ _ (by grind [isLedKey])]

end Sys2Proof
end

section
/-! The mailbox (O44), which does not hold as stated. -/

namespace Sys2Proof

open Sys2Proof.Machine

/-- A firing from CAN applies in this cycle, later in the queue, and stages SDO_TMO; the host's mailbox names the
entry. -/
def timeoutFiring : State :=
  ({ State.reset with
    dieRt := [(0, { up := true })], ready := true, pending := [.firingApply]
    host := { odIndex := 0x2000, odSub := 0x65 }
    fires := [(1, { stages := [{ key := K.dev_SDO_TMO, data := [7, 0], slots := 1, cyc := 0, persistent := false }]
                    start := some 0 })] }).p (K.fire_FIRE_STAT 1) (3 * 2 ^ 13)

/-- Refutes O44: a READ brings the value in force in its cycle, that of a firing that applies in it (R414, R645), and
not the one the entry still holds. -/
theorem not_mailboxServes : ¬ Obligations.MailboxServes := by
  unfold Obligations.MailboxServes
  rintro ⟨-, -, -, hRead, -⟩
  obtain ⟨-, -, -, -, hMail, -⟩ := yields.elim <| hRead timeoutFiring (by decide +kernel) (by decide +kernel) rfl
    (by decide +kernel) (by decide +kernel)
  exact absurd hMail (by decide +kernel)

end Sys2Proof
end

section
/-! Starts of the chip (O24), which do not hold as stated. -/

namespace Sys2Proof

open Sys2Proof.Machine

/-- Word 0 does not return the zeros the first element has written. -/
def wordFails : MarchRead := { word := 0, checker := false, element := 1, value := 1 }

/-- What the scrub read finds of an uncorrectable line: five words with two wrong bits each. -/
def lineErrs : List WordErr := (List.range 5).map fun i => { word := i, bits := 2, flagged := true, bytes := [] }

/-- A die of a start, with the reads of a March run, where one is made, and the lines that do not read. -/
def dieFound (reads : List MarchRead) (lines : List Nat) : DieStart :=
  { cause := 0, imgReason := 0, cycOff := [0], marchAt := 0, march := reads, scrub := lines.map (·, lineErrs),
    calAt := 0
    cal := List.replicate 8 { uCal := 1024, inl := List.replicate 64 0, inBand := true }
    quick := List.replicate 8 [], edgeMean := 0, resid := 0, check := 0 }

/-- What a start of two dies finds, where D0's SRAM would fail its March run, and a line of each image slot does not
read. -/
def badWordFound : StartInfo :=
  { supmode := 0, nodeId := 1, ledger := [], resDv := 52, cycles := 100000, f0Cycles := 90000, emberCycles := 0
    resynced := [], dies := [dieFound [wordFails] [10, 2100], dieFound [] []] }

/-- A pin reset of the part while a firing is scheduled whose one action sets MARCH_COLD of D0; the store still holds
0. -/
def marchFiring : State :=
  ({ State.reset with
    dies := 2, dieRt := [(0, { trigger := 2 })], pow := { loopOn := true }, saved := [(K.die_MARCH_COLD 0, [0])]
    fires := [(0, { stages := [{ key := K.die_MARCH_COLD 0, data := [1], slots := 1, cyc := 0, persistent := true }]
                    start := some 0 })] }).p (K.fire_FIRE_STAT 0) (3 * 2 ^ 13)

/-- Refutes O24: the recovery of a sealed firing sets MARCH_COLD (R416, R455) after D0 has passed the place of its March
run without one, so MARCH_COLD reads 1 although no run was made; the start halts for want of an image, not with cause
1. -/
theorem not_chipStarts : ¬ Obligations.ChipStarts := by
  unfold Obligations.ChipStarts
  rintro ⟨hCold, -⟩
  obtain ⟨hMarch, -⟩ := yields.elim <| hCold marchFiring 1 badWordFound (.inl rfl) (by decide) (by decide)
    (by decide +kernel) (by decide +kernel) (by decide +kernel) (by decide +kernel)
  obtain ⟨-, hHalt⟩ := hMarch (by decide +kernel) (by decide +kernel)
  exact absurd hHalt (by decide +kernel)

end Sys2Proof
end

section
/-! Frames of the host window (O43). -/

namespace Sys2Proof.Machine

open Sys2Proof

-- frames of the host window

theorem yields_accessing {s t : State} {P : State → Prop} (h : P (s.keepAccess t)) : yields (accessing s t) P :=
    ⟨_, rfl, h⟩

@[simp] theorem State.host_keepAccess (s t : State) : (s.keepAccess t).host = t.host := rfl

/-- HCS wakes D0 at most (R536). -/
theorem State.host_selected (s : State) : s.selected.host = s.host := by
  unfold State.selected
  split
  · exact State.wake_keeps s 0 (·.host) fun _ => rfl
  · rfl

theorem State.host_writeFrame_bad {s : State} {cmd addr len bits : Nat} (ws : List Nat)
    (h : frameOk cmd addr len = false ∨ bits ≠ 24 + 16 * (len + 1)) :
    (s.writeFrame cmd addr len ws bits).host = { s.host with frameErr := true } := by
  unfold State.writeFrame
  rw [if_neg]
  rcases h with h | h <;> simp [h]

/-- A word written to a register that is served (R642, R643). -/
theorem State.writeWord_served {s : State} {a : Nat} (w : Nat) (ha : a ≠ 0x1F) (h : s.windowFull = true) :
    s.writeWord a w = s.breakKey.regWrite a w := by
  unfold State.writeWord
  dsimp only
  rw [if_neg ha, h]
  rfl

/-- A write frame of the two words of registers 6 and 7 (R628, R630). -/
theorem State.host_writeFrame_entry {s : State} (i j : Nat) (h : s.windowFull = true) :
    (s.writeFrame 0 6 1 [i, j] 56).host =
        { s.breakKey.breakKey.host with odIndex := i, odSub := j % 256, werr := wOK } := by
  have hFirst : s.writeWord 6 i = s.breakKey.regWrite 6 i := s.writeWord_served i (by decide) h
  have hSecond : (s.breakKey.regWrite 6 i).1.writeWord 7 j = (s.breakKey.regWrite 6 i).1.breakKey.regWrite 7 j :=
    State.writeWord_served j (by decide) h
  unfold State.writeFrame
  rw [if_pos (by decide)]
  unfold State.writeWords State.writeWords State.writeWords
  dsimp only
  rw [show wordAddr 0 6 0 = 6 from rfl, show wordAddr 0 6 (0 + 1) = 7 from rfl, hFirst, hSecond]
  rfl

theorem State.host_readFrame_bad {s : State} {cmd addr len : Nat} (bits : Nat) (h : frameOk cmd addr len = false) :
    (s.readFrame cmd addr len bits).host = { s.host with frameErr := true } := by
  unfold State.readFrame
  rw [if_pos (by simp [h])]

/-- A read frame of one register other than OD_DATA and CYC_L (R631). -/
theorem State.miso_readFrame {s : State} {a : Nat} (ha : a ≤ 0x1F) (hData : a ≠ 0x0B) (hCyc : a ≠ 0x18)
    (h : s.windowFull = true) : (s.readFrame 128 a 0 40).host.miso = [s.winStat, s.regValue a] := by
  have hOk : frameOk 128 a 0 = true := by simp [frameOk, ha]
  have hNoCyc : readsCyc 128 a 0 = false := by
    rw [readsCyc, if_neg (by decide)]
    simp only [Bool.and_eq_false_iff, decide_eq_false_iff_not]
    omega
  have hWord : s.readWord a = (s, s.regValue a) := by
    unfold State.readWord
    rw [if_pos h, if_neg hData]
  unfold State.readFrame
  simp only [hOk, Bool.not_true, Bool.false_eq_true, if_false, hNoCyc, Bool.false_and]
  have hWords : s.readWords 128 a 1 0 = ((s.readWord a).1, [(s.readWord a).2]) := rfl
  rw [show min (0 + 1) ((40 - 24) / 16) = 1 from rfl, hWords, hWord]

end Sys2Proof.Machine

namespace Sys2Proof

open Sys2Proof.Machine

/-- Settles O43: a malformed frame sets FRAME_ERR alone, a served one writes or reads its registers in turn. -/
theorem windowFrames : Obligations.WindowFrames := by
  unfold Obligations.WindowFrames
  refine ⟨fun s cmd addr len bits ws hc ha hl hn hw hServes hBad => ?_, fun s i j hi hj hServes hFull => ?_,
    fun s cmd addr len bits hc hc2 ha hl hServes hBad => ?_, fun s a ha hData hCyc hServes hFull => ?_,
    fun s v l hv hServes hFull hSnap => ?_, fun s hServes => ?_⟩
  · have hOk : (frameBytesOk cmd addr len && decide (cmd < 128) && decide (ws.length = len + 1) &&
        ws.all (fun w => decide (w < 65536))) = true := by
      simp [frameBytesOk, hc, ha, hl, hn]
      exact ⟨by omega, hw⟩
    show yields (if (!(frameBytesOk cmd addr len && _ && _ && _)) = true then _ else _) _
    rw [hOk, if_neg (by decide), if_pos hServes]
    refine yields_accessing ?_
    rw [State.host_keepAccess, State.host_selected, State.host_writeFrame_bad ws hBad]
  · show yields (if _ then _ else _) _
    rw [if_neg (by simp [frameBytesOk, hi, hj]), if_pos hServes]
    refine yields_accessing ?_
    rw [State.host_keepAccess, State.host_selected, State.host_writeFrame_entry i j hFull]
    exact ⟨rfl, rfl, rfl⟩
  · show yields (if _ then _ else _) _
    rw [if_neg (by simp [frameBytesOk, hc, hc2, ha, hl]), if_pos hServes]
    refine yields_accessing ?_
    rw [State.host_keepAccess, State.host_selected, State.host_readFrame_bad bits hBad]
  · show yields (if _ then _ else _) _
    rw [if_neg (by simp [frameBytesOk]; omega), if_pos hServes]
    refine yields_accessing ?_
    rw [State.host_keepAccess, State.host_selected, State.miso_readFrame ha hData hCyc hFull]
  · show yields (if _ then _ else accessing s (if _ then _ else _)) _
    rw [if_neg (by omega), if_pos hServes]
    refine yields_accessing ?_
    have hSame : s.breakKey.snapOf v = .ok l := hSnap
    have hWrite : s.writeWord 0x0F v =
        ({ s.breakKey with host := { s.breakKey.host with snapCtl := v, snap := l, snapAt := s.cyc + 1 } }, wOK) := by
      rw [State.writeWord_served v (by decide) hFull]
      show s.breakKey.snapCtl v = _
      unfold State.snapCtl
      rw [hSame]
      rfl
    rw [State.host_keepAccess, State.host_selected, hWrite]
    exact ⟨rfl, rfl, rfl, rfl⟩
  · show yields (accessing s (if _ then _ else _)) _
    rw [if_pos hServes]
    refine yields_accessing ?_
    rw [State.host_keepAccess, State.host_selected]
    exact ⟨rfl, rfl⟩

end Sys2Proof
end

section
/-! The network node: its NMT states, a fresh start of the controller, and resets asked for by command (O45, O46). -/

namespace Sys2Proof.Machine

open Sys2Proof

-- fields of a word

theorem testBit_field (w hi lo i : Nat) :
    (field w hi lo).testBit i = (decide (i < hi + 1 - lo) && w.testBit (i + lo)) := by
  rw [field, Nat.testBit_mod_two_pow, Nat.testBit_div_two_pow]

/-- A field set in a word: the bits within it are the value's, all others stay. -/
theorem testBit_setField {w hi lo v : Nat} (h : lo ≤ hi) (i : Nat) :
    (setField w hi lo v).testBit i = if i < lo then w.testBit i else if i < hi + 1 then v.testBit (i - lo) else
        w.testBit i := by
  set k := hi + 1 - lo with hk
  have hWord : setField w hi lo v = 2 ^ lo * (2 ^ k * (w / 2 ^ lo / 2 ^ k) + v % 2 ^ k) + w % 2 ^ lo := by
    have hLow := Nat.div_add_mod w (2 ^ lo)
    have hHigh := Nat.div_add_mod (w / 2 ^ lo) (2 ^ k)
    have hSplit : w = 2 ^ lo * (2 ^ k * (w / 2 ^ lo / 2 ^ k)) + w / 2 ^ lo % 2 ^ k * 2 ^ lo + w % 2 ^ lo := by
      conv_lhs => rw [← hLow, ← hHigh]
      ring
    rw [setField, field, ← hk, Nat.mul_add]
    generalize 2 ^ lo * (2 ^ k * (w / 2 ^ lo / 2 ^ k)) = a at *
    rw [Nat.mul_comm (2 ^ lo) (v % 2 ^ k)]
    omega
  rw [hWord, Nat.testBit_two_pow_mul_add _ (Nat.mod_lt _ (Nat.two_pow_pos _))]
  split
  next hlt => rw [Nat.testBit_mod_two_pow, decide_eq_true hlt, Bool.true_and]
  next hge =>
    rw [Nat.testBit_two_pow_mul_add _ (Nat.mod_lt _ (Nat.two_pow_pos _))]
    split
    next hin => rw [Nat.testBit_mod_two_pow, decide_eq_true hin, Bool.true_and, if_pos (by omega)]
    next hout =>
      rw [if_neg (by omega), Nat.testBit_div_two_pow, Nat.testBit_div_two_pow]
      congr 1
      omega

theorem field_setField_same {w hi lo v : Nat} (h : lo ≤ hi) (hv : v < 2 ^ (hi + 1 - lo)) :
    field (setField w hi lo v) hi lo = v := by
  refine Nat.eq_of_testBit_eq fun i => ?_
  rw [testBit_field, testBit_setField h, if_neg (by omega), Nat.add_sub_cancel]
  by_cases hi' : i < hi + 1 - lo
  · rw [if_pos (by omega), decide_eq_true hi', Bool.true_and]
  · rw [decide_eq_false hi', Bool.false_and]
    exact (Nat.testBit_lt_two_pow (hv.trans_le (Nat.pow_le_pow_right (by decide) (by omega)))).symm

/-- A field set to what it holds is the word itself. -/
theorem setField_field {w hi lo : Nat} (h : lo ≤ hi) : setField w hi lo (field w hi lo) = w := by
  refine Nat.eq_of_testBit_eq fun i => ?_
  rw [testBit_setField h]
  split
  · rfl
  · split
    · rw [testBit_field, decide_eq_true (by omega), Bool.true_and]
      congr 1
      omega
    · rfl

theorem field_setField_ne {w hi lo v h2 l2 : Nat} (h : lo ≤ hi) (hApart : h2 < lo ∨ hi < l2) :
    field (setField w hi lo v) h2 l2 = field w h2 l2 := by
  refine Nat.eq_of_testBit_eq fun i => ?_
  rw [testBit_field, testBit_field, testBit_setField h]
  by_cases hi' : i < h2 + 1 - l2
  · rcases hApart with hApart | hApart
    · rw [if_pos (by omega)]
    · rw [if_neg (by omega), if_neg (by omega)]
  · rw [decide_eq_false hi', Bool.false_and, Bool.false_and]

theorem bitAt_setField_ne {w hi lo v b : Nat} (h : lo ≤ hi) (hApart : b < lo ∨ hi < b) :
    bitAt (setField w hi lo v) b = bitAt w b := by
  rw [bitAt_eq_testBit, bitAt_eq_testBit, testBit_setField h]
  rcases hApart with hApart | hApart
  · rw [if_pos hApart]
  · rw [if_neg (by omega), if_neg (by omega)]

/-- A bit outside a field leaves it. -/
theorem field_setBit_ne {w n h2 l2 : Nat} (b : Bool) (hApart : n < l2 ∨ h2 < n) :
    field (setBit w n b) h2 l2 = field w h2 l2 := by
  refine Nat.eq_of_testBit_eq fun i => ?_
  rw [testBit_field, testBit_field]
  by_cases hi' : i < h2 + 1 - l2
  · rw [← bitAt_eq_testBit, ← bitAt_eq_testBit, bitAt_setBit_ne _ _ (by omega)]
  · rw [decide_eq_false hi', Bool.false_and, Bool.false_and]

-- frames of the network

/-- The same network record but for the frames that wait and have been sent, the transmit window, and triggered TPDOs.
-/
def sameFrames (a b : NetRt) : Prop :=
  b = { a with
    txQ := b.txQ, sent := b.sent, started := b.started, heldInWin := b.heldInWin, winAt := b.winAt
    trig := b.trig }

namespace sameFrames

theorem refl (a : NetRt) : sameFrames a a := rfl

theorem trans {a b c : NetRt} (h : sameFrames a b) (g : sameFrames b c) : sameFrames a c := by
  unfold sameFrames at *
  rw [g, h]

theorem eq {β : Type} {a b : NetRt} (h : sameFrames a b) (f : NetRt → β)
    (hf : ∀ q se st he wi tr,
      f { a with txQ := q, sent := se, started := st, heldInWin := he, winAt := wi, trig := tr } = f a) :
    f b = f a := by
  rw [h]; exact hf _ _ _ _ _ _

theorem ofSame {a b : NetRt} (h : sameNet a b) : sameFrames a b := by
  unfold sameFrames sameNet at *
  rw [h]

theorem ofQuiet {s t : State} (h : quiet s t) : sameFrames s.net t.net := ofSame h.net

theorem holdFrame (s : State) (f : CanFrame) : sameFrames s.net (s.holdFrame f).net := by
  unfold State.holdFrame
  extract_lets fresh _ s1 _ _ s2 s3
  have h1 : sameFrames s.net s1.net := rfl
  have h2 : sameFrames s1.net s2.net := rfl
  have h3 : sameFrames s2.net s3.net := ofQuiet (quiet.onceEv _ _ _ _ _ _ _)
  split
  · exact h1
  · split
    · exact ((h1.trans h2).trans h3).trans (ofQuiet (quiet.inc _ (by decide)))
    · exact (h1.trans h2).trans h3

theorem newTxWindow (s : State) : sameFrames s.net s.newTxWindow.net := by
  unfold State.newTxWindow
  extract_lets _ s1 s2
  have h1 : sameFrames s.net s1.net := rfl
  have h2 : sameFrames s1.net s2.net := rfl
  split
  · exact h1
  · split
    · exact h1.trans h2
    · next f rest _ =>
      have h3 : sameFrames s2.net { s2.net with txQ := [] } := rfl
      exact (((h1.trans h2).trans h3).trans (holdFrame { s2 with net := { s2.net with txQ := [] } } f)).trans rfl

theorem startFrame (s : State) (f : CanFrame) : sameFrames s.net (s.startFrame f).net := by
  unfold State.startFrame
  extract_lets s1
  have h1 : sameFrames s.net s1.net := by
    unfold s1 State.windowFirst
    split
    · exact newTxWindow s
    · exact refl _
  split
  · exact h1.trans rfl
  · exact h1.trans (holdFrame s1 f)

theorem sendFrame (s : State) (f : CanFrame) : sameFrames s.net (s.sendFrame f).net := by
  unfold State.sendFrame
  split
  · exact refl _
  · split
    · exact rfl
    · split
      · split
        · exact rfl
        · exact refl _
      · exact startFrame s f

end sameFrames


-- the state of the network node

/-- The same network record but for what belongs to an NMT state: the transfer of the SDO server, the timers and
triggers of PDOs, and SYNC production. -/
def sameNode (a b : NetRt) : Prop :=
  b = { a with
    xfer := b.xfer, wait := b.wait, lineRead := b.lineRead, syncBase := b.syncBase, syncCnt := b.syncCnt,
    dirty := b.dirty
    inhWait := b.inhWait, rpdoWait := b.rpdoWait, trig := b.trig, due := b.due, evtAt := b.evtAt,
    syncNext := b.syncNext }

namespace sameNode

theorem refl (a : NetRt) : sameNode a a := rfl

theorem trans {a b c : NetRt} (h : sameNode a b) (g : sameNode b c) : sameNode a c := by
  unfold sameNode at *
  rw [g, h]

theorem eq {β : Type} {a b : NetRt} (h : sameNode a b) (f : NetRt → β)
    (hf : ∀ xf wa lr sb sc di iw rw tr du ev sn, f { a with
      xfer := xf, wait := wa, lineRead := lr, syncBase := sb, syncCnt := sc, dirty := di, inhWait := iw, rpdoWait := rw
      trig := tr, due := du, evtAt := ev, syncNext := sn } = f a) : f b = f a := by
  rw [h]; exact hf _ _ _ _ _ _ _ _ _ _ _ _

theorem ofSame {a b : NetRt} (h : sameNet a b) : sameNode a b := by
  unfold sameNode sameNet at *
  rw [h]

theorem foldl {β : Type} (f : State → β → State) (hf : ∀ s b, sameNode s.net (f s b).net) (l : List β) (s : State) :
    sameNode s.net (l.foldl f s).net := by
  induction l generalizing s with
  | nil => exact refl _
  | cons b r ih => exact (hf s b).trans (ih _)

end sameNode

/-- Of `s`, the state `t` differs by what a change of the node's NMT state touches: the entries `own` names, the shared
entries, the network record, kiln-log entries raised, and the accesses that waited for the SDO server. -/
structure nodeOnly (own : Nat → Prop) (s t : State) : Prop where
  rest : t = { s with
    od := t.od, net := t.net, lag := t.lag, dieRt := t.dieRt, once := t.once, lines := t.lines, ember := t.ember }
  net : sameNode s.net t.net
  entries : ∀ k, sharedKey k = false → ¬ own k → t.g k = s.g k
  dies : ∀ d, sameQueue (s.die d) (t.die d)

namespace nodeOnly

variable {own : Nat → Prop}

theorem refl (s : State) : nodeOnly own s s := ⟨rfl, rfl, fun _ _ _ => rfl, fun _ => rfl⟩

theorem trans {s t u : State} (a : nodeOnly own s t) (b : nodeOnly own t u) : nodeOnly own s u where
  rest := by rw [b.rest, a.rest]
  net := a.net.trans b.net
  entries k h n := (b.entries k h n).trans (a.entries k h n)
  dies d := by
    have ha := a.dies d
    have hb := b.dies d
    unfold sameQueue at *
    rw [hb, ha]

theorem eq {β : Type} {s t : State} (h : nodeOnly own s t) (f : State → β)
    (hf : ∀ od net lag dieRt once lines ember, f { s with
      od := od, net := net, lag := lag, dieRt := dieRt, once := once, lines := lines, ember := ember } = f s) :
          f t = f s := by
  rw [h.rest]; exact hf _ _ _ _ _ _ _

theorem mono {other : Nat → Prop} {s t : State} (h : nodeOnly own s t) (ho : ∀ k, own k → other k) :
    nodeOnly other s t :=
  ⟨h.rest, h.net, fun k hk hn => h.entries k hk fun h' => hn (ho k h'), h.dies⟩

theorem ofQuiet {s t : State} (h : quiet s t) : nodeOnly own s t where
  rest := by rw [h.rest]
  net := sameNode.ofSame h.net
  entries k hk _ := h.entries k hk
  dies := h.dies

theorem setNet (s : State) {n : NetRt} (h : sameNode s.net n) : nodeOnly own s { s with net := n } :=
  ⟨rfl, h, fun _ _ _ => rfl, fun _ => rfl⟩

theorem canStat (s : State) (v : Nat) : nodeOnly (· = K.dev_CAN_STAT) s (s.p K.dev_CAN_STAT v) where
  rest := by unfold State.p; split <;> rfl
  net := sameNode.ofSame (State.p_net s _ v)
  entries k _ hk := State.g_p_ne s v hk
  dies d := by simp [sameQueue]

theorem armEvent (s : State) (n : Nat) : nodeOnly own s (s.armEvent n) := setNet s rfl

theorem foldl {β : Type} (f : State → β → State) (hf : ∀ s b, nodeOnly own s (f s b)) (l : List β) (s : State) :
    nodeOnly own s (l.foldl f s) := by
  induction l generalizing s with
  | nil => exact refl s
  | cons b r ih => exact (hf s b).trans (ih _)

theorem orphanWaits (s : State) : nodeOnly own s s.orphanWaits := by
  have hLine : ∀ (t : State) (d : Nat) (r : LineRt), nodeOnly own t (t.setLine d r) := fun t d r =>
    ⟨rfl, rfl, fun _ _ _ => rfl, fun _ => rfl⟩
  unfold State.orphanWaits
  extract_lets t
  have ht : nodeOnly own s t := foldl _ (fun u d => hLine u d _) _ s
  exact ht.trans ⟨rfl, rfl, fun _ _ _ => rfl, fun _ => rfl⟩

theorem dropTransfer (s : State) : nodeOnly own s s.dropTransfer := by
  unfold State.dropTransfer
  extract_lets t
  have ht : nodeOnly own s t := by
    unfold t
    split
    · exact orphanWaits s
    · exact refl s
  exact ht.trans (setNet t rfl)

theorem syncOperational (s : State) : nodeOnly own s s.syncOperational :=
  (setNet s (n := { s.net with syncCnt := [], dirty := [], inhWait := [], rpdoWait := [], trig := 0, due := 0 })
      rfl).trans
    (foldl _ armEvent _ _)

end nodeOnly

/-- A change of the NMT state shows in CAN_STAT (R594). -/
theorem State.setNmt_moves (s : State) (v : Nat) :
    nodeOnly (· = K.dev_CAN_STAT) s (s.setNmt v) ∧ (s.setNmt v).g K.dev_CAN_STAT = setField (s.g K.dev_CAN_STAT) 6 0
        v := by
  unfold State.setNmt
  split
  next h => exact ⟨.refl s, by rw [← h]; exact (setField_field (by decide)).symm⟩
  next h =>
    extract_lets s1 _ s2
    have hStat : s1.g K.dev_CAN_STAT = setField (s.g K.dev_CAN_STAT) 6 0 v :=
      (State.g_evChip _ _ _ (by decide)).trans (State.g_p_same _ _ (by decide))
    have h1 : nodeOnly (· = K.dev_CAN_STAT) s s1 := (nodeOnly.canStat s _).trans (.ofQuiet (quiet.evChip _ _ _))
    have h2 : nodeOnly (fun _ => False) s1 s2 := by
      unfold s2
      split
      · exact .dropTransfer s1
      · exact .setNet s1 rfl
    have h3 : ∀ c : Prop, [Decidable c] →
        nodeOnly (fun _ => False) s1 (if c then s2.syncOperational else s2).armSync := by
      intro c _
      split
      · exact (h2.trans (.syncOperational s2)).trans (.setNet _ rfl)
      · exact h2.trans (.setNet _ rfl)
    exact ⟨h1.trans ((h3 _).mono fun _ h => h.elim), ((h3 _).entries _ (by decide) id).trans hStat⟩

theorem State.nmt_setNmt (s : State) {v : Nat} (hv : v < 128) : (s.setNmt v).nmt = v := by
  unfold State.nmt
  rw [(s.setNmt_moves v).2]
  exact field_setField_same (by decide) hv

theorem State.canErr_setNmt (s : State) (v : Nat) : (s.setNmt v).canErr = s.canErr := by
  unfold State.canErr
  rw [(s.setNmt_moves v).2]
  exact field_setField_ne (by decide) (.inr (by decide))

theorem State.canStat_setNmt (s : State) (v : Nat) {b : Nat} (hb : 6 < b) :
    (s.setNmt v).bit K.dev_CAN_STAT b = s.bit K.dev_CAN_STAT b := by
  unfold State.bit
  rw [(s.setNmt_moves v).2]
  exact bitAt_setField_ne (by decide) (.inr hb)

/-- A command of the NMT changes the state of a booted node alone (R592, R593). -/
theorem State.nmt_nmtTo (s : State) {v : Nat} (hv : v < 128) : (s.nmtTo v).nmt = if s.nmt = nmBOOT then s.nmt else
    v := by
  unfold State.nmtTo
  split
  · rfl
  · exact s.nmt_setNmt hv

theorem State.nmtTo_moves (s : State) (v : Nat) : nodeOnly (· = K.dev_CAN_STAT) s (s.nmtTo v) := by
  unfold State.nmtTo
  split
  · exact .refl s
  · exact (s.setNmt_moves v).1

theorem State.canErr_nmtTo (s : State) (v : Nat) : (s.nmtTo v).canErr = s.canErr := by
  unfold State.nmtTo
  split
  · rfl
  · exact s.canErr_setNmt v

theorem State.canStat_nmtTo (s : State) (v : Nat) {b : Nat} (hb : 6 < b) :
    (s.nmtTo v).bit K.dev_CAN_STAT b = s.bit K.dev_CAN_STAT b := by
  unfold State.nmtTo
  split
  · rfl
  · exact s.canStat_setNmt v hb

-- error states

theorem State.canErr_setErr (s : State) {v : Nat} (hv : v < 4) : (s.setErr v).canErr = v := by
  unfold State.canErr State.setErr
  rw [State.g_p_same _ _ (by decide)]
  exact field_setField_same (by decide) hv

theorem State.nmt_setErr (s : State) (v : Nat) : (s.setErr v).nmt = s.nmt := by
  unfold State.nmt State.setErr
  rw [State.g_p_same _ _ (by decide)]
  exact field_setField_ne (by decide) (.inl (by decide))

/-- What a controller that starts afresh touches: CAN_STAT, TEC and what sending counts. -/
def afreshKey (k : Nat) : Prop := k = K.dev_CAN_STAT ∨ k = K.dev_TEC ∨ k = K.dev_TPDO_LATE

/-- Sending a frame leaves the node's state. -/
theorem State.nmt_sendFrame (s : State) (f : CanFrame) : (s.sendFrame f).nmt = s.nmt :=
  congrArg (field · 6 0) ((sends.sendFrame s f).entries _ (by decide) (by decide))

theorem State.canErr_sendFrame (s : State) (f : CanFrame) : (s.sendFrame f).canErr = s.canErr :=
  congrArg (field · 9 8) ((sends.sendFrame s f).entries _ (by decide) (by decide))

/-- The node boots up (R594): it is pre-operational, or operational with AUTO_OP, and the error state stays. -/
theorem State.nmt_bootUp (s : State) : s.bootUp.nmt = (if s.g K.dev_AUTO_OP = 1 then nmOP else nmPRE) ∧
    s.bootUp.canErr = s.canErr := by
  unfold State.bootUp
  extract_lets s1 s2 s3
  have hs1 : s1.canErr = s.canErr := (State.canErr_sendFrame _ _).trans (State.canErr_setNmt _ _)
  have hs2 : s2.nmt = nmPRE := State.nmt_setNmt _ (by decide)
  have hs2' : s2.canErr = s.canErr := (State.canErr_setNmt _ _).trans hs1
  have hs3 : s3.nmt = (if s.g K.dev_AUTO_OP = 1 then nmOP else nmPRE) ∧ s3.canErr = s.canErr := by
    unfold s3
    split
    · exact ⟨State.nmt_setNmt _ (by decide), (State.canErr_setNmt _ _).trans hs2'⟩
    · exact ⟨hs2, hs2'⟩
  exact hs3


-- the controller starts afresh, and the reset of communication

/-- What a change of the node touches and a frame sent beside. -/
structure State.talksOnly (s t : State) : Prop where
  rest : t = { s with
    od := t.od, net := t.net, lag := t.lag, dieRt := t.dieRt, once := t.once, lines := t.lines, ember := t.ember }
  entries : ∀ k, sharedKey k = false → ¬ afreshKey k → t.g k = s.g k

namespace State.talksOnly

theorem refl (s : State) : talksOnly s s := ⟨rfl, fun _ _ _ => rfl⟩

theorem trans {s t u : State} (a : talksOnly s t) (b : talksOnly t u) : talksOnly s u where
  rest := by rw [b.rest, a.rest]
  entries k h n := (b.entries k h n).trans (a.entries k h n)

theorem eq {β : Type} {s t : State} (h : talksOnly s t) (f : State → β)
    (hf : ∀ od net lag dieRt once lines ember, f { s with
      od := od, net := net, lag := lag, dieRt := dieRt, once := once, lines := lines, ember := ember } = f s) :
          f t = f s := by
  rw [h.rest]; exact hf _ _ _ _ _ _ _

theorem ofNode {s t : State} (h : nodeOnly (· = K.dev_CAN_STAT) s t) : talksOnly s t :=
  ⟨h.rest, fun k hk ha => h.entries k hk fun h' => ha (.inl h')⟩

theorem ofSends {s t : State} (h : sends s t) : talksOnly s t :=
  ⟨by rw [h.rest], fun k hk ha => h.entries k hk fun h' => ha (.inr (.inr h'))⟩

theorem setNet (s : State) (n : NetRt) : talksOnly s { s with net := n } := ⟨rfl, fun _ _ _ => rfl⟩

theorem entry (s : State) {k : Nat} (v : Nat) (h : afreshKey k) : talksOnly s (s.p k v) where
  rest := by unfold State.p; split <;> rfl
  entries j _ hj := State.g_p_ne s v (by rintro rfl; exact hj h)

theorem bootUp (s : State) : talksOnly s s.bootUp := by
  unfold State.bootUp
  extract_lets s1 s2 s3
  have h1 : talksOnly s s1 := (ofNode (s.setNmt_moves _).1).trans (ofSends (sends.sendFrame _ _))
  have h2 : talksOnly s s2 := h1.trans (ofNode (s1.setNmt_moves _).1)
  have h3 : talksOnly s s3 := by
    unfold s3
    split
    · exact h2.trans (ofNode (s2.setNmt_moves _).1)
    · exact h2
  exact (h3.trans (setNet _ _)).trans (setNet _ _)

end State.talksOnly

theorem State.resetController_talks (s : State) : s.talksOnly s.resetController := by
  unfold State.resetController
  extract_lets off _ s1 s2
  have h2 : s.talksOnly s2 :=
    ((((State.talksOnly.setNet s _).trans (.entry s1 _ (.inr (.inl rfl)))).trans (.entry _ _ (.inl rfl))).trans
        (.setNet _ _)).trans
      (.entry _ _ (.inl rfl))
  split
  · exact h2.trans (.ofSends (.ofQuiet (quiet.syncErr _)))
  · exact (h2.trans (.bootUp s2)).trans (.ofSends (.ofQuiet (quiet.syncErr _)))

/-- A controller with a node ID starts afresh: error active, and the node has booted (R587, R593, R594). -/
theorem State.resetController_node {s : State} (h : s.net.nodeId ≠ 0) :
    s.resetController.nmt = (if s.g K.dev_AUTO_OP = 1 then nmOP else nmPRE) ∧ s.resetController.canErr = 0 := by
  unfold State.resetController
  extract_lets off _ s1 s2
  have hOff : off = false := decide_eq_false h
  rw [hOff, if_neg (by decide)]
  have hErr : s2.canErr = 0 := by
    unfold s2 State.syncRates
    refine (congrArg (field · 9 8) (State.g_bitTo_same _ _ _ (by decide))).trans ?_
    rw [field_setBit_ne _ (.inr (by decide)), hOff]
    exact State.canErr_setErr _ (by decide)
  have hAuto : s2.g K.dev_AUTO_OP = s.g K.dev_AUTO_OP := by
    unfold s2 State.syncRates State.setErr
    rw [State.g_bitTo_ne _ _ _ (by decide)]
    exact (State.g_p_ne _ _ (by decide)).trans (State.g_p_ne _ _ (by decide))
  obtain ⟨hNmt, hCan⟩ := s2.nmt_bootUp
  have hStat : s2.bootUp.syncErr.g K.dev_CAN_STAT = s2.bootUp.g K.dev_CAN_STAT := State.g_syncErr _ (by decide)
  refine ⟨?_, ?_⟩
  · rw [← hAuto, ← hNmt]
    exact congrArg (field · 6 0) hStat
  · rw [← hErr, ← hCan]
    exact congrArg (field · 9 8) hStat

/-- Entries that a reset of communication leaves beside those of the node: outside the communication profile, the bit
timing, and the firing that it aborts. -/
def outlastsReset (k : Nat) : Bool :=
  !sharedKey k && !isCommEntry k && !isBitTiming k && decide (ixOf k ≠ 0x2A00)

theorem State.g_reloadComm (s : State) {k : Nat} (hc : isCommEntry k = false) (ht : isBitTiming k = false) :
    s.reloadComm.g k = s.g k := by
  have hOd : ∀ (t : State) (od : Tab Nat), t.led = s.led → t.od = od →
      od.look (defaultOf k) k = s.od.look (defaultOf k) k →
      t.g k = s.g k := by
    intro t od hl ho h
    unfold State.g
    rw [hl, ho, h]
  unfold State.reloadComm
  split
  · refine hOd _ (s.od.keep fun k => !isCommEntry k && !isBitTiming k) rfl rfl ?_
    rw [Tab.look_keep, if_pos (by simp [hc, ht])]
  · have hFold : ∀ (l : Tab Nat) (od : Tab Nat), (∀ e ∈ l, e.1 ≠ k) →
        (l.foldl (fun t e => t.store (defaultOf e.1) e.1 e.2) od).look (defaultOf k) k = od.look (defaultOf k) k := by
      intro l
      induction l with
      | nil => exact fun _ _ => rfl
      | cons e r ih =>
        intro od h
        rw [List.foldl_cons, ih _ fun x hx => h x (List.mem_cons_of_mem _ hx),
          Tab.look_store_ne _ _ _ _ (h e List.mem_cons_self).symm]
    refine hOd _ ((s.net.saved.keep isCommEntry).foldl (fun t e => t.store (defaultOf e.1) e.1 e.2)
      (s.od.keep fun k => !isCommEntry k)) rfl rfl ?_
    rw [hFold _ _ fun e he hk => ?_, Tab.look_keep, if_pos (by simp [hc])]
    have := (List.mem_filter.1 he).2
    rw [hk, hc] at this
    exact absurd this (by decide)

/-- A reset of communication, but for the controller's new start: what it leaves. -/
theorem State.reset_prepared (s : State) :
    let u := ((s.abortOpen 1 0x13).dropTransfer).reloadComm
    (∀ k, outlastsReset k = true → u.g k = s.g k) ∧ u.ready = s.ready ∧ u.halt = s.halt ∧
    u.net.nodeId = s.net.nodeId ∧ u.host = s.host := by
  intro u
  have hAbort : (∀ k, outlastsReset k = true → (s.abortOpen 1 0x13).g k = s.g k) ∧
      (s.abortOpen 1 0x13).ready = s.ready ∧ (s.abortOpen 1 0x13).halt = s.halt ∧
      (s.abortOpen 1 0x13).net.nodeId = s.net.nodeId ∧ (s.abortOpen 1 0x13).host = s.host := by
    unfold State.abortOpen
    split
    · exact ⟨fun _ _ => rfl, rfl, rfl, rfl, rfl⟩
    · have hDrop : (∀ k, outlastsReset k = true → (s.dropFire 1 5 0x13).g k = s.g k) ∧
          (s.dropFire 1 5 0x13).ready = s.ready ∧ (s.dropFire 1 5 0x13).halt = s.halt ∧
          (s.dropFire 1 5 0x13).net.nodeId = s.net.nodeId ∧ (s.dropFire 1 5 0x13).host = s.host := by
        unfold State.dropFire State.setFireStat State.syncGreen
        extract_lets f t
        rw [if_neg (by decide)]
        have hBank : ∀ (v : State) (b : Option Nat), (v.freeBank b).led = v.led ∧ (v.freeBank b).od = v.od ∧
            (v.freeBank b).ready = v.ready ∧ (v.freeBank b).halt = v.halt ∧ (v.freeBank b).net = v.net ∧
            (v.freeBank b).host = v.host := by
          intro v b
          unfold State.freeBank
          split
          · exact ⟨rfl, rfl, rfl, rfl, rfl, rfl⟩
          · exact ⟨rfl, rfl, rfl, rfl, rfl, rfl⟩
        obtain ⟨hl, ho, hr, hh, hn, hw⟩ := hBank (s.setFire 1 { f with
          stages := [], start := none, commitAt := none, dirty := none, bank := none }) f.bank
        refine ⟨fun k hk => ?_, ?_, ?_, ?_, ?_⟩
        · have hFire : ixOf k ≠ 0x2A00 := by
            simp only [outlastsReset, Bool.and_eq_true, decide_eq_true_eq] at hk
            exact hk.2
          have hNe : ∀ j, ixOf j = 0x2A00 → k ≠ j := fun j hj he => hFire (he ▸ hj)
          rw [State.g_p_ne _ _ (hNe _ (by decide))]
          unfold t
          rw [State.g_p_ne _ _ (hNe _ (by decide))]
          unfold State.g
          rw [hl, ho]
          rfl
        · exact (State.p_ready ..).trans ((State.p_ready ..).trans hr)
        · exact (State.p_halt ..).trans ((State.p_halt ..).trans hh)
        · refine ((sameFrames.ofSame (State.p_net ..)).eq (·.nodeId) fun _ _ _ _ _ _ => rfl).trans ?_
          refine ((sameFrames.ofSame (State.p_net ..)).eq (·.nodeId) fun _ _ _ _ _ _ => rfl).trans ?_
          rw [hn]
          rfl
        · exact (State.p_host ..).trans ((State.p_host ..).trans hw)
      obtain ⟨hg, hr, hh, hn, hw⟩ := hDrop
      have hq := quiet.evChip (s.dropFire 1 5 0x13) 0x4084 (fireData [] (s.g (K.fire_FIRE_ID 1)))
      refine ⟨fun k hk => (hq.entries k ?_).trans (hg k hk), (hq.eq (·.ready) fun _ _ _ _ _ _ => rfl).trans hr,
        (hq.eq (·.halt) fun _ _ _ _ _ _ => rfl).trans hh,
        ((sameFrames.ofQuiet hq).eq (·.nodeId) fun _ _ _ _ _ _ => rfl).trans hn,
        (hq.eq (·.host) fun _ _ _ _ _ _ => rfl).trans hw⟩
      simp only [outlastsReset, Bool.and_eq_true, Bool.not_eq_true'] at hk
      exact hk.1.1.1
  obtain ⟨hg, hr, hh, hn, hw⟩ := hAbort
  have hd := nodeOnly.dropTransfer (own := fun _ => False) (s.abortOpen 1 0x13)
  have hReload : ∀ v : State, v.reloadComm.ready = v.ready ∧ v.reloadComm.halt = v.halt ∧
      v.reloadComm.net.nodeId = v.net.nodeId ∧ v.reloadComm.host = v.host := by
    intro v
    unfold State.reloadComm
    split
    · exact ⟨rfl, rfl, rfl, rfl⟩
    · exact ⟨rfl, rfl, rfl, rfl⟩
  obtain ⟨hr2, hh2, hn2, hw2⟩ := hReload (s.abortOpen 1 0x13).dropTransfer
  refine ⟨fun k hk => ?_, hr2.trans ((hd.eq (·.ready) fun _ _ _ _ _ _ _ => rfl).trans hr),
    hh2.trans ((hd.eq (·.halt) fun _ _ _ _ _ _ _ => rfl).trans hh),
    hn2.trans ((hd.net.eq (·.nodeId) fun _ _ _ _ _ _ _ _ _ _ _ _ => rfl).trans hn),
    hw2.trans ((hd.eq (·.host) fun _ _ _ _ _ _ _ => rfl).trans hw)⟩
  have hk' := hk
  simp only [outlastsReset, Bool.and_eq_true, Bool.not_eq_true', decide_eq_true_eq] at hk'
  obtain ⟨⟨⟨hs, hc⟩, ht⟩, -⟩ := hk'
  exact (State.g_reloadComm _ hc ht).trans ((hd.entries k hs id).trans (hg k hk))

/-- A reset of communication leaves the entries that outlast it, and D0 as ready as it was. -/
theorem State.resetComm_keeps (s : State) :
    (∀ k, outlastsReset k = true → ¬ afreshKey k → s.resetComm.g k = s.g k) ∧ s.resetComm.ready = s.ready ∧
    s.resetComm.halt = s.halt ∧ s.resetComm.host = s.host := by
  obtain ⟨hg, hr, hh, -, hw⟩ := s.reset_prepared
  unfold State.resetComm
  extract_lets s1
  split
  · exact ⟨fun k hk _ => hg k hk, hr, hh, hw⟩
  · have ht := s1.resetController_talks
    refine ⟨fun k hk ha => (ht.entries k ?_ ha).trans (hg k hk), (ht.eq (·.ready) fun _ _ _ _ _ _ _ => rfl).trans hr,
      (ht.eq (·.halt) fun _ _ _ _ _ _ _ => rfl).trans hh, (ht.eq (·.host) fun _ _ _ _ _ _ _ => rfl).trans hw⟩
    simp only [outlastsReset, Bool.and_eq_true, Bool.not_eq_true'] at hk
    exact hk.1.1.1

/-- A reset of communication outside a bus-off hold boots the node (R593). -/
theorem State.resetComm_node {s : State} (h : s.net.nodeId ≠ 0) (hHold : ¬ (s.canErr = 2 ∧ !s.net.recovering)) :
    s.resetComm.nmt = (if s.g K.dev_AUTO_OP = 1 then nmOP else nmPRE) ∧ s.resetComm.canErr = 0 := by
  obtain ⟨hg, -, -, hn, -⟩ := s.reset_prepared
  unfold State.resetComm
  extract_lets s1
  rw [if_neg hHold, ← hg K.dev_AUTO_OP (by decide)]
  exact State.resetController_node (by rw [hn]; exact h)


-- observations that the calendar does not move

/-- Entries that the calendar moves as time passes. -/
def calendarKeys : List Nat :=
  [K.cal_CAL_STAT, K.cal_NOW_KEY, K.cal_NEXT_BKEY, K.cal_SEASON_NOW, K.cal_DAYPROF_NOW, K.snap_LAST_BKEY]

/-- An observation of the state that sees neither the billing record, nor kiln-log entries raised, nor the entries of
the calendar. -/
structure calendarBlind {β : Type} (f : State → β) : Prop where
  bill : ∀ s b, f { s with bill := b } = f s
  logs : ∀ {s t}, quiet s t → f t = f s
  entry : ∀ s k v, k ∈ calendarKeys → f (s.p k v) = f s

namespace calendarBlind

variable {β : Type} {f : State → β}

theorem setCal (h : calendarBlind f) (s : State) (n : Nat) (b : Bool) : f (s.setCal n b) = f s :=
  h.entry s K.cal_CAL_STAT _ (by decide)

theorem evChip (h : calendarBlind f) (s : State) (event : Nat) (data : List Nat) : f (s.evChip event data) = f s :=
  h.logs (quiet.evChip _ _ _)

theorem syncKeys (h : calendarBlind f) (s : State) : f s.syncKeys = f s := by
  unfold State.syncKeys
  split
  · exact (h.entry _ _ _ (by decide)).trans (h.entry _ _ _ (by decide))
  · exact (h.entry _ _ _ (by decide)).trans (h.entry _ _ _ (by decide))

theorem evalTariff (h : calendarBlind f) (s : State) : f s.evalTariff.1 = f s :=
  (h.setCal _ _ _).trans ((h.entry _ _ _ (by decide)).trans (h.entry _ _ _ (by decide)))

theorem raiseBkey (h : calendarBlind f) (s : State) (k : Nat) : f (s.raiseBkey k) = f s := h.entry _ _ _ (by decide)

theorem dueCloses (h : calendarBlind f) (s : State) (k : Nat) : f (s.dueCloses k).1 = f s := by
  unfold State.dueCloses
  split
  · exact h.raiseBkey s k
  · rfl

theorem stage (h : calendarBlind f) (s : State) (p : Plan) : f (s.stage p).1 = f s := by
  unfold State.stage
  extract_lets excess keys s1 close switches
  have h1 : f s1 = f s := by
    unfold s1
    split
    · rfl
    · exact h.evChip _ _ _
  split
  · exact h1
  · exact (h.bill _ _).trans h1

theorem minuteTick (h : calendarBlind f) (s : State) (n : Nat) : f (s.minuteTick n) = f s := by
  unfold State.minuteTick
  extract_lets c k _ s1 first d s2 s3 e ci r t
  have h1 : f s1 = f s := by
    unfold s1
    split
    · rfl
    · exact (h.raiseBkey _ k).trans (h.bill _ _)
  have hd : f d.1 = f s1 := h.dueCloses s1 k
  have h2 : f s2 = f s1 := by
    unfold s2
    split
    · exact hd
    · refine Eq.trans ?_ hd
      unfold State.dropManual
      split
      · exact h.bill _ _
      · rfl
  have h3 : f s3 = f s2 := by
    unfold s3
    split
    · exact h.evChip _ _ _
    · rfl
  have ht : f t = f s3 := (h.stage _ _).trans (h.evalTariff s3)
  exact (h.syncKeys _).trans ((h.bill _ _).trans (ht.trans (h3.trans (h2.trans h1))))

theorem clockInvalid (h : calendarBlind f) (s : State) : f s.clockInvalid = f s := by
  unfold State.clockInvalid
  extract_lets s1 _ s2
  have h1 : f s1 = f s := (h.syncKeys _).trans ((h.evChip _ _ _).trans ((h.setCal _ _ _).trans (h.setCal _ _ _)))
  exact (h.stage s2 _).trans ((h.bill _ _).trans h1)

theorem clockValid (h : calendarBlind f) (s : State) : f s.clockValid = f s := by
  unfold State.clockValid
  extract_lets sec _ _ s1 s2 e
  have h1 : f s1 = f s := (h.bill _ _).trans (h.setCal _ _ _)
  have h2 : f s2 = f s := (h.evChip _ _ _).trans ((h.raiseBkey _ _).trans h1)
  have h3 : f e.1 = f s := (h.evalTariff s2).trans h2
  exact (h.syncKeys _).trans ((h.stage e.1 _).trans h3)

theorem endCatchUp (h : calendarBlind f) (s : State) (n : Nat) : f (s.endCatchUp n) = f s := by
  unfold State.endCatchUp
  extract_lets s1
  have h1 : f s1 = f s := (h.setCal _ _ _).trans (h.evChip _ _ _)
  split
  · exact (h.minuteTick _ _).trans ((h.bill _ _).trans h1)
  · exact h1

/-- What a restart does about the calendar (R355, R357). -/
theorem startCalendar (h : calendarBlind f) (s : State) : f s.startCalendar = f s := by
  unfold State.startCalendar
  extract_lets on _ u _ t sec s1 c k di e step1 d s2 r
  have hOn : f on = f s := h.setCal _ _ _
  split
  · have ht : f t = f on := by
      unfold t
      split
      · have hu : f u = f on := h.bill _ _
        split
        · exact (h.bill _ _).trans hu
        · exact hu
      · exact h.clockInvalid on
    exact (h.syncKeys _).trans ((h.setCal _ _ _).trans (ht.trans hOn))
  · split
    · exact (h.clockValid on).trans hOn
    · have h1 : f s1 = f s := (h.bill _ _).trans hOn
      have he : f e.1 = f s := (h.evalTariff s1).trans h1
      have hd : f d.1 = f s := (h.dueCloses e.1 k).trans he
      have h2 : f s2 = f s := (h.setCal _ _ _).trans hd
      have hr : f r.1 = f s := (h.stage s2 _).trans h2
      split
      · exact (h.syncKeys _).trans ((h.endCatchUp _ _).trans hr)
      · exact (h.syncKeys _).trans hr

end calendarBlind


-- what a completed start shows

/-- READY, the halt, START_KIND and START_CAUSE. -/
def State.startShown (s : State) : Bool × Nat × Nat × Nat :=
  (s.ready, s.halt, s.g K.dev_START_KIND, s.g K.dev_START_CAUSE)

theorem State.startShown_p (s : State) {k : Nat} (v : Nat) (h : k ≠ K.dev_START_KIND ∧ k ≠ K.dev_START_CAUSE) :
    (s.p k v).startShown = s.startShown := by
  unfold State.startShown
  rw [State.p_ready, State.p_halt, State.g_p_ne _ _ h.1.symm, State.g_p_ne _ _ h.2.symm]

theorem State.startShown_logs {s t : State} (h : logsOnly s t) : t.startShown = s.startShown := by
  unfold State.startShown
  rw [h.eq (·.ready) fun _ _ _ _ _ _ => rfl, h.eq (·.halt) fun _ _ _ _ _ _ => rfl, h.entries _ (by decide),
    h.entries _ (by decide)]

theorem State.startShown_quiet {s t : State} (h : quiet s t) : t.startShown = s.startShown :=
  State.startShown_logs (.ofQuiet h)

theorem State.startShown_blind : calendarBlind State.startShown where
  bill _ _ := rfl
  logs := State.startShown_quiet
  entry s k v hk := s.startShown_p v (by
    simp only [calendarKeys, List.mem_cons, List.not_mem_nil, or_false] at hk
    rcases hk with rfl | rfl | rfl | rfl | rfl | rfl <;> decide)

theorem State.startShown_foldl {β : Type} (f : State → β → State) (hf : ∀ s b, (f s b).startShown = s.startShown)
    (l : List β) (s : State) : (l.foldl f s).startShown = s.startShown := by
  induction l generalizing s with
  | nil => rfl
  | cons b r ih => exact (ih _).trans (hf s b)

theorem State.startShown_ps (s : State) (l : List (Nat × Nat))
    (h : ∀ e ∈ l, e.1 ≠ K.dev_START_KIND ∧ e.1 ≠ K.dev_START_CAUSE) : (s.ps l).startShown = s.startShown := by
  induction l generalizing s with
  | nil => rfl
  | cons e r ih =>
    exact (ih (s.p e.1 e.2) fun x hx => h x (List.mem_cons_of_mem _ hx)).trans
      (s.startShown_p e.2 (h e List.mem_cons_self))

theorem State.startShown_declareTamper (s : State) (i : Nat) : (s.declareTamper i).startShown = s.startShown := by
  unfold State.declareTamper
  extract_lets e told
  split
  · rfl
  · exact (State.startShown_logs (logsOnly.declare _ 0 3 0 0x7010 _)).trans rfl

theorem State.startShown_readEmber (s : State) : s.readEmber.startShown = s.startShown := by
  unfold State.readEmber
  extract_lets s1 _ s2
  have h1 : s1.startShown = s.startShown := by
    unfold s1
    split
    · exact (State.startShown_logs (.declare (s.p K.emb_SEC_AT_POR_DETECT s.ember.sec) 0 3 0 0x3020 [])).trans
        (s.startShown_p _ (by decide))
    · rfl
  have h2 : s2.startShown = s.startShown := by
    unfold s2
    split
    · exact (State.startShown_quiet (quiet.evChip _ _ _)).trans h1
    · exact h1
  exact (State.startShown_declareTamper _ _).trans ((State.startShown_declareTamper _ _).trans h2)

theorem State.startShown_startRate (s : State) (i : Nat) : (s.startRate i).startShown = s.startShown := by
  unfold State.startRate
  extract_lets force on active _ s1 s2
  have hKey : K.sect_RATE_STATE i ≠ K.dev_START_KIND ∧ K.sect_RATE_STATE i ≠ K.dev_START_CAUSE :=
    ⟨by show 0x220045 + 256 * i ≠ 0x200040; omega, by show 0x220045 + 256 * i ≠ 0x200041; omega⟩
  have h2 : s2.startShown = s.startShown := s1.startShown_p _ hKey
  split
  · exact (State.startShown_quiet (quiet.evChip _ _ _)).trans h2
  · exact h2

theorem State.startShown_loopTrip (s : State) : s.loopTrip.startShown = s.startShown := by
  unfold State.loopTrip
  extract_lets s1
  have h1 : s1.startShown = s.startShown :=
    (State.startShown_p _ (k := K.sag_SAG_STAT) _ (by decide)).trans
      ((State.startShown_p _ (k := K.loop_LOOP_STAT) _ (by decide)).trans
        (State.startShown_p _ (k := K.loop_LOOP_STAT) _ (by decide)))
  split
  · exact h1
  · exact (State.startShown_quiet (quiet.inc _ (by decide))).trans
      ((State.startShown_quiet (quiet.onceEv _ _ _ _ _ _ _)).trans h1)

theorem State.startShown_loopShow (s : State) (mode out : Nat) (b : Bool) :
    (s.loopShow mode out b).startShown = s.startShown :=
  (State.startShown_p (s.p K.loop_LOOP_OUT out) (k := K.loop_LOOP_STAT) _ (by decide)).trans
    (s.startShown_p (k := K.loop_LOOP_OUT) out (by decide))

theorem State.startShown_syncLoop (s : State) : s.syncLoop.startShown = s.startShown := by
  unfold State.syncLoop
  split
  · extract_lets t s1
    have h1 : s1.startShown = s.startShown := by
      unfold s1
      split
      · exact State.startShown_p _ (k := K.loop_LOOP_STAT) _ (by decide)
      · exact s.startShown_loopTrip
    exact (s1.startShown_loopShow _ _ _).trans h1
  · exact s.startShown_loopShow _ _ _
  · exact s.startShown_loopShow _ _ _
  · exact s.startShown_loopShow _ _ _

/-- A start of the chip that is complete shows its kind and cause, and D0 is ready (R552). -/
theorem State.completeStart_shows (s : State) (kind cause cycles : Nat) :
    (s.completeStart kind cause cycles).startShown = (true, 0, kind, cause) := by
  unfold State.completeStart
  extract_lets _ _ _ s0 s1 s2 s3 s4 s5
  have h1 : s1.startShown = (true, 0, kind, cause) := by
    have hTwo : ((s0.p K.dev_START_KIND kind).p K.dev_START_CAUSE cause).startShown = (true, 0, kind, cause) := by
      unfold State.startShown
      rw [State.p_ready, State.p_ready, State.p_halt, State.p_halt, State.g_p_same _ _ (by decide),
        State.g_p_ne _ _ (by decide), State.g_p_same _ _ (by decide)]
    refine Eq.trans ?_ hTwo
    exact State.startShown_ps ((s0.p K.dev_START_KIND kind).p K.dev_START_CAUSE cause)
      [(K.dev_START_CYC, s.cyc), (K.dev_START_TIME, startTime cycles), (K.dev_FVF_TIME, 0xFFFFFFFF),
        (K.loop_LOOP_SET, 0x10000), (K.sec_SEAL_STATE, 0), (K.sec_IMG_STAT, 0),
        (K.sec_ATT_STAT, if s.g K.sec_ATT_STAT = 1 then 3 else s.g K.sec_ATT_STAT)] (by simp)
  have h2 : s2.startShown = s1.startShown := by
    have hInc : ∀ k, k ≠ K.dev_START_KIND ∧ k ≠ K.dev_START_CAUSE → (s1.inc k).startShown = s1.startShown := by
      intro k hk
      unfold State.inc
      extract_lets t
      split
      · exact s1.startShown_p _ hk
      · exact s1.startShown_p (k := k) (wrap32 (s1.g k + 1)) hk
    have hCount : (s1.inc (if kind = 0 then K.dev_COLD_COUNT else K.dev_WARM_COUNT)).startShown = s1.startShown := by
      refine hInc _ ?_
      split <;> decide
    exact (State.startShown_p _ (k := K.sec_SEC_STAT) _ (by decide)).trans
      ((State.startShown_p _ (k := K.sec_SEC_STAT) _ (by decide)).trans
        ((State.startShown_p _ (k := K.sup_SUP_STAT) _ (by decide)).trans
          ((State.startShown_p _ (k := K.sup_SUP_STAT) _ (by decide)).trans hCount)))
  have h3 : s3.startShown = s2.startShown := State.startShown_quiet (quiet.evChip _ _ _)
  have h4 : s4.startShown = s3.startShown :=
    (State.startShown_foldl _ State.startShown_startRate _ _).trans s3.startShown_readEmber
  have h5 : s5.startShown = s4.startShown :=
    State.startShown_foldl (fun t n => t.setPath n { t.path n with countdown := 0, div := 0, shoots := false })
      (fun _ _ => rfl) _ _
  exact (State.startShown_quiet (quiet.syncErr _)).trans ((State.startShown_syncLoop _).trans
    ((State.startShown_blind.startCalendar _).trans (h5.trans (h4.trans (h3.trans (h2.trans h1))))))

/-- A warm start that a reset by command asks for (R544, R593). -/
theorem State.warmChip_shows (s : State) (info : StartInfo) : (s.warmChip 8 info).startShown = (true, 0, 1, 8) := by
  unfold State.warmChip
  extract_lets base fates read _ s0 s1 s2 s3 s4
  obtain ⟨hg, hr, hh, -⟩ := (s4.warmFrames.completeStart 1 8 info.cycles).resetComm_keeps
  have hDone := s4.warmFrames.completeStart_shows 1 8 info.cycles
  have hKey : ∀ k, k = K.dev_START_KIND ∨ k = K.dev_START_CAUSE → outlastsReset k = true ∧ ¬ afreshKey k := by
    rintro k (rfl | rfl) <;> simp [outlastsReset, afreshKey] <;> decide
  show State.startShown (State.resetComm _) = _
  unfold State.startShown at hDone ⊢
  rw [hr, hh, hg _ (hKey _ (.inl rfl)).1 (hKey _ (.inl rfl)).2, hg _ (hKey _ (.inr rfl)).1 (hKey _ (.inr rfl)).2, hDone]

theorem yields_starting {s t : State} {P : State → Prop}
    (h : P { t with dies := s.dies, otp := s.otp, pending := s.pending, cyc := t.cyc % two48 }) :
        yields (starting s t) P :=
  ⟨_, rfl, h⟩

/-- A reset by command, where no trigger of a lower cause is found and no ember is lost (R544, R545). -/
theorem State.serveReset_shows {s : State} {info : StartInfo} (h8 : (s.die 0).trigger = 8)
    (hStart : s.canStart (s.g K.sup_SUPMODE) info.resDv = true) (hEmber : s.es esEMBER_LOST = false) :
    (s.serveReset info).startShown = (true, 0, 1, 8) := by
  unfold State.serveReset State.warmOrCold
  rw [if_pos (by simp [h8, hStart]), if_neg (by simp [hEmber])]
  exact s.warmChip_shows info

end Sys2Proof.Machine

namespace Sys2Proof.onlyOwn

open Sys2Proof.Machine

variable {own : Nat → Prop}

theorem refl (s : State) : onlyOwn own s s := ⟨rfl, rfl, fun _ _ _ => rfl, fun _ => rfl⟩

theorem trans {s t u : State} (a : onlyOwn own s t) (b : onlyOwn own t u) : onlyOwn own s u where
  rest := by rw [b.rest, a.rest]
  net := by
    have ha := a.net
    have hb := b.net
    unfold sameNet at *
    rw [hb, ha]
  entries k h n := (b.entries k h n).trans (a.entries k h n)
  dies d := by
    have ha := a.dies d
    have hb := b.dies d
    unfold sameDie at *
    rw [hb, ha]

theorem mono {other : Nat → Prop} {s t : State} (h : onlyOwn own s t) (ho : ∀ k, own k → other k) : onlyOwn other s t :=
  ⟨h.rest, h.net, fun k hk hn => h.entries k hk fun h' => hn (ho k h'), h.dies⟩

theorem eq {β : Type} {s t : State} (h : onlyOwn own s t) (f : State → β)
    (hf : ∀ od net lag dieRt once standing, f { s with
      od := od, net := net, lag := lag, dieRt := dieRt, once := once, standing := standing } = f s) : f t = f s := by
  rw [h.rest]; exact hf _ _ _ _ _ _

theorem ofLogs {s t : State} (h : logsOnly s t) : onlyOwn own s t :=
  ⟨h.rest, h.net, fun k hk _ => h.entries k hk, h.dies⟩

theorem ofQuiet {s t : State} (h : quiet s t) : onlyOwn own s t := ofLogs (.ofQuiet h)

theorem p (s : State) {k : Nat} (v : Nat) (h : own k) : onlyOwn own s (s.p k v) where
  rest := by unfold State.p; split <;> rfl
  net := State.p_net s k v
  entries j _ hj := State.g_p_ne s v (by rintro rfl; exact hj h)
  dies d := by simp [sameDie]

theorem bitTo (s : State) {k : Nat} (n : Nat) (b : Bool) (h : own k) : onlyOwn own s (s.bitTo k n b) := p s _ h

theorem inc (s : State) {k : Nat} (h : own k) : onlyOwn own s (s.inc k) where
  rest := by unfold State.inc State.p; simp only []; split <;> split <;> rfl
  net := State.inc_net s k
  entries j _ hj := State.g_inc_ne s (by rintro rfl; exact hj h)
  dies d := by simp [sameDie]

theorem setDie (s : State) (n : Nat) {r : DieRt} (h : sameDie (s.die n) r) : onlyOwn own s (s.setDie n r) where
  rest := rfl
  net := rfl
  entries _ _ _ := rfl
  dies d := by
    by_cases hd : d = n
    · subst hd; simpa using h
    · rw [State.die_setDie_ne s r hd]; simp [sameDie]

theorem foldl {β : Type} (f : State → β → State) (hf : ∀ s b, onlyOwn own s (f s b)) (l : List β) (s : State) :
    onlyOwn own s (l.foldl f s) := by
  induction l generalizing s with
  | nil => exact refl s
  | cons b r ih => exact (hf s b).trans (ih _)

end Sys2Proof.onlyOwn

namespace Sys2Proof.Machine

open Sys2Proof

-- the loop output as its settings take effect

theorem State.loopTrip_own (s : State) : onlyOwn (fun k => ixOf k = 0x2900) s s.loopTrip := by
  unfold State.loopTrip
  extract_lets s1
  have h1 : onlyOwn (fun k => ixOf k = 0x2900) s s1 :=
    ((onlyOwn.bitTo s (k := K.loop_LOOP_STAT) _ _ (by decide)).trans
      (.bitTo _ (k := K.loop_LOOP_STAT) _ _ (by decide))).trans (.ofQuiet (quiet.bitTo _ _ _ (by decide)))
  split
  · exact h1
  · exact (h1.trans (.ofQuiet (quiet.onceEv _ _ _ _ _ _ _))).trans (.ofQuiet (quiet.inc _ (by decide)))

theorem State.loopShow_own (s : State) (mode out : Nat) (b : Bool) :
    onlyOwn (fun k => ixOf k = 0x2900) s (s.loopShow mode out b) :=
  (onlyOwn.p s (k := K.loop_LOOP_OUT) _ (by decide)).trans (.p _ (k := K.loop_LOOP_STAT) _ (by decide))

theorem State.syncLoop_own (s : State) : onlyOwn (fun k => ixOf k = 0x2900) s s.syncLoop := by
  unfold State.syncLoop
  split
  · extract_lets t s1
    have h1 : onlyOwn (fun k => ixOf k = 0x2900) s s1 := by
      unfold s1
      split
      · exact onlyOwn.bitTo s (k := K.loop_LOOP_STAT) _ _ (by decide)
      · exact s.loopTrip_own
    exact h1.trans (s1.loopShow_own _ _ _)
  · exact s.loopShow_own _ _ _
  · exact s.loopShow_own _ _ _
  · exact s.loopShow_own _ _ _

-- a reset asked for by command

/-- What a reset by command finds where it is asked for: its trigger, the sources, and the ember (R544, R545, R593). -/
theorem State.askReset_finds {s : State} (h : (s.die 0).trigger = 0 ∨ 8 ≤ (s.die 0).trigger) :
    (s.askReset.die 0).trigger = 8 ∧ s.askReset.pow = s.pow ∧ s.askReset.g K.sup_SUPMODE = s.g K.sup_SUPMODE ∧
    s.askReset.g K.emb_EMBER_STAT = s.g K.emb_EMBER_STAT := by
  unfold State.askReset
  have hLoop := ({ s.setDie 0 ((s.die 0).triggered 8) with ready := false, framing := false } : State).syncLoop_own
  refine ⟨?_, hLoop.eq (·.pow) fun _ _ _ _ _ _ => rfl, hLoop.entries _ (by decide) (by decide),
    hLoop.entries _ (by decide) (by decide)⟩
  have hDie : ({ s.setDie 0 ((s.die 0).triggered 8) with ready := false, framing := false } : State).die 0 =
      (s.die 0).triggered 8 := State.die_setDie s 0 _
  rw [(hLoop.dies 0).eq (·.trigger) fun _ _ _ => rfl, hDie]
  unfold DieRt.triggered
  rcases h with h | h
  · simp [h]
  · simp [show (s.die 0).trigger ≠ 0 from by omega, h]

-- NMT states through a wake

theorem State.nmt_wake (s : State) (d : Nat) : (s.wake d).nmt = s.nmt := congrArg (field · 6 0) (s.g_wake d _)

theorem State.nmt_heard (s : State) : s.heard.nmt = s.nmt := by
  unfold State.heard
  split
  · exact s.nmt_wake 0
  · rfl

theorem State.canErr_heard (s : State) : s.heard.canErr = s.canErr := by
  unfold State.heard
  split
  · exact congrArg (field · 9 8) (s.g_wake 0 _)
  · rfl

theorem State.nmt_selected (s : State) : s.selected.nmt = s.nmt := by
  unfold State.selected
  split
  · exact s.nmt_wake 0
  · rfl

theorem State.canErr_selected (s : State) : s.selected.canErr = s.canErr := by
  unfold State.selected
  split
  · exact congrArg (field · 9 8) (s.g_wake 0 _)
  · rfl

theorem State.nmt_keepAccess (s t : State) : (s.keepAccess t).nmt = t.nmt :=
  congrArg (field · 6 0) (s.g_keepAccess t (by decide))

theorem State.canErr_keepAccess (s t : State) : (s.keepAccess t).canErr = t.canErr :=
  congrArg (field · 9 8) (s.g_keepAccess t (by decide))

/-- A command of the NMT to this node. -/
theorem yields_hearing {s t : State} {n : Nat} {P : State → Prop} (hn : n ≤ 127) (hm : s.mine n = true)
    (h : P (s.keepAccess t.heard)) : yields (hearing n s t) P := by
  unfold hearing
  rw [if_neg (by omega), if_pos hm]
  exact yields_accessing h

/-- One to another node. -/
theorem yields_hearing_other {s t : State} {n : Nat} {P : State → Prop} (hn : n ≤ 127) (hm : s.mine n = false)
    (h : P (s.keepAccess s.heard)) : yields (hearing n s t) P := by
  unfold hearing
  rw [if_neg (by omega), if_neg (by simp [hm])]
  exact yields_accessing h

/-- Where the bus is heard no bus-off hold runs. -/
theorem State.noHold_of_onBus {s : State} (h : s.onBus = true) : ¬ (s.canErr = 2 ∧ !s.net.recovering) := by
  simp only [State.onBus, Bool.and_eq_true, decide_eq_true_eq] at h
  omega

end Sys2Proof.Machine

namespace Sys2Proof

open Sys2Proof.Machine

/-- Settles O46: a command of the NMT changes the state of the node it names, and of no other. -/
theorem nmtCommands : Obligations.NmtCommands := by
  unfold Obligations.NmtCommands
  have hMove : ∀ (s : State) (n v : Nat), n ≤ 127 → s.mine n = true → s.nmt ≠ nmBOOT → v < 128 →
      yields (hearing n s (s.nmtTo v)) fun t => t.nmt = v := fun s n v hn hm hb hv => by
    refine yields_hearing hn hm ?_
    rw [State.nmt_keepAccess, State.nmt_heard, State.nmt_nmtTo _ hv, if_neg hb]
  have hOther : ∀ (s u : State) (n : Nat), n ≤ 127 → s.mine n = false →
      yields (hearing n s u) fun t => t.nmt = s.nmt := fun s u n hn hm => by
    refine yields_hearing_other hn hm ?_
    rw [State.nmt_keepAccess, State.nmt_heard]
  refine ⟨fun s n hn hm hb => ⟨hMove s n _ hn hm hb (by decide), hMove s n _ hn hm hb (by decide),
      hMove s n _ hn hm hb (by decide)⟩,
    fun s n hn hm => ⟨hOther s _ n hn hm, hOther s _ n hn hm, hOther s _ n hn hm⟩,
    fun s n hn hm hId => ?_, fun s n info hp hn hm hInfo hStart hEmber hTrig => ?_⟩
  · refine yields_hearing hn hm ?_
    have hBus : s.onBus = true := by
      simp only [State.mine, Bool.and_eq_true] at hm
      exact hm.1
    obtain ⟨hNmt, hErr⟩ := State.resetComm_node hId (State.noHold_of_onBus hBus)
    rw [State.nmt_keepAccess, State.nmt_heard, State.canErr_keepAccess, State.canErr_heard]
    exact ⟨hNmt, hErr⟩
  · show yields (if _ then _ else starting s (if _ then _ else _)) _
    rw [if_neg (by simp [hInfo]; omega), if_pos hm]
    obtain ⟨h8, hPow, hMode, hStat⟩ := State.askReset_finds hTrig
    have hShown := State.serveReset_shows (s := s.askReset) (info := info) h8
      (by rw [hMode]; unfold State.canStart at hStart ⊢; rw [hPow]; exact hStart)
      ((congrArg (bitAt · esEMBER_LOST) hStat).trans hEmber)
    simp only [State.startShown, Prod.mk.injEq] at hShown
    obtain ⟨hReady, hHalt, hKind, hCause⟩ := hShown
    exact yields_starting ⟨hKind, hCause, hReady, hHalt⟩

end Sys2Proof

namespace Sys2Proof.Machine

open Sys2Proof

-- keyed commands of the host window

/-- A frame of one word to a register that is served. -/
theorem State.oneWord_served {s : State} {a : Nat} (w : Nat) (hServes : s.portServes = true)
    (hFull : s.windowFull = true) :
    s.oneWord a w = (State.setWerr ((if a = 0x1F then s else s.breakKey).regWrite a w)).selected := by
  unfold State.oneWord
  rw [if_pos hServes]
  congr 2
  split
  next h =>
    subst h
    unfold State.writeWord
    rw [hFull]
    rfl
  next h => exact State.writeWord_served w h hFull

/-- HOST_CMD (R641): closing the key, or a command that needs it open. -/
theorem State.oneWord_hostCmd {s : State} (w : Nat) (hServes : s.portServes = true) (hFull : s.windowFull = true) :
    s.oneWord 0x05 w = (State.setWerr (s.breakKey.hostCmd w)).selected :=
  State.oneWord_served w hServes hFull

theorem HostRt.keyOpen_iff (h : HostRt) : h.keyOpen = true ↔ 2 ≤ h.key := by simp [HostRt.keyOpen]

theorem State.keyOpen_breakKey (s : State) : s.breakKey.host.keyOpen = s.host.keyOpen := by
  show decide (2 ≤ s.host.key / 2 * 2) = decide (2 ≤ s.host.key)
  rw [decide_eq_decide]
  omega

/-- What a privileged command does (R641). -/
def State.privileged (t : State) : Nat → State
  | 0x0010 => t.askReset
  | 0x0011 => t.resetComm
  | 0x0012 => t.nmtTo nmPRE
  | 0x0013 => t.nmtTo nmOP
  | _ => t.nmtTo nmSTOP

/-- A privileged command with the key open closes it and has its effect (R641). -/
theorem State.hostCmd_open {s : State} (w : Nat) (hw : ¬ (w < 0x0010 ∨ 0x0014 < w)) (hOpen : s.host.keyOpen = true) :
    s.breakKey.hostCmd w = (s.breakKey.closeKey.privileged w, wOK) := by
  unfold State.hostCmd
  rw [if_neg (by omega), if_neg hw, if_neg (by simp [State.keyOpen_breakKey, hOpen])]
  obtain rfl | rfl | rfl | rfl | rfl : w = 0x10 ∨ w = 0x11 ∨ w = 0x12 ∨ w = 0x13 ∨ w = 0x14 := by omega
  all_goals rfl

/-- HCS leaves what a reset finds (R544). -/
theorem State.selected_finds (s : State) : (s.selected.die 0).trigger = (s.die 0).trigger ∧ s.selected.pow = s.pow ∧
    ∀ k, s.selected.g k = s.g k := by
  unfold State.selected
  split
  · refine ⟨?_, s.wake_keeps 0 (·.pow) fun _ => rfl, fun k => s.g_wake 0 k⟩
    rcases s.wake_cases 0 with h | ⟨w, a, h⟩
    · rw [h]
    · rw [h, State.die_setDie]
  · exact ⟨rfl, rfl, fun _ => rfl⟩

end Sys2Proof.Machine

namespace Sys2Proof

open Sys2Proof.Machine

/-- Settles O45: the key opens by its two words and closes, and a privileged command needs it open. -/
theorem keyedCommands : Obligations.KeyedCommands := by
  unfold Obligations.KeyedCommands
  refine ⟨⟨fun s hServes hFull => ?_, fun s hServes hFull hKey => ?_, fun s hOpen hKey hDue => ?_,
    fun s hServes hFull => ?_⟩, fun s hServes hFull hOpen hBoot => ?_, fun s hServes hFull hClosed => ?_,
    fun s hServes hFull hOpen hId hHold => ?_, fun s info hp hInfo hServes hFull hOpen hStart hEmber hTrig => ?_⟩
  · refine yields_accessing ?_
    rw [State.host_keepAccess, State.oneWord_served _ hServes hFull, State.host_selected]
    show (s.host.key / 2 * 2 + 1) % 2 = 1 ∧ decide (2 ≤ s.host.key / 2 * 2 + 1) = decide (2 ≤ s.host.key)
    refine ⟨by omega, ?_⟩
    rw [decide_eq_decide]
    omega
  · refine yields_accessing ?_
    rw [State.host_keepAccess, State.oneWord_served _ hServes hFull, State.host_selected]
    have hWord : s.keyWord 0x5AA5 = { s with host := { s.host with key := 2, keyAt := s.cyc } } := by
      unfold State.keyWord
      dsimp only
      rw [if_neg (by decide), if_pos ⟨rfl, hKey⟩]
    rw [if_pos rfl, show s.regWrite 0x1F 0x5AA5 = (s.keyWord 0x5AA5, wOK) from rfl, hWord]
    exact ⟨rfl, rfl, rfl⟩
  · refine yields_accessing ?_
    rw [State.host_keepAccess, if_pos (by simp [hOpen, hDue])]
    show decide (2 ≤ s.host.key - 2) = false
    rw [decide_eq_false_iff_not]
    omega
  · refine yields_accessing ?_
    rw [State.host_keepAccess, State.oneWord_hostCmd _ hServes hFull, State.host_selected]
    exact ⟨rfl, rfl⟩
  · have hCmd : ∀ (w v : Nat), s.breakKey.hostCmd w = (s.breakKey.closeKey.nmtTo v, wOK) → v < 128 →
        yields (accessing s (s.oneWord 0x05 w)) fun t => t.nmt = v ∧ t.host.key = 0 := fun w v hw hv => by
      refine yields_accessing ⟨?_, ?_⟩
      · rw [State.nmt_keepAccess, State.oneWord_hostCmd _ hServes hFull, State.nmt_selected, hw]
        exact (State.nmt_nmtTo _ hv).trans (if_neg hBoot)
      · rw [State.host_keepAccess, State.oneWord_hostCmd _ hServes hFull, State.host_selected, hw]
        have hHost := (s.breakKey.closeKey.nmtTo_moves v).eq (·.host) fun _ _ _ _ _ _ _ => rfl
        exact congrArg HostRt.key hHost
    exact ⟨hCmd _ _ (State.hostCmd_open _ (by decide) hOpen) (by decide),
      hCmd _ _ (State.hostCmd_open _ (by decide) hOpen) (by decide),
      hCmd _ _ (State.hostCmd_open _ (by decide) hOpen) (by decide)⟩
  · have hRefused : s.breakKey.hostCmd 0x0014 = (s.breakKey, wKEY) := by
      unfold State.hostCmd
      rw [if_neg (by decide), if_neg (by decide), if_pos (by simp [State.keyOpen_breakKey, hClosed])]
    refine yields_accessing ⟨?_, ?_⟩
    · rw [State.nmt_keepAccess, State.oneWord_hostCmd _ hServes hFull, State.nmt_selected, hRefused]
      rfl
    · rw [State.host_keepAccess, State.oneWord_hostCmd _ hServes hFull, State.host_selected, hRefused]
      rfl
  · have hHold' : ¬ (s.breakKey.closeKey.canErr = 2 ∧ !s.breakKey.closeKey.net.recovering) := by
      rintro ⟨h2, hr⟩
      rcases hHold with hHold | hHold
      · exact hHold h2
      · exact absurd hr (by rw [show s.breakKey.closeKey.net.recovering = true from hHold]; decide)
    obtain ⟨hNmt, hErr⟩ := State.resetComm_node (s := s.breakKey.closeKey) hId hHold'
    obtain ⟨-, -, -, hHost⟩ := s.breakKey.closeKey.resetComm_keeps
    refine yields_accessing ⟨?_, ?_, ?_⟩
    · rw [State.nmt_keepAccess, State.oneWord_hostCmd _ hServes hFull, State.nmt_selected,
        State.hostCmd_open _ (by decide) hOpen]
      exact hNmt
    · rw [State.canErr_keepAccess, State.oneWord_hostCmd _ hServes hFull, State.canErr_selected,
        State.hostCmd_open _ (by decide) hOpen]
      exact hErr
    · rw [State.host_keepAccess, State.oneWord_hostCmd _ hServes hFull, State.host_selected,
        State.hostCmd_open _ (by decide) hOpen]
      exact congrArg HostRt.key hHost
  · show yields (if _ then _ else starting s (if _ then _ else _)) _
    rw [if_neg (by simp [hInfo]), if_pos (by simp [hServes, hFull])]
    have hTrig' : (s.breakKey.closeKey.die 0).trigger = 0 ∨ 8 ≤ (s.breakKey.closeKey.die 0).trigger := hTrig
    obtain ⟨h8, hPow, hMode, hStat⟩ := State.askReset_finds hTrig'
    rw [State.oneWord_hostCmd _ hServes hFull, State.hostCmd_open _ (by decide) hOpen]
    obtain ⟨hTr, hP, hG⟩ := (State.setWerr (s.breakKey.closeKey.askReset, wOK)).selected_finds
    have hShown := State.serveReset_shows (s := (State.setWerr (s.breakKey.closeKey.askReset, wOK)).selected) (info :=
        info)
      (hTr.trans h8)
      (by
        have hPow' : (State.setWerr (s.breakKey.closeKey.askReset, wOK)).selected.pow = s.pow := hP.trans hPow
        have hMode' : (State.setWerr (s.breakKey.closeKey.askReset, wOK)).selected.g K.sup_SUPMODE = s.g
            K.sup_SUPMODE :=
          (hG _).trans hMode
        rw [hMode']
        unfold State.canStart at hStart ⊢
        rw [hPow']
        exact hStart)
      ((congrArg (bitAt · esEMBER_LOST) ((hG _).trans hStat)).trans hEmber)
    simp only [State.startShown, Prod.mk.injEq] at hShown
    obtain ⟨hReady, hHalt, hKind, hCause⟩ := hShown
    exact yields_starting ⟨hKind, hCause, hReady, hHalt⟩

end Sys2Proof
end

section
/-! The error states of the controller (O50). -/

namespace Sys2Proof.Machine

open Sys2Proof

-- error states of the controller

theorem State.canErr_of_g {s t : State} (h : t.g K.dev_CAN_STAT = s.g K.dev_CAN_STAT) : t.canErr = s.canErr :=
  congrArg (field · 9 8) h

/-- A change of the error state that is logged and counted. -/
theorem State.canErr_ofQuiet {s t : State} (h : quiet s t) : t.canErr = s.canErr :=
  State.canErr_of_g (h.entries _ (by decide))

theorem State.canErr_freeCounters (s : State) : s.freeCounters.canErr = s.canErr :=
  State.canErr_of_g (State.g_p_ne _ _ (by decide))

theorem State.commError_moves (s : State) : nodeOnly (· = K.dev_CAN_STAT) s s.commError := by
  unfold State.commError
  split
  · split
    · exact (s.setNmt_moves _).1
    · exact .refl s
  · exact s.nmtTo_moves _
  · exact .refl s

theorem State.canErr_commError (s : State) : s.commError.canErr = s.canErr := by
  unfold State.commError
  split
  · split
    · exact s.canErr_setNmt _
    · rfl
  · exact s.canErr_nmtTo _
  · rfl

theorem State.canStat_commError (s : State) {b : Nat} (hb : 6 < b) :
    s.commError.bit K.dev_CAN_STAT b = s.bit K.dev_CAN_STAT b := by
  unfold State.commError
  split
  · split
    · exact s.canStat_setNmt _ hb
    · rfl
  · exact s.canStat_nmtTo _ hb
  · rfl

/-- A controller that goes off the bus (R589, R658). -/
theorem State.busOff_shows (s : State) : s.busOff.canErr = 2 ∧ s.busOff.net.busoffAt = some s.cyc ∧
    s.busOff.g K.dev_BUSOFF_COUNT = wrap32 (s.g K.dev_BUSOFF_COUNT + 1) ∧ ∀ f ∈ s.busOff.net.txQ, f.cls = 2 := by
  unfold State.busOff
  extract_lets s1 _ s2
  have hq : quiet s2 (((s2.bitTo K.sag_SAG_STAT 4 true).evChip 0x8002 []).syncErr) :=
    ((quiet.bitTo _ _ _ (by decide)).trans (quiet.evChip _ _ _)).trans (quiet.syncErr _)
  generalize ((s2.bitTo K.sag_SAG_STAT 4 true).evChip 0x8002 []).syncErr = u at hq
  have hc := u.commError_moves
  refine ⟨?_, ?_, ?_, ?_⟩
  · rw [State.canErr_commError, State.canErr_ofQuiet hq]
    refine (State.canErr_of_g (s := (s.setErr 2).freeCounters) ?_).trans
      ((State.canErr_freeCounters _).trans (State.canErr_setErr _ (by decide)))
    exact State.g_inc_ne _ (by decide)
  · rw [hc.net.eq (·.busoffAt) fun _ _ _ _ _ _ _ _ _ _ _ _ => rfl,
      (sameFrames.ofQuiet hq).eq (·.busoffAt) fun _ _ _ _ _ _ => rfl]
  · rw [hc.entries _ (by decide) (by decide), hq.entries _ (by decide)]
    show s1.g K.dev_BUSOFF_COUNT = _
    unfold s1 State.freeCounters State.setErr
    rw [State.g_inc_same _ (by decide), State.g_p_ne _ _ (by decide), State.g_p_ne _ _ (by decide)]
  · have hQueue : u.commError.net.txQ = s2.net.txQ := by
      rw [hc.net.eq (·.txQ) fun _ _ _ _ _ _ _ _ _ _ _ _ => rfl]
      have hn := hq.net
      unfold sameNet at hn
      rw [hn]
    rw [hQueue]
    intro f hf
    exact of_decide_eq_true (List.mem_filter.1 hf).2

/-- The recovery sequence begins (R658). -/
def State.beginRecovery (s : State) : State :=
  { s with net := { s.net with recovering := true } }.bitTo K.sag_SAG_STAT 4 false

theorem State.beginRecovery_net (s : State) : sameFrames { s.net with recovering := true } s.beginRecovery.net :=
  sameFrames.ofSame (State.p_net ..)

theorem execBusoffHoldEnd_due {s : State} {c : Nat} (hAt : s.net.busoffAt = some c)
    (h : (s.d0Clock && decide (s.canErr = 2) && !s.net.recovering &&
      cycReached s.cyc (cycPlus c (s.g K.sag_BUSOFF_HOLD * 24576))) = true) :
    execBusoffHoldEnd s =
      accessing s (if s.net.resetDue = true then s.beginRecovery.resetController else s.beginRecovery) := by
  unfold execBusoffHoldEnd
  rw [hAt]
  exact congrArg (accessing s) (if_pos h)

/-- The end of a recovery (R589): error active, the counters at 0, and the frames that wait go. -/
def State.recovered (s : State) : State :=
  ((({ s with net := { s.net with busoffAt := none, recovering := false } }.setErr 0).p K.dev_TEC 0).evNet 0x8003 0x8140
    []).syncErr

theorem State.recovered_shows (s : State) : s.recovered.canErr = 0 ∧ s.recovered.g K.dev_TEC = 0 ∧
    s.recovered.net.busoffAt = none := by
  unfold State.recovered
  set u := { s with net := { s.net with busoffAt := none, recovering := false } }.setErr 0 with hu
  have hq : quiet (u.p K.dev_TEC 0) (((u.p K.dev_TEC 0).evNet 0x8003 0x8140 []).syncErr) :=
    (quiet.evNet _ _ _ _).trans (quiet.syncErr _)
  refine ⟨?_, ?_, ?_⟩
  · rw [State.canErr_ofQuiet hq]
    exact (State.canErr_of_g (State.g_p_ne u 0 (by decide))).trans (State.canErr_setErr _ (by decide))
  · rw [hq.entries _ (by decide), State.g_p_same _ _ (by decide)]
  · rw [(sameFrames.ofQuiet hq).eq (·.busoffAt) fun _ _ _ _ _ _ => rfl,
      (sameFrames.ofSame (State.p_net u _ _)).eq (·.busoffAt) fun _ _ _ _ _ _ => rfl, hu]
    exact (sameFrames.ofSame (State.p_net ..)).eq (·.busoffAt) fun _ _ _ _ _ _ => rfl

end Sys2Proof.Machine

namespace Sys2Proof

open Sys2Proof.Machine

/-- Settles O50: each error state of the controller and the recovery from bus-off. -/
theorem errorStates : Obligations.ErrorStates := by
  unfold Obligations.ErrorStates
  refine ⟨fun s hBus hErr => ?_, fun s hBus hErr => ?_, fun s hBus => ?_, fun s c hAt hClk hErr hRec hDue hReset => ?_,
    fun s c hAt hClk hErr hRec hDue hReset hId => ?_, fun s hClk hErr hRec => ?_⟩
  · show yields (accessing s (if _ then _ else _)) _
    rw [if_pos (by simp [hBus, hErr])]
    refine yields_accessing ?_
    rw [State.canErr_keepAccess, State.canErr_ofQuiet ((quiet.evNet _ _ _ _).trans (quiet.syncErr _)),
      State.canErr_freeCounters, State.canErr_setErr _ (by decide)]
  · show yields (accessing s (if _ then _ else _)) _
    rw [if_pos (by simp [hBus, hErr])]
    refine yields_accessing ?_
    rw [State.canErr_keepAccess, State.canErr_ofQuiet (quiet.syncErr _), State.canErr_freeCounters,
      State.canErr_setErr _ (by decide)]
  · show yields (accessing s (if _ then _ else _)) _
    rw [if_pos hBus]
    obtain ⟨hErr, hAt, hCount, hQueue⟩ := s.busOff_shows
    generalize s.busOff = u at *
    refine yields_accessing ⟨?_, hAt, ?_, hQueue⟩
    · rw [State.canErr_keepAccess, hErr]
    · rw [State.g_keepAccess _ _ (by decide), hCount]
  · show yields (execBusoffHoldEnd s) _
    rw [execBusoffHoldEnd_due hAt (by simp [hClk, hErr, hRec, hDue]), if_neg (by simp [hReset])]
    refine yields_accessing ⟨?_, ?_⟩
    · exact s.beginRecovery_net.eq (·.recovering) fun _ _ _ _ _ _ => rfl
    · rw [State.canErr_keepAccess, ← hErr]
      exact State.canErr_of_g (State.g_bitTo_ne _ _ _ (by decide))
  · show yields (execBusoffHoldEnd s) _
    rw [execBusoffHoldEnd_due hAt (by simp [hClk, hErr, hRec, hDue]), if_pos hReset]
    have hNode : s.beginRecovery.net.nodeId = s.net.nodeId := s.beginRecovery_net.eq (·.nodeId) fun _ _ _ _ _ _ => rfl
    have hAuto : s.beginRecovery.g K.dev_AUTO_OP = s.g K.dev_AUTO_OP := State.g_bitTo_ne _ _ _ (by decide)
    obtain ⟨hNmt, hCan⟩ := State.resetController_node (s := s.beginRecovery) (by rw [hNode]; exact hId)
    refine yields_accessing ⟨?_, ?_⟩
    · rw [State.canErr_keepAccess, hCan]
    · rw [State.nmt_keepAccess, hNmt, hAuto]
  · show yields (accessing s (if _ then s.recovered.drain else _)) _
    rw [if_pos (by simp [hClk, hErr, hRec])]
    obtain ⟨hCan, hTec, hAt⟩ := s.recovered_shows
    generalize s.recovered = u at *
    refine yields_accessing ⟨?_, ?_, hAt⟩
    · rw [State.canErr_keepAccess]
      exact hCan
    · rw [State.g_keepAccess _ _ (by decide)]
      exact hTec

end Sys2Proof
end

section
/-! SYNC and its window, TIME, and the timers of the TPDOs. -/

namespace Sys2Proof.Machine

open Sys2Proof

-- SYNC, TIME and the timers of the TPDOs

theorem sameNet.eq {β : Type} {a b : NetRt} (h : sameNet a b) (f : NetRt → β)
    (hf : ∀ tr, f { a with trig := tr } = f a) : f b = f a := by
  rw [h]; exact hf _

theorem State.g_heard (s : State) (k : Nat) : s.heard.g k = s.g k := by
  unfold State.heard
  split
  · exact s.g_wake 0 k
  · rfl

theorem State.net_heard (s : State) : s.heard.net = s.net := by
  unfold State.heard
  split
  · exact s.wake_keeps 0 (·.net) fun _ => rfl
  · rfl

theorem State.ember_heard (s : State) : s.heard.ember = s.ember := by
  unfold State.heard
  split
  · exact s.ember_wake 0
  · rfl

@[simp] theorem State.net_keepAccess (s t : State) : (s.keepAccess t).net = t.net := rfl
@[simp] theorem State.ember_keepAccess (s t : State) : (s.keepAccess t).ember = t.ember := rfl

theorem bitAt_lor (a b n : Nat) : bitAt (Nat.lor a b) n = (bitAt a n || bitAt b n) := by
  rw [bitAt_eq_testBit, bitAt_eq_testBit, bitAt_eq_testBit]
  exact Nat.testBit_or a b n

theorem bitAt_two_pow_self (n : Nat) : bitAt (2 ^ n) n = true := by
  rw [bitAt_eq_testBit, Nat.testBit_two_pow_self]

/-- A TPDO called for is due. -/
theorem State.due_callTpdo (s : State) (t : Nat) : bitAt (s.callTpdo t).net.due t = true := by
  show bitAt (Nat.lor s.net.due (2 ^ t)) t = true
  rw [bitAt_lor, bitAt_two_pow_self, Bool.or_true]

/-- Of `s`, the state `t` differs by the counters of the synchronous TPDOs and by TPDOs that are due beside. -/
structure State.callsTpdos (s t : State) : Prop where
  rest : t = { s with net := { s.net with due := t.net.due, syncCnt := t.net.syncCnt } }
  due : ∀ n, bitAt s.net.due n = true → bitAt t.net.due n = true

namespace State.callsTpdos

theorem refl (s : State) : callsTpdos s s := ⟨rfl, fun _ h => h⟩

theorem trans {s t u : State} (a : callsTpdos s t) (b : callsTpdos t u) : callsTpdos s u where
  rest := by rw [b.rest, a.rest]
  due n h := b.due n (a.due n h)

theorem callTpdo (s : State) (t : Nat) : callsTpdos s (s.callTpdo t) where
  rest := rfl
  due n h := by
    show bitAt (Nat.lor s.net.due (2 ^ t)) n = true
    rw [bitAt_lor, h, Bool.true_or]

theorem count (s : State) (l : Tab Nat) : callsTpdos s { s with net := { s.net with syncCnt := l } } :=
  ⟨rfl, fun _ h => h⟩

theorem eq {β : Type} {s t : State} (h : callsTpdos s t) (f : State → β)
    (hf : ∀ d c, f { s with net := { s.net with due := d, syncCnt := c } } = f s) : f t = f s := by
  rw [h.rest]; exact hf _ _

theorem syncTpdo (s : State) (c t : Nat) : callsTpdos s (s.syncTpdo c t) := by
  unfold State.syncTpdo
  extract_lets ty start cnt set k
  have hSet : ∀ v, callsTpdos s (set s v) := fun v => count s _
  split
  · exact refl s
  split
  · exact callTpdo s t
  split
  · split
    · exact (hSet _).trans (callTpdo _ t)
    · exact refl s
  · split
    · exact (hSet _).trans (callTpdo _ t)
    · exact hSet _

theorem foldl (c : Nat) (l : List Nat) (s : State) : callsTpdos s (l.foldl (fun t n => t.syncTpdo c n) s) := by
  induction l generalizing s with
  | nil => exact refl s
  | cons n r ih => exact (syncTpdo s c n).trans (ih _)

end State.callsTpdos

/-- A TPDO of type 1 is due at each SYNC without counter values to wait for (R617). -/
theorem State.due_syncTpdo {s : State} (c : Nat) {n : Nat} (hv : s.tpdoValid n = true)
    (ht : s.g (K.comm_TPDO_TYPE n) = 1)
    (ho : s.g K.comm_SYNC_OVF = 0) : bitAt (s.syncTpdo c n).net.due n = true := by
  unfold State.syncTpdo
  extract_lets ty start cnt set k
  have hTy : ty = 1 := ht
  rw [if_neg (by simp [hv, hTy]), if_neg (by simp [hTy]), if_neg (by simp [ho]),
      if_pos (by rw [hTy]; exact le_max_right _ _)]
  exact State.due_callTpdo _ n

/-- What a SYNC without waiting RPDOs does (R599, R617, R618). -/
theorem State.syncEvent_shows {s : State} (c : Nat) (h : s.net.rpdoWait = []) :
    (s.syncEvent c).g K.dev_SYNC_CYC = s.cyc ∧
    (s.syncEvent c).net.syncWinEnd = (if s.g K.comm_SYNC_WIN = 0 then none
      else some (cycPlus s.cyc (winCycles (s.g K.comm_SYNC_WIN) + 1))) ∧
    (s.syncEvent c).net.syncCounter = s.net.syncCounter ∧ (s.syncEvent c).net.syncNext = s.net.syncNext ∧
    ∀ n, n < 16 → s.nmt = nmOP → s.tpdoValid n = true → s.g (K.comm_TPDO_TYPE n) = 1 → s.g K.comm_SYNC_OVF = 0 →
      bitAt (s.syncEvent c).net.due n = true := by
  unfold State.syncEvent
  extract_lets s1 s2 win
  have hNet : sameNet s.net s1.net := State.p_net ..
  have hWait : s1.net.rpdoWait = [] := (sameNet.eq hNet (·.rpdoWait) fun _ => rfl).trans h
  have hEntry : ∀ k, k ≠ K.dev_SYNC_CYC → s1.g k = s.g k := fun k hk => State.g_p_ne s _ hk
  have hApply : s1.applyWaiting = { s1 with net := { s1.net with rpdoWait := [] } } := by
    unfold State.applyWaiting
    rw [hWait]
    rfl
  have hShow : s1.g K.dev_SYNC_CYC = s.cyc := State.g_p_same _ _ (by decide)
  have h2 : s2.g K.dev_SYNC_CYC = s.cyc ∧ s2.net.syncCounter = s.net.syncCounter ∧
      s2.net.syncNext = s.net.syncNext := by
    unfold s2
    split
    · have hc := State.callsTpdos.foldl c (List.range 16) s1.applyWaiting
      rw [hc.eq (·.g _) fun _ _ => rfl, hc.eq (·.net.syncCounter) fun _ _ => rfl, hc.eq (·.net.syncNext) fun _ _ => rfl,
        hApply]
      exact ⟨hShow, sameNet.eq hNet (·.syncCounter) fun _ => rfl, sameNet.eq hNet (·.syncNext) fun _ => rfl⟩
    · exact ⟨hShow, sameNet.eq hNet (·.syncCounter) fun _ => rfl, sameNet.eq hNet (·.syncNext) fun _ => rfl⟩
  obtain ⟨hCyc, hCounter, hNext⟩ := h2
  refine ⟨hCyc, rfl, hCounter, hNext, fun n hn hOp hv ht ho => ?_⟩
  show bitAt s2.net.due n = true
  unfold s2
  rw [if_pos hOp]
  obtain ⟨l, r, hl⟩ := List.append_of_mem (List.mem_range.2 hn)
  rw [hl, List.foldl_append, List.foldl_cons]
  refine (State.callsTpdos.foldl c r _).due n ?_
  have hc := State.callsTpdos.foldl c l s1.applyWaiting
  have hKeep : ∀ k, k ≠ K.dev_SYNC_CYC →
      (l.foldl (fun t n => t.syncTpdo c n) s1.applyWaiting).g k = s.g k := fun k hk => by
    rw [hc.eq (·.g k) fun _ _ => rfl, hApply]
    exact hEntry k hk
  refine State.due_syncTpdo c ?_ ?_ ?_
  · unfold State.tpdoValid at hv ⊢
    rwa [hKeep _ (by show 0x180001 + 256 * n ≠ 0x20006A; omega)]
  · rwa [hKeep _ (by show 0x180002 + 256 * n ≠ 0x20006A; omega)]
  · rwa [hKeep _ (by decide)]

/-- A TIME message out of range is counted, another waits for a read of the ember (R600, R601). -/
theorem State.time_shows (s : State) (ms days : Nat) :
    if s.netMs ms days < 0 ∨ 3155760000000 ≤ s.netMs ms days then
      (s.time ms days).g K.dev_TIME_BAD = wrap32 (s.g K.dev_TIME_BAD + 1)
    else s.g K.dev_TIME_MODE ≠ 0 →
      (s.time ms days).net.timeWait = some ((s.netMs ms days).toNat, 0) ∧
      (s.time ms days).ember.reqs = s.ember.reqs ++ [{ key := K.emb_RTC_BIN, write := false, who := .boundary }] := by
  unfold State.time
  by_cases hOut : s.netMs ms days < 0 ∨ 3155760000000 ≤ s.netMs ms days
  · simp only [if_pos hOut]
    exact State.g_inc_same s (by decide)
  · simp only [if_neg hOut]
    intro hMode
    rw [if_neg hMode]
    exact ⟨rfl, rfl⟩

/-- The event timer of a TPDO that runs one starts anew (R617). -/
theorem State.evtAt_armEvent {s : State} {n : Nat} (hv : s.tpdoValid n = true)
    (hTy : 254 ≤ s.g (K.comm_TPDO_TYPE n)) (hEvt : s.g (K.comm_TPDO_EVT n) ≠ 0) (hOp : s.nmt = 5) :
    (s.armEvent n).net.evtAt.look 0 n = cycPlus s.cyc (s.g (K.comm_TPDO_EVT n) * 24576) + 1 := by
  unfold State.armEvent
  simp [hv, hTy, hEvt, hOp]

end Sys2Proof.Machine

namespace Sys2Proof

open Sys2Proof.Machine

/-- Settles O48: a SYNC and its window, TIME, and the timers of a TPDO. -/
theorem syncTimeAndTimers : Obligations.SyncTimeAndTimers := by
  unfold Obligations.SyncTimeAndTimers
  refine ⟨fun s c hc hTalks hWait => ?_, fun s c hNext hTalks hRun hDue hWait => ?_, fun s c hEnd hDue => ?_,
    fun s ms days hms hd hTalks => ?_, fun s n hn hBus hAt hDue hv hOp hTy hEvt => ?_,
    fun s n hn hBus hOp hv hWait hOver => ?_⟩
  · show yields (if _ then _ else accessing s (if _ then _ else _)) _
    rw [if_neg (by omega), if_pos hTalks]
    obtain ⟨hCyc, hWin, -, -, hTpdo⟩ := State.syncEvent_shows c hWait
    generalize s.syncEvent c = u at *
    refine yields_accessing ⟨?_, ?_, ?_⟩
    · rw [State.g_keepAccess _ _ (by decide), State.g_heard, hCyc]
    · rw [State.net_keepAccess, State.net_heard, hWin]
    · rw [State.net_keepAccess, State.net_heard]
      exact hTpdo
  · have hExec : exec .syncProduce s = accessing s s.produceSync := by
      show execSyncProduce s = _
      unfold execSyncProduce
      rw [hNext]
      exact congrArg (accessing s) (if_pos (by simp [hTalks, hRun, hDue]))
    rw [hExec]
    unfold State.produceSync
    extract_lets k s1 us _
    have hSend : sends s s1 := .sendFrame _ _
    have hNet : sameFrames s.net s1.net := .sendFrame _ _
    clear_value s1
    have hWait1 : s1.net.rpdoWait = [] := (hNet.eq (·.rpdoWait) fun _ _ _ _ _ _ => rfl).trans hWait
    obtain ⟨hCyc, -, hCounter, hNext', -⟩ := State.syncEvent_shows (s := { s1 with net := { s1.net with
      syncCounter := k, syncNext := some (nextMultiple s.net.syncBase (syncCycles us) s.cyc) } }) k hWait1
    have hCyc1 : s1.cyc = s.cyc := by rw [hSend.rest]
    generalize State.syncEvent _ k = u at *
    refine yields_accessing ⟨?_, hCounter, hNext'⟩
    rw [State.g_keepAccess _ _ (by decide), hCyc]
    exact hCyc1
  · have hExec : exec .syncWinExpiry s = accessing s (({ s with net := { s.net with
        syncWinEnd := none
        txQ := s.net.txQ.filter (fun f : CanFrame =>
            !(decide (f.cls = 3) && decide (s.g (K.comm_TPDO_TYPE f.pdo) ≤ 240))) } }).addTo
          K.dev_TPDO_LATE (s.net.txQ.filter fun f : CanFrame =>
            decide (f.cls = 3) && decide (s.g (K.comm_TPDO_TYPE f.pdo) ≤ 240)).length) := by
      show execSyncWinExpiry s = _
      unfold execSyncWinExpiry
      rw [hEnd]
      exact congrArg (accessing s) (if_pos hDue)
    rw [hExec]
    refine yields_accessing ⟨?_, fun f hf hcls => ?_⟩
    · exact sameNet.eq (State.p_net ..) (·.syncWinEnd) fun _ => rfl
    · have hKept := (List.mem_filter.1 ((sameNet.eq (State.p_net ..) (·.txQ) fun _ => rfl) ▸ hf)).2
      simp only [hcls, decide_true, Bool.true_and, Bool.not_eq_true', decide_eq_false_iff_not] at hKept
      omega
  · show yields (if _ then _ else accessing s (if _ then _ else _)) _
    rw [if_neg (by omega), if_pos hTalks]
    refine yields_accessing ?_
    rw [State.g_keepAccess _ _ (by decide), State.g_heard, State.net_keepAccess, State.net_heard,
        State.ember_keepAccess,
      State.ember_heard]
    exact s.time_shows ms days
  · show yields (if _ then _ else accessing s (if _ then _ else _)) _
    rw [if_neg (by omega), if_pos (by simp [hBus, hAt, hDue])]
    refine yields_accessing ?_
    refine ⟨?_, State.evtAt_armEvent hv hTy hEvt hOp⟩
    show bitAt (Nat.lor s.net.trig (2 ^ n)) n = true
    rw [bitAt_lor, bitAt_two_pow_self, Bool.or_true]
  · show yields (if _ then _ else accessing s (if _ then _ else _)) _
    rw [if_neg (by omega), if_pos (by simp [hBus, hOp, hv, hWait, hOver])]
    exact yields_accessing (s.due_callTpdo n)

end Sys2Proof
end

section
/-! Heartbeats, EMCY messages and the transmit window. -/

namespace Sys2Proof.Machine

open Sys2Proof

-- heartbeats, their consumers, EMCY messages and the transmit window

theorem State.nmt_ofQuiet {s t : State} (h : quiet s t) : t.nmt = s.nmt :=
  congrArg (field · 6 0) (h.entries K.dev_CAN_STAT (by decide))

theorem State.nmt_commError_pre {s : State} (h : s.g K.comm_ERR_BEHAV = 0) :
    s.commError.nmt = if s.nmt = nmOP then nmPRE else s.nmt := by
  unfold State.commError
  rw [h]
  show (if s.nmt = nmOP then s.setNmt nmPRE else s).nmt = _
  split
  · exact State.nmt_setNmt _ (by decide)
  · rfl

theorem State.nmt_commError_stop {s : State} (h : s.g K.comm_ERR_BEHAV = 2) :
    s.commError.nmt = if s.nmt = nmBOOT then s.nmt else nmSTOP := by
  unfold State.commError
  rw [h]
  exact State.nmt_nmtTo _ (by decide)

/-- A frame without bit-rate switching starts as it is. -/
theorem State.timeFrame_classic (s : State) {f : CanFrame} (h : f.fd = false) : s.timeFrame f = f := by
  unfold State.timeFrame
  simp [h]

theorem State.windowFirst_cases (s : State) : s.windowFirst = s ∨ s.windowFirst = s.newTxWindow := by
  unfold State.windowFirst
  split
  · exact .inr rfl
  · exact .inl rfl

theorem drainFrames_eq (n : Nat) (q : List CanFrame) : drainFrames n q = (q.take n, q.drop n) := by
  induction n generalizing q with
  | zero => rfl
  | succ n ih => cases q with
    | nil => rfl
    | cons f r => simp [drainFrames, ih]

/-- Without waiting frames a new window opens with none started (R657). -/
theorem State.newTxWindow_free {s : State} (h : s.net.txQ = []) :
    s.newTxWindow.net.txQ = [] ∧ s.newTxWindow.net.started = 0 ∧ ∀ k, s.newTxWindow.g k = s.g k := by
  unfold State.newTxWindow
  extract_lets _ s1 s2
  have hQueue : s1.net.txQ = [] := h
  split
  · exact ⟨h, rfl, fun _ => rfl⟩
  · have h2 : s2.net.txQ = [] ∧ s2.net.started = 0 ∧ ∀ k, s2.g k = s.g k := by
      unfold s2 State.drain
      simp only [drainFrames_eq, hQueue, List.take_nil, List.drop_nil]
      exact ⟨trivial, rfl, fun _ => rfl⟩
    rw [h2.1]
    exact h2

/-- A frame that no other waits before starts at once inside the budget (R657). -/
theorem State.sent_startFrame {s : State} {f : CanFrame} (hFree : s.net.txQ = [])
    (hRoom : s.net.started < s.g K.sag_CAN_BUDGET) (hf : f.fd = false) : f ∈ (s.startFrame f).net.sent := by
  unfold State.startFrame
  extract_lets u
  have hu : u.net.txQ = [] ∧ u.net.started < u.g K.sag_CAN_BUDGET := by
    rcases s.windowFirst_cases with h | h
    · exact ⟨by rw [show u = s from h]; exact hFree, by rw [show u = s from h]; exact hRoom⟩
    · obtain ⟨hQueue, hNone, hKeep⟩ := State.newTxWindow_free hFree
      rw [show u = s.newTxWindow from h]
      exact ⟨hQueue, by rw [hNone, hKeep]; omega⟩
  rw [if_pos hu]
  show f ∈ u.timeFrame f :: u.net.sent
  rw [State.timeFrame_classic u hf]
  exact List.mem_cons_self

/-- A frame held starts none (R657). -/
theorem State.sent_holdFrame (s : State) (f : CanFrame) : (s.holdFrame f).net.sent = s.net.sent := by
  unfold State.holdFrame
  extract_lets fresh _ s1 _ _ s2 s3
  have h2 : s2.net.sent = s.net.sent := rfl
  have hOnce : sameNet s2.net s3.net := (quiet.onceEv _ _ _ _ _ _ _).net
  have h3 : s3.net.sent = s2.net.sent := sameNet.eq hOnce (·.sent) fun _ => rfl
  split
  · rfl
  split
  · have hCount : sameNet s3.net (s3.inc K.sag_TRIP_COUNT).net := (quiet.inc s3 (k := K.sag_TRIP_COUNT) (by decide)).net
    exact (sameNet.eq hCount (·.sent) fun _ => rfl).trans (h3.trans h2)
  · exact h3.trans h2

/-- What a new window sends of the frames that wait (R657). -/
theorem State.newTxWindow_shows {s : State} (h : s.transmitting = true) :
    s.newTxWindow.net.txQ = s.net.txQ.drop (s.g K.sag_CAN_BUDGET) ∧
    ∀ f ∈ s.net.txQ.take (s.g K.sag_CAN_BUDGET), s.timeFrame f ∈ s.newTxWindow.net.sent := by
  unfold State.newTxWindow
  extract_lets _ s1 s2
  have h2 : s2.net.txQ = s.net.txQ.drop (s.g K.sag_CAN_BUDGET) ∧
      ∀ f ∈ s.net.txQ.take (s.g K.sag_CAN_BUDGET), s.timeFrame f ∈ s2.net.sent := by
    have hBudget : s1.g K.sag_CAN_BUDGET - s1.net.started = s.g K.sag_CAN_BUDGET := rfl
    unfold s2 State.drain
    simp only [drainFrames_eq, hBudget]
    refine ⟨rfl, fun f hf => List.mem_append_left _ (List.mem_reverse.2 ?_)⟩
    exact List.mem_map_of_mem (f := s1.timeFrame) hf
  rw [if_neg (by simp [h])]
  split
  · exact h2
  next f rest hq =>
    refine ⟨hq.symm.trans h2.1, fun x hx => ?_⟩
    have hSent := State.sent_holdFrame { s2 with net := { s2.net with txQ := [] } } f
    exact hSent.symm ▸ h2.2 x hx

/-- The timers of the consumer entries `n` names, each stored with a value of its own. -/
theorem look_storeWhere {c : Nat → Prop} [DecidablePred c] (v : Nat → Nat) {l : List Nat} {e : Nat} (he : e ∈ l)
    (hc : c e)
    (t : Tab Nat) : (l.foldl (fun t i => if c i then t.store 0 i (v i) else t) t).look 0 e = v e := by
  obtain ⟨a, r, rfl⟩ := List.append_of_mem he
  rw [List.foldl_append, List.foldl_cons, if_pos hc]
  generalize List.foldl _ t a = u
  have hDone : (u.store 0 e (v e)).look 0 e = v e := Tab.look_store_same ..
  generalize u.store 0 e (v e) = w at hDone
  induction r generalizing w with
  | nil => exact hDone
  | cons i r ih =>
    refine ih (by simp) _ ?_
    show (if c i then w.store 0 i (v i) else w).look 0 e = v e
    split
    · rw [Tab.look_store]
      split
      next h => rw [h]
      · exact hDone
    · exact hDone

end Sys2Proof.Machine

namespace Sys2Proof

open Sys2Proof.Machine

/-- Settles O49: heartbeats, consumers, EMCY messages, the transmit window, and the loop delay. -/
theorem heartbeatsAndWindows : Obligations.HeartbeatsAndWindows := by
  unfold Obligations.HeartbeatsAndWindows
  refine ⟨fun s c hNext hReady hRun hDue => ?_, fun s n e h1 h127 he hBus hNode hTime => ?_,
    fun s e he hClock hReady hArmed hDue hLost => ?_, fun s m rest hQueue hTalks hRun hDue => ?_,
    fun s hClock hDue hSends => ?_, fun s f hFd hRate => ?_⟩
  · have hExec : exec .heartbeatProduce s = accessing s
      { s.sendFrame { id := 0x700 + s.net.nodeId, data := [s.nmt] } with
        net := { (s.sendFrame { id := 0x700 + s.net.nodeId, data := [s.nmt] }).net with
          hbNext := some (nextMultiple s.net.bootAt (s.g K.comm_HB_PROD * 24576) s.cyc) } } := by
      show execHeartbeatProduce s = _
      unfold execHeartbeatProduce
      rw [hNext]
      exact congrArg (accessing s) (if_pos (by simp [hReady, hRun, hDue]))
    rw [hExec]
    refine yields_accessing ⟨rfl, fun hUp hErr hFree hRoom => ?_⟩
    show _ ∈ (s.sendFrame _).net.sent
    unfold State.sendFrame
    rw [if_neg (by simp [hUp]), if_neg (by omega), if_neg hErr]
    exact State.sent_startFrame hFree hRoom rfl
  · show yields (if _ then _ else accessing s (if _ then _ else _)) _
    rw [if_neg (by omega), if_pos hBus]
    refine yields_accessing ?_
    rw [State.net_keepAccess, State.net_heard]
    exact look_storeWhere (c := fun e => hbNode (s.g (K.comm_HB_CONS (e + 1))) = n ∧
        hbTime (s.g (K.comm_HB_CONS (e + 1))) ≠ 0)
      (fun e => cycPlus s.cyc (hbTime (s.g (K.comm_HB_CONS (e + 1))) * 24576) + 1) (List.mem_range.2 he) ⟨hNode, hTime⟩
          _
  · have hLost' : (decide (s.cyc = s.net.hbTimers.look 0 e - 1) && s.onBus && s.beatComing e) = false := by
      simpa only [Bool.eq_false_iff, ne_eq, Bool.and_eq_true, decide_eq_true_eq, and_assoc] using hLost
    show yields (if _ then _ else accessing s (if _ then _ else _)) _
    rw [if_neg (by omega), if_pos (by rw [hClock, hReady, hDue, hLost', decide_eq_true hArmed]; rfl)]
    unfold State.beatLost
    extract_lets _ s1
    generalize hu : ((s1.evNet 0x8004 0x8130 [hbNode (s.g (K.comm_HB_CONS (e + 1)))]).bitTo K.dev_CAN_STAT 11
        true).syncErr = u
    have hEv : quiet s1 (s1.evNet 0x8004 0x8130 [hbNode (s.g (K.comm_HB_CONS (e + 1)))]) := .evNet ..
    have hStat : u.g K.dev_CAN_STAT = setBit (s.g K.dev_CAN_STAT) 11 true := by
      rw [← hu, State.g_syncErr _ (by decide), State.bitTo, State.g_p_same _ _ (by decide), hEv.entries _ (by decide)]
      rfl
    have hNmt : u.nmt = s.nmt := by
      show field (u.g K.dev_CAN_STAT) 6 0 = field (s.g K.dev_CAN_STAT) 6 0
      rw [hStat, field_setBit_ne true (.inr (by decide))]
    have hNet : sameFrames s1.net u.net := hu ▸ (sameFrames.ofQuiet hEv).trans
      ((sameFrames.ofSame (State.p_net ..)).trans (sameFrames.ofQuiet (quiet.syncErr _)))
    have hBehav : u.g K.comm_ERR_BEHAV = s.g K.comm_ERR_BEHAV := by
      rw [← hu, State.g_syncErr _ (by decide), State.g_bitTo_ne _ _ _ (by decide), hEv.entries _ (by decide)]
      rfl
    refine yields_accessing ⟨?_, ?_, fun h0 => ?_, fun h2 hBoot => ?_⟩
    · rw [State.net_keepAccess, u.commError_moves.net.eq (·.hbTimers) fun _ _ _ _ _ _ _ _ _ _ _ _ => rfl,
        hNet.eq (·.hbTimers) fun _ _ _ _ _ _ => rfl]
      show (s.net.hbTimers.store 0 e 0).look 0 e = 0
      exact Tab.look_store_same ..
    · show u.commError.bit K.dev_CAN_STAT 11 = true
      rw [State.canStat_commError _ (by decide), State.bit, hStat]
      exact bitAt_setBit_same _ _ _
    · rw [State.nmt_keepAccess]
      rw [State.nmt_commError_pre (hBehav.trans h0), hNmt]
    · rw [State.nmt_keepAccess]
      rw [State.nmt_commError_stop (hBehav.trans h2), hNmt, if_neg hBoot]
  · have hExec : exec .emcySend s = accessing s
      (({ s with net := { s.net with emcyQ := rest, lastEmcy := s.cyc + 1 } }).sendFrame
        { id := 0x80 + s.net.nodeId, data := m, fd := decide (s.net.dataRate ≠ 0), cls := 2 }) := by
      show execEmcySend s = _
      unfold execEmcySend
      rw [hQueue]
      exact congrArg (accessing s) (if_pos (by simp [hTalks, hRun, hDue]))
    rw [hExec]
    have hSend := sameFrames.sendFrame { s with net := { s.net with emcyQ := rest, lastEmcy := s.cyc + 1 } }
      { id := 0x80 + s.net.nodeId, data := m, fd := decide (s.net.dataRate ≠ 0), cls := 2 }
    exact yields_accessing ⟨hSend.eq (·.emcyQ) fun _ _ _ _ _ _ => rfl, hSend.eq (·.lastEmcy) fun _ _ _ _ _ _ => rfl⟩
  · show yields (accessing s (if _ then _ else _)) _
    rw [if_pos (by simp [hClock, hDue])]
    exact yields_accessing (State.newTxWindow_shows hSends)
  · unfold State.timeFrame
    rw [if_neg (by simp [hFd, hRate])]
    exact ⟨rfl, fun h => if_neg (by simp [h])⟩

end Sys2Proof
end

section
/-! Frames of the host window and of the network. -/

namespace Sys2Proof.Machine

open Sys2Proof

-- frames of the host window and of the network

/-- `t` is `s` after a wake of D0 at most. -/
def State.woken (s t : State) : Prop := t = s ∨ t = s.wake 0

theorem State.woken_heard (s : State) : s.woken s.heard := by
  unfold State.heard
  split
  · exact .inr rfl
  · exact .inl rfl

theorem State.woken_selected (s : State) : s.woken s.selected := by
  unfold State.selected
  split
  · exact .inr rfl
  · exact .inl rfl

theorem State.woken.eq {β : Type} {s t : State} (h : s.woken t) (f : State → β) (hf : ∀ r, f (s.setDie 0 r) = f s) :
    f t = f s := by
  rcases h with rfl | rfl
  · rfl
  · exact State.wake_keeps s 0 f hf

/-- A wake of D0 moves its die record alone. -/
theorem State.woken.rest {s t : State} (h : s.woken t) : t = { s with dieRt := t.dieRt } := by
  rcases h with rfl | rfl
  · rfl
  · rcases s.wake_cases 0 with e | ⟨w, a, e⟩ <;> rw [e]
    rfl

theorem State.woken.dies {s u t : State} (h : u.woken t) (hu : ∀ d, sameDie (s.die d) (u.die d)) : onlyWakes s t := by
  have h0 : u.die 0 = { s.die 0 with logQ := (u.die 0).logQ, qdrop := (u.die 0).qdrop, count := (u.die 0).count } :=
      hu 0
  have hStay : onlyWakes s u := ⟨by unfold sameDie; rw [h0], fun d _ => hu d⟩
  rcases h with rfl | rfl
  · exact hStay
  · rcases u.wake_cases 0 with e | ⟨w, a, e⟩
    · rw [e]; exact hStay
    · rw [e]
      refine ⟨?_, fun d hd => ?_⟩
      · unfold sameDie
        rw [State.die_setDie, h0]
      · rw [State.die_setDie_ne u _ hd]
        exact hu d

/-- Of `s`, the state `t` differs by the host window's record. -/
def State.hostOnly (s t : State) : Prop := t = { s with host := t.host }

theorem State.hostOnly.trans {s t u : State} (a : s.hostOnly t) (b : t.hostOnly u) : s.hostOnly u := by
  unfold State.hostOnly at *
  rw [b, a]

theorem State.hostOnly_breakKey (s : State) : s.hostOnly s.breakKey := rfl

theorem State.hostOnly_setWerr {s : State} {r : State × Nat} (h : s.hostOnly r.1) : s.hostOnly (State.setWerr r) :=
  h.trans rfl

/-- A word written to a register, where what the register does stays in the window's record. -/
theorem State.hostOnly_writeWord {s : State} {a : Nat} (w : Nat) (h : ∀ t : State, t.hostOnly (t.regWrite a w).1) :
    s.hostOnly (s.writeWord a w).1 := by
  unfold State.writeWord
  extract_lets t
  have ht : s.hostOnly t := by
    unfold t
    split
    · rfl
    · exact s.hostOnly_breakKey
  split
  · exact ht.trans (h t)
  · exact ht

theorem State.hostOnly_mailWrite (s : State) (w : Nat) : s.hostOnly (s.mailWrite w) := by
  unfold State.mailWrite
  extract_lets h
  split <;> rfl

theorem State.hostOnly_mailRead (s : State) : s.hostOnly s.mailRead.1 := by
  unfold State.mailRead
  extract_lets h byte
  split <;> rfl

theorem State.hostOnly_resetPtr (s : State) : s.hostOnly (s.odCtl 3).1 := by
  unfold State.odCtl
  split <;> rfl

theorem State.hostOnly_snapCtl (s : State) (w : Nat) : s.hostOnly (s.snapCtl w).1 := by
  unfold State.snapCtl
  split <;> rfl

theorem State.hostOnly_keyWord (s : State) (w : Nat) : s.hostOnly (s.keyWord w) := by
  unfold State.keyWord
  extract_lets h o
  split
  · rfl
  · split <;> rfl

theorem State.hostOnly_readWord (s : State) (a : Nat) : s.hostOnly (s.readWord a).1 := by
  unfold State.readWord
  extract_lets time
  split
  · split
    · exact s.hostOnly_mailRead
    · rfl
  · split <;> rfl

theorem State.hostOnly_readWords (cmd addr n : Nat) (s : State) (i : Nat) :
    s.hostOnly (s.readWords cmd addr n i).1 := by
  induction n generalizing s i with
  | zero => rfl
  | succ n ih => exact (s.hostOnly_readWord _).trans (ih _ _)

theorem State.hostOnly_readFrame (s : State) (cmd addr len bits : Nat) :
    s.hostOnly (s.readFrame cmd addr len bits) := by
  unfold State.readFrame
  split
  · rfl
  · extract_lets stat t r
    have ht : s.hostOnly t := by
      unfold t
      split <;> rfl
    exact (ht.trans (State.hostOnly_readWords cmd addr _ t 0)).trans rfl

/-- The frame of a command of the window: its record, and D0 wakes at most. -/
theorem State.hostOnly.frame {s u w t : State} (h : s.hostOnly u) (hw : u.woken w) (ht : accessing s w = .next t) :
    onlyOwn (fun _ => False) { s with host := t.host, dieRt := t.dieRt } t ∧ onlyWakes s t := by
  have hRest : w = { s with host := w.host, dieRt := w.dieRt } := by
    have hu : u = { s with host := u.host } := h
    rw [hw.rest, hu]
  have hEq : t = w := by
    rw [accessing_eq] at ht
    injection ht with ht
    rw [← ht, hRest]
    rfl
  subst hEq
  refine ⟨?_, hw.dies fun d => ?_⟩
  · rw [← hRest]
    exact .refl t
  · have hu : u = { s with host := u.host } := h
    rw [hu]
    rfl

theorem State.oneWord_frame {s t : State} {a w : Nat} (h : ∀ t : State, t.hostOnly (t.regWrite a w).1)
    (ht : accessing s (s.oneWord a w) = .next t) :
    onlyOwn (fun _ => False) { s with host := t.host, dieRt := t.dieRt } t ∧ onlyWakes s t := by
  unfold State.oneWord at ht
  split at ht
  · exact (State.hostOnly_setWerr (State.hostOnly_writeWord w h)).frame (State.woken_selected _) ht
  · exact State.hostOnly.frame (u := s) rfl (.inl rfl) ht

-- frames sent, without a capture that comes late

theorem State.late_holdFrame (s : State) (f : CanFrame) : (s.holdFrame f).g K.dev_TPDO_LATE = s.g K.dev_TPDO_LATE := by
  unfold State.holdFrame
  extract_lets fresh _ s1 _ _ s2 s3
  have h2 : s2.g K.dev_TPDO_LATE = s.g K.dev_TPDO_LATE := State.g_bitTo_ne s1 _ _ (by decide)
  have h3 : s3.g K.dev_TPDO_LATE = s2.g K.dev_TPDO_LATE := State.g_onceEv _ _ _ _ _ _ _ (by decide)
  split
  · rfl
  split
  · exact (State.g_inc_ne _ (by decide)).trans (h3.trans h2)
  · exact h3.trans h2

theorem State.late_newTxWindow (s : State) : s.newTxWindow.g K.dev_TPDO_LATE = s.g K.dev_TPDO_LATE := by
  unfold State.newTxWindow
  extract_lets _ s1 s2
  split
  · rfl
  · split
    · rfl
    · exact (State.late_holdFrame _ _).trans rfl

theorem State.late_sendFrame (s : State) (f : CanFrame) : (s.sendFrame f).g K.dev_TPDO_LATE = s.g K.dev_TPDO_LATE := by
  unfold State.sendFrame
  split
  · rfl
  split
  · rfl
  split
  · split <;> rfl
  · unfold State.startFrame
    extract_lets u
    have hu : u.g K.dev_TPDO_LATE = s.g K.dev_TPDO_LATE := by
      rcases s.windowFirst_cases with h | h
      · exact congrArg (fun v : State => v.g K.dev_TPDO_LATE) h
      · exact (congrArg (fun v : State => v.g K.dev_TPDO_LATE) h).trans s.late_newTxWindow
    split
    · exact hu
    · exact (State.late_holdFrame _ _).trans hu

theorem sends_late (s : State) (n : Nat) : sends s (s.addTo K.dev_TPDO_LATE n) where
  rest := by unfold State.addTo State.p; split <;> rfl
  entries j _ hj := State.g_addTo_ne s _ hj
  dies d := by unfold State.addTo; simp [sameQueue]

/-- The frame of a command of the network: its record, and D0 wakes at most. -/
theorem sends_frame {own : Nat → Prop} {s u w t : State} (h : sends s u)
    (hLate : ¬ own K.dev_TPDO_LATE → u.g K.dev_TPDO_LATE = s.g K.dev_TPDO_LATE)
    (hw : u.woken w) (ht : accessing s w = .next t) :
    onlyOwn own { s with net := t.net, dieRt := t.dieRt } t ∧ onlyWakes s t := by
  have hRest : w = { s with od := w.od, net := w.net, lag := w.lag, dieRt := w.dieRt, once := w.once } := by
    rw [hw.rest, h.rest]
  have hEq : t = w := by
    rw [accessing_eq] at ht
    injection ht with ht
    rw [← ht, hRest]
    rfl
  subst hEq
  have hDies : ∀ d, sameDie (s.die d) (u.die d) := fun d => by
    have hd := h.dies d
    unfold sameQueue at hd
    unfold sameDie
    rw [hd]
  refine ⟨⟨?_, rfl, fun k hk hOwn => ?_, fun d => rfl⟩, hw.dies hDies⟩
  · rw [hRest]
  · show t.g k = s.g k
    rw [hw.eq (·.g k) fun _ => rfl]
    by_cases hk' : k = K.dev_TPDO_LATE
    · subst hk'; exact hLate hOwn
    · exact h.entries k hk hk'

theorem State.drain_rest (s : State) : s.drain = { s with net := s.drain.net } := rfl

/-- The entries of the error state. -/
def errEntry (k : Nat) : Prop := k = K.dev_CAN_STAT ∨ k = K.dev_TEC

theorem State.errState_own (s : State) (v c : Nat) : onlyOwn errEntry s ((s.setErr v).p K.dev_TEC c) :=
  (onlyOwn.p s _ (.inl rfl)).trans (.p _ _ (.inr rfl))

/-- The frame of a command that moves entries of its own and the network's record. -/
theorem onlyOwn_netFrame {own : Nat → Prop} {s u v t : State} (n : NetRt) (h : onlyOwn own { s with net := n } u)
    (hv : v = { u with net := v.net }) (ht : accessing s v = .next t) : onlyOwn own { s with net := t.net } t := by
  have hEq : t = v := by
    rw [accessing_eq] at ht
    injection ht with ht
    rw [← ht, hv, h.rest]
    rfl
  subst hEq
  exact ⟨by rw [hv, h.rest], rfl, fun k hk hOwn => by rw [hv]; exact h.entries k hk hOwn,
      fun d => by rw [hv]; exact h.dies d⟩

theorem onlyOwn_frame {own : Nat → Prop} {s u t : State} (h : onlyOwn own s u) (ht : accessing s u = .next t) :
    onlyOwn own { s with net := t.net } t := onlyOwn_netFrame s.net h rfl ht

end Sys2Proof.Machine

namespace Sys2Proof

open Sys2Proof.Machine

/-- Settles O60: frames of the host window, of the network, and of a write that is refused. -/
theorem accessFrames : Obligations.AccessFrames := by
  unfold Obligations.AccessFrames
  refine ⟨fun s t w i hi ht => ?_, fun s t n i hi ht => ?_, fun s t i hi ht => ?_,
    fun s who i j data hServes hWho hIx hSub hBytes hOpen hCheck => ?_⟩
  · have hNone : (Host.Outcome.next s : Out) = .next t →
        onlyOwn (fun _ => False) { s with host := t.host, dieRt := t.dieRt } t ∧ onlyWakes s t := fun h =>
      State.hostOnly.frame (u := s) rfl (.inl rfl) h
    simp only [List.mem_cons, List.not_mem_nil, or_false] at hi
    rcases hi with rfl | rfl | rfl | rfl | rfl | rfl | rfl | rfl
    · refine State.oneWord_frame (fun t => ?_) ht
      exact t.hostOnly_resetPtr
    · by_cases h : 65536 ≤ w
      · exact hNone ((if_pos h).symm.trans ht)
      · refine State.oneWord_frame (fun t => ?_) ((if_neg h).symm.trans ht)
        exact t.hostOnly_mailWrite w
    · change accessing s (if s.portServes then _ else _) = _ at ht
      split at ht
      · exact (s.hostOnly_readFrame _ _ _ _).frame (State.woken_selected _) ht
      · exact hNone ht
    · by_cases h : 65536 ≤ w
      · exact hNone ((if_pos h).symm.trans ht)
      · refine State.oneWord_frame (fun t => ?_) ((if_neg h).symm.trans ht)
        exact t.hostOnly_snapCtl w
    · change accessing s (if s.portServes then _ else _) = _ at ht
      split at ht
      · exact State.hostOnly.frame (u := s.captureCyc) rfl (State.woken_selected _) ht
      · exact hNone ht
    · by_cases h : 65536 ≤ w
      · exact hNone ((if_pos h).symm.trans ht)
      · refine State.oneWord_frame (fun t => ?_) ((if_neg h).symm.trans ht)
        exact t.hostOnly_keyWord w
    · change accessing s (if _ then _ else _) = _ at ht
      split at ht
      · exact State.hostOnly.frame (u := { s with host := { s.host with key := s.host.key - 2 } }) rfl (.inl rfl) ht
      · exact hNone ht
    · refine State.oneWord_frame (fun t => ?_) ht
      exact rfl
  · have hNone : accessing s s = .next t →
        onlyOwn (fun k => k = K.dev_TPDO_LATE ∧ i = .syncWinExpiry) { s with net := t.net, dieRt := t.dieRt } t ∧
        onlyWakes s t := fun h => sends_frame (.refl s) (fun _ => rfl) (.inl rfl) h
    simp only [List.mem_cons, List.not_mem_nil, or_false] at hi
    rcases hi with rfl | rfl | rfl | rfl | rfl | rfl | rfl | rfl | rfl
    · change (if n = 0 ∨ 127 < n then _ else accessing s (if _ then _ else _)) = _ at ht
      split at ht
      · exact hNone ht
      split at ht
      · refine sends_frame ?_ ?_ (State.woken_heard _) ht
        · exact sends.setNet s _
        · exact fun _ => rfl
      · exact hNone ht
    · change execHeartbeatProduce s = _ at ht
      unfold execHeartbeatProduce at ht
      split at ht
      · split at ht
        · refine sends_frame ?_ ?_ (.inl rfl) ht
          · exact (sends.sendFrame s _).trans (.setNet _ _)
          · exact fun _ => State.late_sendFrame _ _
        · exact hNone ht
      · exact hNone ht
    · change execSyncWinExpiry s = _ at ht
      unfold execSyncWinExpiry at ht
      split at ht
      · split at ht
        · refine sends_frame ?_ ?_ (.inl rfl) ht
          · exact (sends.setNet s _).trans (sends_late _ _)
          · exact fun h => absurd ⟨rfl, rfl⟩ h
        · exact hNone ht
      · exact hNone ht
    · change accessing s (if _ then _ else _) = _ at ht
      split at ht
      · refine sends_frame ?_ ?_ (.inl rfl) ht
        · exact sends.newTxWindow s
        · exact fun _ => s.late_newTxWindow
      · exact hNone ht
    · change execEmcySend s = _ at ht
      unfold execEmcySend at ht
      split at ht
      · exact hNone ht
      · split at ht
        · refine sends_frame ?_ ?_ (.inl rfl) ht
          · exact (sends.setNet s _).trans (.sendFrame _ _)
          · exact fun _ => State.late_sendFrame _ _
        · exact hNone ht
    · change (if 16 ≤ n then _ else accessing s (if _ then _ else _)) = _ at ht
      split at ht
      · exact hNone ht
      split at ht
      · refine sends_frame ?_ ?_ (.inl rfl) ht
        · exact (sends.setNet s _).trans (.setNet _ _)
        · exact fun _ => rfl
      · exact hNone ht
    · change (if 16 ≤ n then _ else accessing s (if _ then _ else _)) = _ at ht
      split at ht
      · exact hNone ht
      split at ht
      · refine sends_frame ?_ ?_ (.inl rfl) ht
        · exact sends.setNet s _
        · exact fun _ => rfl
      · exact hNone ht
    · change execSdoTmoExpiry s = _ at ht
      unfold execSdoTmoExpiry at ht
      split at ht
      · split at ht
        · refine sends_frame ?_ ?_ (.inl rfl) ht
          · exact (sends.setNet s _).trans (.finishCan _ _ _ _)
          · exact fun _ => State.late_sendFrame _ _
        · exact hNone ht
      · exact hNone ht
    · change accessing s (if s.talks then _ else _) = _ at ht
      split at ht
      · refine sends_frame ?_ ?_ (State.woken_heard _) ht
        · exact sends.finishCan s _ _ _
        · exact fun _ => State.late_sendFrame _ _
      · refine sends_frame ?_ ?_ (State.woken_heard _) ht
        · exact sends.refl s
        · exact fun _ => rfl
  · have hNone : accessing s s = .next t → onlyOwn errEntry { s with net := t.net } t := onlyOwn_frame (.refl s)
    simp only [List.mem_cons, List.not_mem_nil, or_false] at hi
    rcases hi with rfl | rfl | rfl
    · change accessing s (if _ then _ else _) = _ at ht
      split at ht
      · exact onlyOwn_frame (((s.errState_own 1 _).trans (.ofQuiet (.evNet _ _ _ _))).trans (.ofQuiet (.syncErr _))) ht
      · exact hNone ht
    · change accessing s (if _ then _ else _) = _ at ht
      split at ht
      · exact onlyOwn_frame ((s.errState_own 0 _).trans (.ofQuiet (.syncErr _))) ht
      · exact hNone ht
    · change accessing s (if _ then _ else _) = _ at ht
      split at ht
      · refine onlyOwn_netFrame { s.net with busoffAt := none, recovering := false } ?_ (State.drain_rest _) ht
        exact ((State.errState_own _ 0 0).trans (.ofQuiet (.evNet _ _ _ _))).trans (.ofQuiet (.syncErr _))
      · exact hNone ht
  · have hIx' : ixOf (i * 256 + j) = i := by unfold ixOf; omega
    have hWrite : s.writeEntry who (i * 256 + j) data = s.directWrite who (i * 256 + j) data := by
      unfold State.writeEntry
      rw [hIx', if_neg]
      rcases hOpen with h | h <;> simp [h]
    have hExec : exec (.dictWrite who i j data) s = accessing s (s.order who (i * 256 + j) data) :=
      if_pos (by simp [isOriginator, hWho, hIx, hSub, hBytes])
    rw [hExec]
    unfold State.order
    rw [if_neg (by simp [hServes]), hWrite]
    unfold State.directWrite
    simp only [if_pos hCheck]
    refine yields_accessing ⟨rfl, fun hTarget => ?_⟩
    simp only [hTarget, Bool.false_eq_true, false_and, and_false, if_false]
    exact .refl _

end Sys2Proof
end

section
/-! What stops on a die, power states, waits and wakes. -/

namespace Sys2Proof.Machine

open Sys2Proof

-- what a die that stops or leaves touches

/-- The same die record but for its kiln-log queue, its scan, its calibration and its March run. -/
def stoppedDie (a b : DieRt) : Prop :=
  b = { a with
    logQ := b.logQ, qdrop := b.qdrop, count := b.count, scanLeft := b.scanLeft, scanOn := b.scanOn, calRun := b.calRun
    calFull := b.calFull, calQuick := b.calQuick, march := b.march, marchStop := b.marchStop }

theorem stoppedDie.refl (a : DieRt) : stoppedDie a a := rfl

theorem stoppedDie.trans {a b c : DieRt} (h : stoppedDie a b) (g : stoppedDie b c) : stoppedDie a c := by
  unfold stoppedDie at *
  rw [g, h]

theorem stoppedDie.ofSame {a b : DieRt} (h : sameDie a b) : stoppedDie a b := by
  unfold stoppedDie sameDie at *
  rw [h]

theorem stoppedDie.eq {β : Type} {a b : DieRt} (h : stoppedDie a b) (f : DieRt → β)
    (hf : ∀ q qd c l o r cf cq m ms, f { a with
      logQ := q, qdrop := qd, count := c, scanLeft := l, scanOn := o, calRun := r, calFull := cf, calQuick := cq
      march := m, marchStop := ms } = f a) : f b = f a := by
  rw [h]; exact hf _ _ _ _ _ _ _ _ _ _

/-- Of `s`, the state `t` differs at most by the entries `own` names, kiln-log entries raised and faults declared,
frames sent and answers given, stages given up, and by what stops on dies: engines, ports, channels, pulse inputs,
scans, calibrations and March runs; the dies `left` names may change as a whole, with their lines. -/
structure State.moves (own left : Nat → Prop) (s t : State) : Prop where
  rest : t = { s with
    od := t.od, net := t.net, lag := t.lag, dieRt := t.dieRt, once := t.once, standing := t.standing, paths := t.paths
    ports := t.ports, chans := t.chans, pulses := t.pulses, fires := t.fires, host := t.host, resp := t.resp
    respData := t.respData, lines := t.lines, ready := t.ready, framing := t.framing }
  entries : ∀ k, sharedKey k = false → ¬ own k → t.g k = s.g k
  dies : ∀ d, ¬ left d → stoppedDie (s.die d) (t.die d)
  lines : ∀ d, ¬ left d → t.line d = s.line d

namespace State.moves

variable {own left : Nat → Prop}

theorem refl (s : State) : moves own left s s := ⟨rfl, fun _ _ _ => rfl, fun _ _ => rfl, fun _ _ => rfl⟩

theorem trans {s t u : State} (a : moves own left s t) (b : moves own left t u) : moves own left s u where
  rest := by rw [b.rest, a.rest]
  entries k h n := (b.entries k h n).trans (a.entries k h n)
  dies d h := (a.dies d h).trans (b.dies d h)
  lines d h := (b.lines d h).trans (a.lines d h)

theorem mono {own' left' : Nat → Prop} {s t : State} (h : moves own left s t) (ho : ∀ k, own k → own' k)
    (hl : ∀ d, left d → left' d) : moves own' left' s t :=
  ⟨h.rest, fun k hk hn => h.entries k hk fun h' => hn (ho k h'), fun d hd => h.dies d fun h' => hd (hl d h'),
    fun d hd => h.lines d fun h' => hd (hl d h')⟩

theorem eq {β : Type} {s t : State} (h : moves own left s t) (f : State → β)
    (hf : ∀ od net lag dieRt once standing paths ports chans pulses fires host resp respData lines ready framing,
      f { s with
        od := od, net := net, lag := lag, dieRt := dieRt, once := once, standing := standing, paths := paths
        ports := ports, chans := chans, pulses := pulses, fires := fires, host := host, resp := resp
        respData := respData, lines := lines, ready := ready, framing := framing } = f s) : f t = f s := by
  rw [h.rest]; exact hf _ _ _ _ _ _ _ _ _ _ _ _ _ _ _ _ _

theorem ofLogs {s t : State} (h : logsOnly s t) : moves own left s t where
  rest := by rw [h.rest]
  entries k hk _ := h.entries k hk
  dies d _ := .ofSame (h.dies d)
  lines d _ := h.line d

theorem ofQuiet {s t : State} (h : quiet s t) : moves own left s t := ofLogs (.ofQuiet h)

theorem p (s : State) {k : Nat} (v : Nat) (h : own k) : moves own left s (s.p k v) where
  rest := by unfold State.p; split <;> rfl
  entries j _ hj := State.g_p_ne s v (by rintro rfl; exact hj h)
  dies d _ := by simp [stoppedDie]
  lines d _ := by simp

theorem bitTo (s : State) {k : Nat} (n : Nat) (b : Bool) (h : own k) : moves own left s (s.bitTo k n b) := p s _ h

theorem inc (s : State) {k : Nat} (h : own k) : moves own left s (s.inc k) where
  rest := by unfold State.inc State.p; simp only []; split <;> split <;> rfl
  entries j _ hj := State.g_inc_ne s (by rintro rfl; exact hj h)
  dies d _ := by simp [stoppedDie]
  lines d _ := by simp

theorem setDie (s : State) (n : Nat) {r : DieRt} (h : ¬ left n → stoppedDie (s.die n) r) :
    moves own left s (s.setDie n r) where
  rest := rfl
  entries _ _ _ := rfl
  dies d hd := by
    by_cases hdn : d = n
    · subst hdn; rw [State.die_setDie]; exact h hd
    · rw [State.die_setDie_ne s r hdn]; exact .refl _
  lines _ _ := rfl

theorem setLine (s : State) (n : Nat) {r : LineRt} (h : ¬ left n → r = s.line n) :
    moves own left s (s.setLine n r) where
  rest := rfl
  entries _ _ _ := rfl
  dies _ _ := rfl
  lines d hd := by
    by_cases hdn : d = n
    · subst hdn; rw [State.line_setLine]; exact h hd
    · rw [State.line_setLine_ne s r hdn]

theorem setPath (s : State) (n : Nat) (r : PathRt) : moves own left s (s.setPath n r) :=
  ⟨rfl, fun _ _ _ => rfl, fun _ _ => rfl, fun _ _ => rfl⟩

theorem setPort (s : State) (n : Nat) (r : PortRt) : moves own left s (s.setPort n r) :=
  ⟨rfl, fun _ _ _ => rfl, fun _ _ => rfl, fun _ _ => rfl⟩

theorem setChan (s : State) (n : Nat) (r : ChanRt) : moves own left s (s.setChan n r) :=
  ⟨rfl, fun _ _ _ => rfl, fun _ _ => rfl, fun _ _ => rfl⟩

theorem setPulse (s : State) (n : Nat) (r : PulseRt) : moves own left s (s.setPulse n r) :=
  ⟨rfl, fun _ _ _ => rfl, fun _ _ => rfl, fun _ _ => rfl⟩

theorem setFire (s : State) (n : Nat) (r : FireRt) : moves own left s (s.setFire n r) :=
  ⟨rfl, fun _ _ _ => rfl, fun _ _ => rfl, fun _ _ => rfl⟩

theorem foldl {β : Type} (f : State → β → State) (hf : ∀ s b, moves own left s (f s b)) (l : List β) (s : State) :
    moves own left s (l.foldl f s) := by
  induction l generalizing s with
  | nil => exact refl s
  | cons b r ih => exact (hf s b).trans (ih _)

theorem foldlMem {β : Type} {f : State → β → State} (l : List β) (hf : ∀ s, ∀ b ∈ l, moves own left s (f s b))
    (s : State) :
    moves own left s (l.foldl f s) := by
  induction l generalizing s with
  | nil => exact refl s
  | cons b r ih =>
    exact (hf s b List.mem_cons_self).trans (ih (fun s b hb => hf s b (List.mem_cons_of_mem _ hb)) _)

theorem sendFrame (s : State) (f : CanFrame) : moves own left s (s.sendFrame f) := by
  have h := sends.sendFrame s f
  refine ⟨by rw [h.rest], fun k hk _ => ?_, fun d _ => ?_, fun d _ => ?_⟩
  · by_cases hl : k = K.dev_TPDO_LATE
    · subst hl; exact s.late_sendFrame f
    · exact h.entries k hk hl
  · have hd := h.dies d
    unfold sameQueue at hd
    unfold stoppedDie
    rw [hd]
  · rw [h.rest]; rfl

theorem ps (s : State) (l : List (Nat × Nat)) (h : ∀ x ∈ l, own x.1) : moves own left s (s.ps l) := by
  induction l generalizing s with
  | nil => exact refl s
  | cons x r ih => exact (p s _ (h x List.mem_cons_self)).trans (ih _ fun y hy => h y (List.mem_cons_of_mem _ hy))

end State.moves

/-- The entries that tell of what a die does while it runs: its calibration, March run, SRAM, pins in use, and chains.
-/
inductive RunKey : Nat → Prop
  | cal (d : Nat) : RunKey (K.die_CAL_STATUS d)
  | march (d : Nat) : RunKey (K.die_MARCH_STAT d)
  | sram (d : Nat) : RunKey (K.die_SRAM_STAT d)
  | pin (d i : Nat) (h : i < 16) : RunKey (K.die_PIN_STAT d i)
  | chain (c : Nat) : RunKey (K.chan_KIND c)

section

variable {own left : Nat → Prop} (hRun : ∀ k, RunKey k → own k)

include hRun

theorem State.moves_syncChain (s : State) (c : Nat) : moves own left s (s.syncChain c) := by
  unfold State.syncChain
  extract_lets n old
  refine .foldl _ (fun u j => ?_) _ _
  extract_lets m
  split
  · exact .p u _ (hRun _ (.chain m))
  split
  · exact .p u _ (hRun _ (.chain m))
  · exact .refl u

theorem State.moves_syncUsed (s : State) (d : Nat) : moves own left s (s.syncUsed d) := by
  unfold State.syncUsed
  extract_lets used
  refine .foldlMem _ (fun t i hi => ?_) s
  split
  · exact .refl t
  · exact .bitTo t _ _ (hRun _ (.pin d i (List.mem_range.1 hi)))

theorem State.moves_stopSense (s : State) (d : Nat) : moves own left s (s.stopSense d) := by
  unfold State.stopSense
  extract_lets s1
  have h1 : moves own left s s1 := by
    refine .foldl _ (fun t k => ?_) _ _
    extract_lets c _ u
    have hu : moves own left t u := .setChan t c _
    split
    · exact (hu.trans (State.moves_syncChain hRun u c)).trans (State.moves_syncUsed hRun _ d)
    · exact hu
  clear_value s1
  exact h1.trans (.setDie s1 d (by intro _; exact rfl))

theorem State.moves_calIdle (s : State) (d : Nat) : moves own left s (s.calIdle d) :=
  .trans (.setDie s d (by intro _; exact rfl)) (.p _ _ (hRun _ (.cal d)))

theorem State.moves_stopCal (s : State) (d : Nat) : moves own left s (s.stopCal d) := by
  unfold State.stopCal
  extract_lets r
  split
  · exact .refl s
  · exact .trans (.setDie s d (by intro _; exact rfl)) (State.moves_calIdle hRun _ d)

theorem State.moves_stopMarch (s : State) (d : Nat) : moves own left s (s.stopMarch d) := by
  unfold State.stopMarch
  split
  · exact .refl s
  · exact (moves.trans (.setDie s d (by intro _; exact rfl)) (.p _ _ (hRun _ (.march d)))).trans
      (.bitTo _ _ _ (hRun _ (.sram d)))

omit hRun in
theorem State.moves_stopPaths (s : State) (d : Nat) : moves own left s (s.stopPaths d) :=
  .trans (.foldl _ (fun t _ => .setPath t _ _) _ _) (.foldl _ (fun t _ => .setPort t _ _) _ _)

/-- What stops on a die (R532, R538). -/
theorem State.moves_stopDie (s : State) (d target : Nat) : moves own left s (s.stopDie d target) := by
  unfold State.stopDie
  extract_lets s1
  have h1 : moves own left s s1 := (((s.moves_stopPaths d).trans (State.moves_stopSense hRun _ d)).trans
    (State.moves_stopCal hRun _ d)).trans (State.moves_stopMarch hRun _ d)
  split
  · exact h1
  · exact h1.trans (.foldl _ (fun t k => .setPulse t _ _) _ _)

end

/-- The entries of firings that an access given up may touch. -/
def waitKey (k : Nat) : Prop := 0x2A0000 ≤ k ∧ k < 0x2A0020

section

variable {own left : Nat → Prop}

theorem State.moves_finishHost (s : State) (abort : Nat) (data : List Nat) :
    moves own left s (s.finishHost abort data) :=
  ⟨rfl, fun _ _ _ => rfl, fun _ _ => rfl, fun _ _ => rfl⟩

theorem State.moves_setNet (s : State) (n : NetRt) : moves own left s { s with net := n } :=
  ⟨rfl, fun _ _ _ => rfl, fun _ _ => rfl, fun _ _ => rfl⟩

theorem State.moves_finishCan (s : State) (usdo : Bool) (abort : Nat) (data : List Nat) :
    moves own left s (s.finishCan usdo abort data) :=
  (State.moves_setNet s _).trans (.sendFrame _ _)

theorem State.moves_uploadCan (s : State) (usdo : Bool) (abort : Nat) (data : List Nat) :
    moves own left s (s.uploadCan usdo abort data) := by
  unfold State.uploadCan
  split
  · exact State.moves_finishCan s _ _ _
  · exact (State.moves_setNet s _).trans (.sendFrame _ _)

theorem State.moves_answer (s : State) (who : Orig) (abort : Nat) (data : List Nat) :
    moves own left s (s.answer who abort data) := by
  unfold State.answer
  extract_lets s1
  have h1 : moves own left s s1 := ⟨rfl, fun _ _ _ => rfl, fun _ _ => rfl, fun _ _ => rfl⟩
  cases who with
  | host =>
    dsimp only
    split
    · exact h1.trans (s1.moves_finishHost _ _)
    · exact h1
  | can =>
    dsimp only
    split
    · split
      · exact h1.trans (s1.moves_uploadCan _ _ _)
      · exact h1.trans (s1.moves_finishCan _ _ _)
    · exact h1
  | internal => exact h1
  | boundary => exact .refl s

theorem origNo_le (who : Orig) : origNo who ≤ 3 := by cases who <;> decide

variable (hWait : ∀ k, waitKey k → own k)

include hWait

theorem State.moves_unstage (s : State) (w : FollowWait) : moves own left s (s.unstage w) := by
  unfold State.unstage
  extract_lets o f
  have ho : o ≤ 3 := origNo_le _
  split
  · exact .refl s
  split
  · exact .refl s
  · refine .trans (.setFire s _ _) (.ps _ _ fun x hx => hWait _ ?_)
    simp only [List.mem_cons, List.not_mem_nil, or_false] at hx
    rcases hx with rfl | rfl | rfl
    · show 0x2A0000 ≤ 0x2A0010 + o ∧ 0x2A0010 + o < 0x2A0020
      omega
    · show 0x2A0000 ≤ 0x2A0004 + o ∧ 0x2A0004 + o < 0x2A0020
      omega
    · show 0x2A0000 ≤ 0x2A0015 ∧ 0x2A0015 < 0x2A0020
      omega

/-- The accesses that waited for a follower fail (R492, R495). -/
theorem State.moves_endWaits (s : State) (d : Nat) :
    moves own left (s.setLine d { s.line d with waits := [] }) (s.endWaits d) :=
  .foldl _ (fun t w => (State.moves_unstage hWait t w).trans (State.moves_answer _ _ _ _)) _ _

end


-- entering and leaving power states

theorem isLedKey_power (d : Nat) : isLedKey (K.sup_PWR_STATE d) = false := by grind [isLedKey]

theorem sharedKey_power (d : Nat) : sharedKey (K.sup_PWR_STATE d) = false := by
  simp only [sharedKey, List.mem_cons, List.not_mem_nil, or_false, decide_eq_false_iff_not, K.sup_PWR_STATE,
    K.log_QUEUE_DROP, K.log_LOG_STAT, K.log_STANDING, K.comm_ERRREG, K.sag_SAG_STAT, K.sag_TRIP_COUNT]
  omega

theorem State.pstate_keepCore (s t : State) (d : Nat) : (s.keepCore t).pstate d = t.pstate d :=
  State.g_keepCore s t (isLedKey_power d)

/-- A change of power state shows, and is logged (R541). -/
theorem State.toPower_shows (s : State) (d new cause : Nat) :
    (s.toPower d new cause).pstate d = new ∧ ∀ e, sameDie (s.die e) ((s.toPower d new cause).die e) := by
  unfold State.toPower
  refine ⟨?_, fun e => ?_⟩
  · exact (State.g_ev _ _ _ _ _ _ (sharedKey_power d)).trans (State.g_p_same _ _ (isLedKey_power d))
  · have hq := (quiet.ev (s.p (K.sup_PWR_STATE d) new) d 2 d 0x5009 [s.pstate d, new, cause]).dies e
    unfold sameQueue at hq
    rw [State.die_p] at hq
    unfold sameDie
    rw [hq]

/-- Fuses being blown stop: what is blown is logged (R675). -/
theorem State.stopFuses_moves (s : State) : moves (· = K.sec_SEC_STAT) (fun _ => False) s s.stopFuses := by
  unfold State.stopFuses
  split
  · extract_lets t
    have h1 : moves (· = K.sec_SEC_STAT) (fun _ => False) s t := .bitTo s _ _ rfl
    split
    · exact h1.trans (.ofQuiet (.evChip _ _ _))
    · exact h1
  · exact .refl s

/-- What a die that enters SLEEP, DEEP or OFF shows (R503, R532). -/
theorem State.enterState_shows (s : State) (d target cause : Nat) :
    (s.enterState d target cause).pstate d = target ∧
    ((s.enterState d target cause).die d).up = (((s.die d).up && decide (target ≠ 4))) ∧
    ((s.enterState d target cause).die d).waking = none := by
  unfold State.enterState
  extract_lets s0 s1 r s2 _ s3
  obtain ⟨hPower, hLogs⟩ : s1.pstate d = target ∧ ∀ e, sameDie ((s0.stopDie d target).die e) (s1.die e) :=
    State.toPower_shows _ d target cause
  have h0 : stoppedDie (s.die d) (s0.die d) := by
    unfold s0
    split
    · exact (s.stopFuses_moves).dies d id
    · exact .refl _
  have hStop : stoppedDie (s0.die d) ((s0.stopDie d target).die d) :=
    (State.moves_stopDie (own := fun _ => True) (left := fun _ => False) (fun _ _ => trivial) s0 d target).dies d id
  have hUp : r.up = (s.die d).up :=
    ((h0.trans hStop).trans (.ofSame (hLogs d))).eq (·.up) fun _ _ _ _ _ _ _ _ _ _ => rfl
  clear_value s1
  have h2 : s2.pstate d = target ∧ (s2.die d).up = ((s.die d).up && decide (target ≠ 4)) ∧
      (s2.die d).waking = none := by
    refine ⟨hPower, ?_, ?_⟩
    · rw [State.die_setDie, ← hUp]
    · rw [State.die_setDie]
  clear_value s2
  have h3 : s3.pstate d = target ∧ (s3.die d).up = ((s.die d).up && decide (target ≠ 4)) ∧
      (s3.die d).waking = none := by
    unfold s3
    split
    · exact h2
    · exact h2
  split
  · exact h3
  · exact h3

/-- What a wake of a die begins (R537). -/
theorem State.wake_begins {s : State} {d : Nat} (h1 : 1 ≤ s.pstate d) (h3 : s.pstate d ≤ 3)
    (hw : (s.die d).waking = none) :
    ((s.wake d).die d).waking = some (cycPlus s.cyc (wakeTime (s.pstate d))) := by
  unfold State.wake
  extract_lets r b
  have hb : ∀ n, ((b n).die d).waking = some (cycPlus s.cyc n) := fun n => by
    unfold b
    rw [if_neg (by simp [r, hw]), State.die_setDie]
  have hCases : s.pstate d = 1 ∨ s.pstate d = 2 ∨ s.pstate d = 3 := by omega
  rcases hCases with h | h | h
  · rw [h]; exact hb 1
  · rw [h]; exact hb 64
  · rw [h]; exact hb 4424

theorem State.mustStayUp_setDie (s : State) {d : Nat} {r : DieRt} (h : r.march = (s.die d).march) :
    (s.setDie d r).mustStayUp = s.mustStayUp := by
  unfold State.mustStayUp
  have hMarch : ∀ e, ((s.setDie d r).die e).march = (s.die e).march := fun e => by
    by_cases he : e = d
    · subst he; rw [State.die_setDie, h]
    · rw [State.die_setDie_ne s r he]
  have hAny : (List.range (s.setDie d r).dies).any (fun e => decide (((s.setDie d r).store e).run ≠ []) ||
      decide (((s.setDie d r).die e).march ≠ 0)) =
      (List.range s.dies).any (fun e => decide ((s.store e).run ≠ []) || decide ((s.die e).march ≠ 0)) := by
    simp only [hMarch]
    rfl
  rw [hAny]
  rfl

/-- An entry that nothing defers or cancels is made (R533, R540). -/
theorem State.pstate_askEntry {s : State} {d target : Nat} (cause : Nat) 
    (hWake : (s.die d).wakeAt ≠ s.cyc + 1) (hComing : s.wakeComing d = false)
    (hStay : d = 0 → 3 ≤ target → s.mustStayUp = false) : (s.askEntry d target cause).pstate d = target := by
  unfold State.askEntry
  rw [if_neg hWake]
  unfold State.tryEntry
  simp only [State.die_setDie]
  rw [if_neg (by rw [not_or]; exact ⟨by simp, by exact fun h => absurd (hComing.symm.trans h) (by decide)⟩)]
  split
  next h =>
    obtain ⟨h0, h3⟩ := h
    rw [if_neg (by rw [State.mustStayUp_setDie, hStay h0 h3]; exacts [Bool.false_ne_true, rfl])]
    subst h0
    exact (State.enterState_shows _ _ _ _).1
  · exact (State.enterState_shows _ _ _ _).1

end Sys2Proof.Machine

namespace Sys2Proof

open Sys2Proof.Machine

/-- Settles O19: waits, wakes and firmware changes of power state. -/
theorem powerStates : Obligations.PowerStates := by
  unfold Obligations.PowerStates
  refine ⟨fun s d hPart hd hUp hState => ?_, fun s d hPart hd hState hWake => ?_, fun s hAt hState hWake => ?_,
    fun s h1 h3 hWake => ?_, fun s d c hPart hd hWaking hDue h3 h0 => ?_,
    fun s d st hPart hd hReq hRun hLost h2 h4 hDeeper hStay hAt hComing => ?_,
    fun s d hPart hd hd0 hReq hRun hLost hState hWake => ?_⟩
  · have h8 := lt_8_of_lt_dies hPart hd
    refine .fitted (by simpa using hd) (.whenTrue (by simp [hUp, hState]) ?_)
    rw [State.pstate_keepCore]
    exact (s.toPower_shows d 1 0).1
  · have hBegin := State.wake_begins (by omega) (by omega) hWake
    rw [hState] at hBegin
    exact .fitted (by simpa using hd) (.whenTrue (by omega) hBegin)
  · exact .whenTrue ⟨hAt, by omega⟩ (State.wake_begins (by omega) (by omega) hWake)
  · have hBegin := State.wake_begins h1 h3 hWake
    have hHost : (s.wake 0).host = s.host := s.wake_keeps 0 (·.host) fun _ => rfl
    show yields (confined s (if _ then _ else if _ then _ else _)) _
    by_cases hIdle : s.pstate 0 ≤ 1
    · rw [if_pos hIdle]
      refine .confined ⟨hBegin, ?_⟩
      rw [show (s.keepCore (s.wake 0)).host = s.host from hHost, decide_eq_false (by omega), Bool.or_false]
    · rw [if_neg hIdle, if_pos (by omega)]
      refine .confined ⟨hBegin, ?_⟩
      rw [decide_eq_true (by omega), Bool.or_true]
      rfl
  · have h8 := lt_8_of_lt_dies hPart hd
    refine .fitted (by simpa using hd) ?_
    have hDone : (s.wakeDone d).pstate d = 0 ∧ ((s.wakeDone d).die d).waking = none := by
      unfold State.wakeDone
      extract_lets r st
      rw [show r.waking = some c from hWaking]
      dsimp only
      rw [if_neg (by simp only [hDue, Bool.not_true, Bool.false_or, Bool.or_eq_true, Bool.and_eq_true,
          decide_eq_true_eq]; omega)]
      generalize hu : (s.clearReq d st).setDie d _ = u
      obtain ⟨hState, hDies⟩ := u.toPower_shows d 0 2
      refine ⟨hState, ?_⟩
      show ((u.toPower d 0 2).die d).waking = none
      rw [sameDie.eq (hDies d) (·.waking) fun _ _ _ => rfl, ← hu, State.die_setDie]
    have hShow : ∀ u : State, u.pstate d = 0 ∧ (u.die d).waking = none → yields (confined s u) fun t =>
        t.pstate d = 0 ∧ (t.die d).waking = none := fun u hu =>
      .confined ⟨(State.pstate_keepCore s u d).trans hu.1, hu.2⟩
    show yields (confined s (if _ then _ else _)) _
    split
    · exact hShow _ hDone
    · exact hShow _ hDone
  · have h8 := lt_8_of_lt_dies hPart hd
    refine .fitted (by simpa using hd) ?_
    rw [if_neg (by omega), if_neg (by simp [hReq, hRun, hLost]), if_neg (by omega), if_pos hDeeper]
    refine .confined ?_
    rw [State.pstate_keepCore]
    exact State.pstate_askEntry 0 hAt hComing hStay
  · refine .fitted (by simpa using hd) ?_
    rw [if_neg (by omega), if_neg (by simp [hReq, hRun, hLost]), if_pos rfl, if_pos (by omega)]
    exact .confined (State.wake_begins (by omega) (by omega) hWake)

end Sys2Proof
end

section
/-! Sources, the canteen measurement, and the rails. -/

namespace Sys2Proof.Machine

open Sys2Proof

-- sources, the canteen and the rails

/-- Of `s`, the state `t` keeps the power record and SUP_STAT. -/
structure State.keepsSupply (s t : State) : Prop where
  pow : t.pow = s.pow
  stat : t.g K.sup_SUP_STAT = s.g K.sup_SUP_STAT

namespace State.keepsSupply

theorem refl (s : State) : keepsSupply s s := ⟨rfl, rfl⟩

theorem trans {s t u : State} (a : keepsSupply s t) (b : keepsSupply t u) : keepsSupply s u :=
  ⟨b.pow.trans a.pow, b.stat.trans a.stat⟩

theorem ofLogs {s t : State} (h : logsOnly s t) : keepsSupply s t :=
  ⟨h.eq (·.pow) fun _ _ _ _ _ _ => rfl, h.entries _ (by decide)⟩

theorem ofQuiet {s t : State} (h : quiet s t) : keepsSupply s t := ofLogs (.ofQuiet h)

theorem p (s : State) {k : Nat} (v : Nat) (h : K.sup_SUP_STAT ≠ k) : keepsSupply s (s.p k v) :=
  ⟨by simp, State.g_p_ne s v h⟩

theorem bitTo (s : State) {k : Nat} (n : Nat) (b : Bool) (h : K.sup_SUP_STAT ≠ k) : keepsSupply s (s.bitTo k n b) :=
    p s _ h

theorem inc (s : State) {k : Nat} (h : K.sup_SUP_STAT ≠ k) : keepsSupply s (s.inc k) := ⟨by simp, State.g_inc_ne s h⟩

theorem irq (s : State) (n : Nat) : keepsSupply s (s.irq n) := ⟨rfl, rfl⟩

theorem endLantern (s : State) : keepsSupply s s.endLantern := by
  unfold State.endLantern
  extract_lets fwd m3 _ s1 s2 s3
  have h1 : keepsSupply s s1 := ⟨rfl, rfl⟩
  have h3 : keepsSupply s s3 := (((h1.trans (p s1 _ (by decide))).trans (inc _ (by decide))).trans
    (bitTo _ _ _ (by decide))).trans (ofQuiet (.evChip _ _ _))
  split
  · exact (h3.trans (bitTo s3 _ _ (by decide))).trans (ofQuiet (.evChip _ _ _))
  · exact h3

theorem returnLantern (s : State) : keepsSupply s s.returnLantern := by
  unfold State.returnLantern
  split
  · exact refl s
  split
  · exact ⟨rfl, rfl⟩
  · exact endLantern s

end State.keepsSupply

/-- The bit of SUP_STAT that shows a source (R543). -/
def sourceBit : Source → Nat | .loop => ssLOOP_OK | .bus => ssBUS_OK

/-- The other source is present. -/
def PowRt.other (p : PowRt) : Source → Bool | .loop => p.busOn | .bus => p.loopOn

/-- Recording a source (R511, R543). -/
theorem State.setSource_shows (s : State) (src : Source) (b : Bool) :
    (s.setSource src b).pow.present src = b ∧ (s.setSource src b).bit K.sup_SUP_STAT (sourceBit src) = b ∧
    (s.setSource src b).powered = (b || s.pow.other src) ∧
    (∀ k, k ≠ K.sup_SUP_STAT → (s.setSource src b).g k = s.g k) ∧ (s.setSource src b).ready = s.ready ∧
    (s.setSource src b).dieRt = s.dieRt := by
  cases src with
  | loop =>
    unfold State.setSource
    refine ⟨by simp [State.setSup, PowRt.present, State.bitTo], State.bit_bitTo_same _ _ _ (by decide),
      by simp [State.powered, State.setSup, State.bitTo, PowRt.other], fun k hk => State.g_bitTo_ne _ _ _ hk,
      by simp [State.setSup, State.bitTo], by simp [State.setSup, State.bitTo]⟩
  | bus =>
    unfold State.setSource
    refine ⟨by simp [State.setSup, PowRt.present, State.bitTo], State.bit_bitTo_same _ _ _ (by decide),
      by simp [State.powered, State.setSup, State.bitTo, PowRt.other, Bool.or_comm], fun k hk =>
          State.g_bitTo_ne _ _ _ hk,
      by simp [State.setSup, State.bitTo], by simp [State.setSup, State.bitTo]⟩

/-- Ride-through begins (R346, R528). -/
theorem State.beginRide_shows (s : State) :
    s.beginRide.pow = { s.pow with pinZero := true, rideFrom := s.cyc } ∧
    s.beginRide.g K.sup_SUP_STAT = setBit (s.g K.sup_SUP_STAT) ssRIDE true ∧
    s.beginRide.g K.sup_SUPPLY_LOSS_COUNT = wrap32 (s.g K.sup_SUPPLY_LOSS_COUNT + 1) := by
  unfold State.beginRide
  extract_lets _ s1
  have hRide : (s1.setSup ssRIDE true).g K.sup_SUP_STAT = setBit (s.g K.sup_SUP_STAT) ssRIDE true :=
    State.g_p_same s1 _ (by decide)
  have hKeep := (((keepsSupply.inc (s1.setSup ssRIDE true) (k := K.sup_SUPPLY_LOSS_COUNT) (by decide)).trans
    (.bitTo _ csOUTAGE true (k := K.cal_CAL_STAT) (by decide))).trans (.ofQuiet (.evChip _ 0x5001 []))).trans (.irq _ 5)
  refine ⟨hKeep.pow.trans (by simp [State.setSup, State.bitTo, s1]), hKeep.stat.trans hRide, ?_⟩
  refine (State.g_evChip _ _ _ (by decide)).trans ((State.g_bitTo_ne _ _ _ (by decide)).trans
    ((State.g_inc_same _ (by decide)).trans ?_))
  exact congrArg (fun v => wrap32 (v + 1)) (State.g_bitTo_ne s1 _ _ (by decide))

/-- A source is lost (R528, R531). -/
theorem State.loseSource_shows {s : State} {src : Source} (h : s.pow.present src = true) :
    (s.loseSource src).pow.present src = false ∧ (s.loseSource src).bit K.sup_SUP_STAT (sourceBit src) = false ∧
    (s.pow.other src = false → s.ready = true →
      (s.loseSource src).bit K.sup_SUP_STAT ssRIDE = true ∧
      (s.loseSource src).g K.sup_SUPPLY_LOSS_COUNT = wrap32 (s.g K.sup_SUPPLY_LOSS_COUNT + 1)) := by
  unfold State.loseSource
  rw [if_neg (by simp [h])]
  extract_lets s1
  obtain ⟨hOff, hBit, hPowered, hKeep, hReady, -⟩ := s.setSource_shows src false
  have hSrc : sourceBit src ≠ ssRIDE := by cases src <;> decide
  change s1.pow.present src = false at hOff
  change s1.bit K.sup_SUP_STAT (sourceBit src) = false at hBit
  change s1.powered = _ at hPowered
  change ∀ k, k ≠ K.sup_SUP_STAT → s1.g k = s.g k at hKeep
  clear_value s1
  have hPresent : ∀ a b, ({ s1.pow with pinZero := a, rideFrom := b } : PowRt).present src = false := fun a b => by
    cases src <;> exact hOff
  split
  next hOn =>
    have hk := (State.keepsSupply.ofQuiet (.evChip s1 0x5007 [srcNo src])).trans (.irq _ 5)
    refine ⟨by rw [hk.pow]; exact hOff, by rw [State.bit, hk.stat]; exact hBit, fun hNone => ?_⟩
    rw [hPowered, hNone] at hOn
    exact absurd hOn (by decide)
  split
  · obtain ⟨hPow, hStat, hCount⟩ := s1.beginRide_shows
    refine ⟨by rw [hPow]; exact hPresent _ _, ?_, fun _ _ => ⟨?_, ?_⟩⟩
    · rw [State.bit, hStat, bitAt_setBit_ne _ _ hSrc]
      exact hBit
    · rw [State.bit, hStat]
      exact bitAt_setBit_same _ _ _
    · rw [hCount, hKeep _ (by decide)]
  next hNot =>
    have hk : State.keepsSupply (s1.setSup ssRIDE true) ((s1.setSup ssRIDE true).setCal csOUTAGE true) :=
        .bitTo _ _ _ (by decide)
    refine ⟨?_, ?_, fun _ hr => absurd hr (by simpa using hNot)⟩
    · rw [hk.pow]
      have hp : (s1.setSup ssRIDE true).pow = s1.pow := by simp [State.setSup, State.bitTo]
      rw [hp]
      exact hOff
    · rw [State.bit, hk.stat]
      exact (State.bit_bitTo_ne s1 _ hSrc).trans hBit

/-- A source is present again (R530). -/
theorem State.gainSource_shows {s : State} {src : Source} {vRes : Nat} (h : s.pow.present src = false)
    (hEn : s.enables src = true) (hv : 100 * s.g K.sup_PF_LEVEL ≤ vRes) :
    (s.gainSource src vRes).pow.present src = true ∧ (s.gainSource src vRes).bit K.sup_SUP_STAT (sourceBit src) = true ∧
    (s.powered = false → (s.gainSource src vRes).bit K.sup_SUP_STAT ssRIDE = false) := by
  unfold State.gainSource
  rw [if_neg (by simp [h, hEn]; omega)]
  extract_lets s1 _ s2 s3
  obtain ⟨hOn, hBit, -, -, -, -⟩ := s.setSource_shows src true
  have hSrc : sourceBit src ≠ ssRIDE := by cases src <;> decide
  have hOn3 : s3.pow.present src = true := by
    have h3 : s3.pow = s2.pow := by unfold s3; split <;> rfl
    rw [h3]
    cases src <;> exact hOn
  have hBit3 : s3.bit K.sup_SUP_STAT (sourceBit src) = true := by
    have h3 : s3.bit K.sup_SUP_STAT (sourceBit src) = s2.bit K.sup_SUP_STAT (sourceBit src) := by
        unfold s3; split <;> rfl
    rw [h3]
    exact hBit
  clear_value s3
  have hRide : s3.endRide.pow = s3.pow ∧ s3.endRide.g K.sup_SUP_STAT = setBit (s3.g K.sup_SUP_STAT) ssRIDE false := by
    have h0 : (s3.setSup ssRIDE false).pow = s3.pow ∧
        (s3.setSup ssRIDE false).g K.sup_SUP_STAT = setBit (s3.g K.sup_SUP_STAT) ssRIDE false :=
      ⟨by simp [State.setSup, State.bitTo], State.g_p_same s3 _ (by decide)⟩
    unfold State.endRide
    split
    · have hk := ((State.keepsSupply.p (s3.setSup ssRIDE false) (cycDiff s3.cyc s3.pow.rideFrom) (k := K.sup_RIDE_CYC)
        (by decide)).trans (.ofQuiet (.evChip _ 0x5002 []))).trans (.irq _ 5)
      exact ⟨hk.pow.trans h0.1, hk.stat.trans h0.2⟩
    · exact h0
  have hLantern : ∀ u : State, u.returnLantern.pow = u.pow ∧ u.returnLantern.g K.sup_SUP_STAT = u.g K.sup_SUP_STAT :=
    fun u => ⟨(State.keepsSupply.returnLantern u).pow, (State.keepsSupply.returnLantern u).stat⟩
  split
  next hp =>
    rw [State.bit, State.bit, (hLantern s3).1, (hLantern s3).2]
    exact ⟨hOn3, hBit3, fun hNone => absurd (hp.symm.trans hNone) (by decide)⟩
  · rw [State.bit, State.bit, (hLantern _).1, (hLantern _).2, hRide.1, hRide.2, bitAt_setBit_ne _ _ hSrc,
      bitAt_setBit_same]
    exact ⟨hOn3, hBit3, fun _ => rfl⟩

/-- What the hold-up check keeps (R519): the measurement, its result, and CANT_LOW. -/
structure State.keepsMeas (s t : State) : Prop where
  meas : t.pow.measAt = s.pow.measAt
  result : t.g K.sup_CANT_MEAS = s.g K.sup_CANT_MEAS
  low : t.bit K.sup_SUP_STAT ssCANT_LOW = s.bit K.sup_SUP_STAT ssCANT_LOW

namespace State.keepsMeas

theorem refl (s : State) : keepsMeas s s := ⟨rfl, rfl, rfl⟩

theorem trans {s t u : State} (a : keepsMeas s t) (b : keepsMeas t u) : keepsMeas s u :=
  ⟨b.meas.trans a.meas, b.result.trans a.result, b.low.trans a.low⟩

theorem ofLogs {s t : State} (h : logsOnly s t) : keepsMeas s t :=
  ⟨h.eq (·.pow.measAt) fun _ _ _ _ _ _ => rfl, h.entries _ (by decide), congrArg (bitAt · _) (h.entries _ (by decide))⟩

theorem setSup (s : State) {n : Nat} (b : Bool) (h : ssCANT_LOW ≠ n) : keepsMeas s (s.setSup n b) :=
  ⟨by simp [State.setSup, State.bitTo], State.g_bitTo_ne _ _ _ (by decide), State.bit_bitTo_ne _ _ h⟩

theorem setPow (s : State) (p : PowRt) (h : p.measAt = s.pow.measAt) : keepsMeas s { s with pow := p } := ⟨h, rfl, rfl⟩

theorem showGov (s : State) : keepsMeas s s.showGov := (setSup s _ (by decide)).trans (setSup _ _ (by decide))

theorem p (s : State) {k : Nat} (v : Nat) (h : K.sup_CANT_MEAS ≠ k) (hs : K.sup_SUP_STAT ≠ k) : keepsMeas s (s.p k v) :=
  ⟨by simp, State.g_p_ne s v h, congrArg (bitAt · _) (State.g_p_ne s v hs)⟩

theorem foldl {β : Type} {f : State → β → State} (hf : ∀ s b, keepsMeas s (f s b)) (l : List β) (s : State) :
    keepsMeas s (l.foldl f s) := by
  induction l generalizing s with
  | nil => exact refl s
  | cons b r ih => exact (hf s b).trans (ih _)

theorem dropAllowances (s : State) : keepsMeas s s.dropAllowances := by
  unfold State.dropAllowances
  refine (setPow s { s.pow with allowSent := [] } rfl).trans (foldl (fun u d => ?_) _ _)
  have hd : keepsMeas u (u.setDie d { u.die d with allowNow := 0, allowNext := some 0 }) := ⟨rfl, rfl, rfl⟩
  refine hd.trans (p _ _ ?_ ?_)
  · show 0x30000C ≠ 0x200145 + 256 * d
    omega
  · show 0x300002 ≠ 0x200145 + 256 * d
    omega

theorem checkHold (s : State) : keepsMeas s s.checkHold := by
  unfold State.checkHold
  extract_lets serial _ s1 _ s2
  split
  · split
    · exact refl s
    · exact (((setPow s { s.pow with holdSerial := 0 } rfl).trans (setSup _ _ (by decide))).trans (showGov _)).trans
        (ofLogs (.endFault _ _ _ _ _ _ _))
  split
  · exact refl s
  · have h1 : keepsMeas s s1 := ofLogs (.declare s _ _ _ _ _)
    clear_value s1
    have h2 : keepsMeas s1 s2 := ⟨rfl, rfl, rfl⟩
    clear_value s2
    exact (((h1.trans h2).trans (setSup s2 _ (by decide))).trans (showGov _)).trans (dropAllowances _)

end State.keepsMeas

theorem DieRt.rail_setRail (r : DieRt) (x : Rail) (v : Nat) : (r.setRail x v).rail x = v := by cases x <;> rfl
theorem DieRt.railAt_setRail (r : DieRt) (x : Rail) (v : Nat) : (r.setRail x v).railAt x = r.railAt x := by
    cases x <;> rfl
theorem DieRt.railAt_noteRail (r : DieRt) (x : Rail) (c : Nat) : (r.noteRail x c).railAt x = c := by cases x <;> rfl
theorem DieRt.count_setRail (r : DieRt) (x : Rail) (v : Nat) : (r.setRail x v).count = r.count := by cases x <;> rfl
theorem DieRt.count_noteRail (r : DieRt) (x : Rail) (c : Nat) : (r.noteRail x c).count = r.count := by cases x <;> rfl

/-- A fault that has ended stands no more (R57). -/
theorem State.stands_endFault (s : State) (serial src level loc event : Nat) (data : List Nat) :
    (s.endFault serial src level loc event data).stands serial = false := by
  unfold State.endFault State.stands
  generalize hu : ({ s with standing := s.standing.filter (fun f => f.serial != serial) } : State) = u
  have hRaise : (u.raise src level loc event 3 serial data).standing = u.standing := by
    rw [(quiet.raise u src level loc event 3 serial data).rest]
  have hSync : ∀ v : State, v.syncErr.standing = v.standing := fun v => by rw [(quiet.syncErr v).rest]
  rw [hSync, hRaise, ← hu]
  simp [List.any_filter]

end Sys2Proof.Machine

namespace Sys2Proof

open Sys2Proof.Machine

/-- Settles O17: sources, the canteen measurement, and the rails. -/
theorem suppliesAndRails : Obligations.SuppliesAndRails := by
  unfold Obligations.SuppliesAndRails
  refine ⟨fun s src h => ?_, fun s src vRes h hEn hv => ?_, fun s dropUv c hPart hAt hDue => ?_,
    fun s d x hd hOn hNone => ?_, fun s d x hd hStands hDue => ?_⟩
  · obtain ⟨hOff, hBit, hRide⟩ := State.loseSource_shows h
    refine .confined ⟨hOff, ?_, fun hNone hReady => hRide ?_ hReady⟩
    · cases src <;> exact hBit
    · cases src <;> exact hNone
  · obtain ⟨hOn, hBit, hRide⟩ := State.gainSource_shows h hEn hv
    refine .confined ⟨hOn, ?_, hRide⟩
    cases src <;> exact hBit
  · refine .whenTrue (by simp [State.discharged, hAt, hDue]) ?_
    unfold State.measureCant
    extract_lets c' _ s1 low s2
    have h2 : s2.pow.measAt = none ∧ s2.g K.sup_CANT_MEAS = cantOf dropUv ∧ s2.bit K.sup_SUP_STAT ssCANT_LOW = low :=
      ⟨by simp [s2, s1, State.setSup, State.bitTo],
        (State.g_bitTo_ne s1 _ _ (by decide)).trans (State.g_p_same _ _ (by decide)),
            State.bit_bitTo_same s1 _ _ (by decide)⟩
    clear_value s2
    have hk : State.keepsMeas s2 ((if low then s2.evChip 0x5005 (leBytes 2 c') else s2).checkHold) := by
      refine .trans ?_ (.checkHold _)
      split
      · exact .ofLogs (.ofQuiet (.evChip _ _ _))
      · exact .refl s2
    exact ⟨hk.meas.trans h2.1, hk.result.trans h2.2.1, hk.low.trans h2.2.2⟩
  · refine .fitted (by simpa using hd) (.confined ?_)
    extract_lets u t
    rw [if_neg (by simp [hOn, hNone])]
    have hSerial : ((t.setDie d ((t.die d).setRail x (s.nextSerial 0))).die d) = (t.die d).setRail x (s.nextSerial 0) :=
      State.die_setDie ..
    have hDie : sameDie (u.die d) (t.die d) := (logsOnly.declare u 0 3 0 0x5008 [d, railNo x]).dies d
    have hCount : ∀ e, (u.die e).count = (s.die e).count := fun e => by
      by_cases he : e = d
      · subst he; rw [State.die_setDie, DieRt.count_noteRail]
      · rw [State.die_setDie_ne _ _ he]
    refine ⟨?_, ?_, ?_⟩
    · show ((t.setDie d _).die d).rail x = _
      rw [hSerial, DieRt.rail_setRail]
    · show ((t.setDie d _).die d).railAt x = _
      rw [hSerial, DieRt.railAt_setRail, sameDie.eq hDie (·.railAt x) fun _ _ _ => by cases x <;> rfl, State.die_setDie,
        DieRt.railAt_noteRail]
    · show ((t.setDie d _).die 0).count = _
      have hT : (t.die 0).count = nextCount (s.die 0).count := by
        rw [← hCount 0]
        exact State.count_declare u 0 3 0 0x5008 [d, railNo x]
      by_cases he : 0 = d
      · subst he; rw [State.die_setDie, DieRt.count_setRail, hT]
      · rw [State.die_setDie_ne _ _ he, hT]
  · refine .fitted (by simpa using hd) ?_
    rw [if_neg (by rw [not_or]; exact
        ⟨hStands, by rw [show railClearTime = 10 * cycPerSecond from by decide, hDue]; decide⟩)]
    generalize hu : s.setDie d ((s.die d).setRail x 0) = u
    have hRail : (u.die d).rail x = 0 := by rw [← hu, State.die_setDie, DieRt.rail_setRail]
    have hDie := (logsOnly.endFault u ((s.die d).rail x) 0 3 0 0x5008 [d, railNo x]).dies d
    refine .confined ⟨?_, State.stands_endFault _ _ _ _ _ _ _⟩
    exact (sameDie.eq hDie (·.rail x) fun _ _ _ => by cases x <;> rfl).trans hRail

end Sys2Proof
end

section
/-! The power-fail commit, the fall of the main rail, and the loss of the regulator. -/

namespace Sys2Proof.Machine

open Sys2Proof

-- what the ledger's record writes and bookings touch

/-- A write in progress leaves its slot, torn or not (R454). -/
theorem State.tearWrite_cases (s : State) : s.tearWrite = s ∨ ∃ (t : State) (w : RecWrite),
    (t = s ∨ t = s.putSlot w.record w.slot [0]) ∧
        s.tearWrite = { t with ledger := { t.ledger with write := none } } := by
  unfold State.tearWrite
  cases s.ledger.write with
  | none => exact .inl rfl
  | some w =>
    refine .inr ⟨if cycDiff s.cyc w.from_ < 16 then s else s.putSlot w.record w.slot [0], w, ?_, rfl⟩
    generalize cycDiff s.cyc w.from_ = n
    split
    · exact .inl rfl
    · exact .inr rfl

/-- Of `s`, the state `t` differs at most by entries and totals, ledger records and the kiln log's ledger copies that
are dropped, bookings that wait, and kiln-log entries raised; an empty ledger buffer of the kiln log stays empty. -/
structure State.booksOnly (s t : State) : Prop where
  rest : t = { s with
    od := t.od, led := t.led, ledger := t.ledger, lag := t.lag, net := t.net, dieRt := t.dieRt, once := t.once
    bill := t.bill, klog := t.klog }
  log : s.ledger.log = [] → t.ledger.log = []
  dies : ∀ d, sameQueue (s.die d) (t.die d)

namespace State.booksOnly

theorem refl (s : State) : booksOnly s s := ⟨rfl, id, fun _ => rfl⟩

theorem trans {s t u : State} (a : booksOnly s t) (b : booksOnly t u) : booksOnly s u where
  rest := by rw [b.rest, a.rest]
  log h := b.log (a.log h)
  dies d := by
    have ha := a.dies d
    have hb := b.dies d
    unfold sameQueue at *
    rw [hb, ha]

theorem eq {β : Type} {s t : State} (h : booksOnly s t) (f : State → β)
    (hf : ∀ od led ledger lag net dieRt once bill klog, f { s with
      od := od, led := led, ledger := ledger, lag := lag, net := net, dieRt := dieRt, once := once, bill := bill
      klog := klog } = f s) : f t = f s := by
  rw [h.rest]; exact hf _ _ _ _ _ _ _ _ _

theorem ofQuiet {s t : State} (h : quiet s t) : booksOnly s t :=
  ⟨by rw [h.rest], fun hl => by rw [h.rest]; exact hl, h.dies⟩

theorem p (s : State) (k v : Nat) : booksOnly s (s.p k v) :=
  ⟨by unfold State.p; split <;> rfl, fun h => by simpa using h, fun d => by simp [sameQueue]⟩

theorem pLed (s : State) (k v : Nat) : booksOnly s (s.pLed k v) :=
  ⟨by unfold State.pLed; split <;> rfl, fun h => by simpa using h, fun d => by simp [sameQueue]⟩

theorem setLedger (s : State) {l : LedgerRt} (h : s.ledger.log = [] → l.log = []) :
    booksOnly s { s with ledger := l } :=
  ⟨rfl, h, fun _ => rfl⟩

theorem setBill (s : State) (b : BillRt) : booksOnly s { s with bill := b } := ⟨rfl, id, fun _ => rfl⟩

theorem foldl {β : Type} {f : State → β → State} (hf : ∀ s b, booksOnly s (f s b)) (l : List β) (s : State) :
    booksOnly s (l.foldl f s) := by
  induction l generalizing s with
  | nil => exact refl s
  | cons b r ih => exact (hf s b).trans (ih _)

theorem ps (s : State) (l : List (Nat × Nat)) : booksOnly s (s.ps l) := by
  unfold State.ps
  exact foldl (fun s e => p s _ _) l s

theorem putReg (s : State) (k v : Nat) : booksOnly s (s.putReg k v) := by
  unfold State.putReg
  split
  · exact pLed s k v
  · exact p s k v

theorem loadKeys (q : List Nat) (l : List (Nat × Nat)) (o : Nat) (s : State) : booksOnly s (s.loadKeys q l o) := by
  induction l generalizing s o with
  | nil => exact refl s
  | cons e r ih => exact (putReg s _ _).trans (ih _ _)

theorem loadRecord (s : State) (i r : Nat) (q : List Nat) : booksOnly s (s.loadRecord i r q) := by
  unfold State.loadRecord
  extract_lets l s1
  split
  · exact setLedger s id
  · have h1 : booksOnly s s1 := by
      unfold s1
      split
      · exact refl s
      · exact setLedger s id
    split
    · refine h1.trans (.trans ?_ (p _ _ _))
      exact setLedger s1 id
    · exact h1.trans (loadKeys _ _ _ _)

theorem putSlot (s : State) (n x : Nat) (b : List Nat) : booksOnly s (s.putSlot n x b) := setLedger s id

theorem landWrite (s : State) (w : RecWrite) : booksOnly s (s.landWrite w) := setLedger s id

theorem landRec (s : State) (n : Nat) : booksOnly s (s.landRec n) := setLedger s id

theorem landWhere (s : State) (q : Nat → Bool) : booksOnly s (s.landWhere q) := by
  unfold State.landWhere
  extract_lets s1
  refine .trans (t := s1) ?_ (foldl (fun t n => landRec t n) _ _)
  unfold s1
  split
  · split
    · exact landWrite s _
    · exact refl s
  · exact refl s

theorem fireOff (s : State) : booksOnly s { s with ledger := { s.ledger with fire := false } } := setLedger s id

theorem landAll (s : State) : booksOnly s s.landAll := (landWhere s _).trans (fireOff _)

theorem whenSo {c : Prop} [Decidable c] {s t : State} (h : booksOnly s t) : booksOnly s (if c then t else s) := by
  split
  · exact h
  · exact refl s

theorem tearWrite (s : State) : booksOnly s s.tearWrite := by
  obtain h | ⟨t, w, ht, h⟩ := s.tearWrite_cases
  · rw [h]
    exact refl s
  · have hPut : booksOnly s t := by
      rcases ht with rfl | rfl
      · exact refl _
      · exact putSlot s _ _ _
    rw [h]
    exact hPut.trans (setLedger t id)

theorem dropLog (s : State) : booksOnly s s.dropLog := by
  unfold State.dropLog
  split
  · exact refl s
  · extract_lets held
    refine .trans ?_ (ps _ _)
    exact ⟨rfl, fun _ => rfl, fun _ => rfl⟩

theorem abandonLedger (s : State) : booksOnly s s.abandonLedger := by
  unfold State.abandonLedger
  extract_lets back s1 s2
  have h2 : booksOnly s s2 :=
    ((tearWrite s).trans (dropLog _)).trans (foldl (fun t n => loadRecord t _ _ _) _ _)
  clear_value s2
  exact (h2.trans (setLedger s2 (l := { s2.ledger with due := [], fire := false }) id)).trans (setBill _ _)

theorem markRecs (s : State) (i : Nat) (l : List Nat) : booksOnly s (s.markRecs i l) := setLedger s id

theorem addTotal (s : State) (sect q tariff inc : Nat) : booksOnly s (s.addTotal sect q tariff inc) := by
  unfold State.addTotal
  extract_lets k v t
  have ht : booksOnly s t := pLed s _ _
  split
  · exact (ht.trans (setBill t _)).trans (ofQuiet (.evChip _ _ _))
  · exact ht

theorem enterBooking (s : State) (b : Booking) (r : Nat) : booksOnly s (s.enterBooking b r) := by
  unfold State.enterBooking
  extract_lets i _ s1 q t _ v w x
  have h1 : booksOnly s s1 := setLedger s id
  clear_value s1
  split
  · have ht : booksOnly s1 t := whenSo (addTotal s1 _ _ _ _)
    split
    · exact (h1.trans ht).trans (addTotal t _ _ _ _)
    · exact h1.trans ht
  split
  · have hv : booksOnly s1 v := setLedger s1 id
    split
    · exact (h1.trans hv).trans (p v _ _)
    · exact h1.trans hv
  split
  · have hw : booksOnly s1 w := whenSo (p s1 _ _)
    have hx : booksOnly w x := whenSo (p w _ _)
    exact ((h1.trans hw).trans hx).trans (whenSo (p x _ _))
  split
  · refine h1.trans (foldl (fun t e => ?_) _ _)
    split
    · exact refl t
    · exact pLed t _ _
  · exact h1

theorem bookNow (s : State) (b : Booking) : booksOnly s (s.bookNow b) := by
  unfold State.bookNow
  extract_lets i b1 _ s1
  have h1 : booksOnly s s1 := setLedger s id
  clear_value s1
  exact (h1.trans (foldl (fun t r => enterBooking t _ r) _ _)).trans (markRecs _ _ _)

theorem bookAll (s : State) : booksOnly s s.bookAll :=
  (setBill s _).trans (foldl (fun t b => (landWhere t _).trans (bookNow _ b)) _ _)

theorem failLedger (s : State) : booksOnly s s.failLedger.1 := by
  unfold State.failLedger
  extract_lets t
  have ht : booksOnly s t := bookAll s
  dsimp only
  split
  · exact ht.trans (landAll t)
  · exact (ht.trans (landWhere t _)).trans (abandonLedger _)

end State.booksOnly


-- the power-fail commit and the loss of the rails

section

variable {own left : Nat → Prop}

theorem State.moves.setReady (s : State) (a b : Bool) : moves own left s { s with ready := a, framing := b } :=
  ⟨rfl, fun _ _ _ => rfl, fun _ _ => rfl, fun _ _ => rfl⟩

theorem State.moves.toPower (s : State) (d new cause : Nat) (h : own (K.sup_PWR_STATE d)) :
    moves own left s (s.toPower d new cause) :=
  (moves.p s _ h).trans (.ofQuiet (.ev _ _ _ _ _ _))

end

/-- A die that enters a power state (R532): it and its line, what it runs, and the shared entries. -/
theorem State.enterState_moves (s : State) (d target cause : Nat) :
    moves (fun _ => True) (· = d) s (s.enterState d target cause) := by
  unfold State.enterState
  extract_lets s0 s1 r s2 _ s3
  have h0 : moves (fun _ => True) (· = d) s s0 := by
    unfold s0
    split
    · exact s.stopFuses_moves.mono (fun _ _ => trivial) fun _ h => h.elim
    · exact .refl s
  have h1 : moves (fun _ => True) (· = d) s0 s1 :=
    (State.moves_stopDie (fun _ _ => trivial) s0 d target).trans (.toPower _ _ _ _ trivial)
  clear_value s1
  have h2 : moves (fun _ => True) (· = d) s1 s2 := .setDie s1 d fun h => absurd rfl h
  clear_value s2
  have h3 : moves (fun _ => True) (· = d) s2 s3 := by
    unfold s3
    split
    · exact .setLine s2 d fun h => absurd rfl h
    · exact .refl s2
  have hAll := ((h0.trans h1).trans h2).trans h3
  clear_value s3
  split
  · exact hAll.trans (.setReady s3 false false)
  · exact hAll

theorem State.enterState_unready (s : State) {target : Nat} (cause : Nat) (h : target ≠ 2) :
    (s.enterState 0 target cause).ready = false := by
  unfold State.enterState
  extract_lets s0 s1 r s2 _ s3
  rw [if_pos ⟨rfl, h⟩]

theorem State.followersTo_moves (s : State) (target cause : Nat) :
    moves (fun _ => True) (fun _ => True) s (s.followersTo target cause) := by
  unfold State.followersTo
  refine .foldl _ (fun t d => ?_) _ _
  split
  · exact (t.enterState_moves d target cause).mono (fun _ h => h) fun _ _ => trivial
  · exact .refl t

/-- D0 goes to DEEP after the commit, its followers with it (R528). -/
theorem State.afterCommit_shows (s : State) : s.afterCommit.pow.pfDone = s.pow.pfDone ∧
    s.afterCommit.pow.pfArmed = s.pow.pfArmed ∧ s.afterCommit.klog = s.klog ∧ s.afterCommit.pstate 0 = 3 ∧
    s.afterCommit.ready = false := by
  unfold State.afterCommit
  have hGo : ∀ target, ((s.followersTo target 3).enterState 0 3 3).pow = s.pow ∧
      ((s.followersTo target 3).enterState 0 3 3).klog = s.klog := fun target => by
    have h := (s.followersTo_moves target 3).trans
      ((State.enterState_moves _ 0 3 3).mono (fun _ h => h) fun _ _ => trivial)
    exact ⟨h.eq (·.pow) fun _ _ _ _ _ _ _ _ _ _ _ _ _ _ _ _ _ => rfl,
      h.eq (·.klog) fun _ _ _ _ _ _ _ _ _ _ _ _ _ _ _ _ _ => rfl⟩
  have hState : ∀ t : State, (t.enterState 0 3 3).pstate 0 = 3 ∧ (t.enterState 0 3 3).ready = false := fun t =>
    ⟨(t.enterState_shows 0 3 3).1, t.enterState_unready 3 (by decide)⟩
  split
  · obtain ⟨hPow, hLog⟩ := hGo 4
    obtain ⟨hDeep, hUnready⟩ := hState (s.followersTo 4 3)
    generalize (s.followersTo 4 3).enterState 0 3 3 = u at *
    exact ⟨congrArg (·.pfDone) hPow, congrArg (·.pfArmed) hPow, hLog, hDeep, hUnready⟩
  · obtain ⟨hPow, hLog⟩ := hGo 3
    exact ⟨congrArg PowRt.pfDone hPow, congrArg PowRt.pfArmed hPow, hLog, hState _⟩

theorem State.syncStore_keeps {β : Type} (f : State → β) (hf : ∀ (s : State) (k v : Nat), f (s.p k v) = f s)
    (s : State) :
    f s.syncStore = f s := by
  unfold State.syncStore State.ps
  exact foldl_keeps f (fun u _ => hf u _ _) _ s

theorem State.putStore_keeps (s : State) (d : Nat) (r : StoreRt) : (s.putStore d r).ledger = s.ledger ∧
    (s.putStore d r).pow = s.pow ∧ (s.putStore d r).klog = s.klog :=
  ⟨State.syncStore_keeps (·.ledger) (by simp) (s.setStore d r),
      State.syncStore_keeps (·.pow) (by simp) (s.setStore d r),
    State.syncStore_keeps (·.klog) (by simp) (s.setStore d r)⟩

/-- Copying an entry of the ledger buffer touches the kiln log, the ledger, entries and the store. -/
theorem State.copyLog_shows (s : State) : s.copyLog.ledger.log = s.ledger.log.tail ∧ s.copyLog.pow = s.pow ∧
    (∀ no rest, s.ledger.log = no :: rest → s.copyLog.klog = heldLog no s.klog) := by
  unfold State.copyLog
  split
  next h => exact ⟨by rw [h]; rfl, rfl, fun _ _ hc => by rw [h] at hc; cases hc⟩
  next no rest h =>
    extract_lets held wraps _ t
    rw [h]
    have ht : t.ledger.log = rest ∧ t.pow = s.pow ∧ t.klog = held := by simp [t]
    clear_value t
    have hLine : ∀ u : State, (u.writeLogLine no).ledger = u.ledger ∧ (u.writeLogLine no).pow = u.pow ∧
        (u.writeLogLine no).klog = u.klog := fun u => by
      unfold State.writeLogLine
      split
      · exact u.putStore_keeps 0 _
      · exact ⟨rfl, rfl, rfl⟩
    obtain ⟨hLedger, hPow, hLog⟩ := hLine (if wraps = true then t.bitTo K.log_LOG_STAT lgWRAPPED true else t)
    rw [hLedger, hPow, hLog]
    refine ⟨?_, ?_, fun no' rest' hc => ?_⟩
    · split
      · simpa [State.bitTo] using ht.1
      · exact ht.1
    · split
      · simpa [State.bitTo] using ht.2.1
      · exact ht.2.1
    · obtain ⟨rfl, rfl⟩ := List.cons.inj hc
      split
      · simpa [State.bitTo] using ht.2.2
      · exact ht.2.2

/-- Once every entry of the ledger buffer is copied the buffer is empty (R453, R700). -/
theorem State.landLog_shows (s : State) : s.landLog.ledger.log = [] ∧ s.landLog.pow = s.pow := by
  have hAll : ∀ (l : List Nat) (t : State), t.ledger.log.length = l.length →
      (l.foldl (fun t _ => t.copyLog) t).ledger.log = [] ∧ (l.foldl (fun t _ => t.copyLog) t).pow = t.pow := by
    intro l
    induction l with
    | nil => exact fun t h => ⟨List.length_eq_zero_iff.1 h, rfl⟩
    | cons n r ih =>
      intro t h
      obtain ⟨hLog, hPow, -⟩ := t.copyLog_shows
      obtain ⟨hEmpty, hKeep⟩ := ih t.copyLog (by rw [hLog, List.length_tail, h]; rfl)
      exact ⟨hEmpty, hKeep.trans hPow⟩
  exact hAll s.ledger.log s rfl

/-- An entry without an EMCY message that is no declaration is put behind the others (R698, R700). -/
theorem State.accept_shows (s : State) {e : LogEnt} (hKind : e.kind = 0) (hEmcy : e.emcy = none) :
    ∃ x : LogEnt, (s.accept e).klog = s.klog ++ [x] ∧ x.event = e.event ∧
      (s.accept e).ledger.log = s.ledger.log ++ [x.no] ∧ (s.accept e).pow = s.pow := by
  unfold State.accept
  extract_lets no freezes blocked x log _ s1 s2 s3
  have hNot : freezes = false := by simp [freezes, LogEnt.chipDecl, hKind]
  have h3 : s3.klog = log ∧ s3.ledger.log = s.ledger.log ++ [no] ∧ s3.pow = s.pow := by
    unfold s3
    split
    · simp [s2, s1, State.bitTo, State.ps]
    · simp [s2, s1, State.ps]
  clear_value s3
  refine ⟨x, ?_⟩
  have hAnn : s3.announce x = s3 := by
    unfold State.announce
    extract_lets u
    have hk : x.kind = 0 := hKind
    have he : x.emcy = none := hEmcy
    simp [u, hk, he]
  rw [hNot, if_neg Bool.false_ne_true, hAnn]
  exact ⟨h3.1, rfl, h3.2.1, h3.2.2⟩

/-- The last entry of the log stays when it is copied to the ledger (R700). -/
theorem heldLog_append_last (l : List LogEnt) (x : LogEnt) : (heldLog x.no (l ++ [x])).getLast? = some x := by
  unfold heldLog
  rw [List.filter_append]
  have hx : List.filter (fun e => inLedgerCopy x.no e || (e.kept && !overwritten x.no (l ++ [x]) e)) [x] = [x] := by
    simp [inLedgerCopy]
  rw [hx]
  simp

/-- The work of the power-fail commit: it is done, and its entry is the kiln log's last (R453). -/
theorem State.commitPowerFail_shows (s : State) : s.commitPowerFail.pow.pfDone = true ∧
    s.commitPowerFail.pow.pfArmed = false ∧ s.commitPowerFail.klog.getLast?.map LogEnt.event = some 0x5010 := by
  unfold State.commitPowerFail
  extract_lets lost t _ _ _ s1 s3
  have ht : t.1.ledger.log = [] := (State.booksOnly.failLedger _).log (State.landLog_shows _).1
  have h1 : s1.ledger.log = [] ∧ s1.pow.pfDone = true ∧ s1.pow.pfArmed = false := ⟨ht, rfl, rfl⟩
  clear_value s1
  have h3 : s3.ledger = s1.ledger ∧ s3.pow = s1.pow := by
    unfold s3
    refine ⟨foldl_keeps (fun v : State => v.ledger) (fun u d => ?_) _ _,
        foldl_keeps (fun v : State => v.pow) (fun u d => ?_) _ _⟩
    · dsimp only
      split <;> rfl
    · dsimp only
      split <;> rfl
  clear_value s3
  generalize hu : (s3.p K.sup_RIDE_CYC (cycDiff s.cyc s.pow.rideFrom)).syncStore = u
  have hU : u.ledger = s1.ledger ∧ u.pow = s1.pow := by
    rw [← hu]
    exact ⟨(State.syncStore_keeps (·.ledger) (by simp) _).trans ((State.p_ledger _ _ _).trans h3.1),
      (State.syncStore_keeps (·.pow) (by simp) _).trans ((State.p_pow _ _ _).trans h3.2)⟩
  generalize he : ({ cyc := s.cyc, event := 0x5010, serial := 0, loc := 0, level := 2, kind := 0, src := 0
                     data := [t.2, lost] } : LogEnt) = e
  obtain ⟨x, hLog, hEvent, hBuf, hPow⟩ := u.accept_shows (e := e) (by rw [← he]) (by rw [← he])
  generalize u.accept e = v at *
  rw [hU.1, h1.1] at hBuf
  have hLand : v.landLog = v.copyLog := by
    unfold State.landLog
    rw [hBuf]
    rfl
  obtain ⟨-, hCopyPow, hCopyLog⟩ := v.copyLog_shows
  rw [hLand, hCopyPow, hPow, hU.2, hCopyLog _ _ hBuf, hLog]
  refine ⟨h1.2.1, h1.2.2, ?_⟩
  rw [heldLog_append_last]
  exact congrArg some (hEvent.trans (by rw [← he]))

/-- One die loses its power (R528). -/
def State.dieOff (t : State) (d : Nat) : State :=
  let u := (t.stopDie d 4).p (K.sup_PWR_STATE d) 4
  (u.setDie d { u.die d with up := false, waking := none, entry := none, logQ := [], wdArmed := false }).setLine d
    { u.line d with up := false }

theorem State.allOff_eq (s : State) : s.allOff =
    { (List.range s.dies).foldl State.dieOff s.abandonLedger with
      ready := false, framing := false
      pow := { ((List.range s.dies).foldl State.dieOff s.abandonLedger).pow with pfArmed := false } } := rfl

theorem State.dieOff_self (t : State) (d : Nat) : (t.dieOff d).pstate d = 4 ∧ ((t.dieOff d).die d).up = false :=
  ⟨State.g_p_same (t.stopDie d 4) 4 (isLedKey_power d), congrArg DieRt.up (State.die_setDie _ d _)⟩

theorem State.runKey_ne_power {k d : Nat} (h : RunKey k) (hd : d < 8) : K.sup_PWR_STATE d ≠ k := by
  have e : K.sup_PWR_STATE d = 0x300028 + d := rfl
  rw [e]
  cases h with
  | cal e => show 0x300028 + d ≠ 0x200121 + 256 * e; omega
  | march e => show 0x300028 + d ≠ 0x200181 + 256 * e; omega
  | sram e => show 0x300028 + d ≠ 0x20018B + 256 * e; omega
  | pin e i hi => show 0x300028 + d ≠ 0x200152 + 256 * e + i; omega
  | chain c => show 0x300028 + d ≠ 0x230001 + 256 * c; omega

/-- A die that loses its power leaves the others' states. -/
theorem State.dieOff_other (t : State) {d e : Nat} (h : d ≠ e) (hd : d < 8) :
    (t.dieOff e).pstate d = t.pstate d ∧ ((t.dieOff e).die d).up = (t.die d).up := by
  have hStop : moves RunKey (fun _ => False) t (t.stopDie e 4) := State.moves_stopDie (fun _ h => h) t e 4
  unfold State.dieOff
  extract_lets u
  have hu : u.pstate d = t.pstate d ∧ (u.die d).up = (t.die d).up := by
    refine ⟨?_, ?_⟩
    · refine (State.g_p_ne _ _ (by show 0x300028 + d ≠ 0x300028 + e; omega)).trans ?_
      exact hStop.entries _ (sharedKey_power d) fun hk => State.runKey_ne_power hk hd rfl
    · have hDie : u.die d = (t.stopDie e 4).die d := State.die_p _ _ _ _
      rw [hDie]
      exact (hStop.dies d id).eq (·.up) fun _ _ _ _ _ _ _ _ _ _ => rfl
  clear_value u
  exact ⟨hu.1, (congrArg DieRt.up (State.die_setDie_ne u _ h)).trans hu.2⟩

/-- What the dies of the part show without power (R528). -/
theorem State.allOff_shows {s : State} (hDies : s.dies ≤ 8) : s.allOff.ready = false ∧
    ∀ d, d < s.dies → s.allOff.pstate d = 4 ∧ (s.allOff.die d).up = false := by
  rw [State.allOff_eq]
  refine ⟨rfl, fun d hd => ?_⟩
  obtain ⟨l, r, hl⟩ := List.append_of_mem (List.mem_range.2 hd)
  have hNodup : (l ++ d :: r).Nodup := hl ▸ List.nodup_range
  have hNot : d ∉ r := (List.nodup_cons.1 (List.nodup_append.1 hNodup).2.1).1
  show ((List.range s.dies).foldl State.dieOff s.abandonLedger).pstate d = 4 ∧
    (((List.range s.dies).foldl State.dieOff s.abandonLedger).die d).up = false
  rw [hl, List.foldl_append, List.foldl_cons]
  generalize hOff : (l.foldl State.dieOff s.abandonLedger).dieOff d = t
  have ht : t.pstate d = 4 ∧ (t.die d).up = false := hOff ▸ State.dieOff_self _ d
  clear hOff hl hNodup
  induction r generalizing t with
  | nil => exact ht
  | cons e r ih =>
    have he : d ≠ e := fun h => hNot (h ▸ List.mem_cons_self)
    obtain ⟨hState, hUp⟩ := t.dieOff_other he (by omega)
    exact ih (fun h => hNot (List.mem_cons_of_mem _ h)) _ ⟨hState.trans ht.1, hUp.trans ht.2⟩

/-- The main rail of D0 has fallen: the bleed stops, and an armed lantern gets its rail (R522, R529). -/
def State.railLow (s : State) : State :=
  { s.abandonLedger with pow := { s.pow with bleed := false } }.setSup ssLANT_RAIL
    (s.sup ssLANT_RAIL || s.bit K.lant_LANT_STAT lsARMED)

/-- D0 is found reset (R544). -/
def State.resetD0 (t : State) : State :=
  ({ t.setDie 0 ((t.die 0).triggered 3) with ready := false, framing := false }).syncLoop

theorem State.vmainLow_eq (s : State) :
    s.vmainLow = if s.powered && (s.die 0).up then s.railLow.resetD0 else s.railLow := rfl

theorem State.railLow_shows (s : State) : s.railLow.pow.bleed = false ∧
    s.railLow.bit K.sup_SUP_STAT ssLANT_RAIL = (s.sup ssLANT_RAIL || s.bit K.lant_LANT_STAT lsARMED) ∧
    (s.railLow.die 0).trigger = (s.die 0).trigger := by
  refine ⟨?_, State.bit_bitTo_same _ _ _ (by decide), ?_⟩
  · simp [State.railLow, State.setSup, State.bitTo]
  · have hDie : s.railLow.die 0 = s.abandonLedger.die 0 := State.die_p _ _ _ _
    have hq := (State.booksOnly.abandonLedger s).dies 0
    unfold sameQueue at hq
    rw [hDie, hq]

theorem State.resetD0_shows (t : State) : t.resetD0.pow = t.pow ∧ t.resetD0.g K.sup_SUP_STAT = t.g K.sup_SUP_STAT ∧
    t.resetD0.ready = false ∧ (t.resetD0.die 0).trigger = ((t.die 0).triggered 3).trigger := by
  unfold State.resetD0
  generalize hu : ({ t.setDie 0 ((t.die 0).triggered 3) with ready := false, framing := false } : State) = u
  have hLoop := u.syncLoop_own
  have hU : u.pow = t.pow ∧ u.g K.sup_SUP_STAT = t.g K.sup_SUP_STAT ∧ u.ready = false ∧
      u.die 0 = (t.die 0).triggered 3 := by
    rw [← hu]
    exact ⟨rfl, rfl, rfl, State.die_setDie t 0 _⟩
  refine ⟨(hLoop.eq (·.pow) fun _ _ _ _ _ _ => rfl).trans hU.1, ?_, ?_, ?_⟩
  · exact (hLoop.entries _ (by decide) (by decide)).trans hU.2.1
  · exact (hLoop.eq (·.ready) fun _ _ _ _ _ _ => rfl).trans hU.2.2.1
  · rw [sameDie.eq (hLoop.dies 0) (·.trigger) fun _ _ _ => rfl, hU.2.2.2]

end Sys2Proof.Machine

namespace Sys2Proof

open Sys2Proof.Machine

theorem yields_booking {s t : State} {P : State → Prop}
    (h : P { t with dies := s.dies, cyc := s.cyc, otp := s.otp, sram := s.sram, pending := s.pending }) :
    yields (booking s t) P := ⟨_, rfl, h⟩

/-- Settles O18: the power-fail commit, the fall of the main rail, and the loss of the regulator. -/
theorem powerFails : Obligations.PowerFails := by
  unfold Obligations.PowerFails
  refine ⟨fun s hPart hArmed hOff hNone hState => ?_, fun s => ?_, fun s hPart hOff hLant => ?_⟩
  · show yields (booking s (if _ then _ else _)) _
    rw [if_pos (by simp [hArmed, hOff, hNone, hState])]
    obtain ⟨hDone, hUnarmed, hLog⟩ := s.commitPowerFail_shows
    obtain ⟨hDone', hUnarmed', hLog', hDeep, hUnready⟩ := s.commitPowerFail.afterCommit_shows
    refine yields_booking ⟨hDone'.trans hDone, hUnarmed'.trans hUnarmed, hDeep, hUnready, ?_⟩
    exact (congrArg (fun l => l.getLast?.map LogEnt.event) hLog').trans hLog
  · have hExec : exec .d0VmainLow s = booking s s.vmainLow := rfl
    rw [hExec]
    rw [State.vmainLow_eq]
    obtain ⟨hBleed, hRail, hTrigger⟩ := s.railLow_shows
    generalize s.railLow = t at *
    split
    · obtain ⟨hPow, hStat, hReady, hFound⟩ := t.resetD0_shows
      generalize t.resetD0 = v at *
      refine yields_booking ⟨by rw [hPow]; exact hBleed, fun hLant => ?_, fun _ _ => ⟨hReady, ?_⟩⟩
      · show bitAt (v.g K.sup_SUP_STAT) ssLANT_RAIL = true
        rw [hStat]
        exact hRail.trans (by rw [State.bit, show bitAt (s.g K.lant_LANT_STAT) lsARMED = true from hLant, Bool.or_true])
      · refine hFound.trans ?_
        unfold DieRt.triggered
        rw [hTrigger]
    next hNot =>
      refine yields_booking ⟨hBleed, fun hLant => ?_, fun hOn hUp => absurd (by simp [hOn, hUp]) hNot⟩
      exact hRail.trans (by rw [State.bit, show bitAt (s.g K.lant_LANT_STAT) lsARMED = true from hLant, Bool.or_true])
  · show yields (booking s (if _ then _ else _)) _
    have h8 : s.dies ≤ 8 := by rcases hPart with h | h | h <;> omega
    obtain ⟨hUnready, hAll⟩ := State.allOff_shows h8
    rw [if_neg (by rcases hLant with h | h <;> simp_all [State.bit])]
    exact yields_booking ⟨hUnready, hAll⟩

end Sys2Proof
end

section
/-! Guy lines: frames, the handshake, supervision, and responses of followers. -/

/-! Guy lines: what a lost die, a handshake and a failed line leave of a line, its die and its entries. -/

namespace Sys2Proof.Machine

open Sys2Proof

-- the entries of a die

theorem sharedKey_die {a d : Nat} (ha : 0x200000 ≤ a ∧ a < 0x200200) (hd : d < 8) :
    sharedKey (a + 256 * d) = false := by
  simp only [sharedKey, List.mem_cons, List.not_mem_nil, or_false, decide_eq_false_iff_not, K.log_QUEUE_DROP,
    K.log_LOG_STAT, K.log_STANDING, K.comm_ERRREG, K.sag_SAG_STAT, K.sag_TRIP_COUNT]
  omega

theorem not_waitKey_die {a d : Nat} (ha : 0x200000 ≤ a ∧ a < 0x200200) (hd : d < 8) : ¬ waitKey (a + 256 * d) := by
  unfold waitKey
  omega

/-- The entries of a guy line tell nothing of what a die does while it runs. -/
theorem not_runKey_line {a d : Nat} (ha : 0x200190 ≤ a ∧ a < 0x2001A3) (hd : d < 8) : ¬ RunKey (a + 256 * d) := by
  intro h
  generalize hk : a + 256 * d = k at h
  cases h with
  | cal e => have e1 : a + 256 * d = 0x200121 + 256 * e := hk; omega
  | march e => have e1 : a + 256 * d = 0x200181 + 256 * e := hk; omega
  | sram e => have e1 : a + 256 * d = 0x20018B + 256 * e := hk; omega
  | pin e i hi => have e1 : a + 256 * d = 0x200152 + 256 * e + i := hk; omega
  | chain c => have e1 : a + 256 * d = 0x230001 + 256 * c := hk; omega

theorem isFollower_iff (s : State) (d : Nat) : s.isFollower d = true ↔ 0 < d ∧ d < s.dies := by
  simp [State.isFollower]

-- LINK_STAT

theorem State.bit_setLink (s : State) (d v : Nat) {n : Nat} (h : n < 5) :
    bitAt ((s.setLink d v).g (K.die_LINK_STAT d)) n = bitAt (s.g (K.die_LINK_STAT d)) n := by
  unfold State.setLink
  by_cases hk : isLedKey (K.die_LINK_STAT d) = true
  · simp [State.p, hk]
  · rw [State.g_p_same _ _ (by simpa using hk), bitAt_setField_ne (by omega) (by omega)]

-- words and accesses that end

/-- The accesses of a line that end leave the line's other fields, the other lines, the dies' records and the entries of
the dies (R492, R495). -/
theorem State.endWaits_shows (s : State) (d : Nat) :
    (s.endWaits d).line d = { s.line d with waits := [] } ∧ (∀ e, stoppedDie (s.die e) ((s.endWaits d).die e)) ∧
    ∀ k, sharedKey k = false → ¬ waitKey k → (s.endWaits d).g k = s.g k := by
  have h : State.moves waitKey (fun _ => False) (s.setLine d { s.line d with waits := [] }) (s.endWaits d) :=
    State.moves_endWaits (fun _ h => h) s d
  refine ⟨?_, fun e => h.dies e id, fun k hk hw => h.entries k hk hw⟩
  rw [h.lines d id, State.line_setLine]

/-- Words discarded are counted (R495). -/
theorem State.flush_shows (s : State) (d n : Nat) :
    (s.flush d n).line d = { s.line d with flushed := (s.line d).flushed + n } ∧
    (∀ e, (s.flush d n).die e = s.die e) ∧
    (∀ k, k ≠ K.die_FLUSH_COUNT d → k ≠ K.die_LINK_STAT d → (s.flush d n).g k = s.g k) ∧
    (∀ b, b ≠ lkFLUSHED → bitAt ((s.flush d n).g (K.die_LINK_STAT d)) b = bitAt (s.g (K.die_LINK_STAT d)) b) := by
  unfold State.flush
  extract_lets _ s1
  have h1 : s1.line d = { s.line d with flushed := (s.line d).flushed + n } := State.line_setLine _ _ _
  split
  · exact ⟨h1, fun _ => rfl, fun _ _ _ => rfl, fun _ _ => rfl⟩
  · have hLine : ((s1.addTo (K.die_FLUSH_COUNT d) n).bitTo (K.die_LINK_STAT d) lkFLUSHED true).line d = s1.line d := by
      simp [State.addTo]
    refine ⟨hLine.trans h1, fun e => by simp [State.addTo]; rfl, fun k hf hl => ?_, fun b hb => ?_⟩
    · exact (State.g_bitTo_ne _ _ _ hl).trans (State.g_addTo_ne _ _ hf)
    · refine (State.bit_bitTo_ne _ _ hb).trans (congrArg (bitAt · b) ?_)
      exact State.g_addTo_ne _ _ (by show 0x200190 + 256 * d ≠ 0x200194 + 256 * d; omega)

theorem LineRt.retryAt_discard (r : LineRt) (e : LineEnd) : (r.discard e).retryAt = r.retryAt := by cases e <;> rfl

/-- What a handshake that begins shows of its line, its die and its entries (R493, R496). -/
theorem State.beginResync_shows (s : State) {d : Nat} (e : LineEnd) (hd : d < 8) :
    ((s.beginResync d e).line d).up = false ∧ ((s.beginResync d e).line d).step = 1 ∧
    ((s.beginResync d e).line d).began = s.cyc ∧ ((s.beginResync d e).line d).retryAt = (s.line d).retryAt ∧
    (∀ e', stoppedDie (s.die e') ((s.beginResync d e).die e')) ∧
    bitAt ((s.beginResync d e).g (K.die_LINK_STAT d)) lkLINK_FAIL = bitAt (s.g (K.die_LINK_STAT d)) lkLINK_FAIL := by
  unfold State.beginResync
  extract_lets r first _ s1 s2
  have h1 : (s1.line d).up = false ∧ (s1.line d).step = 1 ∧ (s1.line d).began = s.cyc ∧
      (s1.line d).retryAt = (s.line d).retryAt := by
    have e1 : s1.line d = _ := State.line_setLine _ _ _
    rw [e1]
    refine ⟨rfl, rfl, rfl, ?_⟩
    exact r.retryAt_discard first
  have hLine : s2.line d = s1.line d := by simp [s2, State.setLink]
  have hDie : ∀ e', s2.die e' = s.die e' := fun e' => by simp [s2, State.setLink, s1]
  have hBit : bitAt (s2.g (K.die_LINK_STAT d)) lkLINK_FAIL = bitAt (s.g (K.die_LINK_STAT d)) lkLINK_FAIL := by
    refine (State.bit_setLink _ d 2 (by decide)).trans (congrArg (bitAt · lkLINK_FAIL) ?_)
    exact State.g_inc_ne _ (by show 0x200190 + 256 * d ≠ 0x200193 + 256 * d; omega)
  rw [← hLine] at h1
  clear_value s2
  obtain ⟨hUp, hStep, hBegan, hRetry⟩ := h1
  split
  · obtain ⟨hFl, hFd, -, hFb⟩ := s2.flush_shows d (r.held .d0)
    obtain ⟨hEl, hEd, hEg⟩ := (s2.flush d (r.held .d0)).endWaits_shows d
    rw [hEl, hFl]
    refine ⟨hUp, hStep, hBegan, hRetry, fun e' => ?_, ?_⟩
    · rw [← hDie e', ← hFd e']; exact hEd e'
    · rw [hEg _ (sharedKey_die (by decide) hd) (not_waitKey_die (by decide) hd), hFb _ (by decide), hBit]
  · exact ⟨hUp, hStep, hBegan, hRetry, fun e' => by rw [hDie e']; exact .refl _, hBit⟩

/-- What a follower that is declared lost shows (R496, R502). -/
theorem State.loseDie_shows {s : State} {d : Nat} (cause : Nat) (hd : d < 8) (hLost : (s.die d).lost = false) :
    ((s.loseDie d cause).die d).lost = true ∧ ((s.loseDie d cause).die d).lossCause = cause ∧
    ((s.loseDie d cause).line d).up = false ∧
    (s.loseDie d cause).g (K.die_CYC_CHECK_COUNT d) = s.g (K.die_CYC_CHECK_COUNT d) ∧
    bitAt ((s.loseDie d cause).g (K.die_LINK_STAT d)) lkLINK_FAIL = bitAt (s.g (K.die_LINK_STAT d)) lkLINK_FAIL := by
  unfold State.loseDie
  rw [if_neg (by rw [hLost]; decide)]
  extract_lets s1 _ s2 _ s3 s4
  have hKept : ∀ a, 0x200190 ≤ a ∧ a < 0x2001A3 → s1.g (a + 256 * d) = s.g (a + 256 * d) := fun a ha => by
    have hShared : sharedKey (a + 256 * d) = false := sharedKey_die (by omega) hd
    refine ((State.moves_stopDie (own := RunKey) (left := fun _ => False) (fun _ h => h) _ d 3).entries _ hShared
      (not_runKey_line ha hd)).trans ?_
    exact State.g_declare s 0 3 0 0x6020 [cause, d] hShared
  clear_value s1
  have h4 : (s4.die d).lost = true ∧ (s4.die d).lossCause = cause ∧ (s4.line d).up = false := by
    have hDie : s4.die d = s2.die d := by simp [s4, State.setLink, s3]
    have hLine : s4.line d = s3.line d := by simp [s4, State.setLink]
    rw [hDie, hLine, State.die_setDie, State.line_setLine]
    exact ⟨rfl, rfl, rfl⟩
  have hCheck : s4.g (K.die_CYC_CHECK_COUNT d) = s.g (K.die_CYC_CHECK_COUNT d) := by
    refine (State.g_p_ne _ _ (by show 0x200195 + 256 * d ≠ 0x2001A0 + 256 * d; omega)).trans ?_
    refine (State.g_bitTo_ne _ _ _ (by show 0x200195 + 256 * d ≠ 0x200190 + 256 * d; omega)).trans ?_
    exact (State.g_p_ne _ _ (by show 0x200195 + 256 * d ≠ 0x200190 + 256 * d; omega)).trans (hKept 0x200195 (by decide))
  have hBit : bitAt (s4.g (K.die_LINK_STAT d)) lkLINK_FAIL = bitAt (s.g (K.die_LINK_STAT d)) lkLINK_FAIL := by
    have e1 : s4.g (K.die_LINK_STAT d) = _ :=
      State.g_p_ne _ _ (by show 0x200190 + 256 * d ≠ 0x2001A0 + 256 * d; omega)
    rw [e1]
    refine (State.bit_bitTo_ne _ _ (by decide)).trans ((State.bit_setLink s3 d 1 (by decide)).trans ?_)
    exact congrArg (bitAt · lkLINK_FAIL) (hKept 0x200190 (by decide))
  clear_value s4
  obtain ⟨hEl, hEd, hEg⟩ := s4.endWaits_shows d
  have hField {β : Type} (f : DieRt → β) (hf) : f ((s4.endWaits d).die d) = f (s4.die d) := (hEd d).eq f hf
  rw [hField (·.lost) fun _ _ _ _ _ _ _ _ _ _ => rfl, hField (·.lossCause) fun _ _ _ _ _ _ _ _ _ _ => rfl, hEl,
    hEg _ (sharedKey_die (by decide) hd) (not_waitKey_die (by decide) hd),
    hEg _ (sharedKey_die (by decide) hd) (not_waitKey_die (by decide) hd)]
  exact ⟨h4.1, h4.2.1, h4.2.2, hCheck, hBit⟩

end Sys2Proof.Machine

/-! Frames on a guy line (R483 to R491). -/

namespace Sys2Proof.Machine

open Sys2Proof

theorem LineRt.lane_setLane (r : LineRt) (x : Lane) (v : LaneRt) : (r.setLane x v).lane x = v := by cases x <;> rfl

/-- The line fails: LINK_FAIL, and no traffic (R415, R491). -/
theorem State.failLine_shows {s : State} {d : Nat} (x : Lane) (hd : d < 8) :
    bitSet (s.failLine d x) (K.die_LINK_STAT d) lkLINK_FAIL ∧ ((s.failLine d x).line d).up = false := by
  unfold State.failLine
  extract_lets src s1 _ s2 s3
  have hBit : bitSet s2 (K.die_LINK_STAT d) lkLINK_FAIL := State.bit_bitTo_same _ _ _ (isLedKey_die (by decide) hd)
  clear_value s2
  have hBegun : ∀ e, bitSet (s2.beginResync d e) (K.die_LINK_STAT d) lkLINK_FAIL ∧
      ((s2.beginResync d e).line d).up = false := fun e => by
    obtain ⟨hUp, -, -, -, -, hFail⟩ := State.beginResync_shows (s := s2) e hd
    exact ⟨hFail.trans hBit, hUp⟩
  have h3 : bitSet s3 (K.die_LINK_STAT d) lkLINK_FAIL ∧ (s3.line d).up = false := hBegun _
  clear_value s3
  split
  · by_cases hLost : (s3.die d).lost = true
    · rw [State.loseDie, if_pos hLost]
      exact h3
    · obtain ⟨-, -, hLine, -, hKept⟩ := State.loseDie_shows 1 hd (by simpa using hLost)
      exact ⟨hKept.trans h3.1, hLine⟩
  · exact h3

/-- The guy line of a die is apart from the records of dies. -/
theorem State.line_wakeByLine (s : State) (d : Nat) (x : Lane) : (s.wakeByLine d x).line d = s.line d := by
  unfold State.wakeByLine
  extract_lets e
  split
  · exact s.wake_keeps e (·.line d) fun _ => rfl
  · rfl

theorem State.g_wakeByLine (s : State) (d : Nat) (x : Lane) (k : Nat) : (s.wakeByLine d x).g k = s.g k := by
  unfold State.wakeByLine
  extract_lets e
  split
  · exact s.g_wake e k
  · rfl

theorem State.badFrame_shows (s : State) {d : Nat} (x : Lane) (hd : d < 8) :
    (s.badFrame d x).g (K.die_CRC_ERR_COUNT d) = wrap32 (s.g (K.die_CRC_ERR_COUNT d) + 1) := by
  refine (State.g_onceEv _ _ _ _ _ _ _ (sharedKey_die (by decide) hd)).trans ?_
  refine (State.g_bitTo_ne _ _ _ (by show 0x200191 + 256 * d ≠ 0x200190 + 256 * d; omega)).trans ?_
  exact State.g_inc_same s (isLedKey_die (by decide) hd)

/-- The frame in flight of a lane that is up arrives at a die that takes it (R485, R488). -/
theorem State.receiveFrame_shows {s : State} {d : Nat} {x : Lane} (beats : List Nat) (hd : d < 8)
    (hUp : (s.line d).up = true)
    (hPower : s.pstate (recvDie d x) < 3) (hArrives : ((s.line d).lane x).arrives s.cyc = true) :
    match frameOf beats with
    | none => (s.receiveFrame d x beats).g (K.die_CRC_ERR_COUNT d) = wrap32 (s.g (K.die_CRC_ERR_COUNT d) + 1)
    | some (_, seq, words) => ((s.receiveFrame d x beats).line d).lane x = ((s.line d).lane x).take seq words := by
  unfold State.receiveFrame
  extract_lets r t
  rw [if_neg (by simp [r, hUp, hArrives]; omega)]
  cases frameOf beats with
  | none =>
    refine (State.badFrame_shows t x hd).trans (congrArg (fun v => wrap32 (v + 1)) ?_)
    exact s.g_wakeByLine d x _
  | some f => rw [State.line_setLine, LineRt.lane_setLane]

theorem LaneRt.toggled_completes {l : LaneRt} {now k tries e : Nat} {ws : List Nat}
    (h : l.flight = some (k, ws, tries, e))
    (h1 : cycReached now (cycPlus e 1) = true) (h8 : cycReached (cycPlus e 8) now = true) :
    l.toggled now = { l with ackDue := false, flight := none, idleFrom := cycPlus now 1 } := by
  unfold LaneRt.toggled
  rw [h]
  dsimp only
  rw [h1, h8]
  rfl

/-- Settles O20: a start, a receipt, an acknowledgement and a repeat each rewrite their lane of the line. -/
theorem lineTransfers : Obligations.LineTransfers := by
  unfold Obligations.LineTransfers
  refine ⟨fun s d x hPart hFollower hRuns hFlight hReady hIdle => ?_,
    fun s d x beats hPart hFollower hBeats hUp hPower hArrives => ?_,
    fun s d x k tries e ws hFollower hUp hAck hFlight h1 h8 => ?_,
    fun s d x k tries e ws hPart hFollower hUp hFlight h8 hNot => ?_⟩
  · have hd : d < 8 := lt_8_of_lt_dies hPart ((isFollower_iff s d).1 hFollower).2
    refine yields.fitted hFollower (.confined ?_)
    have hTurn : s.startLane d x = if ((s.line d).lane x).room (((s.line d).lane x).nextWords s.cyc) then
        (s.setLine d ((s.line d).setLane x (((s.line d).lane x).start s.cyc))).bitTo (K.die_LINK_STAT d) lkFREE_ZERO
            false
        else s.bitTo (K.die_LINK_STAT d) lkFREE_ZERO true := by
      unfold State.startLane
      exact if_neg (by simp [hRuns, hFlight, hReady, hIdle])
    rw [hTurn]
    by_cases hRoom : ((s.line d).lane x).room (((s.line d).lane x).nextWords s.cyc) = true
    · rw [if_pos hRoom, if_pos hRoom]
      refine ⟨?_, ?_⟩
      · rw [State.line_keepCore, State.line_bitTo, State.line_setLine, LineRt.lane_setLane]
      · exact (congrArg (bitAt · lkFREE_ZERO) (State.g_keepCore _ _ (isLedKey_die (by decide) hd))).trans
          (State.bit_bitTo_same _ _ _ (isLedKey_die (by decide) hd))
    · rw [if_neg hRoom, if_neg hRoom]
      refine ⟨?_, ?_⟩
      · rw [State.line_keepCore, State.line_bitTo]
      · exact (congrArg (bitAt · lkFREE_ZERO) (State.g_keepCore _ _ (isLedKey_die (by decide) hd))).trans
          (State.bit_bitTo_same _ _ _ (isLedKey_die (by decide) hd))
  · have hd : d < 8 := lt_8_of_lt_dies hPart ((isFollower_iff s d).1 hFollower).2
    have hBytes : beats.any (fun b => decide (256 ≤ b)) = false := by
      rw [List.any_eq_false]
      intro b hb
      have := hBeats b hb
      simpa using this
    have hExec : exec (.glFrameReceived d x beats) s = confined s (s.receiveFrame d x beats) := by
      show execGlFrameReceived d x beats s = _
      unfold execGlFrameReceived
      rw [ifFitted, if_pos hFollower, hBytes]
      rfl
    rw [hExec]
    refine .confined ?_
    have h := State.receiveFrame_shows beats hd hUp hPower hArrives
    revert h
    cases frameOf beats with
    | none => exact fun h => (State.g_keepCore _ _ (isLedKey_die (by decide) hd)).trans h
    | some f =>
      obtain ⟨kind, seq, words⟩ := f
      intro h
      dsimp only at h ⊢
      rw [State.line_keepCore, h]
      unfold LaneRt.take
      by_cases hSeq : ((s.line d).lane x).lastSeq = some seq
      · rw [if_pos hSeq, if_pos hSeq]
        exact ⟨rfl, rfl⟩
      · rw [if_neg hSeq, if_neg hSeq]
        intro hRoom
        rw [if_pos hRoom]
        exact ⟨rfl, rfl, rfl⟩
  · refine yields.fitted hFollower (yields.whenTrue (by simp [hUp, hAck]) ?_)
    rw [State.line_keepCore, State.line_setLine, LineRt.lane_setLane, LaneRt.toggled_completes hFlight h1 h8]
    exact ⟨rfl, rfl⟩
  · have hd : d < 8 := lt_8_of_lt_dies hPart ((isFollower_iff s d).1 hFollower).2
    refine yields.fitted hFollower (.confined ?_)
    have hTurn : s.ackLate d x = if 4 ≤ tries then s.failLine d x else
        (s.setLine d ((s.line d).setLane x { (s.line d).lane x with
          flight := some (k, ws, tries + 1, cycPlus e (8 + frameBeats ws.length)) })).inc (K.die_RETRY_COUNT d) := by
      unfold State.ackLate
      simp only [hFlight]
      rw [if_neg (by simp only [hUp, h8, Bool.not_true, Bool.false_or]; simpa using hNot)]
    rw [hTurn]
    by_cases hTries : tries < 4
    · rw [if_pos hTries, if_neg (by omega)]
      refine ⟨?_, ?_⟩
      · rw [State.line_keepCore, State.line_inc, State.line_setLine, LineRt.lane_setLane]
      · exact (State.g_keepCore _ _ (isLedKey_die (by decide) hd)).trans
          (State.g_inc_same _ (isLedKey_die (by decide) hd))
    · rw [if_neg hTries, if_pos (by omega)]
      obtain ⟨hFail, hDown⟩ := State.failLine_shows (s := s) x hd
      exact ⟨(congrArg (bitAt · lkLINK_FAIL) (State.g_keepCore _ _ (isLedKey_die (by decide) hd))).trans hFail, hDown⟩

end Sys2Proof.Machine

/-! The handshake of a guy line, and what D0 supervises over it (R493 to R502). -/

namespace Sys2Proof.Machine

open Sys2Proof

/-- A SYNC_REQ that finds no handshake makes D0 answer it, and is counted (R493). -/
theorem State.syncReq_shows {s : State} {d : Nat} (n : Nat) (hd : d < 8) (hStep : (s.line d).step = 0) :
    ((s.syncReq d .d0 n).line d).step = 2 ∧ ((s.syncReq d .d0 n).line d).up = false ∧
    ((s.syncReq d .d0 n).line d).first = .follower ∧
    (s.syncReq d .d0 n).g (K.die_RESYNC_COUNT d) = wrap32 (s.g (K.die_RESYNC_COUNT d) + 1) := by
  have hNone : (s.line d).step = 0 ∨ (s.line d).first = .d0 := .inl hStep
  have hNot : ¬ (2 ≤ (s.line d).step ∧ (s.line d).first = .follower) := by omega
  unfold State.syncReq
  extract_lets r _ s1 s2 s3
  rw [if_neg hNot]
  have h1 : (s1.line d).up = false ∧ (s1.line d).first = .follower ∧
      s1.g (K.die_RESYNC_COUNT d) = s.g (K.die_RESYNC_COUNT d) := by
    unfold s1
    rw [if_pos hNone]
    have e1 : ∀ l : LineRt, ((s.setLine d l).setLink d 2).line d = l := fun l =>
      (State.line_p _ _ _ _).trans (State.line_setLine _ _ _)
    rw [e1]
    exact ⟨rfl, rfl, State.g_p_ne _ _ (by show 0x200193 + 256 * d ≠ 0x200190 + 256 * d; omega)⟩
  clear_value s1
  have h2 : (s2.line d).up = false ∧ (s2.line d).first = .follower ∧
      s2.g (K.die_RESYNC_COUNT d) = wrap32 (s.g (K.die_RESYNC_COUNT d) + 1) := by
    unfold s2
    rw [if_pos hStep, State.line_inc, ← h1.2.2]
    exact ⟨h1.1, h1.2.1, State.g_inc_same s1 (isLedKey_die (by decide) hd)⟩
  clear_value s2
  have hFlush : ∀ (t : State) (m : Nat), ((t.flush d m).line d).up = (t.line d).up ∧
      ((t.flush d m).line d).first = (t.line d).first ∧
      (t.flush d m).g (K.die_RESYNC_COUNT d) = t.g (K.die_RESYNC_COUNT d) := fun t m => by
    obtain ⟨hl, -, hg, -⟩ := t.flush_shows d m
    rw [hl]
    exact ⟨rfl, rfl, hg _ (by show 0x200193 + 256 * d ≠ 0x200194 + 256 * d; omega)
      (by show 0x200193 + 256 * d ≠ 0x200190 + 256 * d; omega)⟩
  have hEnd : ∀ t : State, ((t.flushD0 d).line d).up = (t.line d).up ∧ ((t.flushD0 d).line d).first = (t.line d).first ∧
      (t.flushD0 d).g (K.die_RESYNC_COUNT d) = t.g (K.die_RESYNC_COUNT d) := fun t => by
    unfold State.flushD0
    extract_lets m
    obtain ⟨hl, -, hg⟩ := ((t.setLine d ((t.line d).discard .d0)).flush d m).endWaits_shows d
    obtain ⟨hUp, hFirst, hCount⟩ := hFlush (t.setLine d ((t.line d).discard .d0)) m
    rw [hl, hg _ (sharedKey_die (by decide) hd) (not_waitKey_die (by decide) hd), hCount]
    refine ⟨hUp.trans ?_, hFirst.trans ?_, rfl⟩
    · rw [State.line_setLine]; rfl
    · rw [State.line_setLine]; rfl
  have h3 : (s3.line d).up = false ∧ (s3.line d).first = .follower ∧
      s3.g (K.die_RESYNC_COUNT d) = wrap32 (s.g (K.die_RESYNC_COUNT d) + 1) := by
    obtain ⟨hUp, hFirst, hCount⟩ := hEnd (s2.flush d n)
    obtain ⟨hUp2, hFirst2, hCount2⟩ := hFlush s2 n
    exact ⟨hUp.trans (hUp2.trans h2.1), hFirst.trans (hFirst2.trans h2.2.1), hCount.trans (hCount2.trans h2.2.2)⟩
  clear_value s3
  rw [State.line_setLine]
  exact ⟨rfl, h3.1, h3.2.1, h3.2.2⟩

/-- SYNC_ACK restarts SEQ and sends SYNC_DONE (R493). -/
theorem State.syncAck_shows {s : State} {d : Nat} (n : Nat) (h : (s.line d).step = 2) :
    ((s.syncAck d (s.line d).first n).line d).step = 3 ∧ ((s.syncAck d (s.line d).first n).line d).outward.seq = 0 ∧
    ((s.syncAck d (s.line d).first n).line d).inward.seq = 0 := by
  unfold State.syncAck
  extract_lets r fresh s1
  rw [if_neg (by simp [r, h])]
  have h1 : (s1.line d).step = 3 ∧ (s1.line d).outward.seq = 0 ∧ (s1.line d).inward.seq = 0 := by
    have e1 : s1.line d = _ := State.line_setLine _ _ _
    rw [e1]
    exact ⟨rfl, rfl, rfl⟩
  split
  · rw [(s1.flush_shows d n).1]
    exact h1
  · exact h1

/-- SYNC_DONE lets traffic resume, and the line fault ends (R493, R508). -/
theorem State.syncDone_shows {s : State} {d : Nat} {e : LineEnd} (hd : d < 8) (hStep : (s.line d).step = 3)
    (hFirst : (s.line d).first ≠ e) :
    ((s.syncDone d e).line d).step = 0 ∧ ((s.syncDone d e).line d).up = true ∧ ((s.syncDone d e).line d).serial = 0 ∧
    bitClear (s.syncDone d e) (K.die_LINK_STAT d) lkLINK_FAIL := by
  unfold State.syncDone
  extract_lets r data s1
  rw [if_neg (by simp [r, hStep, hFirst])]
  have h1 : (s1.line d).step = 0 ∧ (s1.line d).up = true ∧ (s1.line d).serial = 0 ∧
      bitClear s1 (K.die_LINK_STAT d) lkLINK_FAIL := by
    have e1 : s1.line d = _ :=
      (State.line_bitTo _ _ _ _ _).trans ((State.line_p _ _ _ _).trans (State.line_setLine _ _ _))
    rw [e1]
    exact ⟨rfl, rfl, rfl, State.bit_bitTo_same _ _ _ (isLedKey_die (by decide) hd)⟩
  clear_value s1
  have hKept : ∀ t, logsOnly s1 t → (t.line d).step = 0 ∧ (t.line d).up = true ∧ (t.line d).serial = 0 ∧
      bitClear t (K.die_LINK_STAT d) lkLINK_FAIL := fun t ht => by
    rw [ht.line, bitClear, ht.entries _ (sharedKey_die (by decide) hd)]
    exact h1
  split
  · exact hKept _ (.ofQuiet (.ev _ _ _ _ _ _))
  · exact hKept _ (.endFault _ _ _ _ _ _ _)

/-- Settles O21: each step of the handshake rewrites the record of its line. -/
theorem linesResynchronise : Obligations.LinesResynchronise := by
  unfold Obligations.LinesResynchronise
  refine ⟨fun s d n hFollower hStep hFirst => ?_, fun s d n hPart hFollower hStep => ?_,
    fun s d n e hFollower hStep hFirst => ?_, fun s d e hPart hFollower hStep hFirst => ?_,
    fun s d e hFollower hStep hSender hDue => ?_⟩
  · refine yields.fitted hFollower (.confined ?_)
    have hTurn : s.syncReq d .follower n =
        s.setLine d { (s.line d).discard .follower with step := max (s.line d).step 2, syncAt := s.cyc } := by
      unfold State.syncReq
      exact if_neg (by simp [hStep, hFirst])
    rw [hTurn, State.line_keepCore, State.line_setLine]
    exact ⟨rfl, rfl, rfl⟩
  · have hd : d < 8 := lt_8_of_lt_dies hPart ((isFollower_iff s d).1 hFollower).2
    refine yields.fitted hFollower (.confined ?_)
    rw [State.line_keepCore, State.g_keepCore _ _ (isLedKey_die (by decide) hd)]
    exact State.syncReq_shows n hd hStep
  · subst hFirst
    refine yields.fitted hFollower (.confined ?_)
    rw [State.line_keepCore]
    exact State.syncAck_shows n hStep
  · have hd : d < 8 := lt_8_of_lt_dies hPart ((isFollower_iff s d).1 hFollower).2
    refine yields.fitted hFollower (.confined ?_)
    rw [State.line_keepCore, bitClear, State.g_keepCore _ _ (isLedKey_die (by decide) hd)]
    exact State.syncDone_shows hd hStep hFirst
  · refine yields.fitted hFollower (yields.whenTrue ⟨hStep, hSender, hDue⟩ ?_)
    rw [State.line_keepCore, State.line_setLine]

-- supervision

/-- D0 counts a cycle check, and loses a die whose CYC differs (R502). -/
theorem State.checkCyc_shows {s : State} {d c : Nat} (v : Nat) (hd : d < 8) (hSent : (s.line d).cycSent = some c)
    (hLost : (s.die d).lost = false) :
    (s.checkCyc d v).g (K.die_CYC_CHECK_COUNT d) = wrap32 (s.g (K.die_CYC_CHECK_COUNT d) + 1) ∧
    if v = c then ((s.checkCyc d v).die d).lost = false
    else ((s.checkCyc d v).die d).lost = true ∧ ((s.checkCyc d v).die d).lossCause = 2 := by
  unfold State.checkCyc
  rw [hSent]
  dsimp -zeta only
  extract_lets _ s1
  have hCount : s1.g (K.die_CYC_CHECK_COUNT d) = wrap32 (s.g (K.die_CYC_CHECK_COUNT d) + 1) :=
    State.g_inc_same _ (isLedKey_die (by decide) hd)
  have hDie : s1.die d = s.die d := State.die_inc _ _ _
  clear_value s1
  rw [← hDie] at hLost
  by_cases hv : v = c
  · rw [if_pos hv, if_pos hv]
    exact ⟨hCount, hLost⟩
  · rw [if_neg hv, if_neg hv]
    obtain ⟨h1, h2, -, h4, -⟩ := State.loseDie_shows 2 hd hLost
    exact ⟨h4.trans hCount, h1, h2⟩

/-- What a filter over the keys drops is not found any more. -/
theorem Tab.look_filter_dropped {α : Type} (t : Tab α) (d : α) {p : Nat × α → Bool} {k : Nat}
    (h : ∀ v, p (k, v) = false) :
    Tab.look (t.filter p) d k = d := by
  induction t with
  | nil => rfl
  | cons e r ih =>
    obtain ⟨j, v⟩ := e
    rw [List.filter_cons]
    split
    next hp =>
      have hj : j ≠ k := by rintro rfl; rw [h v] at hp; exact absurd hp (by decide)
      simpa [Tab.look, hj] using ih
    · exact ih

/-- Settles O22: a line that does not come up loses its die, and the timers of a line move its record. -/
theorem linesSupervise : Obligations.LinesSupervise := by
  unfold Obligations.LinesSupervise
  refine ⟨fun s d hPart hFollower hStep hLate hLost hNot => ?_, fun s d c hPart hFollower hLost hCause hStep hUp hRetry
      hDue => ?_,
    fun s d hFollower hUp hPower hLine hTime => ?_, fun s d c v hPart hFollower hUp hSent hLost => ?_,
    fun s d hFollower hUp hPower => ?_⟩
  · have hd : d < 8 := lt_8_of_lt_dies hPart ((isFollower_iff s d).1 hFollower).2
    refine yields.fitted hFollower (.confined ?_)
    have hTurn : s.resyncLate d = s.loseDie d 1 := by
      unfold State.resyncLate
      exact (if_neg (by simp only [hStep, hLate, Bool.not_true, Bool.false_eq_true, false_or]; exact hNot)).trans
        (if_neg (by rw [hLost]; decide))
    rw [hTurn, State.die_keepCore]
    obtain ⟨h1, h2, -⟩ := State.loseDie_shows 1 hd hLost
    exact ⟨h1, h2⟩
  · have hd : d < 8 := lt_8_of_lt_dies hPart ((isFollower_iff s d).1 hFollower).2
    have hExec : exec (.resyncRetry d) s = confined s
        ((s.setLine d { s.line d with retryAt := some (cycPlus s.cyc cycPerSecond) }).beginResync d .d0) := by
      show execResyncRetry d s = _
      unfold execResyncRetry
      rw [ifFitted, if_pos hFollower]
      dsimp only
      rw [hRetry]
      exact congrArg (confined s) (if_pos (by simp [hLost, hCause, hStep, hUp, hDue]))
    rw [hExec]
    refine .confined ?_
    obtain ⟨-, hStep', hBegan, hAt, -⟩ := State.beginResync_shows .d0 hd
      (s := s.setLine d { s.line d with retryAt := some (cycPlus s.cyc cycPerSecond) })
    rw [State.line_keepCore]
    refine ⟨hStep', hBegan, hAt.trans ?_⟩
    rw [State.line_setLine]
  · refine yields.fitted hFollower (yields.whenTrue (by rw [hUp, hPower, hLine, hTime]; rfl) ?_)
    rw [State.line_keepCore]
    unfold State.putWords
    extract_lets _ r l
    have hr : r = { s.line d with cycSent := some s.cyc } := State.line_setLine _ _ _
    have hl : l.tx = (s.line d).inward.tx := congrArg (fun q => q.inward.tx) hr
    split
    next hRoom =>
      rw [State.line_setLine]
      refine ⟨by rw [hr]; rfl, fun _ => ?_⟩
      show l.tx ++ _ = _
      rw [hl]
      rfl
    next hRoom =>
      rw [State.line_setLine]
      refine ⟨rfl, fun h => absurd ?_ hRoom⟩
      rw [hl]
      exact h
  · have hd : d < 8 := lt_8_of_lt_dies hPart ((isFollower_iff s d).1 hFollower).2
    refine yields.fitted hFollower (yields.whenTrue hUp ?_)
    rw [State.die_keepCore, State.g_keepCore _ _ (isLedKey_die (by decide) hd)]
    exact State.checkCyc_shows v hd hSent hLost
  · refine yields.fitted hFollower (.confined fun k hk => ?_)
    have hTurn : (s.sendCounters d).lag = s.lag.filter (fun e => decide (keyDie e.1 ≠ d)) := by
      unfold State.sendCounters
      rw [if_pos (by simp [hUp, hPower])]
    show Tab.look (s.sendCounters d).lag 0 k = 0
    rw [hTurn]
    exact Tab.look_filter_dropped _ _ fun v => by simp [hk]

end Sys2Proof.Machine

/-! A follower's responses and the timeout of an access that waits for one (R44, R45, R492). -/

namespace Sys2Proof.Machine

open Sys2Proof

/-- An answer leaves the dies' records but for their kiln-log queues. -/
theorem State.die_answer (s : State) (who : Orig) (abort : Nat) (data : List Nat) (e : Nat) :
    sameQueue (s.die e) ((s.answer who abort data).die e) := by
  unfold State.answer
  extract_lets s1
  cases who with
  | host =>
    dsimp only
    split
    · exact rfl
    · exact rfl
  | can =>
    dsimp only
    split
    · split
      · exact (sends.uploadCan s1 _ _ _).dies e
      · exact (sends.finishCan s1 _ _ _).dies e
    · exact rfl
  | internal => exact rfl
  | boundary => exact rfl

theorem State.die_unstage (s : State) (w : FollowWait) (e : Nat) : (s.unstage w).die e = s.die e := by
  unfold State.unstage
  extract_lets o f
  split
  · rfl
  split
  · rfl
  · exact foldl_keeps (·.die e) (fun t _ => State.die_p t _ _ e) _ _

/-- An access that fails leaves the lines and the dies' counts, and an internal one reads its abort code. -/
theorem State.failWait_shows (s : State) (w : FollowWait) (d : Nat) :
    (s.failWait w).line d = s.line d ∧ ((s.failWait w).die d).count = (s.die d).count ∧
    (w.who = .internal → (s.failWait w).resp = abFollow) := by
  have hMoves : State.moves waitKey (fun _ => False) s (s.failWait w) :=
    (State.moves_unstage (fun _ h => h) s w).trans (State.moves_answer _ _ _ _)
  refine ⟨hMoves.lines d id, ?_, fun hWho => ?_⟩
  · exact (((s.unstage w).die_answer w.who abFollow [] d).eq (·.count) fun _ _ => rfl).trans
      (congrArg DieRt.count (s.die_unstage w d))
  · exact ((s.unstage w).answer_shows abFollow [] (by rw [hWho]; decide)).1

/-- An access that has been answered leaves of each line all but the accesses that wait, and the dies' records. -/
theorem State.dropWaits_shows (s : State) (w : FollowWait) (d : Nat) :
    (∃ ws, (s.dropWaits w).line d = { s.line d with waits := ws }) ∧ (s.dropWaits w).die d = s.die d := by
  unfold State.dropWaits
  refine ⟨?_, foldl_keeps (fun u : State => u.die d) ?_ _ s⟩
  case refine_2 => exact fun _ _ => rfl
  generalize List.range s.dies = l
  induction l generalizing s with
  | nil => exact ⟨_, rfl⟩
  | cons e r ih =>
    obtain ⟨ws, h⟩ := ih (s.setLine e { s.line e with
      waits := (s.line e).waits.filter (fun v => !(decide (v.key = w.key) && decide (v.who = w.who))) })
    refine ⟨ws, h.trans ?_⟩
    by_cases hd : d = e
    · subst hd
      rw [State.line_setLine]
    · rw [State.line_setLine_ne _ _ hd]

/-- What the timeout of the oldest access of a line shows (R44, R492). -/
theorem State.followerLate_shows {s : State} {d : Nat} {w : FollowWait} {rest : List FollowWait}
    (hWaits : (s.line d).waits = w :: rest) (hDue : cycReached s.cyc w.exp = true)
    (hNot : ¬ (s.cyc = w.exp ∧ s.responseComing d = true)) :
    ((s.followerLate d).line d).late = (s.line d).late ++ [s.nextSerial 0] ∧
    ((s.followerLate d).die 0).count = nextCount (s.die 0).count ∧
    ((s.followerLate d).line d).outward = (s.line d).outward.cancelRepeats ∧
    (w.who = .internal → (s.followerLate d).resp = abFollow) := by
  unfold State.followerLate
  extract_lets r serial
  have hr : r.waits = w :: rest := hWaits
  simp -zeta only [hr]
  extract_lets s1 _ s2
  have hCount1 : (s1.die 0).count = nextCount (s.die 0).count := State.count_declare s 0 3 0 _ _
  clear_value s1
  rw [if_neg (by simp only [hDue, Bool.not_true, Bool.false_or]; simpa using hNot)]
  have h2 : (s2.line d).late = (s.line d).late ++ [s.nextSerial 0] ∧
      (s2.line d).outward = (s.line d).outward.cancelRepeats := by
    rw [State.line_setLine]
    exact ⟨rfl, rfl⟩
  have hCount : (s2.die 0).count = nextCount (s.die 0).count := hCount1
  clear_value s2
  have hq : quiet s2 (s2.react 0 2 d 0x6014 serial [b01 r.outward.repeating]) := .react _ _ _ _ _ _ _
  generalize s2.react 0 2 d 0x6014 serial [b01 r.outward.repeating] = s3 at hq
  obtain ⟨hLine, -, hResp⟩ := (s3.dropWaits w).failWait_shows w d
  obtain ⟨-, hDie, -⟩ := (s3.dropWaits w).failWait_shows w 0
  obtain ⟨⟨ws, hDrop⟩, -⟩ := s3.dropWaits_shows w d
  have hLine3 : s3.line d = s2.line d := (logsOnly.ofQuiet hq).line d
  rw [hLine, hDrop, hLine3, hDie, (s3.dropWaits_shows w 0).2, (hq.dies 0).eq (·.count) fun _ _ => rfl]
  exact ⟨h2.1, hCount, h2.2, hResp⟩

theorem LaneRt.flight_cancelRepeats {l : LaneRt} (h : l.repeating = true) : l.cancelRepeats.flight = none := by
  unfold LaneRt.cancelRepeats
  rw [if_pos h]

/-- Settles O23: the oldest access of a line is answered or given up, and a late response only ends its mark. -/
theorem followersAnswer : Obligations.FollowersAnswer := by
  unfold Obligations.FollowersAnswer
  refine ⟨fun s d w rest hFollower hUp hLate hWaits => ?_, fun s d serial rest hFollower hUp hLate => ?_,
    fun s d w rest hPart hFollower hWaits hDue hNot => ?_⟩
  · refine yields.fitted hFollower (yields.whenTrue hUp ?_)
    have hTurn : s.followerAnswers d = if (s.setLine d { s.line d with waits := rest }).stillWaits w then
        s.setLine d { s.line d with waits := rest }
        else (s.setLine d { s.line d with waits := rest }).answer w.who w.abort w.data := by
      unfold State.followerAnswers
      simp only [hLate, hWaits]
    rw [hTurn]
    by_cases hStill : (s.setLine d { s.line d with waits := rest }).stillWaits w = true
    · rw [if_pos hStill]
      refine ⟨?_, fun h => absurd (hStill.symm.trans h) (by decide)⟩
      rw [State.line_keepCore, State.line_setLine]
    · rw [if_neg hStill]
      refine ⟨?_, fun _ hWho => ?_⟩
      · rw [State.line_keepCore, (State.moves_answer (own := fun _ => False) (left := fun _ => False) _ _ _ _).lines d
          id,
          State.line_setLine]
      · obtain ⟨hResp, hData, -⟩ := (s.setLine d { s.line d with waits := rest }).answer_shows w.abort w.data
          (show w.who ≠ .boundary by rw [hWho]; decide)
        exact ⟨hResp, hData⟩
  · refine yields.fitted hFollower (yields.whenTrue hUp ?_)
    have hTurn : s.followerAnswers d = (s.setLine d { s.line d with late := rest }).react 0 2 d 0x6015 serial [] := by
      unfold State.followerAnswers
      simp only [hLate]
    rw [hTurn]
    have hq : quiet (s.setLine d { s.line d with late := rest })
        ((s.setLine d { s.line d with late := rest }).react 0 2 d 0x6015 serial []) := .react _ _ _ _ _ _ _
    refine ⟨?_, hq.eq (·.resp) fun _ _ _ _ _ _ => rfl, hq.eq (·.respData) fun _ _ _ _ _ _ => rfl⟩
    rw [State.line_keepCore, (logsOnly.ofQuiet hq).line, State.line_setLine]
  · refine yields.fitted hFollower (.confined ?_)
    obtain ⟨hLate, hCount, hOut, hResp⟩ := State.followerLate_shows hWaits hDue hNot
    refine ⟨hLate, hCount, fun hRep => ?_, hResp⟩
    rw [State.line_keepCore, hOut]
    exact LaneRt.flight_cancelRepeats hRep

end Sys2Proof.Machine
end

section
/-! What reading a store leaves; the starts of a follower, its watchdog and its March runs. -/

/-! What reading and comparing a store's lines leaves, and a follower's own start. -/

namespace Sys2Proof.Machine

open Sys2Proof

-- the stores

/-- The entries that show a store, and the count of the snapshots it keeps. -/
def storeKey (k : Nat) : Prop := (0x2B0000 ≤ k ∧ k < 0x2B0100) ∨ k = K.snap_SNAP_COUNT

/-- Of `s`, the state `t` differs at most by its stores and what they hold, the entries that show them, kiln-log entries
raised and faults declared. -/
structure State.storesOnly (s t : State) : Prop where
  rest : t = { s with
    od := t.od, net := t.net, lag := t.lag, dieRt := t.dieRt, once := t.once, standing := t.standing, stores := t.stores
    saved := t.saved, bill := t.bill }
  entries : ∀ k, sharedKey k = false → ¬ storeKey k → t.g k = s.g k
  dies : ∀ d, sameDie (s.die d) (t.die d)

namespace State.storesOnly

theorem refl (s : State) : storesOnly s s := ⟨rfl, fun _ _ _ => rfl, fun _ => rfl⟩

theorem trans {s t u : State} (a : storesOnly s t) (b : storesOnly t u) : storesOnly s u where
  rest := by rw [b.rest, a.rest]
  entries k h n := (b.entries k h n).trans (a.entries k h n)
  dies d := by
    have ha := a.dies d
    have hb := b.dies d
    unfold sameDie at *
    rw [hb, ha]

theorem eq {β : Type} {s t : State} (h : storesOnly s t) (f : State → β)
    (hf : ∀ od net lag dieRt once standing stores saved bill, f { s with
      od := od, net := net, lag := lag, dieRt := dieRt, once := once, standing := standing, stores := stores
      saved := saved, bill := bill } = f s) : f t = f s := by
  rw [h.rest]; exact hf _ _ _ _ _ _ _ _ _

theorem line {s t : State} (h : storesOnly s t) (d : Nat) : t.line d = s.line d :=
  h.eq (·.line d) fun _ _ _ _ _ _ _ _ _ => rfl

theorem ofLogs {s t : State} (h : logsOnly s t) : storesOnly s t where
  rest := by rw [h.rest]
  entries k hk _ := h.entries k hk
  dies := h.dies

theorem ofQuiet {s t : State} (h : quiet s t) : storesOnly s t := ofLogs (.ofQuiet h)

theorem p (s : State) {k : Nat} (v : Nat) (h : storeKey k) : storesOnly s (s.p k v) where
  rest := by unfold State.p; split <;> rfl
  entries j _ hj := State.g_p_ne s v (by rintro rfl; exact hj h)
  dies d := by simp [sameDie]

theorem setStore (s : State) (n : Nat) (r : StoreRt) : storesOnly s (s.setStore n r) :=
  ⟨rfl, fun _ _ _ => rfl, fun _ => rfl⟩

theorem foldl {β : Type} (f : State → β → State) (hf : ∀ s b, storesOnly s (f s b)) (l : List β) (s : State) :
    storesOnly s (l.foldl f s) := by
  induction l generalizing s with
  | nil => exact refl s
  | cons b r ih => exact (hf s b).trans (ih _)

theorem foldlMem {β : Type} {f : State → β → State} (l : List β) (hf : ∀ s, ∀ b ∈ l, storesOnly s (f s b)) (s : State) :
    storesOnly s (l.foldl f s) := by
  induction l generalizing s with
  | nil => exact refl s
  | cons b r ih =>
    exact (hf s b List.mem_cons_self).trans (ih (fun s b hb => hf s b (List.mem_cons_of_mem _ hb)) _)

theorem syncStore (s : State) : storesOnly s s.syncStore := by
  unfold State.syncStore State.ps
  refine foldlMem _ (fun u e he => .p u _ (.inl ?_)) s
  simp only [List.mem_cons, List.not_mem_nil, or_false] at he
  rcases he with rfl | rfl | rfl | rfl | rfl | rfl | rfl | rfl | rfl | rfl | rfl
  all_goals
    dsimp only
    decide

theorem putStore (s : State) (d : Nat) (r : StoreRt) : storesOnly s (s.putStore d r) :=
  (setStore s d r).trans (syncStore _)

theorem queueLines (s : State) (d : Nat) (l : List (Nat × List Nat)) : storesOnly s (s.queueLines d l) := by
  unfold State.queueLines
  extract_lets batches r
  clear_value batches
  split
  · split
    · exact refl s
    · exact putStore s d _
  · exact putStore s d _

theorem rewriteCopy (s : State) (d : Nat) (o : StoreObj) (copy used : Nat) :
    storesOnly s (s.rewriteCopy d o copy used) :=
  ((setStore s d _).trans (queueLines _ d _)).trans (.ofQuiet (.ev _ _ _ _ _ _))

theorem setSaved (s : State) (l : Tab (List Nat)) : storesOnly s { s with saved := l } :=
  ⟨rfl, fun _ _ _ => rfl, fun _ => rfl⟩

theorem setBill (s : State) (b : BillRt) : storesOnly s { s with bill := b } := ⟨rfl, fun _ _ _ => rfl, fun _ => rfl⟩

theorem loseObject (s : State) (d : Nat) (o : StoreObj) : storesOnly s (s.loseObject d o) := by
  have h : storesOnly s (s.declare d 2 d 0x4005 [o.code]) := .ofLogs (.declare _ _ _ _ _ _)
  unfold State.loseObject
  extract_lets t snaps
  have ht : storesOnly s t := h
  clear_value t
  split
  · exact (ht.trans (setBill t _)).trans (p _ (k := K.snap_SNAP_COUNT) _ (.inr rfl))
  split
  · exact ht.trans (setSaved t _)
  · exact ht.trans (setSaved t _)

theorem resolveObject (s : State) (d : Nat) (o : StoreObj) : storesOnly s (s.resolveObject d o) := by
  unfold State.resolveObject
  extract_lets r a b aOk bOk
  split
  · exact refl s
  split
  · exact rewriteCopy s d o b a
  split
  · exact rewriteCopy s d o a b
  split
  · exact loseObject s d o
  · exact refl s

theorem lineLost (s : State) (d line : Nat) : storesOnly s (s.lineLost d line) := by
  unfold State.lineLost
  split
  · exact refl s
  · exact (setStore s d _).trans (resolveObject _ d _)

theorem readLine (s : State) (d line : Nat) (o : LineOutcome) (scrub : Bool) :
    storesOnly s (s.readLine d line o scrub).1 := by
  unfold State.readLine
  extract_lets r rewrite
  have hRewrite : ∀ t, storesOnly t (rewrite t) := fun t => by
    unfold rewrite
    extract_lets q
    split
    · exact refl t
    · exact putStore t d _
  clear_value rewrite
  cases o with
  | ok inner outer =>
    dsimp -zeta only
    split
    · extract_lets s1
      have h1 : storesOnly s s1 := putStore s d _
      clear_value s1
      split
      · exact h1.trans (hRewrite s1)
      · exact h1
    · exact ((putStore s d _).trans (.ofQuiet (.onceEv _ _ _ _ _ _ _))).trans (hRewrite _)
  | uncorrectable =>
    exact ((putStore s d _).trans (.ofLogs (.declare _ _ _ _ _ _))).trans (lineLost _ d line)

theorem recoverObjects (s : State) (d : Nat) : storesOnly s (s.recoverObjects d) :=
  foldl _ (fun t o => resolveObject t d o) _ s

theorem gatherLine (s : State) (d line : Nat) (data : List Nat) : storesOnly s (s.gatherLine d line data) :=
    putStore s d _

theorem recoverGather (s : State) (d : Nat) : storesOnly s (s.recoverGather d) := by
  unfold State.recoverGather
  extract_lets r p user s1 s2 s3
  have h1 : storesOnly s s1 := putStore s d _
  clear_value s1
  have h2 : storesOnly s1 s2 := by
    unfold s2
    split
    · exact refl s1
    · exact .ofQuiet (.ev _ _ _ _ _ _)
  clear_value s2
  exact ((h1.trans h2).trans (foldl _ (fun t o => resolveObject t d o) _ s2)).trans
    (foldl _ (fun t l => gatherLine t d l _) _ _)

theorem startScrub (s : State) (d : Nat) (x : DieStart) : storesOnly s (s.startScrub d x) := by
  unfold State.startScrub
  extract_lets t
  have ht : storesOnly s t :=
    (foldl (fun t (e : Nat × List WordErr) => (t.readLine d e.1 (decodeLine e.2) true).1)
      (fun t e => readLine t d e.1 _ true) x.scrub s).trans (recoverObjects _ d)
  clear_value t
  exact ht.trans (putStore t d _)

end State.storesOnly

theorem not_storeKey_power {d : Nat} : ¬ storeKey (K.sup_PWR_STATE d) := by
  show ¬ ((0x2B0000 ≤ 0x300028 + d ∧ 0x300028 + d < 0x2B0100) ∨ 0x300028 + d = 0x262001)
  omega

end Sys2Proof.Machine

/-! The start of a follower, its watchdog, and the end of a March run (R473 to R478, R544 to R556). -/

namespace Sys2Proof.Machine

open Sys2Proof

-- what the steps of a start leave of a line

@[simp] theorem State.line_ps (s : State) (l : List (Nat × Nat)) (d : Nat) : (s.ps l).line d = s.line d :=
  foldl_keeps (·.line d) (fun t _ => State.line_p t _ _ d) l s

theorem State.line_marchResult (s : State) (d mode stat : Nat) (l : List MarchRead) (e : Nat) :
    (s.marchResult d mode stat l).line e = s.line e := by
  unfold State.marchResult
  extract_lets n s1
  have h1 : s1.line e = s.line e := State.line_ps _ _ _
  clear_value s1
  split
  · exact ((logsOnly.declare _ _ _ _ _ _).line e).trans h1
  split
  · exact ((logsOnly.ofQuiet (quiet.ev _ _ _ _ _ _)).line e).trans h1
  · exact h1

theorem State.line_coldMarch (s : State) (d : Nat) (x : DieStart) (base e : Nat) :
    (s.coldMarch d x base).line e = s.line e := by
  unfold State.coldMarch
  split
  · rfl
  · refine (State.line_marchResult _ _ _ _ _ _).trans ((State.line_setBank _ _ _ _).trans ?_)
    exact (State.line_bitTo _ _ _ _ _).trans (State.line_p _ _ _ _)

theorem State.line_rejectImage (s : State) (d : Nat) (x : DieStart) (e : Nat) :
    (s.rejectImage d x).line e = s.line e := by
  unfold State.rejectImage
  extract_lets one
  have hOne : ∀ t, (one t).line e = t.line e := fun t => (logsOnly.declare _ _ _ _ _ _).line e
  clear_value one
  split
  · rfl
  split
  · exact (hOne _).trans (hOne _)
  · exact hOne _

theorem State.line_calIdle (s : State) (d e : Nat) : (s.calIdle d).line e = s.line e := by simp [State.calIdle]

theorem State.line_endFull (s : State) (d : Nat) (rs : List CalRes) (e : Nat) : (s.endFull d rs).line e = s.line e := by
  unfold State.endFull
  split
  · exact ((logsOnly.ofQuiet (quiet.ev _ _ _ _ _ _)).line e).trans (State.line_calIdle _ _ _)
  · exact ((logsOnly.ofQuiet (quiet.ev _ _ _ _ _ _)).line e).trans
      ((State.line_p _ _ _ _).trans (State.line_calIdle _ _ _))

theorem State.line_startCal (s : State) (d : Nat) (x : DieStart) (base e : Nat) :
    (s.startCal d x base).line e = s.line e := by
  unfold State.startCal
  refine (State.line_bitTo _ _ _ _ _).trans ((State.line_endFull _ _ _ _).trans ((State.line_p _ _ _ _).trans ?_))
  simp [State.startFull]

theorem State.line_startTrim (s : State) (d : Nat) (x : DieStart) (e : Nat) : (s.startTrim d x).line e = s.line e := by
  unfold State.startTrim State.pi
  refine (State.line_bitTo _ _ _ _ _).trans (((logsOnly.ofQuiet (quiet.ev _ _ _ _ _ _)).line e).trans ?_)
  exact (State.line_p _ _ _ _).trans (State.line_p _ _ _ _)

/-- A line that is trained is up (R493, R547). -/
theorem State.up_trainLine (s : State) (d : Nat) : ((s.trainLine d).line d).up = true := by
  unfold State.trainLine
  extract_lets fresh r s1
  have h1 : (s1.line d).up = true := by
    have e1 : s1.line d = _ := State.line_setLine _ _ _
    rw [e1]
  clear_value s1
  rw [(logsOnly.ofQuiet (quiet.ev _ _ _ _ _ _)).line, State.setLink, State.line_p, State.line_inc]
  exact h1

/-- A die that runs (R537, R552). -/
theorem State.dieStarted_shows (s : State) (d was : Nat) : ((s.dieStarted d was).die d).up = true ∧
    ((s.dieStarted d was).die d).lost = false ∧ (s.dieStarted d was).pstate d = 0 ∧
    ((s.dieStarted d was).die d).march = (s.die d).march ∧ ∀ e, (s.dieStarted d was).line e = s.line e := by
  unfold State.dieStarted
  extract_lets r s1 s2
  have h2 : (s2.die d).up = true ∧ (s2.die d).lost = false ∧ (s2.die d).march = (s.die d).march := by
    have e2 : s2.die d = _ := (State.die_p _ _ _ _).trans (State.die_setDie _ _ _)
    rw [e2]
    exact ⟨rfl, rfl, rfl⟩
  have hLine : ∀ e, s2.line e = s.line e := fun e => by
    rw [State.line_p, State.line_setDie]
    rfl
  clear_value s2
  split
  · rw [State.die_p]
    exact ⟨h2.1, h2.2.1, State.g_p_same s2 0 (isLedKey_power d), h2.2.2, fun e =>
        (State.line_p _ _ _ e).trans (hLine e)⟩
  · obtain ⟨hPower, hDie⟩ := (s2.p (K.sup_PWR_STATE d) was).toPower_shows d 0 2
    have hSame : sameDie (s2.die d) (((s2.p (K.sup_PWR_STATE d) was).toPower d 0 2).die d) := by
      have := hDie d
      rwa [State.die_p] at this
    refine ⟨(hSame.eq (·.up) fun _ _ _ => rfl).trans h2.1, (hSame.eq (·.lost) fun _ _ _ => rfl).trans h2.2.1, hPower,
      (hSame.eq (·.march) fun _ _ _ => rfl).trans h2.2.2, fun e => ?_⟩
    unfold State.toPower
    exact ((logsOnly.ofQuiet (quiet.ev _ _ _ _ _ _)).line e).trans
      ((State.line_p _ _ _ e).trans ((State.line_p _ _ _ e).trans (hLine e)))

theorem failCause_of_startsWell {x : DieStart} (march : Bool) (h : startsWell x) : failCause march true x = 0 := by
  obtain ⟨hCause, hCyc, hMarch, hTrim⟩ := h
  unfold failCause
  simp [hCause, hCyc, hMarch, hTrim]

/-- A follower runs on a trained line, and is not lost (R547, R556). -/
def State.followerRuns (s : State) (d : Nat) : Prop :=
  (s.die d).up = true ∧ (s.die d).lost = false ∧ s.pstate d = 0 ∧ (s.line d).up = true

theorem State.followerRuns_ofStores {s t : State} {d : Nat} (h : storesOnly s t) (hs : s.followerRuns d) :
    t.followerRuns d := by
  obtain ⟨hUp, hLost, hPower, hLine⟩ := hs
  refine ⟨((h.dies d).eq (·.up) fun _ _ _ => rfl).trans hUp, ((h.dies d).eq (·.lost) fun _ _ _ => rfl).trans hLost,
    (h.entries _ (sharedKey_power d) not_storeKey_power).trans hPower, ?_⟩
  rw [h.line]
  exact hLine

/-- The start of a follower in which nothing goes wrong (R547, R556). -/
theorem State.startFollower_runs (s : State) (d base was : Nat) {x : DieStart} (h : startsWell x) :
    (s.startFollower d x base was).followerRuns d := by
  unfold State.startFollower
  extract_lets c s0 s1 s2 s3 s4 serial s5
  have hc : c = 0 := failCause_of_startsWell _ h
  rw [hc]
  clear_value s0
  have h1 : (s1.line d).up = true := by
    have e1 : s1.line d = (s0.trainLine d).line d := State.line_p _ _ _ _
    rw [e1]
    exact s0.up_trainLine d
  clear_value s1
  have h2 : s2.line d = s1.line d := s1.line_coldMarch d x base d
  clear_value s2
  have h3 : s3.line d = s2.line d := by
    unfold s3
    have hScrub : (s2.startScrub d x).line d = s2.line d := (storesOnly.startScrub s2 d x).line d
    generalize s2.startScrub d x = t at hScrub
    exact (State.line_rejectImage _ _ _ _).trans hScrub
  clear_value s3
  have h4 : s4.line d = s3.line d := s3.line_startCal d x base d
  clear_value s4
  have h5 : s5.followerRuns d := by
    unfold s5
    have hTrim : ((s4.startTrim d x).bitTo (K.die_LINK_STAT d) lkDIE_LOST false).line d = s1.line d := by
      rw [State.line_bitTo, State.line_startTrim, h4, h3, h2]
    generalize (s4.startTrim d x).bitTo (K.die_LINK_STAT d) lkDIE_LOST false = t at hTrim
    obtain ⟨hUp, hLost, hPower, -, hLine⟩ := t.dieStarted_shows d was
    refine ⟨hUp, hLost, hPower, ?_⟩
    rw [hLine, hTrim]
    exact h1
  clear_value s5 serial
  rw [if_neg (by decide), if_neg (by decide), if_neg (by decide), if_neg (by decide), if_neg (by decide),
      if_neg (by decide)]
  split
  · exact h5
  · exact State.followerRuns_ofStores (.ofLogs (.endFault _ _ _ _ _ _ _)) h5

theorem State.coldFollower_runs (s : State) (d : Nat) {x : DieStart} (h : startsWell x) :
    (s.coldFollower d x).followerRuns d := by
  unfold State.coldFollower
  extract_lets s1
  have h1 : s1.followerRuns d := State.startFollower_runs _ d _ _ h
  clear_value s1
  refine State.followerRuns_ofStores (.ofQuiet (.syncErr _)) ?_
  split
  · exact h1
  · exact State.followerRuns_ofStores (.recoverGather s1 d) h1

end Sys2Proof.Machine

/-! A follower's starts, watchdogs and March runs as the row's commands serve them. -/

namespace Sys2Proof.Machine

open Sys2Proof

-- the watchdog

/-- A watchdog that expires counts, and asks for a start (R544, R546). -/
theorem State.watchdog_shows (s : State) {d : Nat} (hd : d < 8) :
    (s.watchdog d).g (K.die_WD_COUNT d) = wrap32 (s.g (K.die_WD_COUNT d) + 1) ∧ ((s.watchdog d).die d).wdArmed = false ∧
    if d = 0 then (s.watchdog d).ready = false ∧
      ((s.watchdog d).die 0).trigger = ((s.die 0).triggered (if s.wdAgain then 4 else 7)).trigger
    else ((s.watchdog d).die d).up = false ∧ ((s.watchdog d).die d).trigger = 10 := by
  unfold State.watchdog
  extract_lets s1 r u s2 _
  have hCount : s1.g (K.die_WD_COUNT d) = wrap32 (s.g (K.die_WD_COUNT d) + 1) :=
    (State.g_inc_same _ (isLedKey_die (by decide) hd)).trans
      (congrArg (fun v => wrap32 (v + 1)) (State.g_declare s d 2 d 0x6035 [] (sharedKey_die (by decide) hd)))
  have hTrigger : (s1.die d).trigger = (s.die d).trigger := by
    have e1 : s1.die d = (s.declare d 2 d 0x6035 []).die d := State.die_inc _ _ _
    rw [e1]
    exact ((logsOnly.declare s d 2 d 0x6035 []).dies d).eq (·.trigger) fun _ _ _ => rfl
  clear_value s1
  by_cases h0 : d = 0
  · subst h0
    rw [if_pos rfl, if_pos rfl]
    have hLoop := State.syncLoop_own { u with ready := false, framing := false }
    refine ⟨?_, ?_, ?_, ?_⟩
    · exact (hLoop.entries _ (by decide) (by decide)).trans hCount
    · refine ((hLoop.dies 0).eq (·.wdArmed) fun _ _ _ => rfl).trans ?_
      exact congrArg DieRt.wdArmed (State.die_setDie s1 0 _)
    · exact hLoop.eq (·.ready) fun _ _ _ _ _ _ => rfl
    · refine ((hLoop.dies 0).eq (·.trigger) fun _ _ _ => rfl).trans ?_
      refine (congrArg DieRt.trigger (State.die_setDie s1 0 _)).trans ?_
      show (if r.trigger = 0 then _ else min r.trigger _) = if (s.die 0).trigger = 0 then _ else min (s.die 0).trigger _
      rw [show r.trigger = (s.die 0).trigger from hTrigger]
  · rw [if_neg h0, if_neg h0]
    have hStop : s2.g (K.die_WD_COUNT d) = s1.g (K.die_WD_COUNT d) :=
      (State.moves_stopDie (own := RunKey) (left := fun _ => False) (fun _ h => h) s1 d 2).entries _
        (sharedKey_die (by decide) hd) (not_runKey_line (by decide) hd)
    clear_value s2
    refine ⟨?_, ?_, ?_, ?_⟩
    · refine (State.g_p_ne _ _ (by show 0x2001A2 + 256 * d ≠ 0x2001A0 + 256 * d; omega)).trans ?_
      exact hStop.trans hCount
    · rw [State.die_p, State.die_setDie]
    · rw [State.die_p, State.die_setDie]
    · rw [State.die_p, State.die_setDie]

-- March runs

/-- What shows of a die's March run. -/
def State.marchShown (s : State) (d : Nat) : Nat × Nat × Nat × Nat :=
  ((s.die d).march, s.g (K.die_MARCH_STAT d), s.g (K.die_MARCH_FAIL_COUNT d), s.g (K.die_MARCH_FIRST_FAIL d))

/-- The entries that show a March run's outcome. -/
def outcomeKey (d k : Nat) : Prop := K.die_MARCH_STAT d ≤ k ∧ k ≤ K.die_MARCH_FIRST_FAIL d

theorem State.marchShown_p (s : State) (d : Nat) {k : Nat} (v : Nat) (h : ¬ outcomeKey d k) :
    (s.p k v).marchShown d = s.marchShown d := by
  have hKept : ∀ a, 0x200181 ≤ a ∧ a ≤ 0x200183 → (s.p k v).g (a + 256 * d) = s.g (a + 256 * d) := fun a ha =>
    State.g_p_ne s v fun he => h (by
      subst he
      show 0x200181 + 256 * d ≤ a + 256 * d ∧ a + 256 * d ≤ 0x200183 + 256 * d
      omega)
  unfold State.marchShown
  rw [State.die_p, hKept _ (by decide), hKept _ (by decide), hKept _ (by decide)]

theorem State.marchShown_ofLogs {s t : State} {d : Nat} (h : logsOnly s t) (hd : d < 8) :
    t.marchShown d = s.marchShown d := by
  have hKept : ∀ a, 0x200181 ≤ a ∧ a ≤ 0x200183 → t.g (a + 256 * d) = s.g (a + 256 * d) := fun a ha =>
    h.entries _ (sharedKey_die (by omega) hd)
  unfold State.marchShown
  rw [hKept _ (by decide), hKept _ (by decide), hKept _ (by decide), (h.dies d).eq (·.march) fun _ _ _ => rfl]

theorem State.marchShown_setDie (s : State) (d n : Nat) {r : DieRt} (h : r.march = (s.die n).march) :
    (s.setDie n r).marchShown d = s.marchShown d := by
  have hDie : ((s.setDie n r).die d).march = (s.die d).march := by
    by_cases hn : d = n
    · subst hn
      rw [State.die_setDie, h]
    · rw [State.die_setDie_ne s r hn]
  unfold State.marchShown
  rw [hDie]
  rfl

theorem State.marchShown_setPath (s : State) (d n : Nat) (r : PathRt) :
    (s.setPath n r).marchShown d = s.marchShown d := rfl
theorem State.marchShown_setPort (s : State) (d n : Nat) (r : PortRt) :
    (s.setPort n r).marchShown d = s.marchShown d := rfl
theorem State.marchShown_setChan (s : State) (d n : Nat) (r : ChanRt) :
    (s.setChan n r).marchShown d = s.marchShown d := rfl
theorem State.marchShown_setPulse (s : State) (d n : Nat) (r : PulseRt) :
    (s.setPulse n r).marchShown d = s.marchShown d := rfl

theorem State.marchShown_syncChain (s : State) (d c : Nat) : (s.syncChain c).marchShown d = s.marchShown d := by
  unfold State.syncChain
  extract_lets n old
  refine foldl_keeps (fun u : State => u.marchShown d) (fun u j => ?_) _ _
  extract_lets m
  have hKey : ¬ outcomeKey d (K.chan_KIND m) := by
    show ¬ (0x200181 + 256 * d ≤ 0x230001 + 256 * m ∧ 0x230001 + 256 * m ≤ 0x200183 + 256 * d)
    omega
  split
  · exact u.marchShown_p d _ hKey
  split
  · exact u.marchShown_p d _ hKey
  · rfl

theorem State.marchShown_syncUsed (s : State) (d e : Nat) : (s.syncUsed e).marchShown d = s.marchShown d := by
  unfold State.syncUsed
  extract_lets used
  have hEach : ∀ l : List Nat, (∀ i ∈ l, i < 16) → ∀ u : State, (l.foldl (fun t i =>
      if t.bit (K.die_PIN_STAT e i) 4 = decide (i ∈ used) then t
      else t.bitTo (K.die_PIN_STAT e i) 4 (decide (i ∈ used))) u).marchShown d = u.marchShown d := fun l => by
    induction l with
    | nil => exact fun _ _ => rfl
    | cons i r ih =>
      intro hl u
      have hi : i < 16 := hl i List.mem_cons_self
      refine (ih (fun j hj => hl j (List.mem_cons_of_mem _ hj)) _).trans ?_
      dsimp only
      split
      · rfl
      · refine u.marchShown_p d _ ?_
        show ¬ (0x200181 + 256 * d ≤ 0x200152 + 256 * e + i ∧ 0x200152 + 256 * e + i ≤ 0x200183 + 256 * d)
        omega
  exact hEach _ (fun i hi => List.mem_range.1 hi) s

/-- What stops on a die that no March run occupies leaves what its last one shows. -/
theorem State.marchShown_stopDie {s : State} {d : Nat} (target : Nat) (h : (s.die d).march = 0) :
    (s.stopDie d target).marchShown d = s.marchShown d := by
  have hPaths : (s.stopPaths d).marchShown d = s.marchShown d :=
    (foldl_keeps (fun u : State => u.marchShown d) (fun _ _ => State.marchShown_setPort _ _ _ _) _ _).trans
      (foldl_keeps (fun u : State => u.marchShown d) (fun _ _ => State.marchShown_setPath _ _ _ _) _ _)
  have hSense : ∀ t : State, (t.stopSense d).marchShown d = t.marchShown d := fun t => by
    unfold State.stopSense
    extract_lets t1
    have h1 : t1.marchShown d = t.marchShown d := by
      refine foldl_keeps (fun u : State => u.marchShown d) (fun u k => ?_) _ t
      extract_lets c _ v
      have hv : v.marchShown d = u.marchShown d := State.marchShown_setChan _ _ _ _
      split
      · exact ((State.marchShown_syncUsed _ d d).trans (State.marchShown_syncChain v d c)).trans hv
      · exact hv
    clear_value t1
    refine (State.marchShown_setDie t1 d d ?_).trans h1
    rfl
  have hCal : ∀ t : State, (t.stopCal d).marchShown d = t.marchShown d := fun t => by
    unfold State.stopCal State.calIdle
    extract_lets r _
    split
    · rfl
    · refine (State.marchShown_p _ d _ ?_).trans
        ((State.marchShown_setDie _ d d ?_).trans (State.marchShown_setDie t d d ?_))
      case refine_2 => rfl
      case refine_3 => rfl
      show ¬ (0x200181 + 256 * d ≤ 0x200121 + 256 * d ∧ 0x200121 + 256 * d ≤ 0x200183 + 256 * d)
      omega
  have hMarch : ∀ t : State, t.marchShown d = s.marchShown d → (t.stopMarch d).marchShown d = s.marchShown d :=
      fun t ht => by
    have hNone : (t.die d).march = 0 := (congrArg Prod.fst ht).trans h
    unfold State.stopMarch
    rw [if_pos hNone]
    exact ht
  unfold State.stopDie
  extract_lets s1
  have h1 : s1.marchShown d = s.marchShown d := hMarch _ ((hCal _).trans ((hSense _).trans hPaths))
  clear_value s1
  split
  · exact h1
  · exact (foldl_keeps (fun u : State => u.marchShown d) (fun _ _ => State.marchShown_setPulse _ _ _ _) _ s1).trans h1

end Sys2Proof.Machine

/-! The end of a March run, and the starts of a follower. -/

namespace Sys2Proof.Machine

open Sys2Proof

-- the end of a March run

theorem not_outcomeKey {a b d : Nat} (ha : a < 0x200181 ∨ 0x200183 < a) (hb : a < 0x200200 ∧ 0x200100 ≤ a)
    (h : b = a + 256 * d) :
    ¬ outcomeKey d b := by
  show ¬ (0x200181 + 256 * d ≤ b ∧ b ≤ 0x200183 + 256 * d)
  omega

theorem State.marchShown_setLine (s : State) (d n : Nat) (r : LineRt) :
    (s.setLine n r).marchShown d = s.marchShown d := rfl

theorem State.marchShown_setLink (s : State) (d v : Nat) : (s.setLink d v).marchShown d = s.marchShown d :=
  s.marchShown_p d _ (not_outcomeKey (a := 0x200190) (by decide) (by decide) rfl)

/-- The end of the accesses of a line leaves what March runs show. -/
theorem State.marchShown_endWaits (s : State) {d : Nat} (hd : d < 8) :
    (s.endWaits d).marchShown d = s.marchShown d := by
  have hMoves : State.moves waitKey (fun _ => False) (s.setLine d { s.line d with waits := [] }) (s.endWaits d) :=
    State.moves_endWaits (fun _ h => h) s d
  have hKept : ∀ a, 0x200181 ≤ a ∧ a ≤ 0x200183 → (s.endWaits d).g (a + 256 * d) = s.g (a + 256 * d) := fun a ha =>
    hMoves.entries _ (sharedKey_die (by omega) hd) (not_waitKey_die (by omega) hd)
  have hMarch : ((s.endWaits d).die d).march = (s.die d).march := by
    have hEach : ∀ (l : List FollowWait) (u : State),
        ((l.foldl (fun t w => t.failWait w) u).die d).march = (u.die d).march := fun l u =>
      foldl_keeps (fun t : State => (t.die d).march) (fun t w =>
        (((t.unstage w).die_answer w.who abFollow [] d).eq (·.march) fun _ _ => rfl).trans
          (congrArg DieRt.march (t.die_unstage w d))) l u
    exact hEach _ _
  unfold State.marchShown
  rw [hMarch, hKept _ (by decide), hKept _ (by decide), hKept _ (by decide)]

/-- A die that is lost while no March run occupies it keeps what its last one shows. -/
theorem State.marchShown_loseDie {s : State} {d : Nat} (cause : Nat) (hd : d < 8) (h : (s.die d).march = 0) :
    (s.loseDie d cause).marchShown d = s.marchShown d := by
  unfold State.loseDie
  split
  · rfl
  · extract_lets s1 _ s2 _ s3 s4
    have hDeclared : (s.declare 0 3 0 0x6020 [cause, d]).marchShown d = s.marchShown d :=
      State.marchShown_ofLogs (.declare _ _ _ _ _ _) hd
    have h1 : s1.marchShown d = s.marchShown d :=
      (State.marchShown_stopDie 3 ((congrArg Prod.fst hDeclared).trans h)).trans hDeclared
    clear_value s1
    have h2 : s2.marchShown d = s.marchShown d := (State.marchShown_setDie s1 d d (by rfl)).trans h1
    clear_value s2
    have h4 : s4.marchShown d = s.marchShown d := by
      refine (State.marchShown_p _ d _ (not_outcomeKey (a := 0x2001A0) (by decide) (by decide) rfl)).trans ?_
      refine (State.marchShown_p _ d _ (not_outcomeKey (a := 0x200190) (by decide) (by decide) rfl)).trans ?_
      exact (State.marchShown_setLink s3 d 1).trans ((State.marchShown_setLine s2 d d _).trans h2)
    clear_value s4
    exact (State.marchShown_endWaits s4 hd).trans h4

theorem State.marchShown_failStart {s : State} {d : Nat} (cause : Nat) (hd : d < 8) (h : (s.die d).march = 0) :
    (s.failStart d cause).marchShown d = s.marchShown d := by
  unfold State.failStart
  split
  · extract_lets _ _ s1
    have h1 : s1.marchShown d = s.marchShown d :=
      (State.marchShown_setLine _ d d _).trans (State.marchShown_setDie s d d (by rfl))
    clear_value s1
    refine (State.marchShown_p _ d _ (not_outcomeKey (a := 0x2001A0) (by decide) (by decide) rfl)).trans ?_
    exact (State.marchShown_setLink s1 d 1).trans h1
  · exact State.marchShown_loseDie cause hd h

theorem State.marchShown_dieStarted (s : State) {d : Nat} (was : Nat) (hd : d < 8) :
    (s.dieStarted d was).marchShown d = s.marchShown d := by
  unfold State.dieStarted
  extract_lets r s1 s2
  have h1 : s1.marchShown d = s.marchShown d := (State.marchShown_setDie (s.driveGpio d) d d (by rfl)).trans rfl
  have h2 : s2.marchShown d = s.marchShown d :=
    (State.marchShown_p _ d _ (not_outcomeKey (a := 0x2001A0) (by decide) (by decide) rfl)).trans h1
  have hPower : ∀ (t : State) (v : Nat), (t.p (K.sup_PWR_STATE d) v).marchShown d = t.marchShown d := fun t v =>
    t.marchShown_p d v (by
      show ¬ (0x200181 + 256 * d ≤ 0x300028 + d ∧ 0x300028 + d ≤ 0x200183 + 256 * d)
      omega)
  clear_value s2
  split
  · exact (hPower _ _).trans h2
  · unfold State.toPower
    refine (State.marchShown_ofLogs (.ofQuiet (.ev _ _ _ _ _ _)) hd).trans ?_
    exact (hPower _ _).trans ((hPower _ _).trans h2)

/-- A follower that boots its image again keeps what its March run shows (R475, R478). -/
theorem State.marchShown_bootAgain {s : State} {d : Nat} (x : DieStart) (hd : d < 8) (h : (s.die d).march = 0) :
    (s.bootAgain d x).marchShown d = s.marchShown d := by
  unfold State.bootAgain
  extract_lets s1
  have h1 : s1.marchShown d = s.marchShown d := by
    unfold s1 State.rejectImage
    extract_lets one
    have hOne : ∀ t, (one t).marchShown d = t.marchShown d := fun t => State.marchShown_ofLogs (.declare _ _ _ _ _ _) hd
    clear_value one
    split
    · rfl
    split
    · exact (hOne _).trans (hOne _)
    · exact hOne _
  clear_value s1
  split
  · exact (State.marchShown_failStart x.cause hd ((congrArg Prod.fst h1).trans h)).trans h1
  · exact (State.marchShown_dieStarted s1 _ hd).trans h1

/-- The outcome of a March run shows (R478). -/
theorem State.marchShown_marchResult (s : State) {d : Nat} (mode stat : Nat) (l : List MarchRead) (hd : d < 8) :
    (s.marchResult d mode stat l).marchShown d = ((s.die d).march, stat, (marchFails l).length, marchFirst l) := by
  unfold State.marchResult
  extract_lets n s1
  have h1 : s1.marchShown d = ((s.die d).march, stat, n, marchFirst l) := by
    show (((s.p (K.die_MARCH_STAT d) stat).p (K.die_MARCH_FAIL_COUNT d) n).p (K.die_MARCH_FIRST_FAIL d)
      (marchFirst l)).marchShown d = _
    unfold State.marchShown
    rw [State.die_p, State.die_p, State.die_p, State.g_p_same _ _ (isLedKey_die (by decide) hd),
      State.g_p_ne _ _ (by show 0x200181 + 256 * d ≠ 0x200183 + 256 * d; omega),
      State.g_p_ne _ _ (by show 0x200181 + 256 * d ≠ 0x200182 + 256 * d; omega),
      State.g_p_same _ _ (isLedKey_die (by decide) hd),
      State.g_p_ne _ _ (by show 0x200182 + 256 * d ≠ 0x200183 + 256 * d; omega),
      State.g_p_same _ _ (isLedKey_die (by decide) hd)]
  clear_value s1
  split
  · exact (State.marchShown_ofLogs (.declare _ _ _ _ _ _) hd).trans h1
  split
  · exact (State.marchShown_ofLogs (.ofQuiet (.ev _ _ _ _ _ _)) hd).trans h1
  · exact h1

/-- How a March run ended (R477, R478). -/
theorem State.marchDone_shows (s : State) {d : Nat} (l : List MarchRead) (hd : d < 8) :
    (s.marchDone d l).marchShown d = (0,
      (if (s.die d).marchStop then 5 else if marchFails l = [] then 3 else 4), (marchFails l).length,
          marchFirst l) := by
  unfold State.marchDone
  extract_lets r s1
  have h1 : (s1.die d).march = 0 := by
    have e1 : s1.die d = _ := (State.die_bitTo _ _ _ _ _).trans (State.die_setDie _ _ _)
    rw [e1]
  clear_value s1
  have hClear : ((if r.march = 1 then s1.clearBank d else s1).die d).march = 0 := by
    split
    · exact h1
    · exact h1
  refine (State.marchShown_marchResult _ _ _ _ hd).trans ?_
  rw [hClear]
  rfl

/-- Settles O25: a start that finds nothing wrong leaves the follower running on a trained line. -/
theorem followerStarts : Obligations.FollowerStarts := by
  unfold Obligations.FollowerStarts
  refine ⟨fun s d x hPart hFollower hOk hChip hLost hWell => ?_,
    fun s d c x hPart hFollower hOk hChip hLost hRetry hDue hWhy hWell => ?_, fun s d hPart hd hDue => ?_,
    fun s d hPart hFollower hUp hLost hStart => ?_, fun s d reads x hPart hd hOk hReads hRan => ?_⟩
  · have hExec : exec (.followerPor d x) s = starting s (s.coldFollower d x) := by
      show execFollowerPor d x s = _
      unfold execFollowerPor
      rw [ifFitted, if_pos hFollower, hOk]
      exact congrArg (starting s) (if_pos (by rw [hChip, hLost]; rfl))
    rw [hExec]
    have h := State.coldFollower_runs s d hWell
    generalize s.coldFollower d x = t at h
    exact yields_starting h
  · have hExec : exec (.followerRestartRetry d x) s = starting s (s.coldFollower d x) := by
      show execFollowerRestartRetry d x s = _
      unfold execFollowerRestartRetry
      rw [ifFitted, if_pos hFollower, hOk]
      simp only [hRetry]
      refine congrArg (starting s) (if_pos ?_)
      rw [hChip, hLost, hDue]
      simpa [or_assoc] using hWhy
    rw [hExec]
    have h := State.coldFollower_runs s d hWell
    generalize s.coldFollower d x = t at h
    exact yields_starting h
  · have h8 : d < 8 := lt_8_of_lt_dies hPart hd
    refine yields.fitted (by simpa using hd) (yields.whenTrue hDue ?_)
    have h := s.watchdog_shows h8
    generalize s.watchdog d = t at h
    rw [State.g_keepCore _ _ (isLedKey_die (by decide) h8)]
    exact h
  · have h8 : d < 8 := lt_8_of_lt_dies hPart ((isFollower_iff s d).1 hFollower).2
    refine yields.fitted hFollower (yields.whenTrue (by simp [hUp, hLost, hStart]) ?_)
    obtain ⟨h1, h2, -⟩ := State.loseDie_shows 7 h8 hLost
    rw [State.die_keepCore]
    exact ⟨h1, h2⟩
  · have h8 : d < 8 := lt_8_of_lt_dies hPart hd
    have hDone := s.marchDone_shows reads h8
    have hShown : ∀ t : State, t.marchShown d = (s.marchDone d reads).marchShown d → yields (starting s t) fun t =>
        t.g (K.die_MARCH_STAT d) = (if (s.die d).marchStop then 5 else if marchFails reads = [] then 3 else 4) ∧
        t.g (K.die_MARCH_FAIL_COUNT d) = (marchFails reads).length ∧
        t.g (K.die_MARCH_FIRST_FAIL d) = marchFirst reads ∧ (t.die d).march = 0 := fun t ht => by
      have hAll := ht.trans hDone
      unfold State.marchShown at hAll
      obtain ⟨hMarch, hRest⟩ := Prod.mk.injEq .. ▸ hAll
      obtain ⟨hStat, hRest⟩ := Prod.mk.injEq .. ▸ hRest
      obtain ⟨hCount, hFirst⟩ := Prod.mk.injEq .. ▸ hRest
      exact yields_starting ⟨hStat, hCount, hFirst, hMarch⟩
    have hExec : exec (.marchRunDone d reads x) s = starting s
        (if (s.die d).march = 1 ∧ marchCycles ≤ cycDiff s.cyc (s.die d).marchFrom then (s.marchDone d reads).bootAgain
            d x
         else if (s.die d).march = 2 ∧ ((s.die d).marchStop ∨ marchBlocks ≤ cycDiff s.cyc (s.die d).marchFrom) then
           s.marchDone d reads
         else s) := by
      show execMarchRunDone d reads x s = _
      unfold execMarchRunDone
      rw [ifFitted, if_pos (by simpa using hd), hOk, hReads]
      rfl
    rw [hExec]
    rcases hRan with hOne | hTwo
    · rw [if_pos hOne]
      exact hShown _ (State.marchShown_bootAgain x h8 (congrArg Prod.fst hDone))
    · rw [if_neg (by omega), if_pos hTwo]
      exact hShown _ rfl

end Sys2Proof.Machine
end

section
/-! The kiln: the commit it takes, its checks, and its broadcast. -/

/-! The kiln: the commit it takes, its checks, and its broadcast (R409 to R419). -/

namespace Sys2Proof.Machine

open Sys2Proof

-- the commits that wait

theorem mem_of_mem_insertBy {α : Type} {le : α → α → Bool} {a b : α} {l : List α} (h : b ∈ insertBy le a l) : b = a ∨
    b ∈ l := by
  induction l with
  | nil => simpa [insertBy] using h
  | cons c r ih =>
    unfold insertBy at h
    split at h
    · simpa using h
    · rcases List.mem_cons.1 h with rfl | hr
      · exact .inr List.mem_cons_self
      · exact (ih hr).imp id (List.mem_cons_of_mem _)

theorem mem_of_mem_sortBy {α : Type} {le : α → α → Bool} {b : α} {l : List α} (h : b ∈ sortBy le l) : b ∈ l := by
  induction l with
  | nil => exact h
  | cons a r ih =>
    rcases mem_of_mem_insertBy h with rfl | hr
    · exact List.mem_cons_self
    · exact List.mem_cons_of_mem _ (ih hr)

/-- A commit that waits is one of an originator, in COMMITTING (R409). -/
theorem State.waits_of_mem {s : State} {o : Nat} (h : o ∈ s.waitingFires) : o ≤ 2 ∧ s.fireState o = 2 := by
  have hMem := List.mem_filter.1 (mem_of_mem_sortBy h)
  simp only [List.mem_cons, List.not_mem_nil, or_false, Bool.and_eq_true, decide_eq_true_eq] at hMem
  obtain ⟨hNo, hState, -⟩ := hMem
  exact ⟨by omega, hState⟩

-- a commit that fails

/-- A commit that fails shows its RESULT and holds no stage (R411, R412). -/
theorem State.failFire_shows (s : State) {o : Nat} (v : Verdict) (ho : o ≤ 2) :
    (s.failFire o v).g (K.fire_FIRE_STAT o) = fireStat 6 v.result 0 ∧ ((s.failFire o v).fire o).stages = [] := by
  unfold State.failFire
  extract_lets id t
  have ht : t.g (K.fire_FIRE_STAT o) = fireStat 6 v.result 0 ∧ (t.fire o).stages = [] :=
    ⟨s.fireStat_dropFire _ _ ho, s.stages_dropFire _ _ _⟩
  clear_value t
  have hCounted : ∀ (k : Nat) (data : List Nat) (event : Nat), K.fire_FIRE_STAT o ≠ k →
      ((t.inc k).evChip event data).g (K.fire_FIRE_STAT o) = fireStat 6 v.result 0 ∧
      (((t.inc k).evChip event data).fire o).stages = [] := fun k data event hk => by
    rw [State.g_evChip _ _ _ (sharedKey_fireStat ho), State.g_inc_ne _ hk, (logsOnly.ofQuiet (quiet.evChip _ _ _)).fire,
      State.fire_inc]
    exact ht
  split
  · exact hCounted _ _ _ (by show 0x2A0004 + o ≠ 0x2A0018; omega)
  split
  · exact hCounted _ _ _ (by show 0x2A0004 + o ≠ 0x2A0019; omega)
  · exact ht

-- a commit that starts

/-- What a general commit that starts shows: with its checks passed its broadcast is placed, else it ends in FAILED
(R409 to R413). -/
theorem State.startCommit_shows {s : State} {o : Nat} (h : o ∈ s.waitingFires) :
    if (s.judge o).result = 0 then
      ((s.startCommit o).fire o).start = some s.cyc ∧
      ((s.startCommit o).fire o).castAt = cycPlus s.cyc (s.fire o).span ∧ (s.startCommit o).fireState o = 2 ∧
      ((s.startCommit o).fire o).bank = if (s.fire o).pSlots = 0 then none else s.bankFree
    else (s.startCommit o).g (K.fire_FIRE_STAT o) = fireStat 6 (s.judge o).result 0 ∧
      ((s.startCommit o).fire o).stages = [] := by
  obtain ⟨ho, hState⟩ := State.waits_of_mem h
  unfold State.startCommit
  extract_lets v f bank t
  have ht : (t.fire o).start = some s.cyc ∧ (t.fire o).castAt = cycPlus s.cyc (s.fire o).span ∧ t.fireState o = 2 ∧
      (t.fire o).bank = if (s.fire o).pSlots = 0 then none else s.bankFree := by
    have hFire : t.fire o = _ := State.fire_setFire _ _ _
    rw [hFire]
    exact ⟨rfl, rfl, hState, rfl⟩
  clear_value t bank
  by_cases hv : (s.judge o).result = 0
  · rw [if_pos hv, if_neg (not_not.2 hv)]
    cases bank with
    | none => exact ht
    | some n => exact ht
  · rw [if_neg hv, if_pos hv]
    exact s.failFire_shows v ho

/-- The boundary firing starts (R402, R418). -/
theorem State.startBoundary_shows (s : State) (b : Boundary) :
    (s.startBoundary b).g K.fire_BOUND_STAT = fireStat 2 0 0 ∧
    (s.startBoundary b).g K.fire_BOUND_ID = 0xC000 + (if 16383 ≤ s.bill.seq then 1 else s.bill.seq + 1) ∧
    (s.startBoundary b).bill.queue.head? =
      some { b with start := some s.cyc, cast := false, applyAt := cycPlus s.cyc 129 } := by
  unfold State.startBoundary
  extract_lets seq _ q
  have hTwo : ∀ (t : State) (v w : Nat),
      (t.ps [(K.fire_BOUND_ID, v), (K.fire_BOUND_STAT, w)]).g K.fire_BOUND_STAT = w ∧
      (t.ps [(K.fire_BOUND_ID, v), (K.fire_BOUND_STAT, w)]).g K.fire_BOUND_ID = v ∧
      (t.ps [(K.fire_BOUND_ID, v), (K.fire_BOUND_STAT, w)]).bill = t.bill := fun t v w =>
    ⟨State.g_p_same (t.p K.fire_BOUND_ID v) w (by decide),
      (State.g_p_ne (t.p K.fire_BOUND_ID v) (k := K.fire_BOUND_STAT) w (by decide)).trans
          (State.g_p_same t v (by decide)),
      foldl_keeps (fun u : State => u.bill) (fun _ _ => by simp) _ t⟩
  obtain ⟨hStat, hId, hBill⟩ := hTwo _ _ _
  refine ⟨hStat, hId, ?_⟩
  rw [hBill]
  rfl

-- the broadcast

/-- What the broadcast of another firing, or of the boundary's, leaves of a firing: its record, its state, the time, and
which dies are lost. -/
structure State.keepsFire (o : Nat) (s t : State) : Prop where
  fire : t.fire o = s.fire o
  stat : t.g (K.fire_FIRE_STAT o) = s.g (K.fire_FIRE_STAT o)
  cyc : t.cyc = s.cyc
  lost : ∀ d, (t.die d).lost = (s.die d).lost

namespace State.keepsFire

variable {o : Nat}

theorem refl (s : State) : keepsFire o s s := ⟨rfl, rfl, rfl, fun _ => rfl⟩

theorem trans {s t u : State} (a : keepsFire o s t) (b : keepsFire o t u) : keepsFire o s u :=
  ⟨b.fire.trans a.fire, b.stat.trans a.stat, b.cyc.trans a.cyc, fun d => (b.lost d).trans (a.lost d)⟩

theorem state {s t : State} (h : keepsFire o s t) : t.fireState o = s.fireState o := State.fireState_congr h.stat

theorem ofQuiet {s t : State} (ho : o ≤ 2) (h : quiet s t) : keepsFire o s t where
  fire := (logsOnly.ofQuiet h).fire o
  stat := h.entries _ (sharedKey_fireStat ho)
  cyc := h.eq (·.cyc) fun _ _ _ _ _ _ => rfl
  lost d := (h.dies d).eq (·.lost) fun _ _ => rfl

theorem p (s : State) {k : Nat} (v : Nat) (h : K.fire_FIRE_STAT o ≠ k) : keepsFire o s (s.p k v) :=
  ⟨State.fire_p _ _ _ _, State.g_p_ne s v h, by simp, fun d => by simp⟩

theorem inc (s : State) {k : Nat} (h : K.fire_FIRE_STAT o ≠ k) : keepsFire o s (s.inc k) :=
  ⟨State.fire_inc _ _ _, State.g_inc_ne s h, by simp, fun d => by simp⟩

theorem setFire (s : State) {q : Nat} (r : FireRt) (h : o ≠ q) : keepsFire o s (s.setFire q r) :=
  ⟨State.fire_setFire_ne s r h, rfl, rfl, fun _ => rfl⟩

theorem setLine (s : State) (d : Nat) (r : LineRt) : keepsFire o s (s.setLine d r) := ⟨rfl, rfl, rfl, fun _ => rfl⟩

theorem setFireStat (s : State) {q : Nat} (state result stages : Nat) (h : o ≠ q) :
    keepsFire o s (s.setFireStat q state result stages) where
  fire := State.fire_setFireStat _ _ _ _ _ _
  stat := State.g_setFireStat_ne s _ _ _ (by show 0x2A0004 + o ≠ 0x2A0004 + q; omega)
  cyc := by
    unfold State.setFireStat
    extract_lets t
    have ht : t.cyc = s.cyc := by simp [t]
    split
    · exact ht
    · exact ht
  lost d := by
    unfold State.setFireStat
    extract_lets t
    have ht : t.die d = s.die d := State.die_p _ _ _ _
    split
    · exact congrArg DieRt.lost ht
    · exact congrArg DieRt.lost ht

theorem freeBank (s : State) (bank : Option Nat) : keepsFire o s (s.freeBank bank) := by
  cases bank with
  | none => exact refl s
  | some n => exact ⟨rfl, rfl, rfl, fun _ => rfl⟩

theorem foldl {β : Type} (f : State → β → State) (hf : ∀ s b, keepsFire o s (f s b)) (l : List β) (s : State) :
    keepsFire o s (l.foldl f s) := by
  induction l generalizing s with
  | nil => exact refl s
  | cons b r ih => exact (hf s b).trans (ih _)

theorem tellFollowers (s : State) (id a : Nat) : keepsFire o s (s.tellFollowers id a) := by
  unfold State.tellFollowers
  refine foldl _ (fun t d => ?_) _ s
  split
  · unfold State.putWords
    extract_lets r l
    split
    · exact setLine t d _
    · exact refl t
  · exact refl t

theorem dropFire (s : State) {q : Nat} (state result : Nat) (ho : o ≤ 2) (h : o ≠ q) :
    keepsFire o s (s.dropFire q state result) := by
  unfold State.dropFire
  extract_lets f
  exact (((setFire s _ h).trans (freeBank _ _)).trans (setFireStat _ _ _ _ h)).trans (p _ _ (fireStat_ne_greenFree ho))

theorem failFire (s : State) {q : Nat} (v : Verdict) (ho : o ≤ 2) (h : o ≠ q) : keepsFire o s (s.failFire q v) := by
  unfold State.failFire
  extract_lets id t
  have ht : keepsFire o s t := dropFire s _ _ ho h
  clear_value t
  split
  · exact (ht.trans (inc t (by show 0x2A0004 + o ≠ 0x2A0018; omega))).trans (ofQuiet ho (.evChip _ _ _))
  split
  · exact (ht.trans (inc t (by show 0x2A0004 + o ≠ 0x2A0019; omega))).trans (ofQuiet ho (.evChip _ _ _))
  · exact ht

theorem castFire (s : State) {q : Nat} (ho : o ≤ 2) (h : o ≠ q) : keepsFire o s (s.castFire q) := by
  unfold State.castFire
  extract_lets f a t
  split
  · exact failFire s _ ho h
  · exact ((setFire s _ h).trans (setFireStat _ _ _ _ h)).trans (tellFollowers _ _ _)

theorem castBoundary (s : State) (ho : o ≤ 2) : keepsFire o s s.castBoundary := by
  unfold State.castBoundary
  split
  · exact refl s
  · split
    · exact refl s
    · split
      · exact refl s
      · refine .trans (.trans ?_ (p _ (k := K.fire_BOUND_STAT) _ (by show 0x2A0004 + o ≠ 0x2A0013; omega)))
          (tellFollowers _ _ _)
        exact ⟨rfl, rfl, rfl, fun _ => rfl⟩

end State.keepsFire

/-- A firing whose targets' dies are all there is scheduled a lead after its broadcast (R413, R414). -/
theorem State.castFire_shows {s : State} {o : Nat} (ho : o ≤ 2) (hSlots : (s.fire o).slots ≤ 64)
    (hThere : ∀ g ∈ (s.fire o).stages, (s.die (keyDie g.key)).lost = false) :
    (s.castFire o).fireState o = 3 ∧ ((s.castFire o).fire o).applyAt = cycPlus s.cyc (s.fire o).lead := by
  unfold State.castFire
  extract_lets f a t
  have hNone : indexOf (fun g => (s.die (keyDie g.key)).lost) f.stages = none := indexOf_eq_none.2 hThere
  simp -zeta only [hNone]
  have ht : (t.fire o).applyAt = a := by
    have e1 : t.fire o = _ := State.fire_setFire _ _ _
    rw [e1]
  clear_value t
  generalize hCast : t.setFireStat o 3 0 f.slots = u
  have hState : u.fireState o = 3 := by
    rw [← hCast]
    have hf : f.slots ≤ 64 := hSlots
    exact State.fireState_setFireStat t o (by decide) (by decide) (by omega)
  have hFire : u.fire o = t.fire o := by
    rw [← hCast]
    exact State.fire_setFireStat _ _ _ _ _ _
  have hTold : State.keepsFire o u (u.tellFollowers (s.g (K.fire_FIRE_ID o)) a) := .tellFollowers _ _ _
  refine ⟨hTold.state.trans hState, ?_⟩
  rw [hTold.fire, hFire, ht]

/-- One firing's turn in the broadcast cycle (R413). -/
def State.castTurn (t : State) (o : Nat) : State :=
  if decide (t.fireState o = 2) && (t.fire o).start.isSome && decide ((t.fire o).castAt = t.cyc) then t.castFire o else
      t

theorem State.keepsFire.castTurn (s : State) {o q : Nat} (ho : o ≤ 2) (h : o ≠ q) :
    State.keepsFire o s (s.castTurn q) := by
  unfold State.castTurn
  split
  · exact .castFire s ho h
  · exact .refl s

/-- A firing that is due is cast in its own turn, whatever the others' turns before it did. -/
theorem State.castTurn_due {s t : State} {o : Nat} (ho : o ≤ 2) (h : State.keepsFire o s t) (hState : s.fireState o = 2)
    (hStart : (s.fire o).start.isSome = true) (hAt : (s.fire o).castAt = s.cyc) (hSlots : (s.fire o).slots ≤ 64)
    (hThere : ∀ g ∈ (s.fire o).stages, (s.die (keyDie g.key)).lost = false) :
    (t.castTurn o).fireState o = 3 ∧ ((t.castTurn o).fire o).applyAt = cycPlus s.cyc (s.fire o).lead := by
  unfold State.castTurn
  rw [h.state, h.fire, h.cyc, if_pos (by simp [hState, hStart, hAt]), ← h.cyc, ← h.fire]
  refine State.castFire_shows ho (by rwa [h.fire]) fun g hg => ?_
  rw [h.lost]
  exact hThere g (by rwa [h.fire] at hg)

/-- Settles O31: the kiln starts the firing that is due, and casts it in its broadcast cycle. -/
theorem commitsRun : Obligations.CommitsRun := by
  unfold Obligations.CommitsRun
  refine ⟨fun s b hClock hFree hDue => ?_, fun s o rest hClock hFree hDue hWaits hNot hBank => ?_,
    fun s o ho hState hStart hAt hSlots hThere => ?_⟩
  · refine yields.whenTrue hClock ?_
    have hTurn : s.nextCommit = s.startBoundary b := by
      unfold State.nextCommit
      rw [if_neg (by rw [hFree]; decide), hDue]
    rw [hTurn, State.g_keepCore _ _ (by decide), State.g_keepCore _ _ (by decide)]
    exact s.startBoundary_shows b
  · have hMem : o ∈ s.waitingFires := hWaits ▸ List.mem_cons_self
    refine yields.whenTrue hClock ?_
    have hTurn : s.nextCommit = s.startCommit o := by
      unfold State.nextCommit
      rw [if_neg (by rw [hFree]; decide), hDue, hWaits]
      refine if_neg ?_
      rw [hNot]
      rcases hBank with h | h
      · simp [h]
      · simp [Option.isNone_iff_eq_none, h]
    have h := State.startCommit_shows hMem
    rw [hTurn, State.fireState, State.g_keepCore _ _ (isLedKey_firing o (by decide)), State.fire_keepCore]
    exact h
  · have ho2 : o ≤ 2 := by omega
    refine .confined ?_
    show (s.keepCore (((s.castTurn 2).castTurn 1).castTurn 0).castBoundary).fireState o = 3 ∧
      ((s.keepCore (((s.castTurn 2).castTurn 1).castTurn 0).castBoundary).fire o).applyAt = cycPlus s.cyc
          (s.fire o).lead
    have hBound := State.keepsFire.castBoundary (((s.castTurn 2).castTurn 1).castTurn 0) ho2
    rw [State.fireState, State.g_keepCore _ _ (isLedKey_firing o (by decide)), State.fire_keepCore, hBound.fire,
        hBound.stat]
    show (((s.castTurn 2).castTurn 1).castTurn 0).fireState o = 3 ∧ _
    have hDue {t : State} (h : State.keepsFire o s t) := State.castTurn_due ho2 h hState hStart hAt hSlots hThere
    have hLater : ∀ {t : State} {q : Nat}, o ≠ q →
        t.fireState o = 3 ∧ (t.fire o).applyAt = cycPlus s.cyc (s.fire o).lead →
        (t.castTurn q).fireState o = 3 ∧ ((t.castTurn q).fire o).applyAt = cycPlus s.cyc (s.fire o).lead :=
            fun {t q} hq ht => by
      have hKept := State.keepsFire.castTurn t ho2 hq
      rw [hKept.state, hKept.fire]
      exact ht
    have hCases : o = 2 ∨ o = 1 ∨ o = 0 := by omega
    rcases hCases with rfl | rfl | rfl
    · exact hLater (by decide) (hLater (by decide) (hDue (.refl s)))
    · exact hLater (by decide) (hDue (.castTurn s ho2 (by decide)))
    · exact hDue ((State.keepsFire.castTurn s ho2 (by decide)).trans (.castTurn _ ho2 (by decide)))

end Sys2Proof.Machine
end

section
/-! The pulse inputs: accepted levels, line faults and latched counts. -/

namespace Sys2Proof.Machine

-- the entries of the pulse inputs

theorem nInputs_le {s : State} (h : partOk s) : s.nInputs ≤ 32 := by
  unfold State.nInputs
  rcases h with h | h | h <;> rw [h] <;> decide

theorem isLedKey_pulse {a i : Nat} (ha : 0x240000 ≤ a ∧ a < 0x240100) (hi : i < 32) : isLedKey (a + i) = false := by
  rw [isLedKey, decide_eq_false (by omega)]
  rfl

theorem sharedKey_pulse {a i : Nat} (ha : 0x240000 ≤ a ∧ a < 0x240100) (hi : i < 32) : sharedKey (a + i) = false := by
  simp only [sharedKey, List.mem_cons, List.not_mem_nil, or_false, decide_eq_false_iff_not, K.log_QUEUE_DROP,
    K.log_LOG_STAT, K.log_STANDING, K.comm_ERRREG, K.sag_SAG_STAT, K.sag_TRIP_COUNT]
  omega

theorem isLedKey_piStat {i : Nat} (hi : i < 32) : isLedKey (K.pin_PI_STAT i) = false := isLedKey_pulse (by decide) hi

theorem isLedKey_piCount {i : Nat} (hi : i < 32) : isLedKey (K.pin_PI_COUNT i) = false := isLedKey_pulse (by decide) hi

theorem piStat_ne_piCount (i : Nat) : K.pin_PI_STAT i ≠ K.pin_PI_COUNT i := by
  show 0x240061 + i ≠ 0x240041 + i
  omega

theorem piCount_ne_piStat (i : Nat) : K.pin_PI_COUNT i ≠ K.pin_PI_STAT i := (piStat_ne_piCount i).symm

theorem State.g_setPulse (s : State) (n : Nat) (r : PulseRt) (k : Nat) : (s.setPulse n r).g k = s.g k := rfl

-- the class a line shows and the pulses counted

/-- The class of the last sample takes the field LINE, and no other bit of PI_STAT. -/
theorem State.bit_lineClass (s : State) {i c n : Nat} (hi : i < 32) (hn : n < 1 ∨ 2 < n) :
    bitAt ((s.lineClass i c).g (K.pin_PI_STAT i)) n = bitAt (s.g (K.pin_PI_STAT i)) n := by
  unfold State.lineClass
  rw [State.g_setPulse, State.g_p_same _ _ (isLedKey_piStat hi)]
  exact bitAt_setField_ne (by decide) hn

theorem State.count_lineClass (s : State) (i c : Nat) :
    (s.lineClass i c).g (K.pin_PI_COUNT i) = s.g (K.pin_PI_COUNT i) := by
  unfold State.lineClass
  rw [State.g_setPulse, State.g_p_ne _ _ (piCount_ne_piStat i)]

theorem State.pulse_lineClass (s : State) (i c : Nat) :
    (s.lineClass i c).pulse i = { s.pulse i with sampleAt := s.cyc + 1 } := by
  unfold State.lineClass
  rw [State.pulse_setPulse]

theorem State.bit_countPulse (s : State) {i n : Nat} (hn : n ≠ psRATE_HI) :
    bitAt ((s.countPulse i).g (K.pin_PI_STAT i)) n = bitAt (s.g (K.pin_PI_STAT i)) n := by
  unfold State.countPulse
  extract_lets r fast s1
  have h1 : s1.g (K.pin_PI_STAT i) = s.g (K.pin_PI_STAT i) := State.g_inc_ne s (piStat_ne_piCount i)
  clear_value s1 fast
  split
  · rw [State.bit_bitTo_ne _ _ hn, h1]
  · rw [h1]

theorem State.count_countPulse (s : State) {i : Nat} (hi : i < 32) :
    (s.countPulse i).g (K.pin_PI_COUNT i) = wrap32 (s.g (K.pin_PI_COUNT i) + 1) := by
  unfold State.countPulse
  extract_lets r fast s1
  have h1 : s1.g (K.pin_PI_COUNT i) = wrap32 (s.g (K.pin_PI_COUNT i) + 1) := State.g_inc_same s (isLedKey_piCount hi)
  clear_value s1 fast
  split
  · rw [State.g_bitTo_ne _ _ _ (piCount_ne_piStat i), h1]
  · exact h1

/-- The accepted level shows, and a change to the active level counts while no line fault stands (R299). -/
theorem State.acceptLevel_shows (s : State) {i : Nat} {high : Bool} (hi : i < 32)
    (h : (high == piPol (s.g (K.pin_PI_CFG i))) ≠ s.bit (K.pin_PI_STAT i) psLEVEL) :
    bitAt ((s.acceptLevel i high).g (K.pin_PI_STAT i)) psLEVEL = (high == piPol (s.g (K.pin_PI_CFG i))) ∧
    ((s.pulse i).serial = 0 → (s.acceptLevel i high).g (K.pin_PI_COUNT i) =
      if (high == piPol (s.g (K.pin_PI_CFG i))) then wrap32 (s.g (K.pin_PI_COUNT i) + 1) else s.g
          (K.pin_PI_COUNT i)) := by
  unfold State.acceptLevel
  generalize (high == piPol (s.g (K.pin_PI_CFG i))) = active at h
  extract_lets _ r s1
  have hLevel : bitAt (s1.g (K.pin_PI_STAT i)) psLEVEL = active :=
    State.bit_bitTo_same _ _ _ (isLedKey_piStat hi)
  have hCount : s1.g (K.pin_PI_COUNT i) = s.g (K.pin_PI_COUNT i) :=
    (State.g_bitTo_ne _ _ _ (piCount_ne_piStat i)).trans (State.count_lineClass s i _)
  clear_value s1
  rw [if_neg (by simpa using h)]
  refine ⟨?_, fun hs => ?_⟩
  · split
    · rw [State.bit_countPulse _ (by decide), hLevel]
    · exact hLevel
  · have hNone : decide (r.serial = 0) = true := decide_eq_true hs
    rw [hNone, Bool.true_or, Bool.and_true]
    split
    · rw [State.count_countPulse _ hi, hCount]
    · exact hCount

-- line faults

theorem State.bit_markLine (s : State) {i : Nat} (cut : Bool) (hi : i < 32) :
    bitAt ((s.markLine i cut).g (K.pin_PI_STAT i)) psCUT = cut ∧
    bitAt ((s.markLine i cut).g (K.pin_PI_STAT i)) psSHORT = !cut ∧
    bitAt ((s.markLine i cut).g (K.pin_PI_STAT i)) psTAMPER = bitAt (s.g (K.pin_PI_STAT i)) psTAMPER := by
  unfold State.markLine
  refine ⟨?_, ?_, ?_⟩
  · rw [State.bit_lineClass _ hi (by decide), State.bit_bitTo_same _ _ _ (isLedKey_piStat hi)]
  · rw [State.bit_lineClass _ hi (by decide), State.bit_bitTo_ne _ _ (by decide),
      State.bit_bitTo_same _ _ _ (isLedKey_piStat hi)]
  · rw [State.bit_lineClass _ hi (by decide), State.bit_bitTo_ne _ _ (by decide), State.bit_bitTo_ne _ _ (by decide)]

/-- A declared line fault takes the die's next serial, sets TAMPER and shows its kind (R301). -/
theorem State.lineFault_shows (s : State) {i : Nat} (cut : Bool) (hi : i < 32) :
    ((s.lineFault i cut).pulse i).serial = s.nextSerial (i / 4) ∧
    bitSet (s.lineFault i cut) (K.pin_PI_STAT i) psTAMPER ∧
    bitAt ((s.lineFault i cut).g (K.pin_PI_STAT i)) psCUT = cut ∧
    bitAt ((s.lineFault i cut).g (K.pin_PI_STAT i)) psSHORT = !cut := by
  unfold State.lineFault
  dsimp only
  generalize s.declare (i / 4) 0 (locInput i) (if cut then 0x2030 else 0x2031) [i] = t
  obtain ⟨hCut, hShort, hTamper⟩ := State.bit_markLine (t.bitTo (K.pin_PI_STAT i) psTAMPER true) cut hi
  rw [State.bit_bitTo_same _ _ _ (isLedKey_piStat hi)] at hTamper
  generalize (t.bitTo (K.pin_PI_STAT i) psTAMPER true).markLine i cut = u at hCut hShort hTamper
  rw [State.pulse_setPulse, bitSet, State.g_setPulse]
  exact ⟨rfl, hTamper, hCut, hShort⟩

/-- A line fault that clears ends as a standing fault (R301). -/
theorem State.lineClear_shows (s : State) {i : Nat} (c : Nat) (hi : i < 32) :
    ((s.lineClear i c).pulse i).serial = 0 ∧ (s.lineClear i c).stands (s.pulse i).serial = false ∧
    bitClear (s.lineClear i c) (K.pin_PI_STAT i) psCUT ∧ bitClear (s.lineClear i c) (K.pin_PI_STAT i) psSHORT := by
  unfold State.lineClear
  extract_lets r s1
  have hCut : bitAt (s1.g (K.pin_PI_STAT i)) psCUT = false :=
    (State.bit_lineClass _ hi (by decide)).trans (State.bit_bitTo_same _ _ _ (isLedKey_piStat hi))
  have hShort : bitAt (s1.g (K.pin_PI_STAT i)) psSHORT = false :=
    ((State.bit_lineClass _ hi (by decide)).trans (State.bit_bitTo_ne _ _ (by decide))).trans
      (State.bit_bitTo_same _ _ _ (isLedKey_piStat hi))
  clear_value s1
  have hEnd := State.g_endFault (s1.setPulse i { s1.pulse i with serial := 0, lineFrom := s.cyc }) r.serial (i / 4) 0
    (locInput i) 0x2032 [i] (sharedKey_pulse (a := 0x240061) (by decide) hi)
  refine ⟨?_, State.stands_endFault .., ?_, ?_⟩
  · rw [(logsOnly.endFault ..).pulse, State.pulse_setPulse]
  · exact (congrArg (bitAt · psCUT) hEnd).trans hCut
  · exact (congrArg (bitAt · psSHORT) hEnd).trans hShort

-- the latches on D0

theorem State.pulse_book (s : State) (b : Booking) (j : Nat) : (s.book b).pulse j = s.pulse j := by
  unfold State.book
  split
  · exact (booksOnly.bookNow s b).eq (·.pulse j) fun _ _ _ _ _ _ _ _ _ => rfl
  · rfl

theorem State.pulse_addEnergy (s : State) (dv : Nat) (h : Heat) (b : Booking) (j : Nat) :
    (s.addEnergy dv h b).1.pulse j = s.pulse j := by
  unfold State.addEnergy
  split <;> rfl

theorem State.pulse_noteClamp (s : State) (i : Nat) (h : Heat) (j : Nat) : (s.noteClamp i h).pulse j = s.pulse j := by
  unfold State.noteClamp
  split
  · exact (logsOnly.ofQuiet (quiet.onceEv ..)).pulse j
  · rfl

theorem State.pulse_holdEnergy (s : State) (i : Nat) (hold : Bool) (j : Nat) :
    (s.holdEnergy i hold).pulse j = s.pulse j := by
  unfold State.holdEnergy
  extract_lets r s1
  split
  · exact (logsOnly.ofQuiet (quiet.evChip s1 ..)).pulse j
  · rfl

/-- What an input's pulses book leaves every input alone. -/
theorem State.pulse_addPulses (s : State) (i incr j : Nat) : (s.addPulses i incr).pulse j = s.pulse j := by
  unfold State.addPulses
  extract_lets w sc dir dv r res s1 h en b e s2
  have h1 : s1.pulse j = s.pulse j := rfl
  clear_value s1
  have he : e.1.pulse j = s.pulse j := by
    unfold e
    split
    · rw [State.pulse_addEnergy, h1]
    · exact h1
  clear_value e
  have h2 : s2.pulse j = s.pulse j := by
    unfold s2
    split
    · exact he
    · rw [State.pulse_book, he]
  clear_value s2
  split
  · rw [State.pulse_p, h2]
  · rw [State.pulse_holdEnergy, State.pulse_noteClamp, State.pulse_p, h2]

theorem State.pulse_processInput_ne (s : State) {i j : Nat} (h : j ≠ i) : (s.processInput i).pulse j = s.pulse j := by
  unfold State.processInput
  extract_lets r
  generalize r.latched = l
  cases l with
  | none => rfl
  | some v =>
    dsimp only
    split
    · rw [State.pulse_addPulses, State.pulse_setPulse_ne _ _ h]
    · rw [State.pulse_setPulse_ne _ _ h]

/-- An input's latch is taken as its next baseline (R302). -/
theorem State.pulse_processInput (s : State) {i v : Nat} (h : (s.pulse i).latched = some v) :
    ((s.processInput i).pulse i).latched = none ∧ ((s.processInput i).pulse i).base = some v := by
  unfold State.processInput
  extract_lets r
  have hr : r.latched = some v := h
  rw [hr]
  dsimp only
  split
  · rw [State.pulse_addPulses, State.pulse_setPulse]
    exact ⟨rfl, rfl⟩
  · rw [State.pulse_setPulse]
    exact ⟨rfl, rfl⟩

theorem State.pulse_processInputs_ne (l : List Nat) (s : State) {j : Nat} (h : j ∉ l) :
    (l.foldl (fun t i => t.processInput i) s).pulse j = s.pulse j := by
  induction l generalizing s with
  | nil => rfl
  | cons i l ih =>
    rw [List.mem_cons, not_or] at h
    rw [List.foldl_cons, ih _ h.2, State.pulse_processInput_ne _ h.1]

theorem State.pulse_processInputs (l : List Nat) (s : State) {j v : Nat} (hNodup : l.Nodup) (h : j ∈ l)
    (hLatch : (s.pulse j).latched = some v) :
    ((l.foldl (fun t i => t.processInput i) s).pulse j).latched = none ∧
    ((l.foldl (fun t i => t.processInput i) s).pulse j).base = some v := by
  induction l generalizing s with
  | nil => cases h
  | cons i l ih =>
    rw [List.nodup_cons] at hNodup
    rw [List.foldl_cons]
    by_cases hj : j = i
    · subst hj
      rw [State.pulse_processInputs_ne l _ hNodup.1]
      exact State.pulse_processInput s hLatch
    · refine ih _ hNodup.2 ((List.mem_cons.mp h).resolve_left hj) ?_
      rw [State.pulse_processInput_ne s hj, hLatch]

end Sys2Proof.Machine

namespace Sys2Proof
open Sys2Proof.Machine

/-- Settles O14: accepted levels, line faults and the latched counts of the pulse inputs. -/
theorem pulseInputs : Obligations.PulseInputs := by
  unfold Obligations.PulseInputs
  refine ⟨?_, ?_, ?_, ?_⟩
  · intro s i l high hp hi hRun active hNew
    have h32 : i < 32 := hi.trans_le (nInputs_le hp)
    obtain ⟨hLevel, hCount⟩ := State.acceptLevel_shows s h32 hNew
    refine yields.fitted (decide_eq_true hi) (yields.confined ?_)
    rw [hRun, State.g_keepCore _ _ (isLedKey_piStat h32), State.g_keepCore _ _ (isLedKey_piCount h32)]
    exact ⟨hLevel, hCount⟩
  · intro s i c l hp hi hLen hAll hLast hSerial
    have h32 : i < 32 := hi.trans_le (nInputs_le hp)
    have hc : ¬ c < 2 := by
      have := List.all_eq_true.mp hAll c (List.mem_of_getLast? hLast)
      exact Nat.not_lt.mpr (of_decide_eq_true this)
    refine yields.fitted (decide_eq_true hi) (yields.confined ?_)
    rw [hLast]
    dsimp only
    rw [if_neg hc, if_neg (fun h => h hSerial), if_pos ⟨hLen, hAll⟩, State.pulse_keepCore, bitSet,
      State.g_keepCore _ _ (isLedKey_piStat h32)]
    exact State.lineFault_shows s _ h32
  · intro s i l hp hi hLen hAll hSerial
    have h32 : i < 32 := hi.trans_le (nInputs_le hp)
    refine yields.fitted (decide_eq_true hi) (yields.whenTrue ⟨hSerial, hLen, hAll⟩ ?_)
    rw [State.pulse_keepCore, bitClear, bitClear, State.g_keepCore _ _ (isLedKey_piStat h32)]
    exact State.lineClear_shows s _ h32
  · intro s hHere
    refine yields_booking ?_
    rw [if_pos hHere]
    intro i v hi hLatch
    exact State.pulse_processInputs _ s List.nodup_range (List.mem_range.mpr hi) hLatch

end Sys2Proof
end

section
/-! Conversion phases (O12), which do not hold as stated. -/

namespace Sys2Proof

open Sys2Proof.Machine

/-- A conversion of channel 0 whose sense pin is so large a number that its PIN_STAT is RETRY_COUNT of the channel. -/
def strayConv : Conv :=
  { kind := 1, n := 1, first := 0, pins := [0, 1, K.chan_RETRY_COUNT 0 - K.die_PIN_STAT 0 0], iexc := 0,
    gain := 0, cmLo := 0
    cmHi := 0, tol := 0, retry := 1, monitored := false }

/-- The part converting it, with the phase over. -/
def strayPin : State :=
  { State.reset with
    dies := 2, cyc := 1000000000, dieRt := [(0, { up := true, scanOn := true, scanLeft := [0] })]
    chans := [(0, { conv := some strayConv })] }

/-- The sense pin lies above the channel's window. -/
def aboveWindow : PhaseMeas := { code := 0, spMv := 1, snMv := 0, clamps := [], iEs := 0, iEr := 0 }

/-- Refutes O12: nothing bounds the pin numbers of a conversion in progress. CM_OUT of a sense pin out of its window is
set at the pin's PIN_STAT (R289), which with this number is the channel's RETRY_COUNT: it goes from 0 over 1 to 2, where
a repeat counts 1 (R273). -/
theorem not_scanAndPhase : ¬ Obligations.ScanAndPhase := by
  unfold Obligations.ScanAndPhase
  rintro ⟨-, hPhase⟩
  have hEnd := yields.elim <| hPhase strayPin 0 0 [] strayConv aboveWindow (.inl rfl) (by decide) (by decide +kernel)
    (by decide) (by decide +kernel) (by decide +kernel) (by decide +kernel) (by decide +kernel)
  rw [if_pos (by decide +kernel)] at hEnd
  obtain ⟨-, hCount⟩ := hEnd (by decide)
  exact absurd hCount (by decide +kernel)

end Sys2Proof
end

section
/-! Lantern metering (O15), which does not hold as stated. -/

namespace Sys2Proof.Machine

/-- A new energy window puts 0 at the E_WINDOW of every port there is, whatever else has that key (R78). -/
theorem State.g_newWindow_zero {s : State} {n : Nat} (hn : n < s.nPorts) (hLed : isLedKey (K.port_E_WINDOW n) = false) :
    s.newWindow.g (K.port_E_WINDOW n) = 0 := by
  unfold State.newWindow
  extract_lets s1 s2
  have hPaths : s2.g (K.port_E_WINDOW n) = s1.g (K.port_E_WINDOW n) := by
    unfold s2
    exact g_foldl (by intros; rfl) _ s1
  refine hPaths.trans ?_
  unfold s1
  refine foldl_establishes (P := fun t => t.g (K.port_E_WINDOW n) = 0) (fun t => ?_) (fun t m hm h => ?_) _ s
    (.inl (List.mem_range.2 hn))
  · exact (State.g_bitTo_ne _ _ _ (portKey_ne n (by decide))).trans (State.g_p_same _ _ hLed)
  · have hStatus : K.port_E_WINDOW n ≠ K.port_STATUS m := by
      show 0x214012 + 256 * n ≠ 0x214010 + 256 * m
      omega
    have hWindow : K.port_E_WINDOW n ≠ K.port_E_WINDOW m := by
      show 0x214012 + 256 * n ≠ 0x214012 + 256 * m
      omega
    refine ((State.g_bitTo_ne _ _ _ hStatus).trans (State.g_p_ne _ _ hWindow)).trans (Eq.trans ?_ h)
    split <;> rfl

/-- What a new energy window leaves alone: all but bursts that are over, half-pairs counted, entries and the limits of
once per window. -/
theorem State.newWindow_keeps {β : Type} (f : State → β)
    (hPort : ∀ t n b, f (t.setPort n { t.port n with burst := b }) = f t) (hPath : ∀ t n r, f (t.setPath n r) = f t)
    (hEntry : ∀ t k v, f (t.p k v) = f t) (hOnce : ∀ t l, f { t with once := l } = f t) (s : State) :
    f s.newWindow = f s := by
  unfold State.newWindow
  extract_lets s1 s2
  have h1 : f s1 = f s := by
    refine foldl_keeps f (fun t n => ?_) _ s
    refine (hEntry _ _ _).trans ((hEntry _ _ _).trans ?_)
    split
    · rfl
    · exact hPort _ _ _
  have h2 : f s2 = f s1 := foldl_keeps f (fun _ _ => hPath _ _ _) _ s1
  exact (hOnce _ _).trans (h2.trans h1)

/-- A new energy window moves no port's predicted energy. -/
theorem State.ePred_newWindow (s : State) (n : Nat) : (s.newWindow.port n).ePred = (s.port n).ePred := by
  refine State.newWindow_keeps (fun u => (u.port n).ePred) (fun t m b => ?_) (fun _ _ _ => rfl)
    (fun t k v => by rw [State.port_p]) (fun _ _ => rfl) s
  by_cases h : n = m
  · subst h
    dsimp only
    rw [State.port_setPort]
  · dsimp only
    rw [State.port_setPort_ne _ _ h]

theorem State.lant_withhold (s : State) (n : Nat) : (s.withhold n).lant = s.lant := by
  unfold State.withhold
  split
  · rfl
  · dsimp only
    split
    · rw [State.bitTo_lant, State.inc_lant]
    · rw [State.inc_lant, (logsOnly.ofQuiet (quiet.onceEv _ _ _ _ _ _ _)).eq (·.lant) fun _ _ _ _ _ _ => rfl,
        State.bitTo_lant, State.inc_lant]

/-- A pair whose second port fails the energy test is not taken. -/
theorem State.awake_takePair {s : State} (h : s.energyOk (endB s.lant.path) = false) :
    s.takePair.lant.awake = s.lant.awake := by
  unfold State.takePair
  extract_lets n s1 s2 a s3
  rw [if_pos (by rw [h, Bool.and_false]; rfl)]
  unfold State.lanternSleep
  rw [State.p_lant]
  show s1.lant.awake = _
  unfold s1
  rw [State.lant_withhold, State.lant_withhold]

theorem exec_lanternWake {s : State} {vbat n : Nat}
    (h : (s.lant.running && !s.lant.stopped && !s.lant.awake && decide (s.lant.nextIn = 0)) = true) :
    exec (.lanternWake vbat n) s = starting s (s.wakeLantern vbat n) :=
  congrArg (starting s) (if_pos h)

/-- A pair is not taken where the second port of its path has its energy cap at the E_WINDOW of a port, and the wake
passes into a new energy window. -/
theorem State.awake_wakeLantern {s : State} {vbat n m : Nat} (hPort : m < s.nPorts)
    (hKey : K.port_E_WINDOW m = K.sag_CAP_ENERGY (endB s.lant.path)) (hLed : isLedKey (K.port_E_WINDOW m) = false)
    (hPred : 0 < (s.port (endB s.lant.path)).ePred) (hCell : ¬ vbat < s.lant.vbatMin)
    (hNew : s.cyc / cycPerSecond ≠ cycPlus (s.die 0).deepCyc (750 * n) / cycPerSecond) :
    (s.wakeLantern vbat n).lant.awake = s.lant.awake := by
  unfold State.wakeLantern
  extract_lets s1
  have hs1 : s1 = State.newWindow { s with cyc := cycPlus (s.die 0).deepCyc (750 * n) } := if_neg hNew
  have hCap : s1.g (K.sag_CAP_ENERGY (endB s.lant.path)) = 0 := by
    rw [hs1, ← hKey]
    exact State.g_newWindow_zero hPort hLed
  have hEPred : (s1.port (endB s.lant.path)).ePred = (s.port (endB s.lant.path)).ePred := by
    rw [hs1, State.ePred_newWindow]
    rfl
  have hLant : s1.lant = s.lant := by
    rw [hs1]
    exact State.newWindow_keeps (fun u => u.lant) (fun _ _ _ => rfl) (fun _ _ _ => rfl) (fun _ _ _ => State.p_lant ..)
      (fun _ _ => rfl) _
  clear_value s1
  rw [if_neg hCell, State.awake_takePair]
  · show s1.lant.awake = _
    rw [hLant]
  · unfold State.energyOk
    refine decide_eq_false ?_
    show ¬ _ + (s1.port (endB s1.lant.path)).ePred ≤ 10 * s1.g (K.sag_CAP_ENERGY (endB s1.lant.path))
    rw [hLant, hCap, hEPred]
    omega

/-- The wake that passes into such a window leaves the lantern asleep. -/
theorem wakes_asleep {s : State} {vbat n m : Nat}
    (h : (s.lant.running && !s.lant.stopped && !s.lant.awake && decide (s.lant.nextIn = 0)) = true)
    (hPort : m < s.nPorts) (hKey : K.port_E_WINDOW m = K.sag_CAP_ENERGY (endB s.lant.path))
    (hLed : isLedKey (K.port_E_WINDOW m) = false) (hPred : 0 < (s.port (endB s.lant.path)).ePred)
    (hCell : ¬ vbat < s.lant.vbatMin)
    (hNew : s.cyc / cycPerSecond ≠ cycPlus (s.die 0).deepCyc (750 * n) / cycPerSecond) :
    yields (exec (.lanternWake vbat n) s) fun t => t.lant.awake = s.lant.awake := by
  rw [exec_lanternWake h]
  exact ⟨_, rfl, State.awake_wakeLantern hPort hKey hLed hPred hCell hNew⟩

theorem yields.both {o : Out} {P Q : State → Prop} (hP : yields o P) (hQ : yields o Q) : ∃ t, P t ∧ Q t := by
  obtain ⟨t, ht, hPt⟩ := hP
  obtain ⟨u, hu, hQu⟩ := hQ
  cases ht.symm.trans hu
  exact ⟨t, hPt, hQu⟩

end Sys2Proof.Machine
namespace Sys2Proof

open Sys2Proof.Machine

/-- A block of 441 dies in lantern metering of path 72, whose port 145 is predicted to cost 1 and may spend 10 a window;
port 3521's E_WINDOW is port 145's CAP_ENERGY. The next pair wakes in a later energy window. -/
def manyDies : State :=
  { State.reset with
    dies := 441, dieRt := [(0, { deepCyc := cycPerSecond })], ports := [(endB 72, { ePred := 1 })]
    lant := { running := true, path := 72 } , od := [(K.sag_CAP_ENERGY (endB 72), 1)] }

/-- Refutes O15: the wake of a lantern pair is stated of every number of dies, and of 441 dies the window of port 3521
that restarts from 0 (R78) is the energy cap of port 145: the pair the cap allowed is withheld. -/
theorem not_lanternMeters : ¬ Obligations.LanternMeters := by
  unfold Obligations.LanternMeters
  rintro ⟨-, hWake, -⟩
  have hAsleep := wakes_asleep (s := manyDies) (vbat := 0) (n := 0) (m := 3521) (by decide +kernel) (by decide)
      (by decide)
    (by decide) (by decide +kernel) (by decide +kernel) (by decide +kernel)
  obtain ⟨t, ⟨-, hPair⟩, hAwake⟩ := yields.both (hWake manyDies 0 0 (by decide +kernel) (by decide +kernel)
    (by decide +kernel) (by decide +kernel) (by decide +kernel)) hAsleep
  rw [if_neg (by decide +kernel)] at hPair
  exact absurd (hAwake.symm.trans hPair.1) (by decide)

end Sys2Proof
end

section
/-! A cycle without a command (O52), which does not hold as stated. -/

namespace Sys2Proof.Machine

theorem foldl_fixed {α β : Type} {f : α → β → α} {a : α} (l : List β) (h : ∀ b ∈ l, f a b = a) : l.foldl f a = a := by
  induction l with
  | nil => rfl
  | cons b l ih => rw [List.foldl_cons, h b List.mem_cons_self, ih fun c hc => h c (List.mem_cons_of_mem b hc)]

/-- A fold of which one element alone does anything. -/
theorem foldl_single {α β : Type} {f : α → β → α} {a : α} {b : β} (l : List β) (hMem : b ∈ l) (hNodup : l.Nodup)
    (hBefore : ∀ c, c ≠ b → f a c = a) (hAfter : ∀ c, c ≠ b → f (f a b) c = f a b) : l.foldl f a = f a b := by
  induction l with
  | nil => cases hMem
  | cons c l ih =>
    rw [List.nodup_cons] at hNodup
    rw [List.foldl_cons]
    by_cases hc : c = b
    · subst hc
      exact foldl_fixed l fun d hd => hAfter d fun he => hNodup.1 (he ▸ hd)
    · rw [hBefore c hc]
      exact ih ((List.mem_cons.mp hMem).resolve_left (Ne.symm hc)) hNodup.2

theorem Tab.look_of_not_mem {α : Type} (t : Tab α) (d : α) {k : Nat} (h : k ∉ t.map (·.1)) : t.look d k = d := by
  induction t with
  | nil => rfl
  | cons e r ih =>
    rw [List.map_cons, List.mem_cons, not_or] at h
    exact (if_neg (Ne.symm h.1)).trans (ih h.2)

/-- An engine with nothing to capture captures nothing. -/
theorem State.startCaptures_default {s : State} {n : Nat} (h : s.path n = {}) : s.startCaptures n = s := by
  unfold State.startCaptures
  rw [h]
  rfl

-- a cycle of a part whose dies and guy lines are all off

section off

variable {s : State} (hDies : s.dieRt = []) (hLines : s.lines = [])

include hDies in
theorem State.die_off (d : Nat) : s.die d = {} := by
  unfold State.die
  rw [hDies]
  rfl

include hLines in
theorem State.line_off (d : Nat) : s.line d = {} := by
  unfold State.line
  rw [hLines]
  rfl

include hLines in
theorem State.deliverCancels_off : s.deliverCancels = s := by
  refine foldl_fixed _ fun c _ => ?_
  rw [State.line_off hLines]
  rfl

include hDies in
theorem State.gpioStep_off : s.gpioStep = s := by
  refine foldl_fixed _ fun d _ => ?_
  rw [State.die_off hDies]
  rfl

include hDies in
theorem State.tick_off : s.tick = s := by
  unfold State.tick State.d0Clock
  rw [State.die_off hDies]
  rfl

include hDies in
theorem State.settleEntries_off : s.settleEntries = s := by
  refine foldl_fixed _ fun d _ => ?_
  unfold State.tryEntry
  rw [State.die_off hDies]

include hLines in
theorem State.readLines_off (hCyc : s.cyc = 0) : s.readLines = s := by
  have hCount : s.countersDue = s := by
    refine foldl_fixed _ fun d _ => ?_
    rw [State.line_off hLines, hCyc]
    exact if_neg (by rw [Bool.and_eq_true]; exact fun h => absurd h.2 (by decide))
  have hShow : (List.range s.dies).foldl (fun t d =>
      if (t.line d).up then t.setLine d ((t.line d).showFree t.cyc) else t) s = s := by
    refine foldl_fixed _ fun d _ => ?_
    rw [State.line_off hLines]
    rfl
  have hRead : (List.range s.dies).foldl (fun t d =>
      let r := t.line d
      if r.outward.rx = [] ∨ 2 ≤ t.pstate d then t
      else t.setLine d { r with outward := { r.outward with rx := r.outward.rx.drop 1 } }) s = s := by
    refine foldl_fixed _ fun d _ => ?_
    rw [State.line_off hLines]
    exact if_pos (.inl rfl)
  unfold State.readLines
  rw [hCount]
  dsimp only
  rw [hShow]
  dsimp only at hRead
  rw [hRead]
  have hNone : ((List.range s.dies).map (fun i => (s.arbiter + i) % s.dies)).find? (fun d =>
      decide (d ≠ 0) && decide ((s.line d).inward.rx ≠ []) && decide (s.pstate d ≠ 4)) = none := by
    refine List.find?_eq_none.mpr fun d _ => ?_
    rw [State.line_off hLines]
    simp
  rw [hNone]

end off

theorem State.settleFires_idle {s : State} (h0 : s.fireState 0 ≠ 3) (h1 : (s.fire 1).outcome = 0)
    (h2 : (s.fire 2).outcome = 0) : s.settleFires = s := by
  have keeps : ∀ o, (s.fire o).outcome = 0 ∨ s.fireState o ≠ 3 → s.showOutcome o = s := fun o h =>
    if_pos (h.imp id .inl)
  unfold State.settleFires
  rw [List.foldl_cons, keeps 0 (.inr h0), List.foldl_cons, keeps 1 (.inl h1), List.foldl_cons, keeps 2 (.inl h2)]
  rfl

theorem State.hostStep_cases (s : State) : ∃ h : HostRt, s.hostStep = { s with host := h } := by
  unfold State.hostStep
  split
  · exact ⟨_, rfl⟩
  · exact ⟨s.host, rfl⟩

theorem State.g_blowFuses (s : State) (k : Nat) : s.blowFuses.g k = s.g k := by
  unfold State.blowFuses
  split <;> rfl

theorem State.idle_of_stopped {s e t : State}
    (hEnds : s.startAllCaptures.deliverCancels.flushPdo.gpioStep.hostStep = e)
    (hBegins : e.tick.settleEntries.readLines.settleFires = t) (hClock : s.d0Clock = false) :
    s.idle = { State.blowFuses { t with dies := s.dies, cyc := s.tick.cyc, led := s.led, sram := s.sram, otp := s.otp }
        with
      dies := s.dies, cyc := s.tick.cyc, sram := s.sram, pending := s.pending } := by
  subst hEnds hBegins
  unfold State.idle
  rw [hClock]
  rfl

/-- What stands in FIRE_STAT after a cycle without a command, of a part whose dies and guy lines are all off, where only
the engine of path n has a capture to take and its record leaves FIRE_STAT of the host in another state than
SCHEDULED. -/
theorem State.g_idle_off {s t : State} {n : Nat} (ht : s.startCaptures n = t) (hn : n < s.nPaths)
    (hPaths : s.paths.map (·.1) = [n]) (hPathsT : t.paths.map (·.1) = [n]) (hOff : s.dieRt = []) (hDies : t.dieRt = [])
    (hLines : t.lines = []) (hCyc : t.cyc = 0) (hTrig : t.net.trig = 0 ∧ t.net.due = 0) (h0 : t.fireState 0 ≠ 3)
    (h1 : (t.fire 1).outcome = 0) (h2 : (t.fire 2).outcome = 0) (k : Nat) : s.idle.cyc = s.cyc ∧
    (isLedKey k = false → s.idle.g k = t.g k) := by
  have hQuiet : ∀ {u : State}, u.paths.map (·.1) = [n] → ∀ m, m ≠ n → u.startCaptures m = u := by
    intro u hu m hm
    refine State.startCaptures_default (Tab.look_of_not_mem u.paths {} ?_)
    rw [hu]
    simpa using hm
  have hAll : s.startAllCaptures = t := by
    rw [← ht]
    refine foldl_single _ (List.mem_range.mpr hn) List.nodup_range (hQuiet hPaths) (hQuiet ?_)
    rw [ht, hPathsT]
  have hClock : s.d0Clock = false := by
    unfold State.d0Clock
    rw [State.die_off hOff]
    rfl
  have hTick : s.tick = s := State.tick_off hOff
  obtain ⟨h, hHost⟩ := State.hostStep_cases t
  have hEnds : s.startAllCaptures.deliverCancels.flushPdo.gpioStep.hostStep = { t with host := h } := by
    rw [hAll, State.deliverCancels_off hLines, State.flushPdo, if_pos hTrig, State.gpioStep_off hDies, hHost]
  have hBegins : State.settleFires (State.readLines (State.settleEntries (State.tick { t with host := h }))) =
      { t with host := h } := by
    rw [State.tick_off (s := { t with host := h }) hDies, State.settleEntries_off (s := { t with host := h }) hDies,
      State.readLines_off (s := { t with host := h }) hLines hCyc,
      State.settleFires_idle (s := { t with host := h }) h0 h1 h2]
  rw [State.idle_of_stopped hEnds hBegins hClock]
  have hCycS : s.tick.cyc = s.cyc := by rw [hTick]
  refine ⟨hCycS, fun hLed => ?_⟩
  refine (State.g_blowFuses _ k).trans ?_
  unfold State.g
  rw [hLed]
  rfl

end Sys2Proof.Machine

namespace Sys2Proof

open Sys2Proof.Machine

/-- Path 2272 waits for its captures with a buffer that is not free. -/
def farPath : PathRt :=
  { lane := [{ b := 0, dn := { capS := some 0 } }], bufX := some { dir := .dn, b := 1, at_ := 0 } }

/-- A block of 569 dies, where TOF_DN_COR of path 2272 is FIRE_STAT of the host, with a firing of the host that has
applied. -/
def farRecord : State :=
  { State.reset with
    dies := 569, dieRt := [], paths := [(2272, farPath)], once := [(0x1015, 2272)]
    fires := [(0, { outcome := 1, applyAt := 5 })], od := [(K.fire_FIRE_STAT 0, 3 * 2 ^ 13)] }

theorem farRecord_keys : (farRecord.startCaptures 2272).paths.map (·.1) = [2272] := by decide +kernel

theorem farRecord_off : (farRecord.startCaptures 2272).dieRt = [] ∧ (farRecord.startCaptures 2272).lines = [] := by
  decide +kernel

theorem farRecord_net : (farRecord.startCaptures 2272).net.trig = 0 ∧ (farRecord.startCaptures 2272).net.due = 0 := by
  decide +kernel

theorem farRecord_fires : (farRecord.startCaptures 2272).fireState 0 ≠ 3 ∧
    ((farRecord.startCaptures 2272).fire 1).outcome = 0 ∧ ((farRecord.startCaptures 2272).fire 2).outcome = 0 := by
  decide +kernel

theorem farRecord_stat : (farRecord.startCaptures 2272).g (K.fire_FIRE_STAT 0) = 0 := by decide +kernel

/-- Refutes O52: the cycle is stated of every number of dies, and of 569 dies the record that path 2272 writes where it
loses its captures (R124, R192) replaces FIRE_STAT of the host in the cycle that ends: the outcome of its applied firing
never shows. -/
theorem not_idleCycle : ¬ Obligations.IdleCycle := by
  unfold Obligations.IdleCycle
  rintro ⟨-, hIdle⟩
  obtain ⟨t, ht, -, -, hShows, -⟩ := hIdle farRecord (by decide)
  have hEnd : t = farRecord.idle := by cases ht; rfl
  obtain ⟨h0, h1, h2⟩ := farRecord_fires
  obtain ⟨hCyc, hStat⟩ := State.g_idle_off (s := farRecord) (n := 2272) rfl (by decide) (by decide) farRecord_keys
    (by decide) farRecord_off.1 farRecord_off.2 (by decide +kernel) farRecord_net h0 h1 h2 (K.fire_FIRE_STAT 0)
  have hShown := hShows 0 (by decide) (by decide +kernel) (by decide +kernel) (by rw [hEnd, hCyc]; decide +kernel)
  rw [hEnd, hStat (by decide), farRecord_stat] at hShown
  exact absurd hShown (by decide +kernel)

end Sys2Proof
end

section
/-! The frame boundary. -/

namespace Sys2Proof.Machine

open Sys2Proof

/-- Of `s`, the state `t` keeps where the frame began and its number. -/
structure State.keepsFrame (s t : State) : Prop where
  at_ : t.frameAt = s.frameAt
  no : t.g K.dev_FRAME_NO = s.g K.dev_FRAME_NO

namespace State.keepsFrame

theorem refl (s : State) : keepsFrame s s := ⟨rfl, rfl⟩

theorem trans {s t u : State} (a : keepsFrame s t) (b : keepsFrame t u) : keepsFrame s u :=
  ⟨b.at_.trans a.at_, b.no.trans a.no⟩

theorem ofLogs {s t : State} (h : logsOnly s t) : keepsFrame s t :=
  ⟨h.eq (·.frameAt) fun _ _ _ _ _ _ => rfl, h.entries _ (by decide)⟩

theorem p (s : State) {k : Nat} (v : Nat) (h : K.dev_FRAME_NO ≠ k) : keepsFrame s (s.p k v) :=
    ⟨by simp, State.g_p_ne s v h⟩

theorem inc (s : State) {k : Nat} (h : K.dev_FRAME_NO ≠ k) : keepsFrame s (s.inc k) := ⟨by simp, State.g_inc_ne s h⟩

theorem setDie (s : State) (d : Nat) (r : DieRt) : keepsFrame s (s.setDie d r) := ⟨rfl, rfl⟩

theorem setSect (s : State) (i : Nat) (r : SectRt) : keepsFrame s (s.setSect i r) := ⟨rfl, rfl⟩

theorem setRtc (s : State) (v : Nat) : keepsFrame s { s with frameRtc := v } := ⟨rfl, rfl⟩

theorem setPow (s : State) (r : PowRt) : keepsFrame s { s with pow := r } := ⟨rfl, rfl⟩

theorem setPath (s : State) (n : Nat) (r : PathRt) : keepsFrame s (s.setPath n r) := ⟨rfl, rfl⟩

theorem foldl {β : Type} {f : State → β → State} (hf : ∀ s b, keepsFrame s (f s b)) (l : List β) (s : State) :
    keepsFrame s (l.foldl f s) := by
  induction l generalizing s with
  | nil => exact refl s
  | cons b l ih => exact (hf s b).trans (ih _)

theorem wake (s : State) (d : Nat) : keepsFrame s (s.wake d) :=
    ⟨s.wake_keeps d (·.frameAt) fun _ => rfl, State.g_wake s d _⟩

/-- FRAME_NO is none of the entries that tell what runs. -/
theorem ofMoves {left : Nat → Prop} {s t : State} (h : moves (K.dev_FRAME_NO ≠ ·) left s t) : keepsFrame s t :=
  ⟨h.eq (·.frameAt) fun _ _ _ _ _ _ _ _ _ _ _ _ _ _ _ _ _ => rfl, h.entries _ (by decide) (by simp)⟩

end State.keepsFrame

theorem frameNo_not_runKey {k : Nat} (h : RunKey k) : K.dev_FRAME_NO ≠ k := by
  cases h with
  | cal d => show 0x200011 ≠ 0x200121 + 256 * d; omega
  | march d => show 0x200011 ≠ 0x200181 + 256 * d; omega
  | sram d => show 0x200011 ≠ 0x20018B + 256 * d; omega
  | pin d i h => show 0x200011 ≠ 0x200152 + 256 * d + i; omega
  | chain c => show 0x200011 ≠ 0x230001 + 256 * c; omega

-- entries into power states keep the frame

theorem State.enterState_keepsFrame (s : State) (d target cause : Nat) :
    keepsFrame s (s.enterState d target cause) := by
  unfold State.enterState
  extract_lets s0 s1 r s2 _ s3
  have h0 : keepsFrame s s0 := by
    unfold s0
    split
    · exact keepsFrame.ofMoves (s.stopFuses_moves.mono (fun k hk => by rw [hk]; decide) fun _ h => h)
    · exact keepsFrame.refl s
  have h1 : keepsFrame s0 s1 := by
    refine (keepsFrame.ofMoves (left := fun _ => False)
        (State.moves_stopDie (fun _ => frameNo_not_runKey) s0 d target)).trans
      (keepsFrame.ofMoves (left := fun _ => False) (.toPower _ _ _ _ ?_))
    show 0x200011 ≠ 0x300028 + d
    omega
  have h2 : keepsFrame s1 s2 := keepsFrame.setDie _ _ _
  have h3 : keepsFrame s2 s3 := by
    unfold s3
    split
    · exact ⟨rfl, rfl⟩
    · exact keepsFrame.refl s2
  have hAll := ((h0.trans h1).trans h2).trans h3
  clear_value s3
  split
  · exact hAll.trans ⟨rfl, rfl⟩
  · exact hAll

theorem State.followersTo_keepsFrame (s : State) (target cause : Nat) : keepsFrame s (s.followersTo target cause) := by
  refine keepsFrame.foldl (fun t d => ?_) _ s
  split
  · exact t.enterState_keepsFrame d target cause
  · exact keepsFrame.refl t

theorem State.tryEntry_keepsFrame (s : State) (d : Nat) : keepsFrame s (s.tryEntry d) := by
  unfold State.tryEntry
  split
  · exact keepsFrame.refl s
  next target cause _ =>
    split
    · exact keepsFrame.setDie s _ _
    · split
      · split
        · exact keepsFrame.refl s
        · exact (s.followersTo_keepsFrame target cause).trans (State.enterState_keepsFrame _ _ _ _)
      · exact s.enterState_keepsFrame d target cause

theorem State.takeRequest_keepsFrame (s : State) (b d : Nat) : keepsFrame s (s.takeRequest b d) := by
  unfold State.takeRequest
  extract_lets r v s1 _
  have h1 : keepsFrame s s1 := keepsFrame.setDie s _ _
  clear_value s1
  split
  · exact keepsFrame.refl s
  · split
    · exact keepsFrame.refl s
    · split
      · split
        · exact h1.trans (keepsFrame.wake s1 d)
        · exact h1
      · split
        · exact h1
        · exact (h1.trans (keepsFrame.setDie s1 _ _)).trans (State.tryEntry_keepsFrame _ d)

-- the rest of a frame boundary

theorem State.takeAllowance_keepsFrame (s : State) (d : Nat) : keepsFrame s (s.takeAllowance d) := by
  unfold State.takeAllowance
  extract_lets r a s1
  have h1 : keepsFrame s s1 := (keepsFrame.setDie s _ _).trans (.p _ _ (by show 0x200011 ≠ 0x200145 + 256 * d; omega))
  clear_value s1
  split
  · exact (h1.trans (keepsFrame.ofLogs (.ofQuiet (.ev s1 _ _ _ _ _)))).trans
      (keepsFrame.inc _ (by show 0x200011 ≠ 0x200146 + 256 * d; omega))
  · exact h1

theorem State.latchPulses_keepsFrame (s : State) : keepsFrame s s.latchPulses := by
  refine keepsFrame.foldl (fun t i => ?_) _ s
  split <;> exact ⟨rfl, rfl⟩

theorem State.stampWork_keepsFrame (s : State) (b : Nat) : keepsFrame s (s.stampWork b) := by
  refine keepsFrame.foldl (fun t i => ?_) _ s
  dsimp only
  split
  · exact keepsFrame.setSect t _ _
  · exact keepsFrame.refl t

theorem State.adoptSlots_keepsFrame (s : State) (b d : Nat) : keepsFrame s (s.adoptSlots b d) := by
  unfold State.adoptSlots
  extract_lets r
  split
  · exact keepsFrame.refl s
  · exact keepsFrame.setDie s _ _

theorem State.adoptRate_keepsFrame (s : State) (b i : Nat) : keepsFrame s (s.adoptRate b i) := by
  unfold State.adoptRate
  extract_lets r force due auto byPath rate t u
  have ht : keepsFrame s t := keepsFrame.setSect s _ _
  have hu : keepsFrame s u := ht.trans (keepsFrame.p t _ (by show 0x200011 ≠ 0x220045 + 256 * i; omega))
  clear_value t u rate
  split
  · exact ht
  · split
    · exact (hu.trans (keepsFrame.inc u (by show 0x200011 ≠ 0x220046 + 256 * i; omega))).trans
        (keepsFrame.ofLogs (.ofQuiet (.evChip _ _ _)))
    · exact hu.trans (keepsFrame.ofLogs (.ofQuiet (.evChip _ _ _)))

theorem State.serveCountdown_keepsFrame (s : State) (n : Nat) : keepsFrame s (s.serveCountdown n) := by
  unfold State.serveCountdown
  extract_lets r div cd
  split
  · exact keepsFrame.setPath s _ _
  · split <;> exact keepsFrame.setPath s _ _

theorem State.g_setFrame (s : State) (b q k : Nat) :
    ({ s with frameAt := b, framing := true, frameSeq := q } : State).g k = s.g k := rfl

theorem State.frameNo_adoptLen {s : State} {b : Nat} (h : dueBy b s.lenPend = []) :
    (s.adoptLen b).g K.dev_FRAME_NO = if s.framing then wrap32 (s.g K.dev_FRAME_NO + 1) else 0 := by
  unfold State.adoptLen
  rw [h, List.getLast?_nil]
  exact State.g_p_same s _ (by decide)

/-- A frame begins at the boundary, and its number counts on where no written FRAME_LEN takes effect (R174, R175). -/
theorem State.adopt_shows (s : State) (b : Nat) : (s.adopt b).frameAt = b ∧ (dueBy b s.lenPend = [] →
    (s.adopt b).g K.dev_FRAME_NO = if s.framing then wrap32 (s.g K.dev_FRAME_NO + 1) else 0) := by
  unfold State.adopt
  extract_lets s1 s2 s3 s4
  have h2 : keepsFrame s1 s2 := keepsFrame.foldl (fun t d => t.adoptSlots_keepsFrame b d) _ s1
  have h3 : keepsFrame s2 s3 := keepsFrame.foldl (fun t i => t.adoptRate_keepsFrame b i) _ s2
  have h4 : keepsFrame s3 s4 := by
    unfold s4
    split
    · exact keepsFrame.foldl (fun t n => t.serveCountdown_keepsFrame n) _ s3
    · exact keepsFrame.refl s3
  have hNo := ((h2.trans h3).trans h4).no
  have hLen : dueBy b s.lenPend = [] → s4.g K.dev_FRAME_NO = if s.framing then wrap32 (s.g K.dev_FRAME_NO + 1) else 0 :=
    fun hLen => hNo.trans (State.frameNo_adoptLen hLen)
  clear_value s4
  exact ⟨rfl, fun h => (State.g_setFrame s4 b _ _).trans (hLen h)⟩

/-- What a frame boundary does after the schedule is adopted keeps the frame. -/
theorem State.frameBoundary_keepsFrame (s : State) : keepsFrame (s.adopt s.nextBoundary) s.frameBoundary := by
  unfold State.frameBoundary
  extract_lets b s1 s2 s3 _ s4 s5
  have h2 : keepsFrame s1 s2 := ((keepsFrame.setRtc s1 _).trans
      (keepsFrame.foldl (fun t n => .setPath t _ _) _ _)).trans
    (State.stampWork_keepsFrame _ b)
  clear_value s2
  have h3 : keepsFrame s2 s3 := keepsFrame.foldl (fun t d => t.takeAllowance_keepsFrame d) _ s2
  clear_value s3
  have h4 : keepsFrame s3 s4 := keepsFrame.setPow s3 _
  clear_value s4
  have h5 : keepsFrame s4 s5 := s4.latchPulses_keepsFrame.trans
      (keepsFrame.foldl (fun t d => t.tryEntry_keepsFrame d) _ _)
  clear_value s5
  exact (((h2.trans h3).trans h4).trans h5).trans (keepsFrame.foldl (fun t d => t.takeRequest_keepsFrame b d) _ s5)

end Sys2Proof.Machine

namespace Sys2Proof

open Sys2Proof.Machine

/-- Settles O5: a frame begins at its boundary cycle and FRAME_NO counts. -/
theorem frameBegins : Obligations.FrameBegins := by
  unfold Obligations.FrameBegins
  intro s hp hReady hClock hCyc
  have hKeeps := s.frameBoundary_keepsFrame
  obtain ⟨hAt, hNo⟩ := s.adopt_shows s.nextBoundary
  refine yields.whenTrue (by rw [hReady, hClock, decide_eq_true hCyc]; rfl) ⟨?_, fun hLen => ?_⟩
  · exact (hKeeps.at_.trans hAt).trans hCyc.symm
  · rw [State.g_keepCore _ _ (by decide), hKeeps.no]
    exact hNo (hCyc ▸ hLen)

end Sys2Proof
end

section
/-! Path records at D0, and the computation of a section. -/

namespace Sys2Proof.Machine

open Sys2Proof

theorem isLedKey_path {a n : Nat} (ha : 0x210000 ≤ a ∧ a < 0x212100) (hn : n < 32) :
    isLedKey (a + 256 * n) = false := by
  rw [isLedKey, decide_eq_false (p := 0x260000 ≤ a + 256 * n) (by omega)]
  rfl

theorem sharedKey_path {a n : Nat} (ha : 0x210000 ≤ a ∧ a < 0x212100) (hn : n < 32) :
    sharedKey (a + 256 * n) = false := by
  simp only [sharedKey, List.mem_cons, List.not_mem_nil, or_false, decide_eq_false_iff_not, K.log_QUEUE_DROP,
    K.log_LOG_STAT, K.log_STANDING, K.comm_ERRREG, K.sag_SAG_STAT, K.sag_TRIP_COUNT]
  omega

theorem nPaths_le {s : State} (h : partOk s) : s.nPaths ≤ 32 := by
  unfold State.nPaths
  rcases h with h | h | h <;> rw [h] <;> decide

-- a record reaches D0

/-- Of `s`, the state `t` keeps what D0 has of path `n`: the path's record, its velocity, and its entries. -/
structure State.keepsPath (n : Nat) (s t : State) : Prop where
  path : t.path n = s.path n
  vel : t.vel = s.vel
  entries : ∀ a, 0x210000 ≤ a ∧ a < 0x212100 → t.g (a + 256 * n) = s.g (a + 256 * n)

namespace State.keepsPath

theorem refl (n : Nat) (s : State) : keepsPath n s s := ⟨rfl, rfl, fun _ _ => rfl⟩

theorem trans {n : Nat} {s t u : State} (a : keepsPath n s t) (b : keepsPath n t u) : keepsPath n s u :=
  ⟨b.path.trans a.path, b.vel.trans a.vel, fun k h => (b.entries k h).trans (a.entries k h)⟩

theorem setSect (n : Nat) (s : State) (i : Nat) (r : SectRt) :
    keepsPath n s (s.setSect i r) := ⟨rfl, rfl, fun _ _ => rfl⟩

theorem ofLogs {n : Nat} {s t : State} (hn : n < 32) (h : logsOnly s t) : keepsPath n s t :=
  ⟨h.path n, h.eq (·.vel) fun _ _ _ _ _ _ => rfl, fun _ ha => h.entries _ (sharedKey_path ha hn)⟩

theorem foldl {n : Nat} {β : Type} {f : State → β → State} (hf : ∀ s b, keepsPath n s (f s b)) (l : List β)
    (s : State) :
    keepsPath n s (l.foldl f s) := by
  induction l generalizing s with
  | nil => exact refl n s
  | cons b l ih => exact (hf s b).trans (ih _)

theorem setWait (n : Nat) (s : State) (i m b0 : Nat) (w : Wait) : keepsPath n s (s.setWait i m b0 w) := setSect n s _ _

theorem detect (n : Nat) (s : State) (m : Nat) (v : Rat) (i : Nat) : keepsPath n s (s.detect m v i) := by
  unfold State.detect
  split
  · exact refl n s
  · exact setSect n s _ _

end State.keepsPath

theorem State.velocityOf_keepsPath {n : Nat} {s t : State} (h : keepsPath n s t) (f : FinalRec) :
    t.velocityOf n f = s.velocityOf n f := by
  unfold State.velocityOf State.gi
  rw [h.entries 0x210010 (by decide), h.entries 0x210011 (by decide)]

/-- Where no section's timeout of the slot is overdue, none expires at the delivery. -/
theorem State.noneExpires {s : State} {n b0 : Nat}
    (h : ∀ i, i < s.nSects → ∀ w, (s.sect i).waitFor n b0 = some w → s.overdue w = false) :
    (List.range s.nSects).foldl (fun t i => match (t.sect i).waitFor n b0 with
      | none => t
      | some w => if t.overdue w then t.expireWait i n b0 else t) s = s := by
  refine foldl_fixed _ fun i hi => ?_
  have hNone := h i (List.mem_range.mp hi)
  generalize (s.sect i).waitFor n b0 = o at hNone
  cases o with
  | none => rfl
  | some w => exact if_neg (by rw [hNone w rfl]; decide)

/-- A record that no section has given up on is taken (R192, R217). -/
theorem State.deliver_taken {s : State} {n : Nat} {f : FinalRec} (hn : n < 32)
    (hDue : ∀ i, i < s.nSects → ∀ w, (s.sect i).waitFor n f.b0 = some w → s.overdue w = false)
    (hLate : ∀ i, i < s.nSects → ∀ k, (s.sect i).meet n f.b0 ≠ .late k) :
    ((s.deliver n f).path n).sent = (s.path n).sent ∧ ((s.deliver n f).path n).fault = f.fault ∧
    (∀ v, s.velocityOf n f = some v → (s.deliver n f).g (K.rec_V_PATH n) = f32bits v ∧
      (s.deliver n f).vel.look none n = some (f.frameSeq, v)) := by
  unfold State.deliver
  extract_lets all s0 meets s1 lateOnes s2 v _ s3 s4 s5
  have h0 : s0 = s := State.noneExpires hDue
  have hNone : lateOnes = [] := by
    refine List.filterMap_eq_nil_iff.mpr fun m hm => ?_
    obtain ⟨i, hi, rfl⟩ := List.mem_map.mp hm
    dsimp only
    rw [h0]
    have := hLate i (List.mem_range.mp hi)
    generalize (s.sect i).meet n f.b0 = x at this
    cases x with
    | late k => exact absurd rfl (this k)
    | none => rfl
    | onTime => rfl
  have h2 : keepsPath n s s2 := by
    unfold s2
    rw [hNone, ← h0]
    exact .foldl (fun t i => .setSect n t _ _) _ s0
  rw [if_neg (fun h => h.1 hNone)]
  have hv : v = s.velocityOf n f := State.velocityOf_keepsPath h2 f
  clear_value v meets lateOnes
  have h3 : (s3.path n).sent = (s.path n).sent ∧ (s3.path n).fault = f.fault := by
    unfold s3
    rw [State.path_setPath]
    refine ⟨?_, rfl⟩
    show (s2.path n).sent = _
    rw [h2.path]
  clear_value s3
  have h4 : s4.path n = s3.path n ∧ (∀ x, v = some x → s4.g (K.rec_V_PATH n) = f32bits x ∧
      s4.vel.look none n = some (f.frameSeq, x)) := by
    unfold s4
    cases v with
    | none => exact ⟨rfl, fun x h => by cases h⟩
    | some x =>
      refine ⟨State.path_p .., fun y hy => ?_⟩
      cases hy
      refine ⟨State.g_p_same _ _ (isLedKey_path (by decide) hn), ?_⟩
      dsimp only
      rw [State.p_vel]
      show (s3.vel.store none n (some (f.frameSeq, x))).look none n = _
      rw [Tab.look_store_same]
  clear_value s4
  have h5 : keepsPath n s4 s5 := by
    refine .foldl (fun t m => ?_) _ s4
    split
    · exact .setWait n t _ _ _ _
    · exact .refl n t
  clear_value s5
  have hEnd : ∀ t, keepsPath n s5 t → (t.path n).sent = (s.path n).sent ∧ (t.path n).fault = f.fault ∧
      (∀ x, s.velocityOf n f = some x → t.g (K.rec_V_PATH n) = f32bits x ∧
          t.vel.look none n = some (f.frameSeq, x)) := by
    intro t ht
    have hAll := h5.trans ht
    rw [hAll.path, h4.1]
    refine ⟨h3.1, h3.2, fun x hx => ?_⟩
    obtain ⟨hg, hl⟩ := h4.2 x (hv.trans hx)
    exact ⟨(hAll.entries 0x21200D (by decide)).trans hg, by rw [hAll.vel]; exact hl⟩
  cases v with
  | none => exact hEnd s5 (.refl n s5)
  | some x => exact hEnd _ (.foldl (fun t i => .detect n t n x i) _ s5)

/-- A record that every section it was for has given up on is discarded (R45). -/
theorem State.deliver_discarded {s : State} {n i k : Nat} {f : FinalRec} (hn : n < 32) (hi : i < s.nSects)
    (hLate : (s.sect i).meet n f.b0 = .late k) (hTime : ∀ j, j < s.nSects → (s.sect j).meet n f.b0 ≠ .onTime) :
    keepsPath n s (s.deliver n f) := by
  have hDue : ∀ j, j < s.nSects → ∀ w, (s.sect j).waitFor n f.b0 = some w → s.overdue w = false := by
    intro j hj w hw
    have := hTime j hj
    unfold SectRt.meet at this
    rw [hw] at this
    dsimp only at this
    unfold State.overdue
    rw [decide_eq_false (fun h => by rw [h] at this; exact this rfl)]
    rfl
  unfold State.deliver
  extract_lets all s0 meets s1 lateOnes s2
  have h0 : s0 = s := State.noneExpires hDue
  have hSome : lateOnes ≠ [] := by
    have hMem : k ∈ lateOnes := by
      refine List.mem_filterMap.mpr ⟨(i, (s0.sect i).meet n f.b0), List.mem_map.mpr ⟨i, List.mem_range.mpr hi, rfl⟩, ?_⟩
      rw [h0, hLate]
    exact List.ne_nil_of_mem hMem
  have hOff : meets.all (fun m => m.2 != .onTime) = true := by
    refine List.all_eq_true.mpr fun m hm => ?_
    obtain ⟨j, hj, rfl⟩ := List.mem_map.mp hm
    dsimp only
    rw [h0]
    simpa using hTime j (List.mem_range.mp hj)
  rw [if_pos ⟨hSome, hOff⟩]
  have h1 : keepsPath n s s1 := by
    unfold s1
    rw [h0]
    exact .foldl (fun t i => .setSect n t _ _) _ s
  exact h1.trans (.foldl (fun t k => .ofLogs hn (.ofQuiet (.react t _ _ _ _ _ _))) _ s1)


-- the results of a computation

/-- The entries that a computation of section `i` writes for good: EPOCH_CYC, FRAME_NO and COMPUTE_COUNT. -/
def shownKey (i k : Nat) : Prop := k = K.res_EPOCH_CYC i ∨ k = K.res_FRAME_NO i ∨ k = K.res_COMPUTE_COUNT i

theorem not_shownKey {i a : Nat} (h : a ≠ 0x221001 ∧ a ≠ 0x221002 ∧ a ≠ 0x22101B) : ¬ shownKey i (a + 256 * i) := by
  rintro (h' | h' | h')
  · have e : a + 256 * i = 0x221001 + 256 * i := h'
    omega
  · have e : a + 256 * i = 0x221002 + 256 * i := h'
    omega
  · have e : a + 256 * i = 0x22101B + 256 * i := h'
    omega

theorem not_shownKey_pr {i n : Nat} (hn : n < 32) : ¬ shownKey i (K.res_PR i n) := by
  rintro (h | h | h)
  · have e : 0x221020 + 256 * i + n = 0x221001 + 256 * i := h
    omega
  · have e : 0x221020 + 256 * i + n = 0x221002 + 256 * i := h
    omega
  · have e : 0x221020 + 256 * i + n = 0x22101B + 256 * i := h
    omega

theorem not_shownKey_fixed {i k : Nat} (h : k < 0x221000) : ¬ shownKey i k := by
  rintro (h' | h' | h')
  · have e : k = 0x221001 + 256 * i := h'
    omega
  · have e : k = 0x221002 + 256 * i := h'
    omega
  · have e : k = 0x22101B + 256 * i := h'
    omega

theorem shownKey_cases {i k : Nat} (h : shownKey i k) : ∃ a, 0x221000 ≤ a ∧ a < 0x221100 ∧ k = a + 256 * i := by
  rcases h with h | h | h
  · exact ⟨0x221001, by decide, by decide, h⟩
  · exact ⟨0x221002, by decide, by decide, h⟩
  · exact ⟨0x22101B, by decide, by decide, h⟩

theorem isLedKey_shown {i k : Nat} (hi : i < 8) (h : shownKey i k) : isLedKey k = false := by
  obtain ⟨a, ha, hb, rfl⟩ := shownKey_cases h
  rw [isLedKey, decide_eq_false (p := 0x260000 ≤ a + 256 * i) (by omega)]
  rfl

theorem sharedKey_shown {i k : Nat} (h : shownKey i k) (hi : i < 8) : sharedKey k = false := by
  obtain ⟨a, ha, hb, rfl⟩ := shownKey_cases h
  simp only [sharedKey, List.mem_cons, List.not_mem_nil, or_false, decide_eq_false_iff_not, K.log_QUEUE_DROP,
    K.log_LOG_STAT, K.log_STANDING, K.comm_ERRREG, K.sag_SAG_STAT, K.sag_TRIP_COUNT]
  omega

/-- Of `s`, the state `t` keeps the frames section `i` has still to compute, and what its last computation shows. -/
structure State.keepsShown (i : Nat) (s t : State) : Prop where
  work : (t.sect i).work = (s.sect i).work
  entries : ∀ k, shownKey i k → t.g k = s.g k

namespace State.keepsShown

variable {i : Nat}

theorem refl (s : State) : keepsShown i s s := ⟨rfl, fun _ _ => rfl⟩

theorem trans {s t u : State} (a : keepsShown i s t) (b : keepsShown i t u) : keepsShown i s u :=
  ⟨b.work.trans a.work, fun k h => (b.entries k h).trans (a.entries k h)⟩

theorem foldlMem {β : Type} {f : State → β → State} (l : List β) (hf : ∀ s, ∀ b ∈ l, keepsShown i s (f s b))
    (s : State) :
    keepsShown i s (l.foldl f s) := by
  induction l generalizing s with
  | nil => exact refl s
  | cons b l ih =>
    exact (hf s b List.mem_cons_self).trans (ih (fun t c hc => hf t c (List.mem_cons_of_mem b hc)) _)

theorem foldl {β : Type} {f : State → β → State} (hf : ∀ s b, keepsShown i s (f s b)) (l : List β) (s : State) :
    keepsShown i s (l.foldl f s) := foldlMem l (fun s b _ => hf s b) s

theorem ofLogs {s t : State} (hi : i < 8) (h : logsOnly s t) : keepsShown i s t :=
  ⟨congrArg SectRt.work (h.sect i), fun k hk => h.entries k (sharedKey_shown hk hi)⟩

theorem ofQuiet {s t : State} (hi : i < 8) (h : quiet s t) : keepsShown i s t := ofLogs hi (.ofQuiet h)

theorem p (s : State) {k : Nat} (v : Nat) (h : ¬ shownKey i k) : keepsShown i s (s.p k v) :=
  ⟨by rw [State.sect_p], fun j hj => State.g_p_ne s v fun e => h (e ▸ hj)⟩

theorem inc (s : State) {k : Nat} (h : ¬ shownKey i k) : keepsShown i s (s.inc k) :=
  ⟨by rw [State.sect_inc], fun j hj => State.g_inc_ne s fun e => h (e ▸ hj)⟩

theorem pLed (s : State) (k v : Nat) (hi : i < 8) : keepsShown i s (s.pLed k v) := by
  refine ⟨by rw [State.sect_pLed], fun j hj => ?_⟩
  unfold State.pLed
  split
  · unfold State.g
    rw [isLedKey_shown hi hj]
    rfl
  · rfl

/-- A record update of section `i` that keeps its work. -/
theorem setSect (s : State) {r : SectRt} (h : r.work = (s.sect i).work) : keepsShown i s (s.setSect i r) :=
  ⟨by rw [State.sect_setSect, h], fun _ _ => rfl⟩

theorem setLedger (s : State) (l : LedgerRt) : keepsShown i s { s with ledger := l } := ⟨rfl, fun _ _ => rfl⟩

theorem setBill (s : State) (b : BillRt) : keepsShown i s { s with bill := b } := ⟨rfl, fun _ _ => rfl⟩

theorem whenSo {c : Prop} [Decidable c] {s t : State} (h : keepsShown i s t) : keepsShown i s (if c then t else s) := by
  split
  · exact h
  · exact refl s

theorem ps (s : State) (l : List (Nat × Nat)) (h : ∀ e ∈ l, ¬ shownKey i e.1) : keepsShown i s (s.ps l) :=
  foldlMem l (fun t e he => p t _ (h e he)) s

-- bookings

theorem addTotal (s : State) (sect q tariff n : Nat) (hi : i < 8) : keepsShown i s (s.addTotal sect q tariff n) := by
  unfold State.addTotal
  extract_lets k v t
  have ht : keepsShown i s t := pLed s _ _ hi
  clear_value t
  split
  · exact (ht.trans (setBill t _)).trans (ofQuiet hi (.evChip _ _ _))
  · exact ht

theorem addOpen (s : State) (site : Nat) {k : Nat} (v : Nat) (h : ¬ shownKey i k) :
    keepsShown i s (s.addOpen site k v) :=
  p s _ h

theorem enterBooking (s : State) (b : Booking) (r : Nat) (hi : i < 8) (hb : b.sect = i) :
    keepsShown i s (s.enterBooking b r) := by
  unfold State.enterBooking
  rw [hb]
  extract_lets j _ s1 q t _ v w x
  have h1 : keepsShown i s s1 := setLedger s _
  clear_value s1
  split
  · have ht : keepsShown i s1 t := whenSo (addTotal s1 _ _ _ _ hi)
    split
    · exact (h1.trans ht).trans (addTotal t _ _ _ _ hi)
    · exact h1.trans ht
  split
  · have hv : keepsShown i s1 v := setLedger s1 _
    clear_value v
    split
    · exact (h1.trans hv).trans (addOpen v _ _ (not_shownKey (by decide)))
    · exact h1.trans hv
  split
  · have hw : keepsShown i s1 w := whenSo (addOpen s1 _ _ (not_shownKey (by decide)))
    have hx : keepsShown i w x := whenSo (addOpen w _ _ (not_shownKey (by decide)))
    exact ((h1.trans hw).trans hx).trans (whenSo (addOpen x _ _ (not_shownKey (by decide))))
  split
  · refine h1.trans (foldl (fun t e => ?_) _ _)
    split
    · exact refl t
    · exact pLed t _ _ hi
  · exact h1

theorem bookNow (s : State) (b : Booking) (hi : i < 8) (hb : b.sect = i) : keepsShown i s (s.bookNow b) := by
  unfold State.bookNow
  extract_lets j b1 _ s1
  have h1 : keepsShown i s s1 := setLedger s _
  clear_value s1
  exact (h1.trans (foldl (fun t r => enterBooking t b1 r hi hb) _ _)).trans (setLedger _ _)

theorem book (s : State) (b : Booking) (hi : i < 8) (hb : b.sect = i) : keepsShown i s (s.book b) := by
  unfold State.book
  split
  · exact bookNow s b hi hb
  · exact setBill s _

theorem bookIf (s : State) (b : Booking) (hi : i < 8) (hb : b.sect = i) : keepsShown i s (s.bookIf b) := by
  unfold State.bookIf
  split
  · exact book s b hi hb
  · exact refl s

-- the parts of a computation

theorem updateRatios (s : State) (rows : List Row4) (hRows : ∀ r ∈ rows, r.n < 32) :
    keepsShown i s (s.updateRatios i rows) := by
  unfold State.updateRatios
  extract_lets vs sw vRef
  split
  · exact refl s
  split
  · exact refl s
  · refine foldlMem _ (fun t e he => ?_) s
    obtain ⟨r, hr, hre⟩ := List.mem_filterMap.mp he
    have hn : e.1.n < 32 := by
      split at hre
      · cases hre
        exact hRows r hr
      · cases hre
    exact p t _ (not_shownKey_pr hn)

theorem flowEvents (s : State) (f : FrameWork) (w : Flow) (rows : List Row4) (gap : Bool) (dt : Nat) (ovf : Bool)
    (hi : i < 8) : keepsShown i s (s.flowEvents i f w rows gap dt ovf) := by
  unfold State.flowEvents
  extract_lets r low s1 s2 s3 k s4 s5
  have h1 : keepsShown i s s1 := whenSo (ofQuiet hi (.onceEv _ _ _ _ _ _ _))
  have h2 : keepsShown i s1 s2 := whenSo (ofQuiet hi (.onceEv _ _ _ _ _ _ _))
  have h3 : keepsShown i s2 s3 := whenSo (ofQuiet hi (.evChip _ _ _))
  have h4 : keepsShown i s3 s4 := by
    unfold s4
    split
    · exact ofQuiet hi (.raise _ _ _ _ _ _ _ _)
    · exact whenSo (ofQuiet hi (.evChip _ _ _))
  have h5 : keepsShown i s4 s5 := whenSo (ofQuiet hi (.evChip _ _ _))
  have hAll := (((h1.trans h2).trans h3).trans h4).trans h5
  clear_value s5
  split
  · exact hAll.trans (ofQuiet hi (.evChip _ _ _))
  · exact hAll.trans (whenSo (ofQuiet hi (.evChip _ _ _)))

theorem noteClamp (s : State) (h : Heat) (hi : i < 8) : keepsShown i s (s.noteClamp i h) :=
  whenSo (ofQuiet hi (.onceEv _ _ _ _ _ _ _))

theorem holdEnergy (s : State) (hold : Bool) (hi : i < 8) : keepsShown i s (s.holdEnergy i hold) := by
  unfold State.holdEnergy
  extract_lets r s1
  have h1 : keepsShown i s s1 := setSect s rfl
  clear_value s1
  exact h1.trans (whenSo (ofQuiet hi (.evChip _ _ _)))

theorem peak (s : State) {k : Nat} (q rtc : Nat) (hk : ¬ shownKey i k) (hTime : ¬ shownKey i (k + 1)) :
    keepsShown i s (s.peak i k q rtc) :=
  whenSo (((p s _ hk).trans (p _ _ hTime)).trans (setLedger _ _))

theorem peaks (s : State) (q : Int) (rtc : Nat) : keepsShown i s (s.peaks i q rtc) := by
  have hKey : ∀ a, 0x221013 ≤ a ∧ a < 0x22101A → ∀ (t : State) (n : Nat),
      keepsShown i t (t.peak i (a + 256 * i) n rtc) := fun a ha t n => by
    refine peak t n rtc (not_shownKey (by omega)) ?_
    rw [Nat.add_right_comm]
    exact not_shownKey (by omega)
  unfold State.peaks
  split
  · exact (hKey 0x221013 (by decide) s _).trans (hKey 0x221017 (by decide) _ _)
  · exact whenSo ((hKey 0x221015 (by decide) s _).trans (hKey 0x221019 (by decide) _ _))

theorem showEnergy (s : State) (q : Int) (h : Heat) (hi : i < 8) : keepsShown i s (s.showEnergy i q h) := by
  unfold State.showEnergy
  extract_lets rev power
  have hBoth : ∀ a b, keepsShown i s ((s.p (K.res_E_FLAGS i) a).p (K.res_POWER_W i) b) := fun a b =>
    (p s _ (not_shownKey (by decide))).trans (p _ _ (not_shownKey (by decide)))
  split
  · exact hBoth _ _
  · exact (hBoth _ _).trans (noteClamp _ h hi)

theorem accumulate (s : State) (q : Int) (dt : Nat) :
    keepsShown i s (s.accumulate i q dt).1 ∧ (s.accumulate i q dt).2.2.sect = i := by
  unfold State.accumulate
  extract_lets r fwd n dv res r1
  split
  · exact ⟨refl s, rfl⟩
  · refine ⟨setSect s ?_, rfl⟩
    unfold r1
    split <;> rfl

theorem addEnergy (s : State) (dv : Nat) (h : Heat) (b : Booking) (hb : b.sect = i) :
    keepsShown i s (s.addEnergy dv h b).1 ∧ (s.addEnergy dv h b).2.sect = i := by
  unfold State.addEnergy
  rw [hb]
  extract_lets r e rest
  split
  · exact ⟨refl s, hb⟩
  · refine ⟨setSect s ?_, rfl⟩
    split <;> rfl

theorem billFlow (s : State) (q : Int) (dt : Nat) (overflow : Bool) (hi : i < 8) :
    keepsShown i s (s.billFlow i q dt overflow) := by
  unfold State.billFlow
  extract_lets h en a hold _ b e s3
  obtain ⟨ha, hSect⟩ := accumulate (i := i) s q dt
  have hb : b.sect = i := hSect
  have he : keepsShown i s e.1 ∧ e.2.sect = i := by
    unfold e
    split
    · obtain ⟨hk, hs⟩ := addEnergy a.1 a.2.1 h b hb
      exact ⟨ha.trans hk, hs⟩
    · exact ⟨ha, hb⟩
  clear_value e
  have h3 : keepsShown i s s3 := (he.1.trans (bookIf e.1 e.2 hi he.2)).trans (showEnergy _ q h hi)
  clear_value s3
  exact h3.trans (whenSo (holdEnergy s3 _ hi))

theorem noteFirstFlow (s : State) (fail : Bool) : keepsShown i s (s.noteFirstFlow fail) := by
  unfold State.noteFirstFlow
  split
  · exact refl s
  · exact p s _ (not_shownKey_fixed (by decide))

theorem irq (s : State) (n : Nat) : keepsShown i s (s.irq n) := ⟨rfl, fun _ _ => rfl⟩

end State.keepsShown

/-- The results of a computation take the frame's epoch and number first. -/
theorem State.writeFlow_shows (s : State) {i : Nat} (f : FrameWork) (w : Flow) (rows : List Row4) (q qRaw : Int)
    (flags : Nat)
    (hi : i < 8) : (s.writeFlow i f w rows q qRaw flags).g (K.res_EPOCH_CYC i) = f.epoch ∧
    (s.writeFlow i f w rows q qRaw flags).g (K.res_FRAME_NO i) = f.frameNo ∧
    (s.writeFlow i f w rows q qRaw flags).g (K.res_COMPUTE_COUNT i) = s.g (K.res_COMPUTE_COUNT i) ∧
    (s.writeFlow i f w rows q qRaw flags).sect i = s.sect i := by
  unfold State.writeFlow
  extract_lets open_
  clear_value open_
  have hSect : ∀ l, (s.ps l).sect i = s.sect i :=
      fun l => foldl_keeps (fun u : State => u.sect i) (fun _ _ => State.sect_p ..) l s
  have hFrame : K.res_EPOCH_CYC i ≠ K.res_FRAME_NO i := by
    show 0x221001 + 256 * i ≠ 0x221002 + 256 * i
    omega
  have hFirst : ∀ l, (∀ e ∈ l, ¬ shownKey i e.1) →
      (s.ps ((K.res_EPOCH_CYC i, f.epoch) :: (K.res_FRAME_NO i, f.frameNo) :: l)).g (K.res_EPOCH_CYC i) = f.epoch ∧
      (s.ps ((K.res_EPOCH_CYC i, f.epoch) :: (K.res_FRAME_NO i, f.frameNo) :: l)).g (K.res_FRAME_NO i) = f.frameNo ∧
      (s.ps ((K.res_EPOCH_CYC i, f.epoch) :: (K.res_FRAME_NO i, f.frameNo) :: l)).g (K.res_COMPUTE_COUNT i) =
        s.g (K.res_COMPUTE_COUNT i) ∧
      (s.ps ((K.res_EPOCH_CYC i, f.epoch) :: (K.res_FRAME_NO i, f.frameNo) :: l)).sect i = s.sect i := by
    intro l hl
    have hRest := State.keepsShown.ps (i := i) ((s.p (K.res_EPOCH_CYC i) f.epoch).p (K.res_FRAME_NO i) f.frameNo) l hl
    refine ⟨(hRest.entries _ (.inl rfl)).trans ?_, (hRest.entries _ (.inr (.inl rfl))).trans ?_,
      (hRest.entries _ (.inr (.inr rfl))).trans ?_, hSect _⟩
    · rw [State.g_p_ne _ _ hFrame, State.g_p_same _ _ (isLedKey_shown hi (.inl rfl))]
    · rw [State.g_p_same _ _ (isLedKey_shown hi (.inr (.inl rfl)))]
    · rw [State.g_p_ne, State.g_p_ne]
      · show 0x22101B + 256 * i ≠ 0x221001 + 256 * i
        omega
      · show 0x22101B + 256 * i ≠ 0x221002 + 256 * i
        omega
  refine hFirst _ fun e he => ?_
  simp only [List.mem_cons, List.not_mem_nil, or_false] at he
  rcases he with rfl | rfl | rfl | rfl | rfl | rfl | rfl | rfl | rfl | rfl | rfl | rfl | rfl
  all_goals exact not_shownKey (by decide)

theorem State.rows_lt (s : State) (i : Nat) (f : FrameWork) : ∀ r ∈ s.rows i f, r.n < 32 := by
  intro r hr
  obtain ⟨n, hn, rfl⟩ := List.mem_map.mp hr
  exact List.mem_range.mp (List.mem_filter.mp hn).1

/-- A computation shows its frame and counts; what the section has still to compute stays (R219, R254). -/
theorem State.compute_shows (s : State) {i : Nat} (f : FrameWork) (hi : i < 8) :
    (s.compute i f).g (K.res_EPOCH_CYC i) = f.epoch ∧ (s.compute i f).g (K.res_FRAME_NO i) = f.frameNo ∧
    (s.compute i f).g (K.res_COMPUTE_COUNT i) = wrap32 (s.g (K.res_COMPUTE_COUNT i) + 1) ∧
    ((s.compute i f).sect i).work = (s.sect i).work := by
  unfold State.compute
  extract_lets rows w r freeQ qRaw cut q d o flags s1 s2 _ s3 s4 s5 s6 idle s7
  have h1 : keepsShown i s s1 := (keepsShown.updateRatios s rows (s.rows_lt i f)).trans
    (keepsShown.flowEvents _ f w rows _ _ _ hi)
  clear_value s1 rows w r qRaw cut q d o flags
  obtain ⟨hEpoch, hNo, hCount, hSect⟩ := s1.writeFlow_shows f w rows q qRaw flags hi
  have h3 : keepsShown i s2 s3 := keepsShown.setSect s2 rfl
  clear_value s3
  have h4 : s4.g (K.res_EPOCH_CYC i) = f.epoch ∧ s4.g (K.res_FRAME_NO i) = f.frameNo ∧
      s4.g (K.res_COMPUTE_COUNT i) = wrap32 (s.g (K.res_COMPUTE_COUNT i) + 1) ∧ (s4.sect i).work = (s.sect i).work := by
    unfold s4
    refine ⟨?_, ?_, ?_, ?_⟩
    · rw [State.g_inc_ne _ (by show 0x221001 + 256 * i ≠ 0x22101B + 256 * i; omega), h3.entries _ (.inl rfl)]
      exact hEpoch
    · rw [State.g_inc_ne _ (by show 0x221002 + 256 * i ≠ 0x22101B + 256 * i; omega), h3.entries _ (.inr (.inl rfl))]
      exact hNo
    · rw [State.g_inc_same _ (isLedKey_shown hi (.inr (.inr rfl))), h3.entries _ (.inr (.inr rfl)),
        ← h1.entries _ (.inr (.inr rfl)), ← hCount]
    · rw [State.sect_inc, h3.work, ← h1.work]
      exact congrArg SectRt.work hSect
  clear_value s4
  have h5 : keepsShown i s4 s5 := .whenSo (.inc s4 (not_shownKey (by decide)))
  clear_value s5
  have h6 : keepsShown i s5 s6 := .whenSo (.inc s5 (not_shownKey (by decide)))
  clear_value s6
  have hIdle : ∀ n, keepsShown i s6 (idle n) := fun n => .bookIf s6 _ hi rfl
  clear_value idle
  have h7 : keepsShown i s6 s7 := by
    unfold s7
    split
    · exact ((hIdle 1).trans (.p _ _ (not_shownKey (by decide)))).trans (.p _ _ (not_shownKey (by decide)))
    · split
      · exact ((hIdle 2).trans (.showEnergy _ _ _ hi)).trans (.peaks _ _ _)
      · exact (keepsShown.billFlow s6 _ _ _ hi).trans (.peaks _ _ _)
  clear_value s7
  have hAll : keepsShown i s4 ((s7.noteFirstFlow w.fail).irq 2) :=
    (((h5.trans h6).trans h7).trans (.noteFirstFlow s7 _)).trans (.irq _ _)
  obtain ⟨e1, e2, e3, e4⟩ := h4
  exact ⟨(hAll.entries _ (.inl rfl)).trans e1, (hAll.entries _ (.inr (.inl rfl))).trans e2,
    (hAll.entries _ (.inr (.inr rfl))).trans e3, hAll.work.trans e4⟩

theorem nSects_le (s : State) : s.nSects ≤ 8 := by
  unfold State.nSects
  split <;> decide

end Sys2Proof.Machine

namespace Sys2Proof

open Sys2Proof.Machine

/-- Settles O11: a delivered path record reaches D0, and a resolved frame is computed. -/
theorem sectionsFed : Obligations.SectionsFed := by
  unfold Obligations.SectionsFed
  refine ⟨?_, ?_, ?_⟩
  · intro s n f rest hp hn hSent hDue hLate
    have h32 : n < 32 := hn.trans_le (nPaths_le hp)
    refine yields.fitted (decide_eq_true hn) (yields.confined ?_)
    rw [hSent]
    dsimp only
    obtain ⟨h1, h2, h3⟩ := State.deliver_taken (s := s.setPath n { s.path n with sent := rest }) h32 hDue hLate
    rw [State.path_setPath] at h1
    refine ⟨h1, h2, fun v hv => ?_⟩
    obtain ⟨hg, hl⟩ := h3 v hv
    exact ⟨(State.g_keepCore _ _ (isLedKey_path (by decide) h32)).trans hg, hl⟩
  · intro s n i k f rest hp hn hSent hi hLate hTime
    have h32 : n < 32 := hn.trans_le (nPaths_le hp)
    refine yields.fitted (decide_eq_true hn) (yields.confined ?_)
    rw [hSent]
    dsimp only
    have hKeeps := State.deliver_discarded (s := s.setPath n { s.path n with sent := rest }) h32 hi hLate hTime
    rw [State.path_keepCore, State.g_keepCore _ _ (isLedKey_path (by decide) h32), hKeeps.path, State.path_setPath]
    exact ⟨rfl, rfl, hKeeps.vel, hKeeps.entries 0x21200D (by decide)⟩
  · intro s i f rest hp hi hWork hReady hMask hLower
    have h8 : i < 8 := hi.trans_le (nSects_le s)
    have hTurn : s.computeNext i =
        (s.setSect i { s.sect i with work := rest, late := (s.sect i).late ++ f.expired }).compute i f := by
      unfold State.computeNext
      extract_lets r
      have hr : r.work = f :: rest := hWork
      rw [hr]
      dsimp only
      rw [hReady, if_neg (by decide), if_neg hMask]
    refine yields.fitted (decide_eq_true hi) (yields_booking ?_)
    rw [hLower, List.foldl_nil, hTurn]
    obtain ⟨h1, h2, h3, h4⟩ := State.compute_shows
      (s.setSect i { s.sect i with work := rest, late := (s.sect i).late ++ f.expired }) f h8
    rw [State.sect_setSect] at h4
    exact ⟨h1, h2, h4, h3⟩

end Sys2Proof
end

section
/-! Channels: clamp hits, starts and results at D0, and the timeout. -/

namespace Sys2Proof.Machine

open Sys2Proof

-- clamp hits

theorem pinStat_eq (d i : Nat) : K.die_PIN_STAT d i = (0x200152 + i) + 256 * d := by
  show 0x200152 + 256 * d + i = _
  omega

theorem clampCount_eq (d i : Nat) : K.die_CLAMP_COUNT d i = (0x200162 + i) + 256 * d := by
  show 0x200162 + 256 * d + i = _
  omega

theorem State.g_setPin (s : State) (n : Nat) (r : PinRt) (k : Nat) : (s.setPin n r).g k = s.g k := rfl

/-- A clamp hit counts, shows and sticks (R281). -/
theorem State.clampHit_shows (s : State) {d pin : Nat} (hd : d < 8) (hp : pin < 16) :
    (s.clampHit d pin).g (K.die_CLAMP_COUNT d pin) = wrap32 (s.g (K.die_CLAMP_COUNT d pin) + 1) ∧
    bitSet (s.clampHit d pin) (K.die_PIN_STAT d pin) 1 ∧ bitSet (s.clampHit d pin) (K.die_PIN_STAT d pin) 2 := by
  have hLedStat : isLedKey (K.die_PIN_STAT d pin) = false := by
    rw [pinStat_eq]; exact isLedKey_die (by omega) hd
  have hLedCount : isLedKey (K.die_CLAMP_COUNT d pin) = false := by
    rw [clampCount_eq]; exact isLedKey_die (by omega) hd
  have hStat : sharedKey (K.die_PIN_STAT d pin) = false := by
    rw [pinStat_eq]; exact sharedKey_die (by omega) hd
  have hCount : sharedKey (K.die_CLAMP_COUNT d pin) = false := by
    rw [clampCount_eq]; exact sharedKey_die (by omega) hd
  have hNe : K.die_PIN_STAT d pin ≠ K.die_CLAMP_COUNT d pin := by
    show 0x200152 + 256 * d + pin ≠ 0x200162 + 256 * d + pin
    omega
  unfold State.clampHit
  extract_lets n s1 _ s2
  have h1 : s2.g (K.die_CLAMP_COUNT d pin) = wrap32 (s.g (K.die_CLAMP_COUNT d pin) + 1) :=
    (State.g_bitTo_ne _ _ _ hNe.symm).trans (State.g_inc_same s hLedCount)
  have h2 : bitAt (s2.g (K.die_PIN_STAT d pin)) 1 = true := State.bit_bitTo_same _ _ _ hLedStat
  have h3 : bitAt (s2.g (K.die_PIN_STAT d pin)) 2 = s.bit (K.die_PIN_STAT d pin) 2 := by
    refine (State.bit_bitTo_ne _ _ (by decide)).trans ?_
    rw [State.g_inc_ne s hNe]
    rfl
  clear_value s2
  split
  next hSticky => exact ⟨h1, h2, h3.trans hSticky⟩
  next =>
    rw [bitSet, bitSet, State.g_setPin, State.g_setPin]
    refine ⟨?_, ?_, ?_⟩
    · rw [State.g_bitTo_ne _ _ _ hNe.symm, State.g_declare _ _ _ _ _ _ hCount, h1]
    · rw [State.bit_bitTo_ne _ _ (by decide), State.g_declare _ _ _ _ _ _ hStat, h2]
    · exact State.bit_bitTo_same _ _ _ hLedStat

-- starts of channels at D0

/-- Of `s`, the state `t` differs in nothing but the sections' records. -/
def State.sectsOnly (s t : State) : Prop := t = { s with sects := t.sects }

theorem State.sectsOnly.trans {s t u : State} (a : sectsOnly s t) (b : sectsOnly t u) : sectsOnly s u := by
  unfold State.sectsOnly at *
  rw [b, a]

theorem State.sectsOnly.foldl {β : Type} {f : State → β → State} (hf : ∀ s b, sectsOnly s (f s b)) (l : List β)
    (s : State) :
    sectsOnly s (l.foldl f s) := by
  induction l generalizing s with
  | nil => rfl
  | cons b l ih => exact (hf s b).trans (ih _)

/-- CHAN_TMO of section `i` armed for channel `c` (R275). -/
def State.armOne (s : State) (c i : Nat) : State :=
  s.setSect i { s.sect i with chanWait := (s.sect i).chanWait.filter (fun w => decide (w.1 ≠ c)) ++
    [(c, cycPlus s.cyc (s.g (K.dev_CHAN_TMO i) * 24576), 0)] }

theorem State.armChannel_eq (s : State) (c : Nat) : s.armChannel c = (s.usersOf c).foldl (fun t i => t.armOne c i)
    s := rfl

theorem State.armOne_only (s : State) (c i : Nat) : sectsOnly s (s.armOne c i) := rfl

/-- What arming one section leaves of another channel's waits, and of the same channel's. -/
theorem State.mem_armOne {s : State} {c i j : Nat} {w : Nat × Nat × Nat} (h : w ∈ (s.sect j).chanWait)
    (hw : w.1 = c → j = i → w = (c, cycPlus s.cyc (s.g (K.dev_CHAN_TMO i) * 24576), 0)) :
    w ∈ ((s.armOne c i).sect j).chanWait := by
  unfold State.armOne
  by_cases hj : j = i
  · subst hj
    rw [State.sect_setSect]
    by_cases hc : w.1 = c
    · exact List.mem_append_right _ (List.mem_singleton.mpr (hw hc rfl))
    · exact List.mem_append_left _ (List.mem_filter.mpr ⟨h, decide_eq_true hc⟩)
  · rwa [State.sect_setSect_ne _ _ hj]

/-- Arming a list of sections for a channel. -/
theorem State.armList_shows (l : List Nat) (s : State) (c : Nat) :
    (∀ j w, w ∈ (s.sect j).chanWait →
      (w.1 = c → w = (c, cycPlus s.cyc (s.g (K.dev_CHAN_TMO j) * 24576), 0)) →
      w ∈ ((l.foldl (fun t i => t.armOne c i) s).sect j).chanWait) ∧
    (∀ j ∈ l, (c, cycPlus s.cyc (s.g (K.dev_CHAN_TMO j) * 24576), 0) ∈
      ((l.foldl (fun t i => t.armOne c i) s).sect j).chanWait) := by
  induction l generalizing s with
  | nil => exact ⟨fun _ _ h _ => h, fun j h => absurd h List.not_mem_nil⟩
  | cons i l ih =>
    obtain ⟨hOld, hNew⟩ := ih (s.armOne c i)
    rw [List.foldl_cons]
    refine ⟨fun j w h hw => hOld j w (State.mem_armOne h fun hc hj => hj ▸ hw hc) hw, fun j hj => ?_⟩
    rcases List.mem_cons.mp hj with rfl | hj
    · refine hOld j _ ?_ fun _ => rfl
      unfold State.armOne
      rw [State.sect_setSect]
      exact List.mem_append_right _ (List.mem_singleton.mpr rfl)
    · exact hNew j hj

theorem State.armChannel_only (s : State) (c : Nat) : sectsOnly s (s.armChannel c) :=
  .foldl (fun t i => t.armOne_only c i) _ s

/-- Arming other channels keeps a channel's waits; arming it arms every section that uses it. -/
theorem State.armChannels_shows (l : List Nat) (s : State) (c : Nat) :
    sectsOnly s (l.foldl (fun t j => t.armChannel (c + j)) s) ∧
    (∀ i w, w ∈ (s.sect i).chanWait → (∀ j ∈ l, w.1 = c + j →
        w = (c + j, cycPlus s.cyc (s.g (K.dev_CHAN_TMO i) * 24576), 0)) →
      w ∈ ((l.foldl (fun t j => t.armChannel (c + j)) s).sect i).chanWait) ∧
    (∀ j ∈ l, ∀ i ∈ s.usersOf (c + j), (c + j, cycPlus s.cyc (s.g (K.dev_CHAN_TMO i) * 24576), 0) ∈
      ((l.foldl (fun t j => t.armChannel (c + j)) s).sect i).chanWait) := by
  induction l generalizing s with
  | nil => exact ⟨rfl, fun _ _ h _ => h, fun j h => absurd h List.not_mem_nil⟩
  | cons k l ih =>
    rw [List.foldl_cons]
    obtain ⟨hOld, hNew⟩ := State.armList_shows (s.usersOf (c + k)) s (c + k)
    rw [← State.armChannel_eq] at hOld hNew
    have hOnly := s.armChannel_only (c + k)
    obtain ⟨hAll, hKept, hArmed⟩ := ih (s.armChannel (c + k))
    generalize s.armChannel (c + k) = t at *
    have hCyc : t.cyc = s.cyc := by rw [hOnly]
    have hG : ∀ x, t.g x = s.g x := fun x => by rw [hOnly]; rfl
    have hUsers : ∀ x, t.usersOf x = s.usersOf x := fun x => by rw [hOnly]; rfl
    rw [hCyc] at hKept hArmed
    refine ⟨hOnly.trans hAll, fun i w h hw => ?_, fun j hj i hi => ?_⟩
    · refine hKept i w (hOld i w h (hw k List.mem_cons_self)) fun j hj hc => ?_
      rw [hG]
      exact hw j (List.mem_cons_of_mem k hj) hc
    · rcases List.mem_cons.mp hj with rfl | hj
      · refine hKept i _ (hNew i hi) fun j' hj' hc => ?_
        rw [hG]
        dsimp only at hc
        rw [hc]
      · have := hArmed j hj i (by rw [hUsers]; exact hi)
        rwa [hG] at this

-- the channel timeout

/-- Of `s`, the state `t` keeps every die's COUNT and what every section waits for. -/
structure State.keepsWaits (s t : State) : Prop where
  count : ∀ d, (t.die d).count = (s.die d).count
  waits : ∀ i, (t.sect i).chanWait = (s.sect i).chanWait

namespace State.keepsWaits

theorem refl (s : State) : keepsWaits s s := ⟨fun _ => rfl, fun _ => rfl⟩

theorem trans {s t u : State} (a : keepsWaits s t) (b : keepsWaits t u) : keepsWaits s u :=
  ⟨fun d => (b.count d).trans (a.count d), fun i => (b.waits i).trans (a.waits i)⟩

theorem ofQuiet {s t : State} (h : quiet s t) : keepsWaits s t :=
  ⟨fun d => (h.dies d).eq (·.count) fun _ _ => rfl, fun i => congrArg SectRt.chanWait ((logsOnly.ofQuiet h).sect i)⟩

theorem p (s : State) (k v : Nat) : keepsWaits s (s.p k v) := ⟨by simp, by simp⟩

theorem bitTo (s : State) (k n : Nat) (b : Bool) : keepsWaits s (s.bitTo k n b) := p s _ _

theorem setChan (s : State) (c : Nat) (r : ChanRt) : keepsWaits s (s.setChan c r) := ⟨fun _ => rfl, fun _ => rfl⟩

theorem setDie (s : State) (d : Nat) {r : DieRt} (h : r.count = (s.die d).count) : keepsWaits s (s.setDie d r) := by
  refine ⟨fun e => ?_, fun _ => rfl⟩
  by_cases he : e = d
  · subst he; rw [State.die_setDie, h]
  · rw [State.die_setDie_ne _ _ he]

theorem foldl {β : Type} {f : State → β → State} (hf : ∀ s b, keepsWaits s (f s b)) (l : List β) (s : State) :
    keepsWaits s (l.foldl f s) := by
  induction l generalizing s with
  | nil => exact refl s
  | cons b l ih => exact (hf s b).trans (ih _)

theorem syncChain (s : State) (c : Nat) : keepsWaits s (s.syncChain c) := by
  unfold State.syncChain
  refine foldl (fun u j => ?_) _ s
  dsimp only
  split
  · exact p u _ _
  · split
    · exact p u _ _
    · exact refl u

theorem syncUsed (s : State) (d : Nat) : keepsWaits s (s.syncUsed d) := by
  unfold State.syncUsed
  refine foldl (fun t i => ?_) _ s
  split
  · exact refl t
  · exact bitTo t _ _ _

theorem nextConv (s : State) (d c : Nat) : keepsWaits s (s.nextConv d c) := by
  unfold State.nextConv
  split
  · exact setDie s d rfl
  next x rest _ =>
    exact (setDie s d (r := { s.die d with scanLeft := x :: rest, scanOn := true }) rfl).trans
      (setChan _ _ _)

theorem leaveConv (s : State) (c : Nat) : keepsWaits s (s.leaveConv c) := by
  unfold State.leaveConv
  extract_lets r s1
  have h1 : keepsWaits s s1 := setChan s _ _
  clear_value s1
  refine keepsWaits.trans (t := if r.rechain then (s1.syncChain c).syncUsed (c / 16) else s1) ?_ (nextConv _ _ _)
  split
  · exact (h1.trans (syncChain s1 c)).trans (syncUsed _ _)
  · exact h1

theorem cancelChannel (s : State) (c serial : Nat) : keepsWaits s (s.cancelChannel c serial) := by
  unfold State.cancelChannel
  extract_lets h d s1
  have h1 : keepsWaits s s1 := ofQuiet (.react s _ _ _ _ _ _)
  clear_value s1
  split
  · exact (h1.trans (foldl (fun t j => bitTo t _ _ _) _ s1)).trans (leaveConv _ _)
  · exact h1.trans (bitTo s1 _ _ _)

end State.keepsWaits

/-- The expiry of a section's CHAN_TMO is declared on D0, and the section's waits for the channel take its serial (R38,
R275). -/
theorem State.expireChannel_shows (s : State) (i c : Nat) :
    ((s.expireChannel i c).die 0).count = nextCount (s.die 0).count ∧
    ∀ w ∈ ((s.expireChannel i c).sect i).chanWait, w.1 = c → w.2.2 = s.nextSerial 0 := by
  unfold State.expireChannel
  extract_lets serial s1 r s2 _
  have hCount : (s2.die 0).count = nextCount (s.die 0).count := by
    unfold s2
    rw [State.die_setSect]
    exact s.count_declare 0 3 0 0x2022 [i, c]
  have hWaits : ∀ w ∈ (s2.sect i).chanWait, w.1 = c → w.2.2 = serial := by
    intro w hw hc
    unfold s2 at hw
    rw [State.sect_setSect] at hw
    obtain ⟨x, -, rfl⟩ := List.mem_map.mp hw
    by_cases hx : x.1 = c
    · rw [if_pos hx]
    · rw [if_neg hx] at hc
      exact absurd hc hx
  clear_value s2
  have hEnd : ∀ t, keepsWaits s2 t → (t.die 0).count = nextCount (s.die 0).count ∧
      ∀ w ∈ (t.sect i).chanWait, w.1 = c → w.2.2 = serial := fun t ht => by
    rw [ht.count, ht.waits]
    exact ⟨hCount, hWaits⟩
  split
  · exact hEnd _ (.cancelChannel s2 c serial)
  · exact hEnd _ (.setChan s2 c _)

-- results at D0

/-- No section has given up on channel `c`: its waits are armed, and none is overdue. -/
def State.awaited (s : State) (c : Nat) : Prop :=
  ∀ i, i < s.nSects → ∀ w ∈ (s.sect i).chanWait, w.1 = c → w.2.2 = 0 ∧ (cycReached s.cyc w.2.1 = false ∨ s.cyc = w.2.1)

/-- Of `s`, the state `t` keeps all channels but `c`, and its sections wait for nothing new. -/
structure State.acceptsOnly (c : Nat) (s t : State) : Prop where
  cyc : t.cyc = s.cyc
  dies : t.dies = s.dies
  chans : ∀ m, m ≠ c → t.chan m = s.chan m
  waits : ∀ i, ∀ w ∈ (t.sect i).chanWait, w ∈ (s.sect i).chanWait

/-- The channel's waits of all sections are dropped. -/
theorem State.disarm_shows (l : List Nat) (s : State) (c : Nat) :
    let t := l.foldl (fun t i => t.setSect i { t.sect i with
      chanWait := (t.sect i).chanWait.filter (fun w => decide (w.1 ≠ c)) }) s
    (∀ i, ∀ w ∈ (t.sect i).chanWait, w ∈ (s.sect i).chanWait) ∧ ∀ i ∈ l, ∀ w ∈ (t.sect i).chanWait, w.1 ≠ c := by
  induction l generalizing s with
  | nil => exact ⟨fun _ _ h => h, fun i h => absurd h List.not_mem_nil⟩
  | cons k l ih =>
    intro t
    obtain ⟨hSub, hOff⟩ := ih (s.setSect k { s.sect k with
      chanWait := (s.sect k).chanWait.filter (fun w => decide (w.1 ≠ c)) })
    have hOne : ∀ i w, w ∈ ((s.setSect k { s.sect k with
        chanWait := (s.sect k).chanWait.filter (fun w => decide (w.1 ≠ c)) }).sect i).chanWait →
        w ∈ (s.sect i).chanWait ∧ (i = k → w.1 ≠ c) := by
      intro i w hw
      by_cases hi : i = k
      · subst hi
        rw [State.sect_setSect] at hw
        obtain ⟨hMem, hNe⟩ := List.mem_filter.mp hw
        exact ⟨hMem, fun _ => of_decide_eq_true hNe⟩
      · rw [State.sect_setSect_ne _ _ hi] at hw
        exact ⟨hw, fun h => absurd h hi⟩
    refine ⟨fun i w hw => (hOne i w (hSub i w hw)).1, fun i hi w hw => ?_⟩
    rcases List.mem_cons.mp hi with rfl | hi
    · exact (hOne i w (hSub i w hw)).2 rfl
    · exact hOff i hi w hw

theorem State.expireOverdue_awaited {s : State} {c : Nat} (h : s.awaited c) : s.expireOverdue c = s := by
  refine foldl_fixed _ fun i hi => if_neg fun hAny => ?_
  obtain ⟨w, hw, hCond⟩ := List.any_eq_true.mp hAny
  simp only [Bool.and_eq_true, decide_eq_true_eq] at hCond
  obtain ⟨⟨⟨hc, -⟩, hReached⟩, hNe⟩ := hCond
  rcases (h i (List.mem_range.mp hi) w hw hc).2 with hNot | hNow
  · rw [hNot] at hReached
    cases hReached
  · exact hNe hNow

/-- A result that the sections await becomes available and disarms their waits (R275, R280). -/
theorem State.acceptResult_shows {s : State} {c : Nat} (h : s.awaited c) : acceptsOnly c s (s.acceptResult c) ∧
    ∀ v rest, (s.chan c).results = v :: rest →
      ((s.acceptResult c).chan c).results = rest ∧ ((s.acceptResult c).chan c).lastOk = v.valid ∧
      (v.valid = true → ((s.acceptResult c).chan c).val = some v.value ∧
        ((s.acceptResult c).chan c).valCyc = v.resCyc) ∧
      ∀ i, i < s.nSects → ∀ w ∈ ((s.acceptResult c).sect i).chanWait, w.1 ≠ c := by
  unfold State.acceptResult
  cases hRes : (s.chan c).results with
  | nil => exact ⟨⟨rfl, rfl, fun _ _ => rfl, fun _ _ h => h⟩, fun v rest h => by cases h⟩
  | cons v rest =>
    dsimp -zeta only
    extract_lets _ s1 late s2
    have h1 : s1 = s.setChan c { s.chan c with results := rest } :=
      State.expireOverdue_awaited (s := s.setChan c { s.chan c with results := rest }) h
    have hLate : late = [] := by
      refine List.filterMap_eq_nil_iff.mpr fun i hi => ?_
      rw [Option.map_eq_none_iff, List.find?_eq_none]
      intro w hw hCond
      rw [h1] at hw
      rw [Bool.and_eq_true, decide_eq_true_eq, decide_eq_true_eq] at hCond
      exact hCond.2 (h i (List.mem_range.mp hi) w hw hCond.1).1
    obtain ⟨hSub, hOff⟩ := State.disarm_shows (List.range s.nSects) s1 c
    have h2 : sectsOnly s1 s2 := sectsOnly.foldl (f := fun t i => t.setSect i { t.sect i with
      chanWait := (t.sect i).chanWait.filter (fun w => decide (w.1 ≠ c)) }) (fun _ _ => rfl) _ s1
    have hSub2 : ∀ i, ∀ w ∈ (s2.sect i).chanWait, w ∈ (s1.sect i).chanWait := hSub
    have hOff2 : ∀ i ∈ List.range s.nSects, ∀ w ∈ (s2.sect i).chanWait, w.1 ≠ c := hOff
    clear_value s1 s2
    rw [if_neg (fun hne => hne hLate)]
    have hChan : ∀ m, s2.chan m = s1.chan m := fun m => by rw [h2]; rfl
    have hEnd : ∀ r : ChanRt, acceptsOnly c s (s2.setChan c r) := fun r => by
      refine ⟨?_, ?_, fun m hm => ?_, fun i w hw => ?_⟩
      · show s2.cyc = s.cyc
        rw [h2, h1]; rfl
      · show s2.dies = s.dies
        rw [h2, h1]; rfl
      · rw [State.chan_setChan_ne _ _ hm, hChan, h1, State.chan_setChan_ne _ _ hm]
      · have := hSub2 i w hw
        rw [h1] at this
        exact this
    have hRest : (s2.chan c).results = rest := by rw [hChan, h1, State.chan_setChan]
    split
    next hValid =>
      refine ⟨hEnd _, fun v' rest' he => ?_⟩
      cases he
      rw [State.chan_setChan]
      exact ⟨hRest, hValid.symm, fun _ => ⟨rfl, rfl⟩, fun i hi w hw => hOff2 i (List.mem_range.mpr hi) w hw⟩
    next hValid =>
      refine ⟨hEnd _, fun v' rest' he => ?_⟩
      cases he
      rw [State.chan_setChan]
      exact ⟨hRest, (Bool.not_eq_true _ ▸ hValid).symm, fun hv => absurd hv hValid,
        fun i hi w hw => hOff2 i (List.mem_range.mpr hi) w hw⟩

theorem State.awaited.of {c k : Nat} {s t : State} (h : s.awaited c) (ht : acceptsOnly k s t) : t.awaited c := by
  intro i hi w hw hc
  rw [ht.cyc]
  refine h i ?_ w (ht.waits i w hw) hc
  unfold State.nSects at *
  rwa [ht.dies] at hi

/-- The results of a head's channels, taken in turn, each awaited. -/
theorem State.acceptResults_shows (l : List Nat) (s : State) (c : Nat) (hNodup : l.Nodup)
    (h : ∀ j ∈ l, s.awaited (c + j)) :
    (∀ m, (∀ j ∈ l, m ≠ c + j) → (l.foldl (fun t j => t.acceptResult (c + j)) s).chan m = s.chan m) ∧
    (∀ i, ∀ w ∈ ((l.foldl (fun t j => t.acceptResult (c + j)) s).sect i).chanWait, w ∈ (s.sect i).chanWait) ∧
    ∀ j ∈ l, ∀ v rest, (s.chan (c + j)).results = v :: rest →
      ((l.foldl (fun t j => t.acceptResult (c + j)) s).chan (c + j)).results = rest ∧
      ((l.foldl (fun t j => t.acceptResult (c + j)) s).chan (c + j)).lastOk = v.valid ∧
      (v.valid = true → ((l.foldl (fun t j => t.acceptResult (c + j)) s).chan (c + j)).val = some v.value ∧
        ((l.foldl (fun t j => t.acceptResult (c + j)) s).chan (c + j)).valCyc = v.resCyc) ∧
      ∀ i, i < s.nSects → ∀ w ∈ ((l.foldl (fun t j => t.acceptResult (c + j)) s).sect i).chanWait, w.1 ≠ c + j := by
  induction l generalizing s with
  | nil => exact ⟨fun _ _ => rfl, fun _ _ h => h, fun j h => absurd h List.not_mem_nil⟩
  | cons k l ih =>
    rw [List.nodup_cons] at hNodup
    rw [List.foldl_cons]
    obtain ⟨hOnly, hShows⟩ := State.acceptResult_shows (h k List.mem_cons_self)
    generalize s.acceptResult (c + k) = t at *
    obtain ⟨hChans, hWaits, hRest⟩ := ih t hNodup.2 fun j hj => (h j (List.mem_cons_of_mem k hj)).of hOnly
    have hSects : t.nSects = s.nSects := by
      unfold State.nSects
      rw [hOnly.dies]
    refine ⟨fun m hm => ?_, fun i w hw => hOnly.waits i w (hWaits i w hw), fun j hj v rest hv => ?_⟩
    · rw [hChans m fun j hj => hm j (List.mem_cons_of_mem k hj), hOnly.chans m (hm k List.mem_cons_self)]
    · rcases List.mem_cons.mp hj with rfl | hj
      · obtain ⟨h1, h2, h3, h4⟩ := hShows v rest hv
        rw [hChans (c + j) fun x hx he => hNodup.1 (by rwa [show j = x by omega])]
        exact ⟨h1, h2, h3, fun i hi w hw => h4 i hi w (hWaits i w hw)⟩
      · have hk : c + j ≠ c + k := fun he => hNodup.1 (by rwa [show k = j by omega])
        rw [← hOnly.chans (c + j) hk] at hv
        rw [← hSects]
        exact hRest j hj v rest hv

end Sys2Proof.Machine

namespace Sys2Proof

open Sys2Proof.Machine

/-- Settles O13: clamp hits, delivered channel starts and results, and the channel timeout. -/
theorem channelEvents : Obligations.ChannelEvents := by
  unfold Obligations.ChannelEvents
  refine ⟨?_, ?_, ?_, ?_⟩
  · intro s d pin hp hd hPin
    have h8 := lt_8_of_lt_dies hp hd
    have hFit : (decide (d < s.dies) && decide (pin < 16)) = true := by rw [decide_eq_true hd, decide_eq_true hPin]; rfl
    refine yields.fitted hFit (yields.confined ?_)
    rw [bitSet, bitSet, State.g_keepCore, State.g_keepCore]
    · exact State.clampHit_shows s h8 hPin
    · rw [pinStat_eq]; exact isLedKey_die (by omega) h8
    · rw [clampCount_eq]; exact isLedKey_die (by omega) h8
  · intro s c m rest hc hStarts
    refine yields.fitted (decide_eq_true hc) (yields.confined ?_)
    rw [hStarts]
    dsimp only
    obtain ⟨hOnly, -, hArmed⟩ := State.armChannels_shows (List.range m) (s.setChan c { s.chan c with starts := rest }) c
    refine ⟨?_, fun j i hj hi => hArmed j (List.mem_range.mpr hj) i hi⟩
    rw [State.chan_keepCore, hOnly]
    show ((s.setChan c { s.chan c with starts := rest }).chan c).starts = rest
    rw [State.chan_setChan]
  · rintro s i c hp hi hc ⟨e, hMem, hReached⟩ hComing
    have hFit : (decide (i < s.nSects) && decide (c < s.nChans)) = true := by
      rw [decide_eq_true hi, decide_eq_true hc]; rfl
    have hAny : (s.sect i).chanWait.any (fun w => decide (w.1 = c) && decide (w.2.2 = 0) && cycReached s.cyc w.2.1
        && !(decide (s.cyc = w.2.1) && s.resultComing c)) = true := by
      refine List.any_eq_true.mpr ⟨_, hMem, ?_⟩
      rw [hComing, hReached, Bool.and_false]
      simp
    exact yields.fitted hFit (yields.whenTrue hAny (State.expireChannel_shows s i c))
  · intro s c v l hp hc hRes hWaits
    refine yields.fitted (decide_eq_true hc) (yields.confined ?_)
    rw [hRes]
    dsimp only
    obtain ⟨-, -, hShows⟩ := State.acceptResults_shows (List.range v.members) s c List.nodup_range
      fun j hj i hi w hw he => hWaits i hi w hw j (List.mem_range.mp hj) he
    intro j hj r rest hr
    exact hShows j (List.mem_range.mpr hj) r rest hr

end Sys2Proof
end

section
/-! What the updates of a path engine keep; cancellations, the hold timer, and the wait for a follower path that
expires. -/

namespace Sys2Proof.Machine

open Sys2Proof

-- what the updates of a path engine keep

/-- Of `s`, the state `t` keeps what `view` shows of the record of path `n`, and the entries `seen`. -/
structure State.keepsView {β : Type} (n : Nat) (view : PathRt → β) (seen : Nat → Prop) (s t : State) : Prop where
  path : view (t.path n) = view (s.path n)
  entries : ∀ k, seen k → t.g k = s.g k

/-- The entries `seen` are none of those that raising kiln-log entries or showing a store changes, and none of the
path's records, of its template or of its gain. -/
structure apartFrom (n : Nat) (seen : Nat → Prop) : Prop where
  logs : ∀ k, seen k → sharedKey k = false
  store : ∀ k, seen k → ¬ storeKey k
  settings : ∀ a, 0x210000 ≤ a ∧ a < 0x210100 → ¬ seen (a + 256 * n)
  record : ∀ a, (0x212001 ≤ a ∧ a ≤ 0x212044) ∨ a = 0x21204C ∨ a = 0x21204E → ¬ seen (a + 256 * n)

theorem State.storesOnly.writeObject (s : State) (d : Nat) (o : StoreObj) : storesOnly s (s.writeObject d o) :=
  ((State.storesOnly.setStore s d _).trans (.queueLines _ d _)).trans (.queueLines _ d _)

namespace State.keepsView

variable {β : Type} {n : Nat} {view : PathRt → β} {seen : Nat → Prop}

theorem refl (s : State) : keepsView n view seen s s := ⟨rfl, fun _ _ => rfl⟩

theorem trans {s t u : State} (a : keepsView n view seen s t) (b : keepsView n view seen t u) :
    keepsView n view seen s u :=
  ⟨b.path.trans a.path, fun k h => (b.entries k h).trans (a.entries k h)⟩

theorem setPath (s : State) {r : PathRt} (h : view r = view (s.path n)) : keepsView n view seen s (s.setPath n r) :=
  ⟨by rw [State.path_setPath, h], fun _ _ => rfl⟩

theorem setFire (s : State) (o : Nat) (r : FireRt) : keepsView n view seen s (s.setFire o r) := ⟨rfl, fun _ _ => rfl⟩

theorem p (s : State) {k : Nat} (v : Nat) (h : ¬ seen k) : keepsView n view seen s (s.p k v) :=
  ⟨by rw [State.path_p], fun j hj => State.g_p_ne s v fun e => h (e ▸ hj)⟩

theorem inc (s : State) {k : Nat} (h : ¬ seen k) : keepsView n view seen s (s.inc k) :=
  ⟨by rw [State.path_inc], fun j hj => State.g_inc_ne s fun e => h (e ▸ hj)⟩

theorem whenSo {c : Prop} [Decidable c] {s t : State} (h : keepsView n view seen s t) :
    keepsView n view seen s (if c then t else s) := by
  split
  · exact h
  · exact refl s

theorem foldlMem {γ : Type} {f : State → γ → State} (l : List γ) (hf : ∀ s, ∀ b ∈ l, keepsView n view seen s (f s b))
    (s : State) : keepsView n view seen s (l.foldl f s) := by
  induction l generalizing s with
  | nil => exact refl s
  | cons b l ih =>
    exact (hf s b List.mem_cons_self).trans (ih (fun t c hc => hf t c (List.mem_cons_of_mem b hc)) _)

theorem ps (s : State) (l : List (Nat × Nat)) (h : ∀ e ∈ l, ¬ seen e.1) : keepsView n view seen s (s.ps l) :=
  foldlMem l (fun t e he => p t _ (h e he)) s

theorem noteWrite (s : State) (k : Nat) : keepsView n view seen s (s.noteWrite k) := by
  unfold State.noteWrite
  refine foldlMem _ (fun t o _ => ?_) s
  dsimp only
  split
  · exact refl t
  · split
    · exact refl t
    · exact setFire t _ _

theorem internal (s : State) {k : Nat} (v : Nat) (h : ¬ seen k) : keepsView n view seen s (s.internal k v) := by
  unfold State.internal
  split
  · exact refl s
  · exact (noteWrite s k).trans (p _ _ h)

theorem sendFinal (s : State) (f : FinalRec) (h : ∀ (r : PathRt) l, view { r with sent := l } = view r) :
    keepsView n view seen s (s.sendFinal n f) := setPath s (h _ _)

theorem sendLast (s : State) (h : ∀ (r : PathRt) l, view { r with sent := l } = view r) :
    keepsView n view seen s (s.sendLast n) := by
  unfold State.sendLast
  split
  · exact refl s
  · exact sendFinal s _ h

theorem track (s : State) (a : Attempt) (x y : Int)
    (h : ∀ (r : PathRt) u v w, view { r with prevDn := u, prevUp := v, tdValid := w } = view r) :
    keepsView n view seen s (s.track n a x y) := by
  unfold State.track
  extract_lets r
  refine setPath s ?_
  split
  · exact h r r.prevDn r.prevUp a.td
  · exact h r (some x) (some y) a.td

section

variable (hApart : apartFrom n seen)

include hApart

theorem ofLogs {s t : State} (h : logsOnly s t) : keepsView n view seen s t :=
  ⟨congrArg view (h.path n), fun k hk => h.entries k (hApart.logs k hk)⟩

theorem ofQuiet {s t : State} (h : quiet s t) : keepsView n view seen s t := ofLogs hApart (.ofQuiet h)

theorem ofStores {s t : State} (h : storesOnly s t) : keepsView n view seen s t :=
  ⟨congrArg view (h.eq (·.path n) fun _ _ _ _ _ _ _ _ _ => rfl), fun k hk =>
      h.entries k (hApart.logs k hk) (hApart.store k hk)⟩

theorem noteCalErr (s : State) (y : Shot) : keepsView n view seen s (s.noteCalErr n y) :=
  whenSo (ofQuiet hApart (.onceEv _ _ _ _ _ _ _))

theorem noteCapLost (s : State) : keepsView n view seen s (s.noteCapLost n) := ofQuiet hApart (.onceEv _ _ _ _ _ _ _)

theorem halfPair (s : State) (h : ∀ (r : PathRt) a, view { r with halfNow := a } = view r) :
    keepsView n view seen s (s.halfPair n) := (setPath s (h _ _)).trans (ofQuiet hApart (.onceEv _ _ _ _ _ _ _))

theorem agc (s : State) (a : Attempt) : keepsView n view seen s (s.agc n a) := by
  unfold State.agc
  extract_lets step
  split
  · exact refl s
  · exact internal s _ (hApart.settings 0x210020 (by decide))

theorem fallback (s : State) (a : Attempt)
    (h : ∀ (r : PathRt) x y z, view { r with fbActive := x, fbProbe := y, fbRun := z } = view r) :
    keepsView n view seen s (s.fallback n a) := by
  unfold State.fallback
  extract_lets r run
  split
  · split
    · exact refl s
    · exact setPath s (h r r.fbActive r.fbProbe 0)
  split
  · split
    · exact refl s
    · split
      · exact (setPath s (h r false 0 0)).trans (ofQuiet hApart (.ev _ _ _ _ _ _))
      · exact setPath s (h r r.fbActive 0 r.fbRun)
  split
  · exact ((setPath s (h r true 0 0)).trans (inc _ (hApart.record 0x21204E (by decide)))).trans
      (ofQuiet hApart (.ev _ _ _ _ _ _))
  · exact setPath s (h r r.fbActive r.fbProbe run)

theorem writeCommon (s : State) (a : Attempt) (bits : Nat) (range : Bool) :
    keepsView n view seen s (s.writeCommon n a bits range) := by
  unfold State.writeCommon
  refine keepsView.trans (t := if a.capLost then s.bump (K.rec_CAP_LOST_COUNT n) else s)
    (whenSo (p s _ (hApart.record 0x212032 (by decide)))) (ps _ _ fun e he => ?_)
  simp only [List.mem_cons, List.not_mem_nil, or_false] at he
  rcases he with rfl | rfl | rfl | rfl | rfl | rfl | rfl | rfl | rfl | rfl | rfl | rfl | rfl | rfl | rfl | rfl | rfl |
    rfl |
    rfl | rfl | rfl | rfl
  all_goals exact hApart.record _ (by decide)

theorem writeValid (s : State) (a : Attempt) (x y : Int) (bits : Nat)
    (h : ∀ (r : PathRt) u v w, view { r with prevDn := u, prevUp := v, tdValid := w } = view r) :
    keepsView n view seen s (s.writeValid n a x y bits) := by
  unfold State.writeValid
  extract_lets tDn tUp dt ftDn ftUp cor s1 c range s2 s3 s4
  have h1 : keepsView n view seen s s1 := p s _ (hApart.record 0x212044 (by decide))
  have h2 : keepsView n view seen s1 s2 := writeCommon hApart s1 _ _ _
  have h3 : keepsView n view seen s2 s3 := by
    unfold s3
    split
    · exact refl s2
    · refine ps s2 _ fun e he => ?_
      simp only [List.mem_cons, List.not_mem_nil, or_false] at he
      rcases he with rfl | rfl | rfl | rfl | rfl | rfl | rfl
      all_goals exact hApart.record _ (by decide)
  have h4 : keepsView n view seen s3 s4 := by
    unfold s4
    clear_value c range
    split
    · refine ps s3 _ fun e he => ?_
      simp only [List.mem_cons, List.not_mem_nil, or_false] at he
      rcases he with rfl | rfl
      all_goals exact hApart.record _ (by decide)
    · exact refl s3
  exact (((h1.trans h2).trans h3).trans h4).trans (track s4 a x y h)

theorem failSlot (s : State) (c : Cls)
    (h : ∀ (r : PathRt) x y z, view { r with failRun := x, failKind := y, serial := z } = view r) :
    keepsView n view seen s (s.failSlot n c) := by
  unfold State.failSlot
  extract_lets r s1 cell s2
  have h1 : keepsView n view seen s s1 := by
    refine (inc s (hApart.record 0x21204C (by decide))).trans (setPath _ ?_)
    rw [State.path_inc]
    exact h r (r.failRun + 1) (some c) r.serial
  have h2 : keepsView n view seen s1 s2 := p s1 _ (hApart.record 0x212042 (by decide))
  have hEnd : ∀ {t : State} (k : Nat), logsOnly s2 t →
      keepsView n view seen s (t.setPath n { s2.path n with serial := k }) := by
    intro t k ht
    refine ((h1.trans h2).trans (ofLogs hApart ht)).trans (setPath t ?_)
    rw [ht.path]
    exact h (s2.path n) (s2.path n).failRun (s2.path n).failKind k
  clear_value s1 s2
  split
  · exact h1.trans (whenSo (ofQuiet hApart (.react _ _ _ _ _ _ _)))
  split
  · exact h1
  split
  · exact hEnd _ (.ofQuiet (.react _ _ _ _ _ _ _))
  · exact hEnd _ (.declare _ _ _ _ _ _)

theorem validSlot (s : State) (h : ∀ (r : PathRt) x y z, view { r with failRun := x, failKind := y, serial := z } =
    view r) :
    keepsView n view seen s (s.validSlot n) := by
  unfold State.validSlot
  extract_lets r s1 s2
  have h1 : keepsView n view seen s s1 := setPath s (h r 0 none 0)
  have h2 : keepsView n view seen s1 s2 := p s1 _ (hApart.record 0x212042 (by decide))
  clear_value s1 s2
  split
  · exact h1
  split
  · exact (h1.trans h2).trans (ofLogs hApart (.endFault _ _ _ _ _ _ _))
  · exact (h1.trans h2).trans (ofQuiet hApart (.react _ _ _ _ _ _ _))

-- learning

theorem storeTemplate (s : State) : keepsView n view seen s (s.storeTemplate n) := by
  have hLater : keepsView n view seen s
      { s with unsaved := s.unsaved ++
          [(n / 4, 1900 + 5 * (n % 4) + 4, K.path_TEMPLATE n, s.blobs.look [] (K.path_TEMPLATE n))] } :=
    ⟨rfl, fun _ _ => rfl⟩
  exact hLater.trans (ofStores hApart (.writeObject _ _ _))

theorem learnFails (s : State) (l : Learn)
    (h : ∀ (r : PathRt) a b c d e,
      view { r with learn := a, learnWait := b, fbActive := c, fbRun := d, fbProbe := e } = view r) :
    keepsView n view seen s (s.learnFails n l) :=
  (setPath s (h (s.path n) none [] l.keptFb 0 (s.path n).fbProbe)).trans (ofQuiet hApart (.ev _ _ _ _ _ _))

theorem learnSucceeds (s : State) (l : Learn) (b : Nat × Nat)
    (h : ∀ (r : PathRt) a b c d e,
      view { r with learn := a, learnWait := b, fbActive := c, fbRun := d, fbProbe := e } = view r) :
    keepsView n view seen s (s.learnSucceeds n l b) := by
  unfold State.learnSucceeds
  extract_lets m tpl s1 s2 _ s3
  have h1 : keepsView n view seen s s1 := ⟨rfl, fun _ _ => rfl⟩
  have h2 : keepsView n view seen s1 s2 := by
    refine ps s1 _ fun e he => ?_
    simp only [List.mem_cons, List.not_mem_nil, or_false] at he
    rcases he with rfl | rfl | rfl | rfl | rfl
    all_goals exact hApart.settings _ (by decide)
  have h3 : keepsView n view seen s2 s3 := setPath s2 (h (s2.path n) none [] false 0 0)
  exact (((h1.trans h2).trans h3).trans (storeTemplate hApart s3)).trans (ofQuiet hApart (.ev _ _ _ _ _ _))

theorem learnCheck (s : State) (l : Learn)
    (h : ∀ (r : PathRt) a b c d e,
      view { r with learn := a, learnWait := b, fbActive := c, fbRun := d, fbProbe := e } = view r) :
    keepsView n view seen s (s.learnCheck n l) := by
  unfold State.learnCheck
  split
  · split
    · exact learnSucceeds hApart s l _ h
    · exact learnFails hApart s l h
  split
  · exact learnFails hApart s l h
  · exact setPath s (h (s.path n) (some l) (s.path n).learnWait (s.path n).fbActive (s.path n).fbRun (s.path n).fbProbe)

end

end State.keepsView


-- cancellations, the hold timer and the timeout of a follower's path (R44, R165, R186, R192)

/-- The counters of a path's result object that the end of a slot leaves, among the entries a view keeps. -/
def counterKey (n a k : Nat) : Prop := k = a + 256 * n

theorem apartFrom_counter {n a : Nat} (hn : n < 32) (ha : (0x212045 ≤ a ∧ a ≤ 0x21204B) ∨ a = 0x21204D) :
    apartFrom n (counterKey n a) where
  logs k hk := by rw [hk]; exact sharedKey_path (by omega) hn
  store k hk := by
    rw [hk]
    show ¬ ((0x2B0000 ≤ a + 256 * n ∧ a + 256 * n < 0x2B0100) ∨ a + 256 * n = 0x262001)
    omega
  settings b hb := by
    show b + 256 * n ≠ a + 256 * n
    omega
  record b hb := by
    show b + 256 * n ≠ a + 256 * n
    omega

/-- What a cancellation leaves the slot and the counter of cancellations (R44, R165). -/
theorem State.cancelPath_shows (s : State) {n : Nat} (serial b0 : Nat) (hn : n < 32) :
    ((s.cancelPath n serial b0).path n).cancels = (s.path n).cancels ∧
    (if (s.path n).slot.live = true ∧ (s.path n).slot.b0 = b0 then
      ((s.cancelPath n serial b0).path n).slot.live = false ∧
      (s.cancelPath n serial b0).g (K.rec_CANCEL_COUNT n) = wrap32 (s.g (K.rec_CANCEL_COUNT n) + 1)
     else ((s.cancelPath n serial b0).path n).slot = (s.path n).slot ∧
      (s.cancelPath n serial b0).g (K.rec_CANCEL_COUNT n) = s.g (K.rec_CANCEL_COUNT n)) := by
  have hApart : apartFrom n (counterKey n 0x21204D) := apartFrom_counter hn (by decide)
  have hLed : isLedKey (K.rec_CANCEL_COUNT n) = false := isLedKey_path (by decide) hn
  unfold State.cancelPath
  extract_lets r live k _ _ _ s1 s2
  have h2 : keepsView n (fun q : PathRt => (q.cancels, q.slot)) (counterKey n 0x21204D) s1 s2 := by
    unfold s2
    clear_value live
    split
    · split
      · exact .refl s1
      · exact (State.keepsView.failSlot hApart s1 _ fun _ _ _ _ => rfl).trans (.sendLast _ fun _ _ => rfl)
    · exact .refl s1
  have h := h2.trans (State.keepsView.ofQuiet hApart (.react s2 (n / 4) 1 (locPath n) 0x1028 serial [k]))
  have hp := h.path
  have hg := h.entries (K.rec_CANCEL_COUNT n) rfl
  simp only [Prod.mk.injEq] at hp
  rw [hp.1, hp.2, hg]
  by_cases hc : r.slot.live = true ∧ r.slot.b0 = b0
  · have hLive : live = true := by simp [live, hc]
    rw [if_pos hc]
    simp only [s1, if_pos hLive, State.path_inc, State.path_setPath]
    exact ⟨rfl, trivial, State.g_inc_same _ hLed⟩
  · have hLive : live = false := by simpa [live] using hc
    rw [if_neg hc]
    simp only [s1, hLive, Bool.false_eq_true, if_false]
    exact ⟨trivial, trivial, trivial⟩

theorem State.path_setWait (s : State) (i n b0 : Nat) (w : Wait) (m : Nat) :
    (s.setWait i n b0 w).path m = s.path m := rfl

theorem State.die_setWait (s : State) (i n b0 : Nat) (w : Wait) (d : Nat) : (s.setWait i n b0 w).die d = s.die d := rfl

/-- A follower's path whose record does not come: the fault is declared and the cancellation sent under its serial (R44,
R192). -/
theorem State.expireWait_shows (s : State) {n : Nat} (i b0 : Nat) (hn : 4 ≤ n) :
    ((s.expireWait i n b0).die 0).count = nextCount (s.die 0).count ∧
    ((s.expireWait i n b0).path n).cancels = (s.path n).cancels ++ [(s.nextSerial 0, b0)] := by
  unfold State.expireWait
  extract_lets serial s1 s2
  rw [if_neg (by omega)]
  have hPath : s2.path n = s.path n :=
      (State.path_setWait s1 i n b0 _ n).trans ((logsOnly.declare s 0 3 0 0x1048 [i, n]).path n)
  have hCount : (s2.die 0).count = nextCount (s.die 0).count := by
    have h1 : (s1.die 0).count = nextCount (s.die 0).count := State.count_declare s 0 3 0 0x1048 [i, n]
    exact (congrArg DieRt.count (State.die_setWait s1 i n b0 _ 0)).trans h1
  clear_value s2
  refine ⟨?_, ?_⟩
  · rw [State.die_setPath, hCount]
  · rw [State.path_setPath, hPath]

/-- Settles O10: a cancellation is delivered, the hold timer runs out, and the wait for a follower's path expires. -/
theorem cancelAndHold : Obligations.CancelAndHold := by
  refine ⟨fun s n k b0 rest hPart hn hCancels => ?_, fun s i c hi hHold hReached => ?_,
      fun s i n b0 hPart hi hn h4 hExp => ?_⟩
  · refine yields.fitted (decide_eq_true hn) (yields.confined ?_)
    rw [hCancels]
    dsimp only
    have hn' : n < 32 := lt_of_lt_of_le hn (nPaths_le hPart)
    have h := State.cancelPath_shows (s.setPath n { s.path n with cancels := rest }) k b0 hn'
    rw [State.path_setPath] at h
    rw [State.path_keepCore, State.g_keepCore _ _ (isLedKey_path (by decide) hn')]
    exact h
  · refine yields.fitted (decide_eq_true hi) (yields.confined ?_)
    rw [hHold]
    dsimp only
    rw [if_pos hReached, State.sect_keepCore, State.sect_setSect]
    exact ⟨rfl, rfl⟩
  · refine yields.fitted (by simp [hi, hn]) (yields.confined ?_)
    rw [hExp]
    dsimp only
    rw [State.path_keepCore, State.die_keepCore]
    exact s.expireWait_shows i b0 h4

end Sys2Proof.Machine
end

section
/-! Captures and the correlation lane. -/

namespace Sys2Proof.Machine

open Sys2Proof

-- captures and the correlation lane (R121, R124, R129 to R132)

theorem State.ps_cons (s : State) (e : Nat × Nat) (l : List (Nat × Nat)) : s.ps (e :: l) = (s.p e.1 e.2).ps l := rfl

theorem State.g_ps_ne (l : List (Nat × Nat)) (s : State) {k : Nat} (h : ∀ e ∈ l, e.1 ≠ k) : (s.ps l).g k = s.g k := by
  induction l generalizing s with
  | nil => rfl
  | cons e l ih =>
    rw [State.ps_cons, ih _ fun b hb => h b (List.mem_cons_of_mem e hb)]
    exact State.g_p_ne s e.2 (h e List.mem_cons_self).symm

theorem apartFrom_none (n : Nat) : apartFrom n (fun _ => False) where
  logs _ h := h.elim
  store _ h := h.elim
  settings _ _ h := h
  record _ _ h := h

/-- The record of an attempt shows the CYC of its pair (R36). -/
theorem State.writeCommon_pairCyc (s : State) {n : Nat} (a : Attempt) (bits : Nat) (range : Bool) (hn : n < 32) :
    (s.writeCommon n a bits range).g (K.rec_PAIR_CYC n) = a.b := by
  unfold State.writeCommon
  rw [State.ps_cons, State.ps_cons, State.g_ps_ne]
  · exact State.g_p_same _ _ (isLedKey_path (by decide) hn)
  · intro e he
    simp only [List.mem_cons, List.not_mem_nil, or_false] at he
    rcases he with rfl | rfl | rfl | rfl | rfl | rfl | rfl | rfl | rfl | rfl | rfl | rfl | rfl | rfl | rfl | rfl | rfl |
      rfl | rfl | rfl
    all_goals exact mt Nat.add_right_cancel (by decide)

theorem State.writeValid_pairCyc (s : State) {n : Nat} (a : Attempt) (x y : Int) (bits : Nat) (hn : n < 32) :
    (s.writeValid n a x y bits).g (K.rec_PAIR_CYC n) = a.b := by
  unfold State.writeValid
  extract_lets tDn tUp dt ftDn ftUp cor s1 c range s2 s3 s4
  have h2 : s2.g (K.rec_PAIR_CYC n) = a.b := State.writeCommon_pairCyc s1 _ _ _ hn
  have h3 : s3.g (K.rec_PAIR_CYC n) = s2.g (K.rec_PAIR_CYC n) := by
    unfold s3
    split
    · rfl
    · refine State.g_ps_ne _ s2 fun e he => ?_
      simp only [List.mem_cons, List.not_mem_nil, or_false] at he
      rcases he with rfl | rfl | rfl | rfl | rfl | rfl | rfl
      all_goals exact mt Nat.add_right_cancel (by decide)
  have h4 : s4.g (K.rec_PAIR_CYC n) = s3.g (K.rec_PAIR_CYC n) := by
    unfold s4
    clear_value c range
    split
    · refine State.g_ps_ne _ s3 fun e he => ?_
      simp only [List.mem_cons, List.not_mem_nil, or_false] at he
      rcases he with rfl | rfl
      all_goals exact mt Nat.add_right_cancel (by decide)
    · rfl
  exact h4.trans (h3.trans h2)

/-- A copied capture frees its chain's buffer and reaches the attempt, in the engine or in the lane, that it is of
(R121, R124). -/
theorem State.captureDone_shows (s : State) {n chain : Nat} {d : Dir} {c : Capture} (smp : List Int)
    (h : (s.path n).oldestCapture d s.cyc = some (chain, c)) :
    ((s.captureDone n d smp).path n).att = (s.path n).att.putCapture c smp ∧
    ((s.captureDone n d smp).path n).lane = (s.path n).lane.map (fun a => a.putCapture c smp) ∧
    ((s.captureDone n d smp).path n).buffer chain = none := by
  have hFree : ((s.path n).setBuffer chain none).buffer chain = none := by
    unfold PathRt.buffer PathRt.setBuffer
    split <;> rfl
  unfold State.captureDone
  dsimp only
  rw [h]
  dsimp only
  generalize (s.path n).setBuffer chain none = r0 at hFree ⊢
  have hChecked : ∀ (r1 : PathRt) (l : Learn), r1.att = (s.path n).att.putCapture c smp →
      r1.lane = (s.path n).lane.map (fun a => a.putCapture c smp) → r1.buffer = r0.buffer →
      (((s.setPath n r1).learnCheck n l).path n).att = (s.path n).att.putCapture c smp ∧
      (((s.setPath n r1).learnCheck n l).path n).lane = (s.path n).lane.map (fun a => a.putCapture c smp) ∧
      (((s.setPath n r1).learnCheck n l).path n).buffer chain = none := by
    intro r1 l hAtt hLane hBuf
    have hv := (State.keepsView.learnCheck (view := fun q : PathRt => (q.att, q.lane, q.buffer)) (apartFrom_none n)
      (s.setPath n r1) l fun _ _ _ _ _ _ => rfl).path
    rw [State.path_setPath] at hv
    simp only [Prod.mk.injEq] at hv
    rw [hv.1, hv.2.1, hv.2.2, hBuf]
    exact ⟨hAtt, hLane, hFree⟩
  split
  · exact hChecked _ _ rfl rfl rfl
  · rw [State.path_setPath]
    exact ⟨rfl, rfl, hFree⟩

/-- The end of a refinement takes its pair from the lane, and writes and sends its record (R131, R132, R192). -/
theorem State.refined_shows (s : State) {n : Nat} {a : Attempt} {rest : List Attempt} (hn : n < 32)
    (hLane : (s.path n).lane = a :: rest) (hBusy : (s.path n).laneBusy = true)
    (hEnd : cycReached s.cyc (s.path n).laneEnd = true) :
    ((s.refined n).path n).lane = rest ∧ ((s.refined n).path n).laneBusy = false ∧
    (s.refined n).g (K.rec_PAIR_CYC n) = a.b ∧ ((s.refined n).path n).sent.length = (s.path n).sent.length + 1 := by
  unfold State.refined
  extract_lets r tpl
  rw [show r.lane = a :: rest from hLane]
  dsimp -zeta only
  rw [if_neg (by simp [r, hBusy, hEnd])]
  extract_lets v s1 s2 s3
  have hApart := apartFrom_none n
  have h2 : keepsView n (fun q : PathRt => (q.lane, q.laneBusy, q.sent)) (fun _ => False) s1 s2 :=
    .whenSo (.trans (.p s1 _ id) (.ofQuiet hApart (.onceEv ..)))
  have h3 : keepsView n (fun q : PathRt => (q.lane, q.laneBusy, q.sent)) (fun _ => False) s2 s3 :=
    .writeValid hApart s2 _ _ _ _ fun _ _ _ _ => rfl
  have hCyc : s3.g (K.rec_PAIR_CYC n) = a.b := State.writeValid_pairCyc s2 _ _ _ _ hn
  have hv := (h2.trans h3).path
  simp only [s1, State.path_setPath, Prod.mk.injEq] at hv
  obtain ⟨hL, hB, hS⟩ := hv
  clear_value s3
  unfold State.sendFinal
  rw [State.path_setPath]
  refine ⟨hL, hB, hCyc, ?_⟩
  rw [List.length_append, hS]
  rfl

/-- Settles O9: a capture is copied, and a refinement starts and ends. -/
theorem captureAndRefine : Obligations.CaptureAndRefine := by
  refine ⟨fun s n chain d c smp hn hSmp hOld => ?_, fun s n a rest hn hLane hIdle hCap => ?_,
    fun s n a rest hPart hn hLane hBusy hEnd => ?_⟩
  · refine yields.fitted (decide_eq_true hn) ?_
    rw [if_pos hSmp]
    refine yields.confined ?_
    rw [State.path_keepCore]
    exact s.captureDone_shows smp hOld
  · refine yields.fitted (decide_eq_true hn) (yields.confined ?_)
    rw [hLane]
    dsimp only
    rw [hIdle, hCap, if_neg (by decide), State.path_keepCore, State.path_setPath]
    exact ⟨rfl, rfl⟩
  · have hn' : n < 32 := lt_of_lt_of_le hn (nPaths_le hPart)
    refine yields.fitted (decide_eq_true hn) (yields.confined ?_)
    rw [State.path_keepCore, State.g_keepCore _ _ (isLedKey_path (by decide) hn')]
    exact s.refined_shows hn' hLane hBusy hEnd

end Sys2Proof.Machine
end

section
/-! Verdicts: the end of an attempt with its class. -/

namespace Sys2Proof.Machine

open Sys2Proof

-- verdicts (R152 to R158)

theorem State.g_setPath (s : State) (n : Nat) (r : PathRt) (k : Nat) : (s.setPath n r).g k = s.g k := rfl

/-- What the end of an attempt shows of it: that it has ended, and its class. -/
def PathRt.verdict (q : PathRt) : Bool × Option Cls := (q.att.live, q.att.cls)

/-- The counter of a class is a path's entry beyond the others that its record writes. -/
theorem clsCounter_eq (n : Nat) (a : Attempt) : ∃ b, (0x212045 ≤ b ∧ b ≤ 0x21204B) ∧ clsCounter n a = b + 256 * n := by
  unfold clsCounter
  split
  · exact ⟨_, by decide, rfl⟩
  · exact ⟨_, by decide, rfl⟩
  · exact ⟨_, by decide, rfl⟩
  · split
    · exact ⟨_, by decide, rfl⟩
    · split
      · exact ⟨_, by decide, rfl⟩
      · exact ⟨_, by decide, rfl⟩

section

variable {n : Nat} {seen : Nat → Prop} (hApart : apartFrom n seen)

include hApart

theorem State.recordOf_keeps (s : State) (a : Attempt) (final : Bool) :
    keepsView n PathRt.verdict seen s (s.recordOf n a final) := by
  unfold State.recordOf
  extract_lets r s1 f _ _ s2
  have h1 : keepsView n PathRt.verdict seen s s1 := by
    unfold s1
    split
    · exact .writeValid hApart s _ _ _ _ fun _ _ _ _ => rfl
    · exact .writeCommon hApart s _ _ _
  split
  · exact .setPath s rfl
  · have h2 : keepsView n PathRt.verdict seen s s2 := h1.trans (.setPath s1 rfl)
    exact h2.trans (.whenSo (.sendFinal s2 f fun _ _ => rfl))

theorem State.learnPair_keeps (s : State) (a : Attempt) : keepsView n PathRt.verdict seen s (s.learnPair n a) := by
  have hCheck : ∀ l, keepsView n PathRt.verdict seen s (s.learnCheck n l) :=
    fun l => .learnCheck hApart s l fun _ _ _ _ _ _ => rfl
  unfold State.learnPair
  split
  · exact .refl s
  · dsimp only
    split
    · split
      · exact hCheck _
      · exact .setPath s rfl
    · exact hCheck _

/-- How a slot goes on after an attempt of a class leaves the attempt. -/
theorem State.slotOutcome_keeps (s : State) (c : Cls) (sl : Slot) (last : Prop) [Decidable last] (x y z : Slot) :
    keepsView n PathRt.verdict seen s
      (if !sl.live then s
       else if c = .V then (s.setPath n { s.path n with slot := x }).validSlot n
       else if last then (s.setPath n { s.path n with slot := y }).failSlot n c
       else s.setPath n { s.path n with slot := z }) := by
  have hSlot : ∀ w, keepsView n PathRt.verdict seen s (s.setPath n { s.path n with slot := w }) :=
      fun w => .setPath s rfl
  split
  · exact .refl s
  split
  · exact (hSlot x).trans (.validSlot hApart _ fun _ _ _ _ => rfl)
  split
  · exact (hSlot y).trans (.failSlot hApart _ c fun _ _ _ _ => rfl)
  · exact hSlot z

end

/-- An attempt with both verdicts ends with its class, and the class's counter counts (R157, R158). -/
theorem State.complete_shows (s : State) {n : Nat} (a0 : Attempt) (hn : n < 32) :
    ((s.complete n a0).path n).att.live = false ∧ ((s.complete n a0).path n).att.cls = some a0.classOf ∧
    (s.complete n a0).g (clsCounter n a0) = wrap32 (s.g (clsCounter n a0) + 1) := by
  obtain ⟨b, hb, hKey⟩ := clsCounter_eq n a0
  have hApart : apartFrom n (counterKey n b) := apartFrom_counter hn (.inl hb)
  have hLed : isLedKey (clsCounter n a0) = false := by rw [hKey]; exact isLedKey_path (by omega) hn
  unfold State.complete
  extract_lets _ a c g _ s1 s2 s3 _ s4 wasFb s5 _ s6 s7 sl last _ s8 s9
  have h2 : keepsView n PathRt.verdict (counterKey n b) s1 s2 := .whenSo (.halfPair hApart s1 fun _ _ => rfl)
  have h3 : keepsView n PathRt.verdict (counterKey n b) s2 s3 := .agc hApart s2 a
  have h4 : keepsView n PathRt.verdict (counterKey n b) s3 s4 := by
    unfold s4
    split
    · exact .refl s3
    · exact .setPath s3 rfl
  have h5 : keepsView n PathRt.verdict (counterKey n b) s4 s5 := .fallback hApart s4 a fun _ _ _ _ => rfl
  have h6 : keepsView n PathRt.verdict (counterKey n b) s5 s6 := .whenSo (.setPath s5 rfl)
  have h7 : keepsView n PathRt.verdict (counterKey n b) s6 s7 := .whenSo (.setPath s6 rfl)
  have h8 : keepsView n PathRt.verdict (counterKey n b) s7 s8 := State.slotOutcome_keeps hApart s7 c sl _ _ _ _
  have h9 : keepsView n PathRt.verdict (counterKey n b) s8 s9 := State.recordOf_keeps hApart s8 a _
  have h := ((((((((h2.trans h3).trans h4).trans h5).trans h6).trans h7).trans h8).trans h9).trans
    (State.learnPair_keeps hApart s9 a))
  have hp := h.path
  have hg := h.entries (clsCounter n a0) hKey
  have hAtt : (s1.path n).att = a := by simp only [s1, State.path_inc, State.path_setPath]
  have hCount : s1.g (clsCounter n a0) = wrap32 (s.g (clsCounter n a0) + 1) :=
    State.g_inc_same (s.setPath n { s.path n with att := a }) hLed
  rw [PathRt.verdict, PathRt.verdict, hAtt, Prod.mk.injEq] at hp
  exact ⟨hp.1, hp.2, hg.trans hCount⟩

theorem Attempt.guard_phase (a : Attempt) (x : Shot) : (a.guard x).phase = x.phase := by
  unfold Attempt.guard
  split
  · rfl
  split
  · rfl
  · rfl

theorem Attempt.guard_amp (a : Attempt) (x : Shot) : (a.guard x).amp = x.amp := by
  unfold Attempt.guard
  split
  · rfl
  split
  · rfl
  · rfl

/-- The other direction than `d` is the only one. -/
theorem Dir.eq_of_ne {d e f : Dir} (he : d ≠ e) (hf : d ≠ f) : f = e := by
  cases d <;> cases e <;> cases f <;> simp_all

theorem Attempt.live_setShot (a : Attempt) (d : Dir) (x : Shot) : (a.setShot d x).live = a.live := by cases d <;> rfl

/-- A shot has its verdict, or is not taken. -/
def Shot.settled (x : Shot) : Bool := decide (x.phase = .judged) || decide (x.phase = .notTaken)

theorem Attempt.settled_iff (a : Attempt) {d e : Dir} (h : d ≠ e) :
    (a.dn.settled && a.up.settled) = ((a.shot d).settled && (a.shot e).settled) := by
  cases d <;> cases e
  · exact absurd rfl h
  · rfl
  · exact Bool.and_comm _ _
  · exact absurd rfl h

/-- A verdict of a shot whose other shot has been taken: the attempt takes the judged shot, and ends where both are
settled (R157). -/
theorem State.verdict_eq (s : State) {n : Nat} {d e : Dir} (m : ShotMeas) (hne : d ≠ e)
    (hLive : (s.path n).att.live = true)
    (hNow : s.verdictNow ((s.path n).att.shot d) = true) (hTaken : ((s.path n).att.shot e).phase ≠ .none) :
    let a := (s.path n).att
    let y := a.guard (s.measureShot n (a.shot d) m)
    let s3 := (s.noteCalErr n y).setPath n { (s.noteCalErr n y).path n with att := a.setShot d y }
    s.verdict n d m = if (a.shot e).settled then s3.complete n (a.setShot d y) else s3 := by
  extract_lets a y _ s3
  have hSkip : (a.seq && decide (d ≠ a.secondDir) && decide ((a.shot a.secondDir).phase = .none)) = false := by
    by_cases hd : d = a.secondDir
    · simp [hd]
    · rw [Dir.eq_of_ne hne hd]
      simp [a, hTaken]
  have hJudged : ((a.setShot d y).shot d).settled = true := by
    rw [Attempt.shot_setShot]
    simp [Shot.settled, y, Attempt.guard_phase, State.measureShot]
  have hBoth : ((a.setShot d y).dn.settled && (a.setShot d y).up.settled) = (a.shot e).settled := by
    rw [Attempt.settled_iff _ hne, hJudged, Attempt.shot_setShot_ne _ _ hne.symm, Bool.true_and]
  unfold State.verdict
  extract_lets r a' x y' a1 s1 e' skip _ _ a2 s2 _ s3' settled
  rw [if_neg (by rw [show a'.live = true from hLive, show s.verdictNow x = true from hNow]; decide)]
  have hNoSkip : skip = false := by
    unfold skip
    rw [show (a'.seq && decide (d ≠ e') && decide ((a'.shot e').phase = .none)) = false from hSkip]
    rfl
  have hA2 : a2 = a.setShot d y := if_neg (by rw [hNoSkip]; decide)
  have hS2 : s2 = s.noteCalErr n y := if_neg (by rw [hNoSkip]; simp)
  have hS3 : s3' = s3 := congrArg₂ (fun (t : State) b => t.setPath n { t.path n with att := b }) hS2 hA2
  rw [hS3, hA2]
  exact if_congr (by rw [← hBoth]; rfl) rfl rfl

/-- Settles O8: a verdict judges its shot, and the second one ends the attempt with its class. -/
theorem verdictJudges : Obligations.VerdictJudges := by
  refine ⟨fun s n d e m hn hne hLive hNow hOpen => ?_, fun s n d e m hPart hn hne hLive hNow hOther => ?_⟩
  · refine yields.fitted (decide_eq_true hn) (yields.confined ?_)
    have hTaken : ((s.path n).att.shot e).phase ≠ .none := by rcases hOpen with h | h <;> rw [h] <;> decide
    have hUnsettled : ¬ ((s.path n).att.shot e).settled = true := by
      rcases hOpen with h | h <;> rw [Shot.settled, h] <;> decide
    rw [State.path_keepCore, s.verdict_eq m hne hLive hNow hTaken]
    dsimp only
    rw [if_neg hUnsettled, State.path_setPath]
    refine ⟨?_, ?_, ?_⟩
    · rw [Attempt.shot_setShot, Attempt.guard_phase]
      rfl
    · rw [Attempt.shot_setShot, Attempt.guard_amp]
      exact (min_def m.amp 2047).symm
    · rw [Attempt.live_setShot, hLive]
  · have hn' : n < 32 := lt_of_lt_of_le hn (nPaths_le hPart)
    have hSettled : ((s.path n).att.shot e).settled = true := by rw [Shot.settled, hOther]; rfl
    have hTaken : ((s.path n).att.shot e).phase ≠ .none := by rw [hOther]; decide
    intro a a2
    obtain ⟨b, hb, hKey⟩ := clsCounter_eq n a2
    have hLed : isLedKey (clsCounter n a2) = false := by rw [hKey]; exact isLedKey_path (by omega) hn'
    have hCount : ((s.noteCalErr n (a.guard (s.measureShot n (a.shot d) m)))).g (clsCounter n a2) = s.g
        (clsCounter n a2) :=
      (State.keepsView.noteCalErr (view := id) (apartFrom_counter (a := b) hn' (.inl hb)) s _).entries _ hKey
    refine yields.fitted (decide_eq_true hn) (yields.confined ?_)
    rw [State.path_keepCore, State.g_keepCore _ _ hLed, s.verdict_eq m hne hLive hNow hTaken]
    dsimp only
    rw [if_pos hSettled]
    have h := State.complete_shows ((s.noteCalErr n (a.guard (s.measureShot n (a.shot d) m))).setPath n
      { (s.noteCalErr n (a.guard (s.measureShot n (a.shot d) m))).path n with att := a2 }) a2 hn'
    rw [State.g_setPath, hCount] at h
    exact h

end Sys2Proof.Machine
end

section
/-! The attempts of a cycle, and reference pairs. -/

namespace Sys2Proof.Machine

open Sys2Proof

-- a cycle's grants, and reference pairs (R189, R195 to R200)

/-- Where no other command of the cycle asks for an attempt on the die, the one asked for is served. -/
theorem State.serveAttempts_alone (s : State) {d : Nat} {c : Instr} {w : Want} (hMine : s.wants d c = [w])
    (hAlone : s.pending.flatMap (s.wants d) = []) (hPath : w.path / 4 = d) : s.serveAttempts d c = s.serveWant w := by
  have hw : w.path = 4 * d + w.path % 4 := by omega
  have hOther : ∀ (t : State) k, k ≠ w.path % 4 →
      (if [w].any (fun w => decide (k ≤ w.path % 4)) then
        ([w].filter (fun w => decide (w.path = 4 * d + k))).foldl State.serveWant t else t) = t := by
    intro t k hk
    have hFilter : [w].filter (fun w => decide (w.path = 4 * d + k)) = [] := by simp; omega
    rw [hFilter, List.foldl_nil, ite_self]
  unfold State.serveAttempts
  dsimp only
  rw [hMine, hAlone, List.append_nil, foldl_single (b := w.path % 4) (List.range 4) (List.mem_range.mpr (by omega))
    List.nodup_range (fun k hk => hOther s k hk) (fun k hk => hOther _ k hk)]
  have hFilter : [w].filter (fun w' => decide (w'.path = 4 * d + w.path % 4)) = [w] := by simp [← hw]
  rw [hFilter, if_pos (by simp)]
  rfl

/-- With the governor off a due reference pair starts in the other role than the last (R195, R196). -/
theorem State.startRef_shows (s : State) {n : Nat} (hPlace : s.refPlace n = true) (hRuns : s.dieRuns (n / 4) = true)
    (hCal : (s.die (n / 4)).calRun = 0) (hGov : s.pow.govOn = false) :
    ((s.startRef n).path n).refRun = some (s.refOf n (1 - (s.path n).refLast)) ∧
    ((s.startRef n).path n).refLast = 1 - (s.path n).refLast := by
  have hGrant : ∀ cost next, s.grant n cost next = (s, true) := fun _ _ => if_pos (by rw [hGov]; rfl)
  unfold State.startRef
  rw [if_neg (by rw [hPlace, hRuns, hCal]; decide)]
  dsimp only
  rw [hGrant]
  dsimp only
  rw [if_neg (by decide), State.path_setPath]
  exact ⟨rfl, rfl⟩

theorem State.noteCalErr_quiet (s : State) (n : Nat) (y : Shot) : quiet s (s.noteCalErr n y) := by
  unfold State.noteCalErr
  split
  · exact .onceEv _ _ _ _ _ _ _
  · exact .refl s

/-- The entry of a role's zero-flow offset (R197). -/
def zoKey (n role : Nat) : Nat := if role = 0 then K.rec_ZO0 n else K.rec_ZO1 n

theorem zoKey_eq (n role : Nat) : ∃ a, (a = 0x212050 ∨ a = 0x212051) ∧ zoKey n role = a + 256 * n := by
  unfold zoKey
  split
  · exact ⟨_, .inl rfl, rfl⟩
  · exact ⟨_, .inr rfl, rfl⟩

/-- A role's offset rests on its entry and on what the engine keeps of its being set. -/
theorem State.zoOf_congr {s t : State} (n role : Nat) (hPath : t.path n = s.path n)
    (hg : t.g (zoKey n role) = s.g (zoKey n role)) :
    t.zoOf n role = s.zoOf n role := by
  unfold State.zoOf zoKey State.gi at *
  by_cases h : role = 0
  · rw [if_pos h] at *; rw [if_pos h] at *; rw [hg, hPath]
  · rw [if_neg h] at *; rw [if_neg h] at *; rw [hg, hPath]

/-- A passing reference pair moves the offset of its role, shows its ΔT and its cycle, and counts (R197, R200). -/
theorem State.refPasses_shows (s : State) {n : Nat} (p : RefPair) (dt : Int) (hn : n < 32) :
    ((s.refPasses n p dt).path n).refRun = none ∧
    (s.refPasses n p dt).g (K.rec_REF_COUNT n) = wrap32 (s.g (K.rec_REF_COUNT n) + 1) ∧
    (s.refPasses n p dt).g (K.rec_DT_REF n) = ofSigned 32 dt ∧ (s.refPasses n p dt).g (K.rec_REF_CYC n) = p.b ∧
    (s.refPasses n p dt).g (zoKey n p.role) =
      ofSigned 32 (zoNext (s.zoOf n p.role).1 dt (s.zoOf n p.role).2 (s.g (K.path_ZO_SHIFT n))) := by
  obtain ⟨a, ha, hKey⟩ := zoKey_eq n p.role
  have hLedZo : isLedKey (zoKey n p.role) = false := by rw [hKey]; exact isLedKey_path (by omega) hn
  have hLed : ∀ b, (0x210000 ≤ b ∧ b < 0x212100) → isLedKey (b + 256 * n) = false := fun b hb => isLedKey_path hb hn
  unfold State.refPasses
  extract_lets zo alarm s1 s2 r s3
  have h1 : quiet s s1 := by
    unfold s1
    split
    · exact .ev _ _ _ _ _ _
    · exact .refl s
  have hEntry : ∀ b, (0x210000 ≤ b ∧ b < 0x212100) → s1.g (b + 256 * n) = s.g (b + 256 * n) :=
    fun b hb => h1.entries _ (sharedKey_path hb hn)
  have h2 : s2.g (zoKey n p.role) = ofSigned 32 (zoNext zo.1 dt zo.2 (s.g (K.path_ZO_SHIFT n))) := by
    rw [← hEntry 0x21000A (by decide)]
    exact State.g_pi_same s1 _ _ hLedZo
  have h2' : ∀ b, b ≠ 0x212050 → b ≠ 0x212051 → s2.g (b + 256 * n) = s1.g (b + 256 * n) := by
    intro b hb hb'
    refine State.g_pi_ne s1 _ _ ?_
    show b + 256 * n ≠ zoKey n p.role
    omega
  have h3 : ∀ k, s3.g k = s2.g k := fun k => State.g_setPath s2 n _ k
  have hRun : (s3.path n).refRun = none := by simp only [s3, State.path_setPath]
  have hne : ∀ b c, b ≠ c → b + 256 * n ≠ c + 256 * n := fun b c h => mt Nat.add_right_cancel h
  have hZo : ∀ b, 0x212052 ≤ b → zoKey n p.role ≠ b + 256 * n := by omega
  clear_value s3
  refine ⟨?_, ?_, ?_, ?_, ?_⟩
  · rw [State.path_inc, State.path_p, State.path_pi, hRun]
  · rw [State.g_inc_same _ (hLed 0x212053 (by decide)), State.g_p_ne _ _ (hne 0x212053 0x212055 (by decide)),
      State.g_pi_ne _ _ _ (hne 0x212053 0x212052 (by decide)), h3, h2' 0x212053 (by decide) (by decide),
      hEntry 0x212053 (by decide)]
  · rw [State.g_inc_ne _ (hne 0x212052 0x212053 (by decide)), State.g_p_ne _ _ (hne 0x212052 0x212055 (by decide)),
      State.g_pi_same _ _ _ (hLed 0x212052 (by decide))]
  · rw [State.g_inc_ne _ (hne 0x212055 0x212053 (by decide)), State.g_p_same _ _ (hLed 0x212055 (by decide))]
  · rw [State.g_inc_ne _ (hZo 0x212053 (by decide)), State.g_p_ne _ _ (hZo 0x212055 (by decide)),
      State.g_pi_ne _ _ _ (hZo 0x212052 (by decide)), h3, h2]

/-- A reference pair that failed is counted twice: as a pair and as a failure (R200). -/
theorem State.refFails_shows (s : State) {n : Nat} (r : PathRt) (hr : r.refRun = none) (hn : n < 32) :
    let t := (((s.setPath n r).inc (K.rec_REF_COUNT n)).inc (K.rec_REF_FAIL_COUNT n)).onceEv n (n / 4) 1 (locPath n)
        0x1030 []
    (t.path n).refRun = none ∧ t.g (K.rec_REF_COUNT n) = wrap32 (s.g (K.rec_REF_COUNT n) + 1) ∧
    t.g (K.rec_REF_FAIL_COUNT n) = wrap32 (s.g (K.rec_REF_FAIL_COUNT n) + 1) := by
  intro t
  have hLed : ∀ b, (0x210000 ≤ b ∧ b < 0x212100) → isLedKey (b + 256 * n) = false := fun b hb => isLedKey_path hb hn
  have hne : ∀ b c, b ≠ c → b + 256 * n ≠ c + 256 * n := fun b c h => mt Nat.add_right_cancel h
  have ht : quiet (((s.setPath n r).inc (K.rec_REF_COUNT n)).inc (K.rec_REF_FAIL_COUNT n)) t := .onceEv _ _ _ _ _ _ _
  have hEntry : ∀ b, (0x210000 ≤ b ∧ b < 0x212100) →
      t.g (b + 256 * n) = (((s.setPath n r).inc (K.rec_REF_COUNT n)).inc (K.rec_REF_FAIL_COUNT n)).g (b + 256 * n) :=
    fun b hb => ht.entries _ (sharedKey_path hb hn)
  refine ⟨?_, ?_, ?_⟩
  · rw [(logsOnly.ofQuiet ht).path, State.path_inc, State.path_inc, State.path_setPath, hr]
  · rw [hEntry 0x212053 (by decide), State.g_inc_ne _ (hne 0x212053 0x212054 (by decide)),
      State.g_inc_same _ (hLed 0x212053 (by decide)), State.g_setPath]
  · rw [hEntry 0x212054 (by decide), State.g_inc_same _ (hLed 0x212054 (by decide)),
      State.g_inc_ne _ (hne 0x212054 0x212053 (by decide)), State.g_setPath]

/-- A reference pair that is not spoiled passes or fails by its two shots. -/
theorem State.refDone_eq (s : State) {n : Nat} {p : RefPair} (dn up : ShotRaw) (hRun : (s.path n).refRun = some p)
    (hSpoiled : p.spoiled = false) :
    let x := s.rawShot n (p.shot .dn) dn
    let y := s.rawShot n (p.shot .up) up
    let t := (s.noteCalErr n x).noteCalErr n y
    s.refDone n dn up =
      if x.presence && y.presence && !timeRangeOf (tofOf x x.aZc) (tofOf y y.aZc) then
        t.refPasses n p (tofOf y y.aZc - tofOf x x.aZc)
      else (((t.setPath n { t.path n with refRun := none }).inc (K.rec_REF_COUNT n)).inc
          (K.rec_REF_FAIL_COUNT n)).onceEv n
        (n / 4) 1 (locPath n) 0x1030 [] := by
  unfold State.refDone
  rw [hRun]
  dsimp only
  rw [hSpoiled, if_neg (by decide)]

/-- Settles O7: a reference pair starts, and its end shows its result or its failure. -/
theorem referencePairs : Obligations.ReferencePairs := by
  refine ⟨fun s n hPart hn hPlace hRuns hCal hGov hAlone => ?_, fun s n p dn up hPart hn hRun hSpoiled => ?_⟩
  · refine yields.fitted (decide_eq_true hn) (yields.confined ?_)
    have hMine : s.wants (n / 4) (.referencePairStart n) = [.ref n] := if_pos rfl
    rw [s.serveAttempts_alone hMine hAlone rfl, State.path_keepCore]
    exact s.startRef_shows hPlace hRuns hCal hGov
  · have hn' : n < 32 := lt_of_lt_of_le hn (nPaths_le hPart)
    intro x y
    have hErr : quiet s ((s.noteCalErr n x).noteCalErr n y) :=
        (s.noteCalErr_quiet n x).trans (State.noteCalErr_quiet _ n y)
    have hEntry : ∀ b, (0x210000 ≤ b ∧ b < 0x212100) →
        ((s.noteCalErr n x).noteCalErr n y).g (b + 256 * n) = s.g (b + 256 * n) :=
      fun b hb => hErr.entries _ (sharedKey_path hb hn')
    have hPath : ((s.noteCalErr n x).noteCalErr n y).path n = s.path n := (logsOnly.ofQuiet hErr).path n
    obtain ⟨a, ha, hKey⟩ := zoKey_eq n p.role
    have hLed : ∀ b, (0x210000 ≤ b ∧ b < 0x212100) → isLedKey (b + 256 * n) = false := fun b hb => isLedKey_path hb hn'
    have hLedZo : isLedKey (if p.role = 0 then K.rec_ZO0 n else K.rec_ZO1 n) = false := by
      rw [show (if p.role = 0 then K.rec_ZO0 n else K.rec_ZO1 n) = a + 256 * n from hKey]
      exact hLed a (by omega)
    have hZo : ((s.noteCalErr n x).noteCalErr n y).zoOf n p.role = s.zoOf n p.role :=
      State.zoOf_congr n p.role hPath (by rw [hKey]; exact hEntry a (by omega))
    refine yields.fitted (decide_eq_true hn) (yields.confined ?_)
    rw [State.path_keepCore, State.g_keepCore _ _ (hLed 0x212053 (by decide)),
      State.g_keepCore _ _ (hLed 0x212052 (by decide)), State.g_keepCore _ _ (hLed 0x212055 (by decide)),
      State.g_keepCore _ _ (hLed 0x212054 (by decide)), State.g_keepCore _ _ hLedZo]
    by_cases hPass : x.presence = true ∧ y.presence = true ∧ timeRangeOf (tofOf x x.aZc) (tofOf y y.aZc) = false
    · have hDone : s.refDone n dn up =
          ((s.noteCalErr n x).noteCalErr n y).refPasses n p (tofOf y y.aZc - tofOf x x.aZc) :=
        (s.refDone_eq dn up hRun hSpoiled).trans (if_pos (by simpa [x, y, and_assoc] using hPass))
      have h := ((s.noteCalErr n x).noteCalErr n y).refPasses_shows p (tofOf y y.aZc - tofOf x x.aZc) hn'
      obtain ⟨hNone, hCount, hDt, hCyc, hOffset⟩ := h
      rw [if_pos hPass, hDone]
      refine ⟨hNone, hCount.trans (by rw [hEntry 0x212053 (by decide)]), hDt, hCyc, hOffset.trans ?_⟩
      rw [hZo, hEntry 0x21000A (by decide)]
    · have hDone := (s.refDone_eq dn up hRun hSpoiled).trans (if_neg (by simpa [x, y] using hPass))
      have h := ((s.noteCalErr n x).noteCalErr n y).refFails_shows
        { ((s.noteCalErr n x).noteCalErr n y).path n with refRun := none } rfl hn'
      obtain ⟨hNone, hCount, hFail⟩ := h
      rw [if_neg hPass, hDone]
      refine ⟨hNone, hCount.trans (by rw [hEntry 0x212053 (by decide)]),
          hFail.trans (by rw [hEntry 0x212054 (by decide)])⟩

end Sys2Proof.Machine
end

section
/-! Slots, retries and second shots at their cycles. -/

namespace Sys2Proof.Machine

open Sys2Proof

-- the start of an attempt (R70, R80, R90, R97, R171, R189, R209)

/-- Of `s`, the state `t` keeps the path engines, the entries of their results, and whether the governor is on. -/
structure State.keepsEngines (s t : State) : Prop where
  path : ∀ n, t.path n = s.path n
  gov : t.pow.govOn = s.pow.govOn
  entries : ∀ k, 0x212000 ≤ k ∧ k < 0x214000 → t.g k = s.g k

namespace State.keepsEngines

theorem refl (s : State) : keepsEngines s s := ⟨fun _ => rfl, rfl, fun _ _ => rfl⟩

theorem trans {s t u : State} (a : keepsEngines s t) (b : keepsEngines t u) : keepsEngines s u :=
  ⟨fun n => (b.path n).trans (a.path n), b.gov.trans a.gov, fun k h => (b.entries k h).trans (a.entries k h)⟩

theorem p (s : State) {k : Nat} (v : Nat) (h : ¬ (0x212000 ≤ k ∧ k < 0x214000)) : keepsEngines s (s.p k v) :=
  ⟨fun n => by rw [State.path_p], by simp, fun j hj => State.g_p_ne s v fun e => h (e ▸ hj)⟩

theorem inc (s : State) {k : Nat} (h : ¬ (0x212000 ≤ k ∧ k < 0x214000)) : keepsEngines s (s.inc k) :=
  ⟨fun n => by rw [State.path_inc], by simp, fun j hj => State.g_inc_ne s fun e => h (e ▸ hj)⟩

theorem ofQuiet {s t : State} (h : quiet s t) : keepsEngines s t := by
  refine ⟨(logsOnly.ofQuiet h).path, congrArg PowRt.govOn (h.eq (·.pow) fun _ _ _ _ _ _ => rfl), fun k hk =>
      h.entries k ?_⟩
  simp only [sharedKey, List.mem_cons, List.not_mem_nil, or_false, decide_eq_false_iff_not, K.log_QUEUE_DROP,
    K.log_LOG_STAT, K.log_STANDING, K.comm_ERRREG, K.sag_SAG_STAT, K.sag_TRIP_COUNT]
  omega

theorem setPort (s : State) (n : Nat) (r : PortRt) : keepsEngines s (s.setPort n r) :=
    ⟨fun _ => rfl, rfl, fun _ _ => rfl⟩

theorem setSect (s : State) (n : Nat) (r : SectRt) : keepsEngines s (s.setSect n r) :=
    ⟨fun _ => rfl, rfl, fun _ _ => rfl⟩

theorem foldl {β : Type} {f : State → β → State} (hf : ∀ s b, keepsEngines s (f s b)) (l : List β) (s : State) :
    keepsEngines s (l.foldl f s) := by
  induction l generalizing s with
  | nil => exact refl s
  | cons b l ih => exact (hf s b).trans (ih _)

theorem armSections (s : State) (n b0 : Nat) (f : FrameWork) : keepsEngines s (s.armSections n b0 f) :=
  foldl (fun t i => setSect t i _) _ s

section

variable {n : Nat}

theorem bitTo (s : State) (b : Nat) (v : Bool) : keepsEngines s (s.bitTo (K.port_STATUS n) b v) :=
  .p s _ (show ¬ (0x212000 ≤ 0x214010 + 256 * n ∧ 0x214010 + 256 * n < 0x214000) by omega)

theorem syncHold (s : State) : keepsEngines s s.syncHold := .p s (k := K.sag_SAG_STAT) _ (by decide)

theorem holdAtStart (s : State) : keepsEngines s (s.holdAtStart n) := by
  unfold State.holdAtStart State.leaveHold State.enterHold
  split
  · split
    · exact ((bitTo s _ _).trans (bitTo _ _ _)).trans (syncHold _)
    · exact refl s
  · split
    · exact refl s
    · exact ((((bitTo s _ _).trans (bitTo _ _ _)).trans (ofQuiet (.ev _ _ _ _ _ _))).trans (inc _ (by decide))).trans
        (syncHold _)

theorem startBurst (s : State) (mv : Nat) : keepsEngines s (s.startBurst n mv) :=
  (setPort s n _).trans (.inc _ (show ¬ (0x212000 ≤ 0x214013 + 256 * n ∧ 0x214013 + 256 * n < 0x214000) by omega))

end

theorem fireBursts (s : State) (n : Nat) (a : Attempt) : keepsEngines s (s.fireBursts n a) := by
  have hOne : ∀ (t : State) port, keepsEngines t (if t.transmits port then t.startBurst port a.vdrv else t) := by
    intro t port
    split
    · exact startBurst t _
    · exact refl t
  unfold State.fireBursts
  dsimp only
  split
  · exact hOne s _
  · exact (hOne s _).trans (hOne _ _)

end State.keepsEngines

theorem State.withhold_ok {s : State} {m : Nat} (h : s.energyOk m = true) : s.withhold m = s := if_pos h

/-- An attempt that may start passes its three checks with the governor off. -/
theorem State.checkAttempt_granted {s : State} {n mv : Nat} (next : Bool) (hn : n < 32) (h : mayShoot s n mv) :
    ∃ t, s.checkAttempt n mv next = (t, true) ∧ State.keepsEngines s t := by
  obtain ⟨-, -, hGov, hVdrv, hA, hB⟩ := h
  unfold State.checkAttempt
  extract_lets d s1 okV okE s2 s3 s4 cost g
  have h1 : keepsEngines s s1 :=
    .p s _ (show ¬ (0x212000 ≤ 0x200111 + 256 * (n / 4) ∧ 0x200111 + 256 * (n / 4) < 0x214000) by omega)
  have hEnergy : ∀ m, m < 64 → s1.energyOk m = s.energyOk m := by
    intro m hm
    have hWindow : s1.g (K.port_E_WINDOW m) = s.g (K.port_E_WINDOW m) :=
      State.g_p_ne s _ (show 0x214012 + 256 * m ≠ 0x200111 + 256 * (n / 4) by omega)
    have hCap : s1.g (K.sag_CAP_ENERGY m) = s.g (K.sag_CAP_ENERGY m) :=
      State.g_p_ne s _ (show 0x2F0081 + m ≠ 0x200111 + 256 * (n / 4) by omega)
    unfold State.energyOk
    rw [hWindow, hCap, State.port_p, show s1.cyc = s.cyc by simp [s1]]
  have hOkA : s1.energyOk (endA n) = true := (hEnergy _ (show 2 * n < 64 by omega)).trans hA
  have hOkB : s1.energyOk (endB n) = true := (hEnergy _ (show 2 * n + 1 < 64 by omega)).trans hB
  have hOkV : okV = true := by
    have hSet : s1.g (K.die_VDRV_SET d) = s.g (K.die_VDRV_SET d) :=
      State.g_p_ne s _ (show 0x200110 + 256 * (n / 4) ≠ 0x200111 + 256 * (n / 4) by omega)
    unfold okV
    rw [hSet]
    exact hVdrv
  have h2 : s2 = s1 := if_pos hOkV
  have h3 : s3 = s1 := by
    unfold s3
    rw [h2, State.withhold_ok hOkA, State.withhold_ok hOkB]
  have h4 : keepsEngines s s4 := by
    unfold s4
    rw [h3]
    exact (h1.trans (.holdAtStart s1)).trans (.holdAtStart _)
  have hg : g = (s4, true) := if_pos (by rw [h4.gov, hGov]; rfl)
  refine ⟨s4, ?_, h4⟩
  rw [if_neg (by rw [hOkV, show okE = true from by unfold okE; rw [hOkA, hOkB]; rfl]; decide), hg, if_pos rfl]

theorem Attempt.setShot_run (a : Attempt) (d : Dir) (x : Shot) :
    (a.setShot d x).live = a.live ∧ (a.setShot d x).b = a.b ∧ (a.setShot d x).idx = a.idx ∧
    (a.setShot d x).sent = a.sent := by
  cases d <;> exact ⟨rfl, rfl, rfl, rfl⟩

/-- A latched attempt runs from its B on and has not transmitted. -/
theorem State.latch_shows (s : State) (n b idx mv : Nat) (sl : Slot) (active : Bool) :
    (s.latch n b idx mv sl active).live = true ∧ (s.latch n b idx mv sl active).b = b ∧
    (s.latch n b idx mv sl active).idx = idx ∧ (s.latch n b idx mv sl active).sent = false := by
  unfold State.latch
  extract_lets r role seq upFirst learning probe fb thr td zo txA txB a e
  split
  · exact Attempt.setShot_run a _ _
  · obtain ⟨h1, h2, h3, h4⟩ := Attempt.setShot_run (a.setShot .dn (s.newShot n .dn b role thr txB true)) .up
      (s.newShot n .up b role thr txA true)
    obtain ⟨k1, k2, k3, k4⟩ := Attempt.setShot_run a .dn (s.newShot n .dn b role thr txB true)
    exact ⟨h1.trans k1, h2.trans k2, h3.trans k3, h4.trans k4⟩

/-- The start of a burst counts a slot's first one and a retry's, and marks the attempt (R171, R209). -/
theorem State.noteSent_shows (s : State) {n : Nat} (hn : n < 32) (hSent : (s.path n).att.sent = false) :
    ((s.noteSent n).path n).att = { (s.path n).att with sent := true } ∧
    ((s.noteSent n).path n).slot = { (s.path n).slot with sent := true } ∧
    ((s.noteSent n).path n).slotDue = (s.path n).slotDue ∧
    ((s.noteSent n).path n).slotsRun =
      (if (s.path n).slot.sent = true then (s.path n).slotsRun else wrap32 ((s.path n).slotsRun + 1)) ∧
    (s.noteSent n).g (K.rec_RETRY_COUNT n) =
      if 0 < (s.path n).att.idx then wrap32 (s.g (K.rec_RETRY_COUNT n) + 1) else s.g (K.rec_RETRY_COUNT n) := by
  have hLed : isLedKey (K.rec_RETRY_COUNT n) = false := isLedKey_path (by decide) hn
  unfold State.noteSent
  extract_lets r s1 every
  have hCount : s1.g (K.rec_RETRY_COUNT n) =
      if 0 < r.att.idx then wrap32 (s.g (K.rec_RETRY_COUNT n) + 1) else s.g (K.rec_RETRY_COUNT n) := by
    unfold s1
    rw [show r.att.sent = false from hSent, Bool.not_false, Bool.true_and]
    by_cases h : 0 < r.att.idx
    · rw [if_pos (decide_eq_true h), if_pos h, State.g_inc_same _ hLed]
    · rw [if_neg (by simpa using h), if_neg h]
  clear_value s1
  rw [State.g_setPath, hCount, State.path_setPath]
  by_cases hSlot : r.slot.sent = true
  · rw [if_pos hSlot, if_pos hSlot]
    exact ⟨rfl, by rw [← hSlot], rfl, rfl, rfl⟩
  · rw [if_neg hSlot, if_neg hSlot]
    exact ⟨rfl, rfl, rfl, rfl, rfl⟩

/-- What the start of an attempt shows in the engine. -/
theorem State.startAttempt_shows (s : State) {n : Nat} (b idx mv : Nat) (active : Bool) (hn : n < 32) :
    let t := s.startAttempt n b idx mv active
    (t.path n).att.live = true ∧ (t.path n).att.b = b ∧ (t.path n).slot.live = (s.path n).slot.live ∧
    (t.path n).slot.b0 = (s.path n).slot.b0 ∧ (t.path n).slot.attempt = (s.path n).slot.attempt ∧
    (t.path n).slotDue = (s.path n).slotDue ∧
    ((s.path n).slot.sent = false → (t.path n).slotsRun =
      if (t.path n).att.sent = true then wrap32 ((s.path n).slotsRun + 1) else (s.path n).slotsRun) ∧
    (0 < idx → t.g (K.rec_RETRY_COUNT n) =
      if (t.path n).att.sent = true then wrap32 (s.g (K.rec_RETRY_COUNT n) + 1) else s.g (K.rec_RETRY_COUNT n)) := by
  unfold State.startAttempt
  extract_lets a r probeCount s1 s2 s3 t
  obtain ⟨hLive, hB, hIdx, hSent⟩ := s.latch_shows n b idx mv (s.path n).slot active
  have h2 : keepsEngines s1 s2 := by
    unfold s2
    split
    · exact .ofQuiet (.onceEv _ _ _ _ _ _ _)
    · exact .refl s1
  have h3 : keepsEngines s1 s3 := h2.trans (.fireBursts s2 n a)
  have hPath : s3.path n = { r with att := a, fbProbe := probeCount } := by
    rw [h3.path n]
    exact State.path_setPath _ _ _
  have hCount : s3.g (K.rec_RETRY_COUNT n) = s.g (K.rec_RETRY_COUNT n) :=
    h3.entries _ (show 0x212000 ≤ 0x21204B + 256 * n ∧ 0x21204B + 256 * n < 0x214000 by omega)
  clear_value s2 s3
  by_cases hFirst : s.firstSends n a = true
  · rw [show t = s3.noteSent n from if_pos hFirst]
    obtain ⟨hAtt, hSlot, hDue, hRun, hRetry⟩ := s3.noteSent_shows hn (by rw [hPath]; exact hSent)
    rw [hPath] at hAtt hSlot hDue hRun hRetry
    rw [hCount] at hRetry
    rw [hAtt, hSlot, hDue, hRun, hRetry]
    refine ⟨hLive, hB, rfl, rfl, rfl, rfl, fun h => ?_, fun h => ?_⟩
    · rw [if_neg (by rw [h]; decide)]
      rfl
    · rw [show a.idx = idx from hIdx, if_pos h]
      rfl
  · rw [show t = s3 from if_neg hFirst, hPath, hCount]
    refine ⟨hLive, hB, rfl, rfl, rfl, rfl, fun _ => ?_, fun _ => ?_⟩
    · rw [if_neg (by rw [show a.sent = false from hSent]; decide)]
    · rw [if_neg (by rw [show a.sent = false from hSent]; decide)]


-- slots, retries and second shots at their cycles (R162, R163, R176, R180, R192)

/-- A due retry of a path that may shoot starts the slot's next attempt (R162, R171). -/
theorem State.retry_shows (s : State) {n mv : Nat} (hn : n < 32) (hDue : s.retryDue n = true) (hMay : mayShoot s n mv)
    (hRuns : s.dieRuns (n / 4) = true) :
    ((s.retry n mv).path n).att.live = true ∧ ((s.retry n mv).path n).att.b = cycPlus s.cyc 1 ∧
    ((s.retry n mv).path n).slot.attempt = (s.path n).slot.attempt + 1 ∧
    (s.retry n mv).g (K.rec_RETRY_COUNT n) =
      if ((s.retry n mv).path n).att.sent = true then wrap32 (s.g (K.rec_RETRY_COUNT n) + 1)
      else s.g (K.rec_RETRY_COUNT n) := by
  have hCool : s.tooHot (n / 4) = false := by rw [State.tooHot, hMay.2.1]; rfl
  obtain ⟨c, hCheck, hKept⟩ := State.checkAttempt_granted s.inNextFrame hn hMay
  have hCount : c.g (K.rec_RETRY_COUNT n) = s.g (K.rec_RETRY_COUNT n) :=
    hKept.entries _ (show 0x212000 ≤ 0x21204B + 256 * n ∧ 0x21204B + 256 * n < 0x214000 by omega)
  unfold State.retry
  rw [hDue]
  dsimp only
  rw [if_neg (by decide), if_neg (by rw [hRuns, hMay.1, hCool]; decide), hCheck]
  dsimp only
  rw [if_neg (by decide), hKept.path]
  generalize hs1 : c.setPath n _ = s1
  obtain ⟨hLive, hB, -, -, hAttempt, -, -, hRetry⟩ :=
    s1.startAttempt_shows (cycPlus s.cyc 1) ((s.path n).slot.attempt + 1) mv (s1.pathActive n) hn
  refine ⟨hLive, hB, ?_, ?_⟩
  · rw [hAttempt, ← hs1, State.path_setPath]
  · rw [hRetry (Nat.succ_pos _), ← hs1, State.g_setPath, hCount]

/-- A due retry that its die cannot take ends the slot and sends its last record (R163, R192). -/
theorem State.retry_withheld (s : State) {n : Nat} (mv : Nat) {f : FinalRec} (hDue : s.retryDue n = true)
    (hStands : s.dieRuns (n / 4) = false) (hRecord : (s.path n).slot.record = some f) :
    ((s.retry n mv).path n).slot.live = false ∧
    ((s.retry n mv).path n).sent = (s.path n).sent ++ [{ f with fault := s.g (K.rec_OUTCOME_FAULT n) }] := by
  unfold State.retry
  rw [hDue]
  dsimp only
  rw [if_neg (by decide), if_pos (by rw [hStands]; rfl)]
  unfold State.endWithheld State.sendLast
  dsimp only
  rw [State.path_setPath]
  dsimp only
  rw [hRecord]
  dsimp only
  rw [State.sendFinal, State.path_setPath, State.path_setPath]
  exact ⟨rfl, rfl⟩

/-- A slot of a path that may shoot begins with attempt 0 at its B (R176, R192, R209). -/
theorem State.beginSlot_shows (s : State) {n mv : Nat} (b0 : Nat) (f : FrameWork) (active next : Bool) (hn : n < 32)
    (hMay : mayShoot s n mv) (hTakes : s.takesSlots (n / 4) f.epoch = true) (hCal : s.calTakes (n / 4) = false)
    (hA : bitClear s (K.port_STATUS (endA n)) stPEND) (hB : bitClear s (K.port_STATUS (endB n)) stPEND) :
    let t := s.beginSlot n b0 mv f active next
    (t.path n).slotDue = false ∧ (t.path n).slot.live = true ∧ (t.path n).slot.b0 = b0 ∧ (t.path n).att.live = true ∧
    (t.path n).att.b = b0 ∧
    (t.path n).slotsRun =
      if (t.path n).att.sent = true then wrap32 ((s.path n).slotsRun + 1) else (s.path n).slotsRun := by
  have hCool : s.tooHot (n / 4) = false := by rw [State.tooHot, hMay.2.1]; rfl
  have hNoCheck : (s.st (endA n) stPEND || s.st (endB n) stPEND) = false := by
    rw [show s.st (endA n) stPEND = false from hA, show s.st (endB n) stPEND = false from hB]; rfl
  unfold State.beginSlot
  extract_lets d r s0 c s1 _ s2 t
  have hMay0 : mayShoot s0 n mv := hMay
  obtain ⟨u, hCheck, hKept⟩ := State.checkAttempt_granted next hn hMay0
  have ht : t = s2.startAttempt n b0 0 mv active := by
    unfold t
    rw [if_neg (by rw [hTakes]; decide), if_neg (by rw [hMay.1, hCal]; decide), if_neg (by rw [hCool]; decide),
      if_neg (by rw [hNoCheck]; decide), if_neg (by rw [show c = (u, true) from hCheck]; exact Bool.false_ne_true)]
  have hArmed : s1.path n = s0.path n := by
    unfold s1
    rw [(State.keepsEngines.armSections c.1 n b0 f).path, show c = (u, true) from hCheck, hKept.path]
  have h0 : (s0.path n).slotDue = false ∧ (s0.path n).slotsRun = (s.path n).slotsRun := by
    rw [show s0.path n = _ from State.path_setPath _ _ _]
    exact ⟨rfl, rfl⟩
  have h2 : (s2.path n).slotDue = (s1.path n).slotDue ∧ (s2.path n).slotsRun = (s1.path n).slotsRun ∧
      (s2.path n).slot.live = true ∧ (s2.path n).slot.b0 = b0 ∧ (s2.path n).slot.sent = false := by
    rw [show s2.path n = _ from State.path_setPath _ _ _]
    exact ⟨rfl, rfl, rfl, rfl, rfl⟩
  obtain ⟨hDue, hRun, hSlotLive, hB0, hSent⟩ := h2
  rw [hArmed, h0.1] at hDue
  rw [hArmed, h0.2] at hRun
  obtain ⟨hLive, hB, hLive', hB0', -, hDue', hRun', -⟩ := s2.startAttempt_shows b0 0 mv active hn
  rw [ht]
  clear_value s2
  exact ⟨hDue'.trans hDue, hLive'.trans hSlotLive, hB0'.trans hB0, hLive, hB, by rw [hRun' hSent, hRun]⟩

/-- The engines that a slot entry names are of its die. -/
theorem mem_slotPaths {d w n : Nat} (h : n ∈ slotPaths d w) : n / 4 = d := by
  obtain ⟨k, hk, rfl⟩ := List.mem_map.mp h
  have hk4 : k < 4 := List.mem_range.mp (List.mem_filter.mp hk).1
  omega

/-- An entry of the current frame that names one engine asks for its slot (R176). -/
theorem State.slotWants_single {s : State} {d e n : Nat} (mv : Nat) (hFraming : s.framing = true)
    (hCount : e < (s.die d).slotCount) (hOfs : 0 < slotOfs ((s.slotTable d).getD e 0))
    (hNow : cycPlus s.cyc 1 = cycPlus s.frameAt (slotOfs ((s.slotTable d).getD e 0)))
    (hNamed : slotPaths d ((s.slotTable d).getD e 0) = [n]) (hShoots : (s.path n).shoots = true)
    (hDue : (s.path n).slotDue = true) :
    ∃ f : FrameWork, f.epoch = s.frameAt ∧
      s.slotWants d e mv = [.slot n (cycPlus s.cyc 1) mv f (s.pathActive n) false] := by
  unfold State.slotWants
  extract_lets w here f a w' f'
  have hHere : here = true := by
    unfold here
    rw [hFraming, decide_eq_true hCount, decide_eq_true hOfs, decide_eq_true hNow]
    rfl
  refine ⟨f, rfl, ?_⟩
  rw [if_pos hHere, show slotPaths d w = [n] from hNamed, List.filter_cons_of_pos (by rw [hShoots, hDue]; rfl)]
  rfl

/-- The second shot of a sequential attempt listens in the other direction from its own B on (R180, R181). -/
theorem State.secondShot_shows (s : State) {n : Nat} (hDue : s.secondDue (s.path n).att = true) :
    (((s.secondShot n).path n).att.shot (s.path n).att.secondDir).phase = .listening ∧
    (((s.secondShot n).path n).att.shot (s.path n).att.secondDir).b = cycPlus (s.path n).att.b
        (s.path n).att.seqGap := by
  have hShots : ∀ (t : State), (((t.noteSent n).path n).att.shot (s.path n).att.secondDir) =
      ((t.path n).att.shot (s.path n).att.secondDir) := by
    intro t
    unfold State.noteSent
    extract_lets r s1 every
    rw [State.path_setPath]
    split <;> rfl
  have hTaken : ∀ (a : Attempt), (((s.takeSecond n a).2.shot a.secondDir).phase = .listening ∧
      ((s.takeSecond n a).2.shot a.secondDir).b = cycPlus a.b a.seqGap) := by
    intro a
    unfold State.takeSecond
    dsimp only
    rw [Attempt.shot_setShot]
    exact ⟨rfl, rfl⟩
  unfold State.secondShot
  dsimp only
  rw [if_pos hDue]
  have hShot := hTaken (s.path n).att
  generalize s.takeSecond n (s.path n).att = c at hShot ⊢
  split
  · rw [hShots, State.path_setPath]
    exact hShot
  · rw [State.path_setPath]
    exact hShot

/-- Settles O6: slots, retries and second shots start at their cycles. -/
theorem attemptsStart : Obligations.AttemptsStart := by
  refine ⟨fun s d e mv n hPart hd he hFraming hCount hOfs hNow hNamed hShoots hDue hA hB hMay hTakes hCal hSeen
      hAlone => ?_,
    ⟨fun s n mv hPart hn hDue hMay hRuns hAlone => ?_, fun s n mv f hPart hn hDue hStands hRecord hAlone => ?_⟩,
    fun s n hn hLive hSeq hNotSkipped hPhase hNow => ?_⟩
  · have hDie : n / 4 = d := mem_slotPaths (hNamed ▸ List.mem_cons_self)
    have hn : n < 32 := by have := lt_8_of_lt_dies hPart hd; omega
    obtain ⟨f, hEpoch, hWants⟩ := State.slotWants_single mv hFraming hCount hOfs hNow hNamed hShoots hDue
    have hMine : s.wants d (.slotStart d e mv) = [.slot n (cycPlus s.cyc 1) mv f (s.pathActive n) false] :=
      (if_pos rfl).trans hWants
    refine yields.fitted (by simp [hd, he]) (yields.confined ?_)
    have hServed : s.serveAttempts d (.slotStart d e mv) = s.beginSlot n (cycPlus s.cyc 1) mv f (s.pathActive n)
        false :=
      (s.serveAttempts_alone hMine hAlone hDie).trans (if_neg hSeen)
    rw [hServed, State.path_keepCore]
    exact s.beginSlot_shows _ f _ false hn hMay (by rw [hDie, hEpoch]; exact hTakes) (by rw [hDie]; exact hCal) hA hB
  · have hn' : n < 32 := lt_of_lt_of_le hn (nPaths_le hPart)
    have hMine : s.wants (n / 4) (.attemptStart n mv) = [.retry n mv] := if_pos rfl
    refine yields.fitted (decide_eq_true hn) (yields.confined ?_)
    rw [s.serveAttempts_alone hMine hAlone rfl, State.path_keepCore,
        State.g_keepCore _ _ (isLedKey_path (by decide) hn')]
    exact s.retry_shows hn' hDue hMay hRuns
  · have hMine : s.wants (n / 4) (.attemptStart n mv) = [.retry n mv] := if_pos rfl
    refine yields.fitted (decide_eq_true hn) (yields.confined ?_)
    rw [s.serveAttempts_alone hMine hAlone rfl, State.path_keepCore]
    exact s.retry_withheld mv hDue hStands hRecord
  · refine yields.fitted (decide_eq_true hn) (yields.confined ?_)
    rw [State.path_keepCore]
    refine s.secondShot_shows ?_
    unfold State.secondDue
    rw [hLive, hSeq, hNotSkipped, decide_eq_true hPhase, decide_eq_true hNow]
    rfl

end Sys2Proof.Machine
end

section
/-! What leaves the ledger registers and the SRAM banks as they are: a lemma for each function that a start, a booking
or a firing runs. -/

namespace Sys2Proof.Machine

open Sys2Proof

-- what leaves the ledger registers and the SRAM banks as they are

theorem led_sram_of_quiet {s t : State} (h : quiet s t) : t.led = s.led ∧ t.sram = s.sram := by
  rw [h.rest]
  exact ⟨rfl, rfl⟩

@[simp] theorem State.led_ite (c : Prop) [Decidable c] (s t : State) :
    (if c then s else t).led = if c then s.led else t.led := apply_ite State.led c s t

@[simp] theorem State.sram_ite (c : Prop) [Decidable c] (s t : State) :
    (if c then s else t).sram = if c then s.sram else t.sram := apply_ite State.sram c s t

/-- A fold of steps that each leave the ledger registers and the SRAM banks leaves them. -/
theorem foldl_led_sram {β : Type} {f : State → β → State} (h : ∀ s b, (f s b).led = s.led ∧ (f s b).sram = s.sram)
    (l : List β) (s : State) : (l.foldl f s).led = s.led ∧ (l.foldl f s).sram = s.sram :=
  ⟨foldl_keeps (·.led) (fun s b => (h s b).1) l s, foldl_keeps (·.sram) (fun s b => (h s b).2) l s⟩

@[simp] theorem State.foldl_led {β : Type} {f : State → β → State} (h : ∀ s b, (f s b).led = s.led) (l : List β)
    (s : State) : (l.foldl f s).led = s.led := foldl_keeps (·.led) h l s

@[simp] theorem State.foldl_sram {β : Type} {f : State → β → State} (h : ∀ s b, (f s b).sram = s.sram) (l : List β)
    (s : State) : (l.foldl f s).sram = s.sram := foldl_keeps (·.sram) h l s

@[simp] theorem State.ps_led_sram (s : State) (l : List (Nat × Nat)) :
    (s.ps l).led = s.led ∧ (s.ps l).sram = s.sram := by
  unfold State.ps
  simp

@[simp] theorem State.ev_led_sram (s : State) (src level loc event : Nat) (data : List Nat) :
    (s.ev src level loc event data).led = s.led ∧ (s.ev src level loc event data).sram = s.sram :=
  led_sram_of_quiet (.ev ..)

@[simp] theorem State.evChip_led_sram (s : State) (event : Nat) (data : List Nat) :
    (s.evChip event data).led = s.led ∧ (s.evChip event data).sram = s.sram :=
  State.ev_led_sram s 0 3 0 event data

@[simp] theorem State.onceEv_led_sram (s : State) (subject src level loc event : Nat) (data : List Nat) :
    (s.onceEv subject src level loc event data).led = s.led ∧ (s.onceEv subject src level loc event data).sram =
        s.sram :=
  led_sram_of_quiet (.onceEv ..)

@[simp] theorem State.react_led_sram (s : State) (src level loc event serial : Nat) (data : List Nat) :
    (s.react src level loc event serial data).led = s.led ∧ (s.react src level loc event serial data).sram = s.sram :=
  led_sram_of_quiet (.react ..)

@[simp] theorem State.raise_led_sram (s : State) (src level loc event kind serial : Nat) (data : List Nat) :
    (s.raise src level loc event kind serial data).led = s.led ∧
    (s.raise src level loc event kind serial data).sram = s.sram :=
  led_sram_of_quiet (.raise ..)

@[simp] theorem State.declare_led_sram (s : State) (d level loc event : Nat) (data : List Nat) :
    (s.declare d level loc event data).led = s.led ∧ (s.declare d level loc event data).sram = s.sram := by
  have h := logsOnly.declare s d level loc event data
  exact ⟨h.eq (·.led) fun _ _ _ _ _ _ => rfl, h.eq (·.sram) fun _ _ _ _ _ _ => rfl⟩

@[simp] theorem State.endFault_led_sram (s : State) (serial src level loc event : Nat) (data : List Nat) :
    (s.endFault serial src level loc event data).led = s.led ∧
    (s.endFault serial src level loc event data).sram = s.sram := by
  have h := logsOnly.endFault s serial src level loc event data
  exact ⟨h.eq (·.led) fun _ _ _ _ _ _ => rfl, h.eq (·.sram) fun _ _ _ _ _ _ => rfl⟩

/-- The state of an outcome, if it has one, has the ledger registers and the SRAM banks of `s`. -/
def ledSramOf (s : State) (o : Option State) : Prop := ∀ t, o = some t → t.led = s.led ∧ t.sram = s.sram

theorem ledSramOf_none (s : State) : ledSramOf s none :=
  fun _ h => (Option.some_ne_none _ h.symm).elim

theorem ledSramOf_some {s t : State} (h : t.led = s.led ∧ t.sram = s.sram) : ledSramOf s (some t) := by
  intro u hu
  rw [← Option.some.inj hu]
  exact h

theorem ledSramOf_ite {s t : State} {o : Option State} {c : Prop} [Decidable c] (h : t.led = s.led ∧ t.sram = s.sram)
    (ho : ledSramOf s o) : ledSramOf s (if c then some t else o) := by
  split
  · exact ledSramOf_some h
  · exact ho


@[simp] theorem State.holdFrame_led_sram (s : State) (f : CanFrame) :
    (s.holdFrame f).led = s.led ∧ (s.holdFrame f).sram = s.sram := by simp [State.holdFrame]

@[simp] theorem State.drain_led_sram (s : State) :
    (s.drain).led = s.led ∧ (s.drain).sram = s.sram := by simp [State.drain]

@[simp] theorem State.newTxWindow_led_sram (s : State) :
    (s.newTxWindow).led = s.led ∧ (s.newTxWindow).sram = s.sram := by
  unfold State.newTxWindow
  dsimp only
  split
  · simp
  · split <;> simp

@[simp] theorem State.windowFirst_led_sram (s : State) :
    (s.windowFirst).led = s.led ∧ (s.windowFirst).sram = s.sram := by simp [State.windowFirst]

@[simp] theorem State.startFrame_led_sram (s0 : State) (f : CanFrame) :
    (s0.startFrame f).led = s0.led ∧ (s0.startFrame f).sram = s0.sram := by simp [State.startFrame]

@[simp] theorem State.sendFrame_led_sram (s : State) (f : CanFrame) :
    (s.sendFrame f).led = s.led ∧ (s.sendFrame f).sram = s.sram := by simp [State.sendFrame]

@[simp] theorem State.syncSilent_led_sram (s : State) (n : Nat) :
    (s.syncSilent n).led = s.led ∧ (s.syncSilent n).sram = s.sram := by simp [State.syncSilent]

@[simp] theorem State.syncHold_led_sram (s : State) :
    (s.syncHold).led = s.led ∧ (s.syncHold).sram = s.sram := by simp [State.syncHold]

@[simp] theorem State.enterHold_led_sram (s : State) (n : Nat) :
    (s.enterHold n).led = s.led ∧ (s.enterHold n).sram = s.sram := by simp [State.enterHold]

@[simp] theorem State.leaveHold_led_sram (s : State) (n : Nat) :
    (s.leaveHold n).led = s.led ∧ (s.leaveHold n).sram = s.sram := by simp [State.leaveHold]

@[simp] theorem State.reHold_led_sram (s : State) (n : Nat) :
    (s.reHold n).led = s.led ∧ (s.reHold n).sram = s.sram := by simp [State.reHold]

@[simp] theorem State.holdWritten_led_sram (s old : State) (n : Nat) :
    (s.holdWritten old n).led = s.led ∧ (s.holdWritten old n).sram = s.sram := by simp [State.holdWritten]

@[simp] theorem State.tightHold_led_sram (s : State) (n : Nat) :
    (s.tightHold n).led = s.led ∧ (s.tightHold n).sram = s.sram := by simp [State.tightHold]

@[simp] theorem State.startBurst_led_sram (s : State) (n mv : Nat) :
    (s.startBurst n mv).led = s.led ∧ (s.startBurst n mv).sram = s.sram := by simp [State.startBurst]

@[simp] theorem State.askCheck_led_sram (s : State) (n : Nat) :
    (s.askCheck n).led = s.led ∧ (s.askCheck n).sram = s.sram := by simp [State.askCheck]

@[simp] theorem State.armRecheck_led_sram (s : State) (n from_ : Nat) :
    (s.armRecheck n from_).led = s.led ∧ (s.armRecheck n from_).sram = s.sram := by simp [State.armRecheck]

@[simp] theorem State.recheckWritten_led_sram (s : State) (n : Nat) :
    (s.recheckWritten n).led = s.led ∧ (s.recheckWritten n).sram = s.sram := by simp [State.recheckWritten]

@[simp] theorem State.declareIfDriven_led_sram (s : State) (n : Nat) :
    (s.declareIfDriven n).led = s.led ∧ (s.declareIfDriven n).sram = s.sram := by simp [State.declareIfDriven]

@[simp] theorem State.clearPred_led_sram (s : State) (n : Nat) :
    (s.clearPred n).led = s.led ∧ (s.clearPred n).sram = s.sram := by simp [State.clearPred]

@[simp] theorem State.newWindow_led_sram (s : State) :
    (s.newWindow).led = s.led ∧ (s.newWindow).sram = s.sram := by
  unfold State.newWindow
  extract_lets s1 s2
  have h1 : s1.led = s.led ∧ s1.sram = s.sram := foldl_led_sram (fun t n => by dsimp only; split <;> simp) _ _
  have h2 : s2.led = s1.led ∧ s2.sram = s1.sram := foldl_led_sram (fun t n => by simp) _ _
  exact ⟨h2.1.trans h1.1, h2.2.trans h1.2⟩

@[simp] theorem State.passWindows_led_sram (s t : State) :
    (s.passWindows t).led = t.led ∧ (s.passWindows t).sram = t.sram := by simp [State.passWindows]

@[simp] theorem State.askFull_led_sram (s : State) (d : Nat) :
    (s.askFull d).led = s.led ∧ (s.askFull d).sram = s.sram := by simp [State.askFull]

@[simp] theorem State.askQuick_led_sram (s : State) (d : Nat) :
    (s.askQuick d).led = s.led ∧ (s.askQuick d).sram = s.sram := by simp [State.askQuick]

@[simp] theorem State.startFull_led_sram (s : State) (d : Nat) :
    (s.startFull d).led = s.led ∧ (s.startFull d).sram = s.sram := by simp [State.startFull]

@[simp] theorem State.calIdle_led_sram (s : State) (d : Nat) :
    (s.calIdle d).led = s.led ∧ (s.calIdle d).sram = s.sram := by simp [State.calIdle]

@[simp] theorem State.endFull_led_sram (s : State) (d : Nat) (rs : List CalRes) :
    (s.endFull d rs).led = s.led ∧ (s.endFull d rs).sram = s.sram := by
  unfold State.endFull
  split <;> simp

@[simp] theorem State.endQuick_led_sram (s : State) (d : Nat) (measured : List (List Int)) :
    (s.endQuick d measured).led = s.led ∧ (s.endQuick d measured).sram = s.sram := by simp [State.endQuick]

@[simp] theorem State.freeBank_led_sram (s : State) (bank : Option Nat) :
    (s.freeBank bank).led = s.led ∧ (s.freeBank bank).sram = s.sram := by
  unfold State.freeBank
  split <;> simp

@[simp] theorem State.journalBank_led_sram (s : State) (o : Nat) :
    (s.journalBank o).led = s.led ∧ (s.journalBank o).sram = s.sram := by
  unfold State.journalBank
  split <;> simp

@[simp] theorem State.journalBound_led_sram (s : State) :
    (s.journalBound).led = s.led ∧ (s.journalBound).sram = s.sram := by
  unfold State.journalBound
  split
  · simp
  · split <;> simp

@[simp] theorem State.journalStep_led_sram (s : State) :
    (s.journalStep).led = s.led ∧ (s.journalStep).sram = s.sram := by simp [State.journalStep]

@[simp] theorem State.syncStore_led_sram (s : State) :
    (s.syncStore).led = s.led ∧ (s.syncStore).sram = s.sram := by simp [State.syncStore]

@[simp] theorem State.putStore_led_sram (s : State) (d : Nat) (r : StoreRt) :
    (s.putStore d r).led = s.led ∧ (s.putStore d r).sram = s.sram := by simp [State.putStore]

@[simp] theorem State.gatherLine_led_sram (s : State) (d line : Nat) (data : List Nat) :
    (s.gatherLine d line data).led = s.led ∧ (s.gatherLine d line data).sram = s.sram := by simp [State.gatherLine]

@[simp] theorem State.queueLines_led_sram (s : State) (d : Nat) (l : List (Nat × List Nat)) :
    (s.queueLines d l).led = s.led ∧ (s.queueLines d l).sram = s.sram := by
  unfold State.queueLines
  dsimp only
  (repeat' split) <;> simp

@[simp] theorem State.writeObject_led_sram (s : State) (d : Nat) (o : StoreObj) :
    (s.writeObject d o).led = s.led ∧ (s.writeObject d o).sram = s.sram := by simp [State.writeObject]

@[simp] theorem State.rewriteCopy_led_sram (s : State) (d : Nat) (o : StoreObj) (copy used : Nat) :
    (s.rewriteCopy d o copy used).led = s.led ∧ (s.rewriteCopy d o copy used).sram = s.sram := by
  simp [State.rewriteCopy]

@[simp] theorem State.loseObject_led_sram (s : State) (d : Nat) (o : StoreObj) :
    (s.loseObject d o).led = s.led ∧ (s.loseObject d o).sram = s.sram := by simp [State.loseObject]

@[simp] theorem State.resolveObject_led_sram (s : State) (d : Nat) (o : StoreObj) :
    (s.resolveObject d o).led = s.led ∧ (s.resolveObject d o).sram = s.sram := by simp [State.resolveObject]

@[simp] theorem State.newBase_led_sram (s : State) :
    (s.newBase).led = s.led ∧ (s.newBase).sram = s.sram := by
  unfold State.newBase
  extract_lets zero t r
  have h : t.led = s.led ∧ t.sram = s.sram := State.writeObject_led_sram ..
  generalize (List.range 16).map _ = l1
  generalize (List.range 16).map _ = l2
  simp [h]

@[simp] theorem State.appendLog_led_sram (s : State) (id key : Nat) (bytes : List Nat) :
    (s.appendLog id key bytes).led = s.led ∧ (s.appendLog id key bytes).sram = s.sram := by simp [State.appendLog]

@[simp] theorem State.lineLost_led_sram (s : State) (d line : Nat) :
    (s.lineLost d line).led = s.led ∧ (s.lineLost d line).sram = s.sram := by
  unfold State.lineLost
  split <;> simp

@[simp] theorem State.readLine_led_sram (s : State) (d line : Nat) (o : LineOutcome) (scrub : Bool) :
    (s.readLine d line o scrub).1.led = s.led ∧ (s.readLine d line o scrub).1.sram = s.sram := by
  unfold State.readLine
  split
  · split <;> simp
  · simp

@[simp] theorem State.wrongPassword_led_sram (s : State) (d p : Nat) :
    (s.wrongPassword d p).led = s.led ∧ (s.wrongPassword d p).sram = s.sram := by simp [State.wrongPassword]

@[simp] theorem State.unlockPart_led_sram (s : State) (who d : Nat) (bytes : List Nat) :
    (s.unlockPart who d bytes).1.led = s.led ∧ (s.unlockPart who d bytes).1.sram = s.sram := by
  unfold State.unlockPart
  dsimp only
  (repeat' split) <;> simp

@[simp] theorem State.relockPart_led_sram (s : State) (who d p : Nat) :
    (s.relockPart who d p).led = s.led ∧ (s.relockPart who d p).sram = s.sram := by simp [State.relockPart]

@[simp] theorem State.definePart_led_sram (s : State) (who d : Nat) (bytes : List Nat) :
    (s.definePart who d bytes).1.led = s.led ∧ (s.definePart who d bytes).1.sram = s.sram := by
  unfold State.definePart
  dsimp only
  (repeat' split) <;> simp

@[simp] theorem State.writeLineData_led_sram (s : State) (who : Nat) (bytes : List Nat) :
    (s.writeLineData who bytes).1.led = s.led ∧ (s.writeLineData who bytes).1.sram = s.sram := by
  unfold State.writeLineData
  dsimp only
  (repeat' split) <;> simp

@[simp] theorem State.noteWrite_led_sram (s : State) (k : Nat) :
    (s.noteWrite k).led = s.led ∧ (s.noteWrite k).sram = s.sram := by
  unfold State.noteWrite
  dsimp only
  refine foldl_led_sram (fun t b => ?_) _ _
  (repeat' split) <;> simp

@[simp] theorem State.withhold_led_sram (s : State) (n : Nat) :
    (s.withhold n).led = s.led ∧ (s.withhold n).sram = s.sram := by simp [State.withhold]

@[simp] theorem State.holdAtStart_led_sram (s : State) (n : Nat) :
    (s.holdAtStart n).led = s.led ∧ (s.holdAtStart n).sram = s.sram := by simp [State.holdAtStart]

@[simp] theorem State.fireBursts_led_sram (s : State) (n : Nat) (a : Attempt) :
    (s.fireBursts n a).led = s.led ∧ (s.fireBursts n a).sram = s.sram := by simp [State.fireBursts]

@[simp] theorem State.putSlot_led_sram (s : State) (n x : Nat) (b : List Nat) :
    (s.putSlot n x b).led = s.led ∧ (s.putSlot n x b).sram = s.sram := by simp [State.putSlot]

@[simp] theorem State.markRecs_led_sram (s : State) (i : Nat) (rs : List Nat) :
    (s.markRecs i rs).led = s.led ∧ (s.markRecs i rs).sram = s.sram := by simp [State.markRecs]

@[simp] theorem State.startWrite_led_sram (s : State) :
    (s.startWrite).led = s.led ∧ (s.startWrite).sram = s.sram := by
  unfold State.startWrite
  dsimp only
  split <;> simp

@[simp] theorem State.landWrite_led_sram (s : State) (w : RecWrite) :
    (s.landWrite w).led = s.led ∧ (s.landWrite w).sram = s.sram := by simp [State.landWrite]

@[simp] theorem State.ledgerStep_led_sram (s : State) :
    (s.ledgerStep).led = s.led ∧ (s.ledgerStep).sram = s.sram := by
  unfold State.ledgerStep
  split <;> simp

@[simp] theorem State.landRec_led_sram (s : State) (n : Nat) :
    (s.landRec n).led = s.led ∧ (s.landRec n).sram = s.sram := by simp [State.landRec]

@[simp] theorem State.landWhere_led_sram (s : State) (p : Nat → Bool) :
    (s.landWhere p).led = s.led ∧ (s.landWhere p).sram = s.sram := by
  unfold State.landWhere
  split <;> simp

@[simp] theorem State.landAll_led_sram (s : State) :
    (s.landAll).led = s.led ∧ (s.landAll).sram = s.sram := by simp [State.landAll]

@[simp] theorem State.tearWrite_led_sram (s : State) :
    (s.tearWrite).led = s.led ∧ (s.tearWrite).sram = s.sram := by
  unfold State.tearWrite
  split
  · simp
  · split <;> simp

@[simp] theorem State.dropLog_led_sram (s : State) :
    (s.dropLog).led = s.led ∧ (s.dropLog).sram = s.sram := by simp [State.dropLog]

@[simp] theorem State.addOpen_led_sram (s : State) (site k v : Nat) :
    (s.addOpen site k v).led = s.led ∧ (s.addOpen site k v).sram = s.sram := by simp [State.addOpen]

@[simp] theorem State.markTotal_led_sram (s : State) (key : Nat) :
    (s.markTotal key).led = s.led ∧ (s.markTotal key).sram = s.sram := by simp [State.markTotal]

@[simp] theorem State.addEnergy_led_sram (s : State) (dv : Nat) (h : Heat) (b : Booking) :
    (s.addEnergy dv h b).1.led = s.led ∧ (s.addEnergy dv h b).1.sram = s.sram := by
  unfold State.addEnergy
  split <;> simp

@[simp] theorem State.holdEnergy_led_sram (s : State) (i : Nat) (hold : Bool) :
    (s.holdEnergy i hold).led = s.led ∧ (s.holdEnergy i hold).sram = s.sram := by simp [State.holdEnergy]

@[simp] theorem State.noteClamp_led_sram (s : State) (i : Nat) (h : Heat) :
    (s.noteClamp i h).led = s.led ∧ (s.noteClamp i h).sram = s.sram := by simp [State.noteClamp]

@[simp] theorem State.setCal_led_sram (s : State) (n : Nat) (b : Bool) :
    (s.setCal n b).led = s.led ∧ (s.setCal n b).sram = s.sram := by simp [State.setCal]

@[simp] theorem State.syncKeys_led_sram (s : State) :
    (s.syncKeys).led = s.led ∧ (s.syncKeys).sram = s.sram := by simp [State.syncKeys]

@[simp] theorem State.evalTariff_led_sram (s : State) :
    (s.evalTariff).1.led = s.led ∧ (s.evalTariff).1.sram = s.sram := by simp [State.evalTariff]

@[simp] theorem State.stage_led_sram (s : State) (p : Plan) :
    (s.stage p).1.led = s.led ∧ (s.stage p).1.sram = s.sram := by
  unfold State.stage
  dsimp only
  (repeat' split) <;> simp

@[simp] theorem State.raiseBkey_led_sram (s : State) (k : Nat) :
    (s.raiseBkey k).led = s.led ∧ (s.raiseBkey k).sram = s.sram := by simp [State.raiseBkey]

@[simp] theorem State.dueCloses_led_sram (s : State) (k : Nat) :
    (s.dueCloses k).1.led = s.led ∧ (s.dueCloses k).1.sram = s.sram := by
  unfold State.dueCloses
  split <;> simp

@[simp] theorem State.dropManual_led_sram (s : State) :
    (s.dropManual).led = s.led ∧ (s.dropManual).sram = s.sram := by simp [State.dropManual]

@[simp] theorem State.minuteTick_led_sram (s : State) (n : Nat) :
    (s.minuteTick n).led = s.led ∧ (s.minuteTick n).sram = s.sram := by simp [State.minuteTick]

@[simp] theorem State.clockInvalid_led_sram (s : State) :
    (s.clockInvalid).led = s.led ∧ (s.clockInvalid).sram = s.sram := by simp [State.clockInvalid]

@[simp] theorem State.clockValid_led_sram (s : State) :
    (s.clockValid).led = s.led ∧ (s.clockValid).sram = s.sram := by simp [State.clockValid]

@[simp] theorem State.manualClose_led_sram (s : State) :
    (s.manualClose).led = s.led ∧ (s.manualClose).sram = s.sram := by simp [State.manualClose]

@[simp] theorem State.stageSnapshot_led_sram (s : State) (no : Nat) :
    (s.stageSnapshot no).led = s.led ∧ (s.stageSnapshot no).sram = s.sram := by simp [State.stageSnapshot]

@[simp] theorem State.endCatchUp_led_sram (s : State) (closes : Nat) :
    (s.endCatchUp closes).led = s.led ∧ (s.endCatchUp closes).sram = s.sram := by simp [State.endCatchUp]

@[simp] theorem State.startCalendar_led_sram (s : State) :
    (s.startCalendar).led = s.led ∧ (s.startCalendar).sram = s.sram := by simp [State.startCalendar]

@[simp] theorem State.finishHost_led_sram (s : State) (abort : Nat) (data : List Nat) :
    (s.finishHost abort data).led = s.led ∧ (s.finishHost abort data).sram = s.sram := by simp [State.finishHost]

@[simp] theorem State.finishCan_led_sram (s : State) (usdo : Bool) (abort : Nat) (data : List Nat) :
    (s.finishCan usdo abort data).led = s.led ∧ (s.finishCan usdo abort data).sram = s.sram := by
  simp [State.finishCan]

@[simp] theorem State.uploadCan_led_sram (s : State) (usdo : Bool) (abort : Nat) (data : List Nat) :
    (s.uploadCan usdo abort data).led = s.led ∧ (s.uploadCan usdo abort data).sram = s.sram := by
  simp [State.uploadCan]

@[simp] theorem State.answer_led_sram (s : State) (who : Orig) (abort : Nat) (data : List Nat) :
    (s.answer who abort data).led = s.led ∧ (s.answer who abort data).sram = s.sram := by
  unfold State.answer
  dsimp only
  (repeat' split) <;> simp

@[simp] theorem State.wake_led_sram (s : State) (d : Nat) :
    (s.wake d).led = s.led ∧ (s.wake d).sram = s.sram := by
  unfold State.wake
  split <;> simp

@[simp] theorem State.driveGpio_led_sram (s : State) (d : Nat) :
    (s.driveGpio d).led = s.led ∧ (s.driveGpio d).sram = s.sram := by simp [State.driveGpio]

@[simp] theorem State.toPower_led_sram (s : State) (d new cause : Nat) :
    (s.toPower d new cause).led = s.led ∧ (s.toPower d new cause).sram = s.sram := by simp [State.toPower]

@[simp] theorem State.postEmber_led_sram (s : State) (r : EmberReq) :
    (s.postEmber r).led = s.led ∧ (s.postEmber r).sram = s.sram := by simp [State.postEmber]

@[simp] theorem State.declareTamper_led_sram (s : State) (i : Nat) :
    (s.declareTamper i).led = s.led ∧ (s.declareTamper i).sram = s.sram := by simp [State.declareTamper]

@[simp] theorem State.updateRatios_led_sram (s : State) (i : Nat) (rows : List Row4) :
    (s.updateRatios i rows).led = s.led ∧ (s.updateRatios i rows).sram = s.sram := by simp [State.updateRatios]

@[simp] theorem State.peak_led_sram (s : State) (i k q rtc : Nat) :
    (s.peak i k q rtc).led = s.led ∧ (s.peak i k q rtc).sram = s.sram := by simp [State.peak]

@[simp] theorem State.peaks_led_sram (s : State) (i : Nat) (q : Int) (rtc : Nat) :
    (s.peaks i q rtc).led = s.led ∧ (s.peaks i q rtc).sram = s.sram := by simp [State.peaks]

@[simp] theorem State.accumulate_led_sram (s : State) (i : Nat) (q : Int) (dt : Nat) :
    (s.accumulate i q dt).1.led = s.led ∧ (s.accumulate i q dt).1.sram = s.sram := by
  unfold State.accumulate
  split <;> simp

@[simp] theorem State.showEnergy_led_sram (s : State) (i : Nat) (q : Int) (h : Heat) :
    (s.showEnergy i q h).led = s.led ∧ (s.showEnergy i q h).sram = s.sram := by simp [State.showEnergy]

@[simp] theorem State.writeFlow_led_sram (s : State) (i : Nat) (f : FrameWork) (w : Flow) (rows : List Row4)
    (q qRaw : Int) (flags : Nat) :
    (s.writeFlow i f w rows q qRaw flags).led = s.led ∧ (s.writeFlow i f w rows q qRaw flags).sram = s.sram := by
  simp [State.writeFlow]

@[simp] theorem State.flowEvents_led_sram (s : State) (i : Nat) (f : FrameWork) (w : Flow) (rows : List Row4) (gap :
    Bool)
    (dt : Nat) (ovf : Bool) :
    (s.flowEvents i f w rows gap dt ovf).led = s.led ∧ (s.flowEvents i f w rows gap dt ovf).sram = s.sram := by
  unfold State.flowEvents
  extract_lets r low s1 s2 s3 k s4 s5
  have h1 : s1.led = s.led ∧ s1.sram = s.sram := by simp [s1]
  have h2 : s2.led = s1.led ∧ s2.sram = s1.sram := by simp [s2]
  have h3 : s3.led = s2.led ∧ s3.sram = s2.sram := by simp [s3]
  have h4 : s4.led = s3.led ∧ s4.sram = s3.sram := by simp [s4]
  have h5 : s5.led = s4.led ∧ s5.sram = s4.sram := by simp [s5]
  clear_value s1 s2 s3 s4 s5
  simp [h1, h2, h3, h4, h5]

@[simp] theorem State.noteFirstFlow_led_sram (s : State) (fail : Bool) :
    (s.noteFirstFlow fail).led = s.led ∧ (s.noteFirstFlow fail).sram = s.sram := by simp [State.noteFirstFlow]

@[simp] theorem State.syncArmed_led_sram (s : State) :
    (s.syncArmed).led = s.led ∧ (s.syncArmed).sram = s.sram := by simp [State.syncArmed]

@[simp] theorem State.lanternSleep_led_sram (s : State) :
    (s.lanternSleep).led = s.led ∧ (s.lanternSleep).sram = s.sram := by simp [State.lanternSleep]

@[simp] theorem State.takePair_led_sram (s : State) :
    (s.takePair).led = s.led ∧ (s.takePair).sram = s.sram := by simp [State.takePair]

@[simp] theorem State.wakeLantern_led_sram (s : State) (vbat n : Nat) :
    (s.wakeLantern vbat n).led = s.led ∧ (s.wakeLantern vbat n).sram = s.sram := by simp [State.wakeLantern]

@[simp] theorem State.enterError_led_sram (s : State) (event code : Nat) :
    (s.enterError event code).led = s.led ∧ (s.enterError event code).sram = s.sram := by simp [State.enterError]

@[simp] theorem State.queueEmcy_led_sram (s : State) (code event serial : Nat) :
    (s.queueEmcy code event serial).led = s.led ∧ (s.queueEmcy code event serial).sram = s.sram := by
  simp [State.queueEmcy]

@[simp] theorem State.writeLogLine_led_sram (s : State) (no : Nat) :
    (s.writeLogLine no).led = s.led ∧ (s.writeLogLine no).sram = s.sram := by simp [State.writeLogLine]

@[simp] theorem State.announce_led_sram (s : State) (e : LogEnt) :
    (s.announce e).led = s.led ∧ (s.announce e).sram = s.sram := by
  unfold State.announce
  dsimp only
  (repeat' split) <;> simp

@[simp] theorem State.freezeAt_led_sram (s : State) (no : Nat) :
    (s.freezeAt no).led = s.led ∧ (s.freezeAt no).sram = s.sram := by simp [State.freezeAt]

@[simp] theorem State.accept_led_sram (s : State) (e0 : LogEnt) :
    (s.accept e0).led = s.led ∧ (s.accept e0).sram = s.sram := by simp [State.accept]

@[simp] theorem State.copyLog_led_sram (s : State) :
    (s.copyLog).led = s.led ∧ (s.copyLog).sram = s.sram := by
  unfold State.copyLog
  split <;> simp

@[simp] theorem State.logStep_led_sram (s : State) :
    (s.logStep).led = s.led ∧ (s.logStep).sram = s.sram := by simp [State.logStep]

@[simp] theorem State.landLog_led_sram (s : State) :
    (s.landLog).led = s.led ∧ (s.landLog).sram = s.sram := by simp [State.landLog]

@[simp] theorem State.refreeze_led_sram (s : State) :
    (s.refreeze).led = s.led ∧ (s.refreeze).sram = s.sram := by
  unfold State.refreeze
  split <;> simp

@[simp] theorem State.releaseLog_led_sram (s : State) (who : Orig) (v : Nat) :
    (s.releaseLog who v).1.led = s.led ∧ (s.releaseLog who v).1.sram = s.sram := by
  unfold State.releaseLog
  split
  · simp
  · split <;> simp

@[simp] theorem State.reply_led_sram (s : State) (abort : Nat) (data : List Nat) :
    (s.reply abort data).led = s.led ∧ (s.reply abort data).sram = s.sram := by simp [State.reply]

@[simp] theorem State.inputWritten_led_sram (s : State) (i : Nat) :
    (s.inputWritten i).led = s.led ∧ (s.inputWritten i).sram = s.sram := by simp [State.inputWritten]

@[simp] theorem State.clearInput_led_sram (s : State) (i v : Nat) :
    (s.clearInput i v).led = s.led ∧ (s.clearInput i v).sram = s.sram := by simp [State.clearInput]

@[simp] theorem State.syncChain_led_sram (s : State) (c : Nat) :
    (s.syncChain c).led = s.led ∧ (s.syncChain c).sram = s.sram := by simp [State.syncChain]

@[simp] theorem State.syncUsed_led_sram (s : State) (d : Nat) :
    (s.syncUsed d).led = s.led ∧ (s.syncUsed d).sram = s.sram := by simp [State.syncUsed]

@[simp] theorem State.clearClamp_led_sram (s : State) (d pin : Nat) :
    (s.clearClamp d pin).led = s.led ∧ (s.clearClamp d pin).sram = s.sram := by simp [State.clearClamp]

@[simp] theorem State.loopTrip_led_sram (s : State) :
    (s.loopTrip).led = s.led ∧ (s.loopTrip).sram = s.sram := by simp [State.loopTrip]

@[simp] theorem State.loopShow_led_sram (s : State) (mode out : Nat) (slewing : Bool) :
    (s.loopShow mode out slewing).led = s.led ∧ (s.loopShow mode out slewing).sram = s.sram := by
  simp [State.loopShow]

@[simp] theorem State.syncLoop_led_sram (s : State) :
    (s.syncLoop).led = s.led ∧ (s.syncLoop).sram = s.sram := by
  unfold State.syncLoop
  split <;> simp

@[simp] theorem State.writeLoop_led_sram (s : State) (v : Nat) :
    (s.writeLoop v).led = s.led ∧ (s.writeLoop v).sram = s.sram := by simp [State.writeLoop]

@[simp] theorem State.syncRsv_led_sram (s : State) :
    (s.syncRsv).led = s.led ∧ (s.syncRsv).sram = s.sram := by simp [State.syncRsv]

@[simp] theorem State.syncCaps_led_sram (s : State) (n : Nat) :
    (s.syncCaps n).led = s.led ∧ (s.syncCaps n).sram = s.sram := by simp [State.syncCaps]

@[simp] theorem State.setSec_led_sram (s : State) (n : Nat) (b : Bool) :
    (s.setSec n b).led = s.led ∧ (s.setSec n b).sram = s.sram := by simp [State.setSec]

@[simp] theorem State.incSat_led_sram (s : State) (k : Nat) :
    (s.incSat k).led = s.led ∧ (s.incSat k).sram = s.sram := by simp [State.incSat]

@[simp] theorem State.uncapture_led_sram (s : State) :
    (s.uncapture).led = s.led ∧ (s.uncapture).sram = s.sram := by simp [State.uncapture]

@[simp] theorem State.sealedChange_led_sram (s : State) (key : Nat) (who : Orig) (fire : Bool) :
    (s.sealedChange key who fire).led = s.led ∧ (s.sealedChange key who fire).sram = s.sram := by
  simp [State.sealedChange]

@[simp] theorem State.noteSlot_led_sram (s : State) (slot : Nat) :
    (s.noteSlot slot).led = s.led ∧ (s.noteSlot slot).sram = s.sram := by simp [State.noteSlot]

@[simp] theorem State.imgData_led_sram (s : State) (bytes : List Nat) :
    (s.imgData bytes).led = s.led ∧ (s.imgData bytes).sram = s.sram := by simp [State.imgData]

@[simp] theorem State.imgCmd_led_sram (s : State) (v : Nat) :
    (s.imgCmd v).led = s.led ∧ (s.imgCmd v).sram = s.sram := by simp [State.imgCmd]

@[simp] theorem State.arbAdvance_led_sram (s : State) :
    (s.arbAdvance).led = s.led ∧ (s.arbAdvance).sram = s.sram := by simp [State.arbAdvance]

@[simp] theorem State.stopFuses_led_sram (s : State) :
    (s.stopFuses).led = s.led ∧ (s.stopFuses).sram = s.sram := by simp [State.stopFuses]

@[simp] theorem State.oemProgram_led_sram (s : State) (bytes : List Nat) :
    (s.oemProgram bytes).led = s.led ∧ (s.oemProgram bytes).sram = s.sram := by simp [State.oemProgram]

@[simp] theorem State.attSigned_led_sram (s : State) :
    (s.attSigned).led = s.led ∧ (s.attSigned).sram = s.sram := by simp [State.attSigned]

@[simp] theorem State.attRequest_led_sram (s : State) :
    (s.attRequest).led = s.led ∧ (s.attRequest).sram = s.sram := by simp [State.attRequest]

@[simp] theorem State.attNonce_led_sram (s : State) (bytes : List Nat) :
    (s.attNonce bytes).led = s.led ∧ (s.attNonce bytes).sram = s.sram := by simp [State.attNonce]

@[simp] theorem State.beginMarch_led_sram (s : State) (d mode : Nat) :
    (s.beginMarch d mode).led = s.led ∧ (s.beginMarch d mode).sram = s.sram := by simp [State.beginMarch]

@[simp] theorem State.marchCmd_led_sram (s : State) (d v : Nat) :
    (s.marchCmd d v).1.led = s.led ∧ (s.marchCmd d v).1.sram = s.sram := by
  unfold State.marchCmd
  dsimp only
  (repeat' split) <;> simp

@[simp] theorem State.setSup_led_sram (s : State) (n : Nat) (b : Bool) :
    (s.setSup n b).led = s.led ∧ (s.setSup n b).sram = s.sram := by simp [State.setSup]

@[simp] theorem State.showGov_led_sram (s : State) :
    (s.showGov).led = s.led ∧ (s.showGov).sram = s.sram := by simp [State.showGov]

@[simp] theorem State.dropAllowances_led_sram (s : State) :
    (s.dropAllowances).led = s.led ∧ (s.dropAllowances).sram = s.sram := by simp [State.dropAllowances]

@[simp] theorem State.checkHold_led_sram (s : State) :
    (s.checkHold).led = s.led ∧ (s.checkHold).sram = s.sram := by simp [State.checkHold]

@[simp] theorem State.cantCmd_led_sram (s : State) (v : Nat) :
    (s.cantCmd v).1.led = s.led ∧ (s.cantCmd v).1.sram = s.sram := by
  unfold State.cantCmd
  dsimp only
  (repeat' split) <;> simp

@[simp] theorem State.stopPaths_led_sram (s : State) (d : Nat) :
    (s.stopPaths d).led = s.led ∧ (s.stopPaths d).sram = s.sram := by
  unfold State.stopPaths
  extract_lets s1
  have h1 : s1.led = s.led ∧ s1.sram = s.sram := foldl_led_sram (fun t k => by simp) _ _
  have h2 := foldl_led_sram (f := fun (t : State) j =>
    t.setPort (8 * d + j) { t.port (8 * d + j) with bursting := false, burst := none }) (fun t j => by simp)
        (List.range 8) s1
  exact ⟨h2.1.trans h1.1, h2.2.trans h1.2⟩

@[simp] theorem State.stopSense_led_sram (s : State) (d : Nat) :
    (s.stopSense d).led = s.led ∧ (s.stopSense d).sram = s.sram := by simp [State.stopSense]

@[simp] theorem State.stopCal_led_sram (s : State) (d : Nat) :
    (s.stopCal d).led = s.led ∧ (s.stopCal d).sram = s.sram := by simp [State.stopCal]

@[simp] theorem State.stopMarch_led_sram (s : State) (d : Nat) :
    (s.stopMarch d).led = s.led ∧ (s.stopMarch d).sram = s.sram := by simp [State.stopMarch]

@[simp] theorem State.stopPulses_led_sram (s : State) (d : Nat) :
    (s.stopPulses d).led = s.led ∧ (s.stopPulses d).sram = s.sram := by
  unfold State.stopPulses
  exact ⟨rfl, rfl⟩

@[simp] theorem State.stopDie_led_sram (s : State) (d target : Nat) :
    (s.stopDie d target).led = s.led ∧ (s.stopDie d target).sram = s.sram := by simp [State.stopDie]

@[simp] theorem State.enterState_led_sram (s : State) (d target cause : Nat) :
    (s.enterState d target cause).led = s.led ∧ (s.enterState d target cause).sram = s.sram := by
  simp [State.enterState]

@[simp] theorem State.followersTo_led_sram (s : State) (target cause : Nat) :
    (s.followersTo target cause).led = s.led ∧ (s.followersTo target cause).sram = s.sram := by
  simp [State.followersTo]

@[simp] theorem State.clearReq_led_sram (s : State) (d old : Nat) :
    (s.clearReq d old).led = s.led ∧ (s.clearReq d old).sram = s.sram := by simp [State.clearReq]

@[simp] theorem State.sealJournal_led_sram (s : State) (o : Nat) :
    (s.sealJournal o).led = s.led ∧ (s.sealJournal o).sram = s.sram := by
  unfold State.sealJournal
  split <;> simp

@[simp] theorem State.sealStep_led_sram (s : State) :
    (s.sealStep).led = s.led ∧ (s.sealStep).sram = s.sram := by
  unfold State.sealStep
  split <;> simp

@[simp] theorem State.afterCommit_led_sram (s : State) :
    (s.afterCommit).led = s.led ∧ (s.afterCommit).sram = s.sram := by simp [State.afterCommit]

@[simp] theorem State.setLink_led_sram (s : State) (d v : Nat) :
    (s.setLink d v).led = s.led ∧ (s.setLink d v).sram = s.sram := by simp [State.setLink]

@[simp] theorem State.unstage_led_sram (s : State) (w : FollowWait) :
    (s.unstage w).led = s.led ∧ (s.unstage w).sram = s.sram := by
  unfold State.unstage
  dsimp only
  split
  · simp
  · split <;> simp

@[simp] theorem State.failWait_led_sram (s : State) (w : FollowWait) :
    (s.failWait w).led = s.led ∧ (s.failWait w).sram = s.sram := by simp [State.failWait]

@[simp] theorem State.endWaits_led_sram (s : State) (d : Nat) :
    (s.endWaits d).led = s.led ∧ (s.endWaits d).sram = s.sram := by simp [State.endWaits]

@[simp] theorem State.loseDie_led_sram (s : State) (d cause : Nat) :
    (s.loseDie d cause).led = s.led ∧ (s.loseDie d cause).sram = s.sram := by simp [State.loseDie]

@[simp] theorem State.flush_led_sram (s : State) (d n : Nat) :
    (s.flush d n).led = s.led ∧ (s.flush d n).sram = s.sram := by simp [State.flush]

@[simp] theorem State.beginResync_led_sram (s : State) (d : Nat) (e : LineEnd) :
    (s.beginResync d e).led = s.led ∧ (s.beginResync d e).sram = s.sram := by simp [State.beginResync]

@[simp] theorem State.dropBand_led_sram (s : State) (n : Nat) :
    (s.dropBand n).led = s.led ∧ (s.dropBand n).sram = s.sram := by simp [State.dropBand]

@[simp] theorem State.dropTemplate_led_sram (s : State) (n : Nat) :
    (s.dropTemplate n).led = s.led ∧ (s.dropTemplate n).sram = s.sram := by simp [State.dropTemplate]

@[simp] theorem State.handBack_led_sram (s : State) (n : Nat) :
    (s.handBack n).led = s.led ∧ (s.handBack n).sram = s.sram := by simp [State.handBack]

@[simp] theorem State.startLearn_led_sram (s : State) (n k : Nat) :
    (s.startLearn n k).led = s.led ∧ (s.startLearn n k).sram = s.sram := by simp [State.startLearn]

@[simp] theorem State.resetRatios_led_sram (s : State) (i : Nat) :
    (s.resetRatios i).led = s.led ∧ (s.resetRatios i).sram = s.sram := by simp [State.resetRatios]

@[simp] theorem State.resetPathRatios_led_sram (s : State) (n : Nat) :
    (s.resetPathRatios n).led = s.led ∧ (s.resetPathRatios n).sram = s.sram := by simp [State.resetPathRatios]

@[simp] theorem State.portWritten_led_sram (t old : State) (n j : Nat) :
    (t.portWritten old n j).led = t.led ∧ (t.portWritten old n j).sram = t.sram := by simp [State.portWritten]

@[simp] theorem State.pathWritten_led_sram (t old : State) (n j v : Nat) :
    (t.pathWritten old n j v).led = t.led ∧ (t.pathWritten old n j v).sram = t.sram := by simp [State.pathWritten]

@[simp] theorem State.slotsWritten_led_sram (t : State) (d : Nat) :
    (t.slotsWritten d).led = t.led ∧ (t.slotsWritten d).sram = t.sram := by simp [State.slotsWritten]

@[simp] theorem State.vdrvWritten_led_sram (t old : State) (d : Nat) :
    (t.vdrvWritten old d).led = t.led ∧ (t.vdrvWritten old d).sram = t.sram := by simp [State.vdrvWritten]

@[simp] theorem State.dieWritten_led_sram (t old : State) (d j v : Nat) :
    (t.dieWritten old d j v).led = t.led ∧ (t.dieWritten old d j v).sram = t.sram := by simp [State.dieWritten]

@[simp] theorem State.devWritten_led_sram (t : State) (j v : Nat) :
    (t.devWritten j v).led = t.led ∧ (t.devWritten j v).sram = t.sram := by simp [State.devWritten]

@[simp] theorem State.maskWritten_led_sram (t old : State) (i : Nat) :
    (t.maskWritten old i).led = t.led ∧ (t.maskWritten old i).sram = t.sram := by simp [State.maskWritten]

@[simp] theorem State.syncPriv_led_sram (s : State) :
    (s.syncPriv).led = s.led ∧ (s.syncPriv).sram = s.sram := by simp [State.syncPriv]

@[simp] theorem State.sectWritten_led_sram (t old : State) (i j v : Nat) :
    (t.sectWritten old i j v).led = t.led ∧ (t.sectWritten old i j v).sram = t.sram := by simp [State.sectWritten]

@[simp] theorem State.chanWritten_led_sram (t : State) (c j : Nat) :
    (t.chanWritten c j).led = t.led ∧ (t.chanWritten c j).sram = t.sram := by simp [State.chanWritten]

@[simp] theorem State.calWritten_led_sram (t old : State) (j : Nat) :
    (t.calWritten old j).led = t.led ∧ (t.calWritten old j).sram = t.sram := by simp [State.calWritten]

@[simp] theorem State.powWritten_led_sram (t : State) (j v : Nat) :
    (t.powWritten j v).led = t.led ∧ (t.powWritten j v).sram = t.sram := by simp [State.powWritten]

@[simp] theorem State.sagWritten_led_sram (t : State) (j : Nat) :
    (t.sagWritten j).led = t.led ∧ (t.sagWritten j).sram = t.sram := by simp [State.sagWritten]

@[simp] theorem State.syncMapped_led_sram (s : State) :
    (s.syncMapped).led = s.led ∧ (s.syncMapped).sram = s.sram := by simp [State.syncMapped]

@[simp] theorem State.armSync_led_sram (s : State) :
    (s.armSync).led = s.led ∧ (s.armSync).sram = s.sram := by simp [State.armSync]

@[simp] theorem State.armBeat_led_sram (s : State) :
    (s.armBeat).led = s.led ∧ (s.armBeat).sram = s.sram := by simp [State.armBeat]

@[simp] theorem State.armEvent_led_sram (s : State) (t : Nat) :
    (s.armEvent t).led = s.led ∧ (s.armEvent t).sram = s.sram := by simp [State.armEvent]

@[simp] theorem State.commWritten_led_sram (t : State) (i j : Nat) :
    (t.commWritten i j).led = t.led ∧ (t.commWritten i j).sram = t.sram := by simp [State.commWritten]

@[simp] theorem State.storeComm_led_sram (s : State) :
    (s.storeComm).led = s.led ∧ (s.storeComm).sram = s.sram := by simp [State.storeComm]

@[simp] theorem State.restoreComm_led_sram (s : State) :
    (s.restoreComm).led = s.led ∧ (s.restoreComm).sram = s.sram := by simp [State.restoreComm]

theorem State.ownWritten_led_sram (s : State) (who : Orig) (key v : Nat) : ledSramOf s (s.ownWritten who key v) := by
  unfold State.ownWritten
  cases who
  all_goals exact ledSramOf_ite (by simp) (ledSramOf_ite (by simp) (ledSramOf_ite (by simp) (ledSramOf_ite (by simp)
    (ledSramOf_ite (by simp) (ledSramOf_none s)))))

theorem State.commandWritten_led_sram (s : State) (who : Orig) (key : Nat) (data : List Nat) :
    ledSramOf s (s.commandWritten who key data) := by
  unfold State.commandWritten
  exact ledSramOf_ite (by simp) (ledSramOf_ite (by simp) (ledSramOf_ite (by simp) (ledSramOf_ite (by simp)
    (ledSramOf_ite (by simp) (ledSramOf_ite (by simp) (ledSramOf_ite (by simp) (ledSramOf_ite (by simp)
    (ledSramOf_ite (by simp) (ledSramOf_ite (by simp) (ledSramOf_ite (by simp) (ledSramOf_ite (by simp)
    (ledSramOf_ite (by simp) (ledSramOf_none s)))))))))))))

@[simp] theorem State.w1cWritten_led_sram (s : State) (key v m : Nat) :
    (s.w1cWritten key v m).led = s.led ∧ (s.w1cWritten key v m).sram = s.sram := by simp [State.w1cWritten]

@[simp] theorem State.written_led_sram (t old : State) (key v : Nat) :
    (t.written old key v).led = t.led ∧ (t.written old key v).sram = t.sram := by simp [State.written]

@[simp] theorem State.gpioFired_led_sram (s : State) (key : Nat) :
    (s.gpioFired key).led = s.led ∧ (s.gpioFired key).sram = s.sram := by simp [State.gpioFired]

@[simp] theorem State.noteSealed_led_sram (t s : State) (who : Orig) (key v : Nat) (fire : Bool) :
    (t.noteSealed s who key v fire).led = t.led ∧ (t.noteSealed s who key v fire).sram = t.sram := by
  simp [State.noteSealed]

@[simp] theorem State.noteHost_led_sram (s : State) (who : Orig) (key : Nat) :
    (s.noteHost who key).led = s.led ∧ (s.noteHost who key).sram = s.sram := by simp [State.noteHost]

@[simp] theorem State.syncGreen_led_sram (s : State) :
    (s.syncGreen).led = s.led ∧ (s.syncGreen).sram = s.sram := by simp [State.syncGreen]

@[simp] theorem State.setFireStat_led_sram (s : State) (o state result stages : Nat) :
    (s.setFireStat o state result stages).led = s.led ∧ (s.setFireStat o state result stages).sram = s.sram := by
  simp [State.setFireStat]

@[simp] theorem State.dropFire_led_sram (s : State) (o state result : Nat) :
    (s.dropFire o state result).led = s.led ∧ (s.dropFire o state result).sram = s.sram := by simp [State.dropFire]

@[simp] theorem State.abortOpen_led_sram (s : State) (o result : Nat) :
    (s.abortOpen o result).led = s.led ∧ (s.abortOpen o result).sram = s.sram := by simp [State.abortOpen]

@[simp] theorem State.openFire_led_sram (s : State) (o : Nat) :
    (s.openFire o).led = s.led ∧ (s.openFire o).sram = s.sram := by simp [State.openFire]

@[simp] theorem State.commitFire_led_sram (s : State) (o : Nat) :
    (s.commitFire o).led = s.led ∧ (s.commitFire o).sram = s.sram := by simp [State.commitFire]

@[simp] theorem State.fireCtl_led_sram (s : State) (o v : Nat) :
    (s.fireCtl o v).1.led = s.led ∧ (s.fireCtl o v).1.sram = s.sram := by
  unfold State.fireCtl
  dsimp only
  (repeat' split) <;> simp

@[simp] theorem State.totalTrip_led_sram (s : State) (key : Nat) (stage : Bool) :
    (s.totalTrip key stage).led = s.led ∧ (s.totalTrip key stage).sram = s.sram := by simp [State.totalTrip]

@[simp] theorem State.rejectStage_led_sram (s : State) (o key a : Nat) :
    (s.rejectStage o key a).led = s.led ∧ (s.rejectStage o key a).sram = s.sram := by simp [State.rejectStage]

@[simp] theorem State.acceptStage_led_sram (s : State) (o key : Nat) (data : List Nat) :
    (s.acceptStage o key data).led = s.led ∧ (s.acceptStage o key data).sram = s.sram := by simp [State.acceptStage]

@[simp] theorem State.stageWrite_led_sram (s : State) (who : Orig) (key : Nat) (data : List Nat) :
    (s.stageWrite who key data).1.led = s.led ∧ (s.stageWrite who key data).1.sram = s.sram := by
  unfold State.stageWrite
  dsimp only
  split <;> simp

@[simp] theorem State.waitFor_led_sram (s : State) (ds : List Nat) (w : FollowWait) :
    (s.waitFor ds w).led = s.led ∧ (s.waitFor ds w).sram = s.sram := by
  unfold State.waitFor
  dsimp only
  refine foldl_led_sram (fun t b => ?_) _ _
  simp

@[simp] theorem State.emberPost_led_sram (s : State) (who : Orig) (key : Nat) (data : List Nat) :
    (s.emberPost who key data).1.led = s.led ∧ (s.emberPost who key data).1.sram = s.sram := by simp [State.emberPost]

@[simp] theorem State.stageAccess_led_sram (s : State) (who : Orig) (key : Nat) (data : List Nat) :
    (s.stageAccess who key data).1.led = s.led ∧ (s.stageAccess who key data).1.sram = s.sram := by
  unfold State.stageAccess
  dsimp only
  split <;> simp

@[simp] theorem State.setErr_led_sram (s : State) (v : Nat) :
    (s.setErr v).led = s.led ∧ (s.setErr v).sram = s.sram := by simp [State.setErr]

@[simp] theorem State.orphanWaits_led_sram (s : State) :
    (s.orphanWaits).led = s.led ∧ (s.orphanWaits).sram = s.sram := by
  unfold State.orphanWaits
  dsimp only
  refine foldl_led_sram (fun t b => ?_) _ _
  simp

@[simp] theorem State.dropTransfer_led_sram (s : State) :
    (s.dropTransfer).led = s.led ∧ (s.dropTransfer).sram = s.sram := by simp [State.dropTransfer]

@[simp] theorem State.syncOperational_led_sram (s : State) :
    (s.syncOperational).led = s.led ∧ (s.syncOperational).sram = s.sram := by simp [State.syncOperational]

@[simp] theorem State.setNmt_led_sram (s : State) (v : Nat) :
    (s.setNmt v).led = s.led ∧ (s.setNmt v).sram = s.sram := by simp [State.setNmt]

@[simp] theorem State.syncRates_led_sram (s : State) :
    (s.syncRates).led = s.led ∧ (s.syncRates).sram = s.sram := by simp [State.syncRates]

@[simp] theorem State.bootUp_led_sram (s : State) :
    (s.bootUp).led = s.led ∧ (s.bootUp).sram = s.sram := by simp [State.bootUp]

@[simp] theorem State.resetController_led_sram (s : State) :
    (s.resetController).led = s.led ∧ (s.resetController).sram = s.sram := by simp [State.resetController]

@[simp] theorem State.reloadComm_led_sram (s : State) :
    (s.reloadComm).led = s.led ∧ (s.reloadComm).sram = s.sram := by simp [State.reloadComm]

@[simp] theorem State.resetComm_led_sram (s : State) :
    (s.resetComm).led = s.led ∧ (s.resetComm).sram = s.sram := by simp [State.resetComm]

@[simp] theorem State.initial_led_sram (s : State) (keys : List Nat) :
    (s.initial keys).led = s.led ∧ (s.initial keys).sram = s.sram := by simp [State.initial]

@[simp] theorem State.initChip_led_sram (s : State) (n : Nat) :
    (s.initChip n).led = s.led ∧ (s.initChip n).sram = s.sram := by simp [State.initChip]

@[simp] theorem State.noteWords_led_sram (s : State) (words : List (Nat × Nat)) :
    (s.noteWords words).led = s.led ∧ (s.noteWords words).sram = s.sram := by simp [State.noteWords]

@[simp] theorem State.rewriteSlot_led_sram (s : State) (n x : Nat) (b : List Nat) :
    (s.rewriteSlot n x b).led = s.led ∧ (s.rewriteSlot n x b).sram = s.sram := by simp [State.rewriteSlot]

@[simp] theorem State.loadResidues_led_sram (s : State) (i : Nat) :
    (s.loadResidues i).led = s.led ∧ (s.loadResidues i).sram = s.sram := by simp [State.loadResidues]

@[simp] theorem State.recoverGather_led_sram (s : State) (d : Nat) :
    (s.recoverGather d).led = s.led ∧ (s.recoverGather d).sram = s.sram := by simp [State.recoverGather]

@[simp] theorem State.recoverObjects_led_sram (s : State) (d : Nat) :
    (s.recoverObjects d).led = s.led ∧ (s.recoverObjects d).sram = s.sram := by simp [State.recoverObjects]

@[simp] theorem State.finishJournal_led_sram (s : State) :
    (s.finishJournal).led = s.led ∧ (s.finishJournal).sram = s.sram := by
  unfold State.finishJournal
  extract_lets t
  have h : t.led = s.led ∧ t.sram = s.sram := by
    refine foldl_led_sram (fun t o => ?_) _ _
    split
    · exact ⟨rfl, rfl⟩
    · split <;> exact ⟨rfl, rfl⟩
  split
  · exact h
  · split
    · exact h
    · exact h

@[simp] theorem State.settleJournal_led_sram (s : State) :
    (s.settleJournal).led = s.led ∧ (s.settleJournal).sram = s.sram := by simp [State.settleJournal]

@[simp] theorem State.resumeStore_led_sram (s : State) :
    (s.resumeStore).led = s.led ∧ (s.resumeStore).sram = s.sram := by simp [State.resumeStore]

@[simp] theorem State.marchResult_led_sram (s : State) (d mode stat : Nat) (l : List MarchRead) :
    (s.marchResult d mode stat l).led = s.led ∧ (s.marchResult d mode stat l).sram = s.sram := by
  simp [State.marchResult]

@[simp] theorem State.startCal_led_sram (s : State) (d : Nat) (x : DieStart) (base : Nat) :
    (s.startCal d x base).led = s.led ∧ (s.startCal d x base).sram = s.sram := by simp [State.startCal]

@[simp] theorem State.startTrim_led_sram (s : State) (d : Nat) (x : DieStart) :
    (s.startTrim d x).led = s.led ∧ (s.startTrim d x).sram = s.sram := by simp [State.startTrim]

@[simp] theorem State.startScrub_led_sram (s : State) (d : Nat) (x : DieStart) :
    (s.startScrub d x).led = s.led ∧ (s.startScrub d x).sram = s.sram := by simp [State.startScrub]

@[simp] theorem State.dieStarted_led_sram (s : State) (d was : Nat) :
    (s.dieStarted d was).led = s.led ∧ (s.dieStarted d was).sram = s.sram := by simp [State.dieStarted]

@[simp] theorem State.failStart_led_sram (s : State) (d c : Nat) :
    (s.failStart d c).led = s.led ∧ (s.failStart d c).sram = s.sram := by simp [State.failStart]

@[simp] theorem State.trainLine_led_sram (s : State) (d : Nat) :
    (s.trainLine d).led = s.led ∧ (s.trainLine d).sram = s.sram := by simp [State.trainLine]

@[simp] theorem State.rejectImage_led_sram (s : State) (d : Nat) (x : DieStart) :
    (s.rejectImage d x).led = s.led ∧ (s.rejectImage d x).sram = s.sram := by simp [State.rejectImage]

@[simp] theorem State.joinChains_led_sram (s : State) :
    (s.joinChains).led = s.led ∧ (s.joinChains).sram = s.sram := by simp [State.joinChains]

@[simp] theorem State.syncAll_led_sram (s : State) :
    (s.syncAll).led = s.led ∧ (s.syncAll).sram = s.sram := by simp [State.syncAll]

@[simp] theorem State.finishHeld_led_sram (s : State) :
    (s.finishHeld).led = s.led ∧ (s.finishHeld).sram = s.sram := by simp [State.finishHeld]

@[simp] theorem State.readStraps_led_sram (s : State) (supmode node : Nat) :
    (s.readStraps supmode node).led = s.led ∧ (s.readStraps supmode node).sram = s.sram := by simp [State.readStraps]

@[simp] theorem State.bootFrom_led_sram (s : State) (slot : Nat) :
    (s.bootFrom slot).led = s.led ∧ (s.bootFrom slot).sram = s.sram := by simp [State.bootFrom]

@[simp] theorem State.haltAt_led_sram (s : State) (cause : Nat) :
    (s.haltAt cause).led = s.led ∧ (s.haltAt cause).sram = s.sram := by simp [State.haltAt]

@[simp] theorem State.startRate_led_sram (s : State) (i : Nat) :
    (s.startRate i).led = s.led ∧ (s.startRate i).sram = s.sram := by simp [State.startRate]

@[simp] theorem State.readEmber_led_sram (s : State) :
    (s.readEmber).led = s.led ∧ (s.readEmber).sram = s.sram := by simp [State.readEmber]

@[simp] theorem State.completeStart_led_sram (s : State) (kind cause cycles : Nat) :
    (s.completeStart kind cause cycles).led = s.led ∧ (s.completeStart kind cause cycles).sram = s.sram := by
  unfold State.completeStart
  extract_lets _ _ _ s0 s1 s2 s3 s4 s5
  have h1 : s1.led = s.led ∧ s1.sram = s.sram := State.ps_led_sram ..
  have h2 : s2.led = s1.led ∧ s2.sram = s1.sram := by simp [s2]
  have h3 : s3.led = s2.led ∧ s3.sram = s2.sram := State.evChip_led_sram ..
  have h4 : s4.led = s3.led ∧ s4.sram = s3.sram := by simp [s4]
  have h5 : s5.led = s4.led ∧ s5.sram = s4.sram := foldl_led_sram (fun t n => by simp) _ _
  clear_value s1 s2 s3 s4 s5
  simp [h1, h2, h3, h4, h5]

@[simp] theorem State.coldFrames_led_sram (s : State) (f0 : Nat) :
    (s.coldFrames f0).led = s.led ∧ (s.coldFrames f0).sram = s.sram := by simp [State.coldFrames]

@[simp] theorem State.coldRequests_led_sram (s : State) :
    (s.coldRequests).led = s.led ∧ (s.coldRequests).sram = s.sram := by simp [State.coldRequests]

@[simp] theorem State.keepChecks_led_sram (s : State) (d : Nat) :
    (s.keepChecks d).led = s.led ∧ (s.keepChecks d).sram = s.sram := by simp [State.keepChecks]

@[simp] theorem State.dropWork_led_sram (s : State) (d : Nat) :
    (s.dropWork d).led = s.led ∧ (s.dropWork d).sram = s.sram := by simp [State.dropWork]

@[simp] theorem State.warmLine_led_sram (s : State) (d : Nat) (again : Bool) :
    (s.warmLine d again).led = s.led ∧ (s.warmLine d again).sram = s.sram := by simp [State.warmLine]

@[simp] theorem State.warmCal_led_sram (s : State) (d : Nat) (x : DieStart) (base : Nat) :
    (s.warmCal d x base).led = s.led ∧ (s.warmCal d x base).sram = s.sram := by simp [State.warmCal]

@[simp] theorem State.logCheck_led_sram (s : State) (d : Nat) (x : DieStart) :
    (s.logCheck d x).led = s.led ∧ (s.logCheck d x).sram = s.sram := by simp [State.logCheck]

@[simp] theorem State.warmTrim_led_sram (s : State) (d : Nat) (x : DieStart) :
    (s.warmTrim d x).led = s.led ∧ (s.warmTrim d x).sram = s.sram := by simp [State.warmTrim]

@[simp] theorem State.warmDie_led_sram (s : State) (d : Nat) (x : DieStart) (base : Nat) :
    (s.warmDie d x base).led = s.led ∧ (s.warmDie d x base).sram = s.sram := by simp [State.warmDie]

@[simp] theorem State.warmFrames_led_sram (s : State) :
    (s.warmFrames).led = s.led ∧ (s.warmFrames).sram = s.sram := by simp [State.warmFrames]

@[simp] theorem State.dropStanding_led_sram (s : State) (d : Nat) :
    (s.dropStanding d).led = s.led ∧ (s.dropStanding d).sram = s.sram := by simp [State.dropStanding]

@[simp] theorem State.noteStart_led_sram (s : State) (kind cause : Nat) :
    (s.noteStart kind cause).led = s.led ∧ (s.noteStart kind cause).sram = s.sram := by simp [State.noteStart]

@[simp] theorem State.warmFollower_led_sram (s : State) (d : Nat) (x : DieStart) :
    (s.warmFollower d x).led = s.led ∧ (s.warmFollower d x).sram = s.sram := by simp [State.warmFollower]

@[simp] theorem State.dropAccesses_led_sram (s : State) :
    (s.dropAccesses).led = s.led ∧ (s.dropAccesses).sram = s.sram := by simp [State.dropAccesses]

@[simp] theorem State.warmNet_led_sram (s : State) (cause : Nat) :
    (s.warmNet cause).led = s.led ∧ (s.warmNet cause).sram = s.sram := by simp [State.warmNet]

@[simp] theorem State.warmFollowers_led_sram (s : State) (info : StartInfo) :
    (s.warmFollowers info).led = s.led ∧ (s.warmFollowers info).sram = s.sram := by simp [State.warmFollowers]

@[simp] theorem State.closeKey_led_sram (s : State) :
    (s.closeKey).led = s.led ∧ (s.closeKey).sram = s.sram := by simp [State.closeKey]

@[simp] theorem State.breakKey_led_sram (s : State) :
    (s.breakKey).led = s.led ∧ (s.breakKey).sram = s.sram := by simp [State.breakKey]

@[simp] theorem State.askReset_led_sram (s : State) :
    (s.askReset).led = s.led ∧ (s.askReset).sram = s.sram := by simp [State.askReset]

@[simp] theorem State.selected_led_sram (s : State) :
    (s.selected).led = s.led ∧ (s.selected).sram = s.sram := by simp [State.selected]

end Sys2Proof.Machine
end

section
/-! What keeps the totals within 64 bits and the SRAM banks in canonical form: bookings, closes, firings and starts. -/

namespace Sys2Proof.Machine

open Sys2Proof

-- what keeps the totals within 64 bits and the SRAM banks in canonical form

/-- Where `s` has its totals within 64 bits and its SRAM banks in canonical form, `t` has them so. -/
structure State.keepsOk (s t : State) : Prop where
  led : ledOk s → ledOk t
  sram : sramOk s → sramOk t

namespace State.keepsOk

theorem refl (s : State) : keepsOk s s := ⟨id, id⟩

theorem trans {s t u : State} (a : keepsOk s t) (b : keepsOk t u) : keepsOk s u := ⟨b.led ∘ a.led, b.sram ∘ a.sram⟩

theorem of {s t : State} (h : t.led = s.led ∧ t.sram = s.sram) : keepsOk s t := by
  refine ⟨fun hs => ?_, fun hs => ?_⟩
  · unfold ledOk at *; rw [h.1]; exact hs
  · unfold sramOk at *; rw [h.2]; exact hs

/-- A state that differs from `t` in neither. -/
theorem andThen {s t u : State} (a : keepsOk s t) (h : u.led = t.led ∧ u.sram = t.sram) : keepsOk s u := a.trans (of h)

theorem whenSo {c : Prop} [Decidable c] {s t : State} (h : keepsOk s t) : keepsOk s (if c then t else s) := by
  split
  · exact h
  · exact refl s

theorem foldl {β : Type} {f : State → β → State} (hf : ∀ s b, keepsOk s (f s b)) (l : List β) (s : State) :
    keepsOk s (l.foldl f s) := by
  induction l generalizing s with
  | nil => exact refl s
  | cons b l ih => exact (hf s b).trans (ih _)

/-- A ledger register holds at most 2^64 − 1 (R325). -/
theorem pLed (s : State) (k v : Nat) : keepsOk s (s.pLed k v) := by
  refine ⟨fun hs e he => ?_, fun hs => by unfold sramOk; rw [State.pLed_sram]; exact hs⟩
  unfold State.pLed at he
  split at he
  · rcases Tab.mem_store he with rfl | h
    · show satAt (two64 - 1) v < two64
      unfold satAt two64
      split <;> omega
    · exact hs e h
  · exact hs e he

theorem setBank (s : State) (d : Nat) {r : SramRt} (hr : sramOk s → r.wf = true) : keepsOk s (s.setBank d r) :=
  ⟨id, fun hs => hs.setBank d (hr hs)⟩

theorem p (s : State) (k v : Nat) : keepsOk s (s.p k v) := of (by simp)

theorem ps (s : State) (l : List (Nat × Nat)) : keepsOk s (s.ps l) := of (by simp)

theorem markRecs (s : State) (i : Nat) (l : List Nat) : keepsOk s (s.markRecs i l) := of (by simp)

theorem pLeds {β : Type} (k v : β → Nat) (l : List β) (s : State) :
    keepsOk s (l.foldl (fun t b => t.pLed (k b) (v b)) s) := foldl (fun t b => pLed t (k b) (v b)) l s

theorem putReg (s : State) (k v : Nat) : keepsOk s (s.putReg k v) := by
  unfold State.putReg
  split
  · exact pLed s k v
  · exact of (by simp)

theorem loadKeys (p : List Nat) (l : List (Nat × Nat)) (o : Nat) (s : State) : keepsOk s (s.loadKeys p l o) := by
  induction l generalizing s o with
  | nil => exact refl s
  | cons e l ih => exact (putReg s _ _).trans (ih _ _)

-- the ledger (R442 to R454)

theorem loadRecord (s : State) (i r : Nat) (p : List Nat) : keepsOk s (s.loadRecord i r p) := by
  unfold State.loadRecord
  extract_lets l s1
  have h1 : keepsOk s s1 := by
    unfold s1
    split
    · exact refl s
    · exact of ⟨rfl, rfl⟩
  clear_value s1
  split
  · exact of ⟨rfl, rfl⟩
  split
  · exact h1.andThen (by simp)
  · exact h1.trans (loadKeys ..)

theorem abandonLedger (s : State) : keepsOk s s.abandonLedger := by
  unfold State.abandonLedger
  extract_lets back s1 s2
  have h1 : keepsOk s s1 := of (by simp [s1])
  have h2 : keepsOk s1 s2 := foldl (fun t n => loadRecord t ..) _ _
  exact (h1.trans h2).andThen ⟨rfl, rfl⟩

theorem addTotal (s : State) (sect q tariff inc : Nat) : keepsOk s (s.addTotal sect q tariff inc) := by
  unfold State.addTotal
  extract_lets k v t
  have ht : keepsOk s t := pLed s k v
  clear_value t
  split
  · exact ht.andThen (by simp)
  · exact ht

theorem enterBooking (s : State) (b : Booking) (r : Nat) : keepsOk s (s.enterBooking b r) := by
  unfold State.enterBooking
  extract_lets i _ s1 q t _ t9 t10 u10
  have h1 : keepsOk s s1 := of ⟨rfl, rfl⟩
  clear_value s1
  split
  · have ht : keepsOk s1 t := whenSo (addTotal ..)
    exact (h1.trans ht).trans (whenSo (addTotal ..))
  split
  · exact h1.andThen (by simp [t9])
  split
  · exact h1.andThen (by simp [u10, t10])
  split
  · refine h1.trans (foldl (fun t e => ?_) _ _)
    split
    · exact refl t
    · exact pLed t _ _
  · exact h1

theorem bookNow (s : State) (b : Booking) : keepsOk s (s.bookNow b) := by
  unfold State.bookNow
  extract_lets i b' _ s1
  have h1 : keepsOk s s1 := of ⟨rfl, rfl⟩
  exact (h1.trans (foldl (fun t r => enterBooking t b' r) _ _)).trans (markRecs _ _ _)

theorem bookAll (s : State) : keepsOk s s.bookAll := by
  have h0 : keepsOk s { s with bill := { s.bill with waiting := [] } } := of ⟨rfl, rfl⟩
  exact h0.trans (foldl (fun t b => trans (of (by simp)) (bookNow _ b)) _ _)

theorem failLedger (s : State) : keepsOk s s.failLedger.1 := by
  unfold State.failLedger
  dsimp only
  split
  · exact (bookAll s).andThen (by simp)
  · exact ((bookAll s).andThen (by simp)).trans (abandonLedger _)

theorem book (s : State) (b : Booking) : keepsOk s (s.book b) := by
  unfold State.book
  split
  · exact bookNow s b
  · exact of ⟨rfl, rfl⟩

theorem bookIf (s : State) (b : Booking) : keepsOk s (s.bookIf b) := whenSo (book s b)

theorem flushBookings (s : State) : keepsOk s s.flushBookings := by
  have h0 : keepsOk s { s with bill := { s.bill with waiting := [] } } := of ⟨rfl, rfl⟩
  unfold State.flushBookings
  split
  · exact refl s
  · exact h0.trans (foldl (fun t b => book t b) _ _)

-- closes (R342 to R362)

theorem maxDemand (s : State) (i amount n sec : Nat) : keepsOk s (s.maxDemand i amount n sec) := by
  unfold State.maxDemand
  split
  · exact ((pLed s _ _).trans (pLed _ _ _)).trans (markRecs _ _ _)
  · exact refl s

theorem closeSection (s : State) (sec i : Nat) : keepsOk s (s.closeSection sec i) := by
  unfold State.closeSection
  extract_lets t s1
  have h1 : keepsOk s s1 :=
    (((maxDemand s _ _ _ _).trans (maxDemand _ _ _ _ _)).trans (maxDemand _ _ _ _ _)).trans (markRecs _ _ _)
  exact (((h1.trans (pLed _ _ _)).trans (pLed _ _ _)).trans (pLed _ _ _)).trans (ps _ _)

theorem resetPeriod (s : State) (i : Nat) : keepsOk s (s.resetPeriod i) := by
  unfold State.resetPeriod
  extract_lets s1
  have h1 : keepsOk s s1 := (markRecs s i _).trans (pLeds ..)
  exact h1.trans (ps _ _)

theorem billingClose (s old : State) (b : Boundary) : keepsOk s (s.billingClose old b) := by
  unfold State.billingClose
  extract_lets bytes flags snaps kept _ s1 s2 s3 s4 s5
  have h1 : keepsOk s s1 := of ⟨rfl, rfl⟩
  have h2 : keepsOk s1 s2 := foldl (fun t i => resetPeriod t i) _ _
  have h3 : keepsOk s2 s3 := of (by simp [s3])
  have h4 : keepsOk s3 s4 := of (by simp [s4])
  have h5 : keepsOk s4 s5 := of (by simp [s5])
  exact ((((h1.trans h2).trans h3).trans h4).trans h5).andThen (by simp)

theorem openInterval (s : State) (b : Boundary) : keepsOk s (s.openInterval b) := by
  unfold State.openInterval
  extract_lets s1 r
  have h1 : keepsOk s s1 := foldl (fun t i => (pLed t _ _).trans (markRecs _ i _)) _ _
  refine h1.andThen ?_
  clear_value s1
  simp

theorem boundaryActions (s : State) (b : Boundary) : keepsOk s (s.boundaryActions b) := by
  unfold State.boundaryActions
  extract_lets s1 s2 _ s3 s4 _ s5
  have h1 : keepsOk s s1 := whenSo (foldl (fun t i => closeSection t b.closeSec i) _ _)
  have h2 : keepsOk s1 s2 := whenSo (billingClose s1 s1 b)
  have h3 : keepsOk s2 s3 := by
    unfold s3
    split
    · exact refl s2
    · exact of (by simp)
  have h4 : keepsOk s3 s4 := whenSo (openInterval s3 b)
  have h5 : keepsOk s4 s5 := of ⟨rfl, rfl⟩
  have h := (((h1.trans h2).trans h3).trans h4).trans h5
  clear_value s5
  split
  · exact h.andThen (by simp)
  · exact h

theorem applyBoundary (s : State) (b : Boundary) (result : Nat) : keepsOk s (s.applyBoundary b result) := by
  unfold State.applyBoundary
  extract_lets _ s1 s2
  have h1 : keepsOk s s1 := of ⟨rfl, rfl⟩
  have h2 : keepsOk s1 s2 := boundaryActions s1 b
  exact (h1.trans h2).andThen (by simp)

-- sections and pulse inputs

theorem billFlow (s : State) (i : Nat) (q : Int) (dt : Nat) (overflow : Bool) : keepsOk s (s.billFlow i q dt overflow)
    := by
  unfold State.billFlow
  extract_lets h en a hold _ b e s3
  have ha : keepsOk s a.1 := of (State.accumulate_led_sram ..)
  have he : keepsOk a.1 e.1 := of (by unfold e; split <;> simp)
  clear_value e
  have h3 : keepsOk e.1 s3 := (bookIf e.1 e.2).andThen (State.showEnergy_led_sram ..)
  have hs := (ha.trans he).trans h3
  clear_value s3
  split
  · exact hs.andThen (by simp)
  · exact hs

theorem compute (s : State) (i : Nat) (f : FrameWork) : keepsOk s (s.compute i f) := by
  unfold State.compute
  extract_lets rows w r freeQ qRaw cut q d o flags s1 s2 _ s3 s4 s5 s6 idle s7
  have h1 : keepsOk s s1 := of (by simp [s1])
  have h2 : keepsOk s1 s2 := of (State.writeFlow_led_sram ..)
  have h3 : keepsOk s2 s3 := of (by simp [s3])
  have h4 : keepsOk s3 s4 := of (by simp [s4])
  have h5 : keepsOk s4 s5 := of (by simp [s5])
  have h6 : keepsOk s5 s6 := of (by simp [s6])
  have h7 : keepsOk s6 s7 := by
    have hIdle : ∀ k, keepsOk s6 (idle k) := fun k => bookIf s6 _
    unfold s7
    split
    · exact (hIdle 1).andThen (by simp)
    split
    · exact (hIdle 2).andThen (by simp)
    · have hFlow : keepsOk s6 (s6.billFlow i q d.1 o.2) := billFlow ..
      exact hFlow.andThen (by simp)
  have h := (((((h1.trans h2).trans h3).trans h4).trans h5).trans h6).trans h7
  clear_value s7
  exact h.andThen (by simp)

theorem computeNext (s : State) (i : Nat) : keepsOk s (s.computeNext i) := by
  unfold State.computeNext
  extract_lets r
  split
  · exact refl s
  split
  · exact refl s
  · extract_lets t
    have ht : keepsOk s t := of (by simp [t])
    split
    · exact ht
    · exact ht.trans (compute t i _)

theorem addPulses (s : State) (i incr : Nat) : keepsOk s (s.addPulses i incr) := by
  unfold State.addPulses
  extract_lets w sc dir dv r res s1 h en b e s2
  have h1 : keepsOk s s1 := of (by simp [s1])
  have he : keepsOk s1 e.1 := of (by unfold e; split <;> simp)
  have h2 : keepsOk e.1 s2 := by
    unfold s2
    split
    · exact refl _
    · exact book _ _
  have hs := (h1.trans he).trans h2
  clear_value s2
  split
  · exact hs.andThen (by simp)
  · exact hs.andThen (by simp)

theorem processInput (s : State) (i : Nat) : keepsOk s (s.processInput i) := by
  unfold State.processInput
  extract_lets r
  split
  · exact refl s
  · exact trans (t := s.setPulse i _) (of (by simp)) (whenSo (addPulses ..))

end State.keepsOk


-- writes, firings and starts keep the totals within 64 bits and the SRAM banks in canonical form

namespace State.keepsOk

-- writes (R48 to R58) and firings (R397 to R425)

theorem putRaw (s : State) (key : Nat) (data : List Nat) : keepsOk s (s.putRaw key data) := by
  unfold State.putRaw
  split
  · split
    · split
      · exact pLed s _ _
      · exact p s _ _
    · exact of ⟨rfl, rfl⟩
  · exact refl s

theorem take (s : State) (who : Orig) (key : Nat) (data : List Nat) (fire : Bool) :
    keepsOk s (s.take who key data fire) := by
  unfold State.take
  extract_lets data' v s0 t
  have h0 : keepsOk s s0 := of (State.noteWrite_led_sram s key)
  have ht : keepsOk s0 t := (putRaw s0 key data').andThen (by simp [t])
  refine h0.trans ?_
  clear_value s0 t
  split
  · next u hu => exact of (s0.ownWritten_led_sram who key v u hu)
  split
  · next u hu => exact of (s0.commandWritten_led_sram who key data' u hu)
  split
  · exact of (by simp)
  split
  · exact of (by simp)
  split
  · exact of (by simp)
  · split
    · exact ht.andThen (by simp)
    · exact ht

theorem direct (s : State) (who : Orig) (key : Nat) (data : List Nat) : keepsOk s (s.direct who key data) := by
  unfold State.direct
  extract_lets s1 t
  have h1 : keepsOk s s1 := of (by simp [s1])
  have ht : keepsOk s1 t := (take s1 who key data false).andThen (by simp [t])
  clear_value s1 t
  split
  · exact h1.andThen (by simp)
  split
  · exact (h1.trans ht).andThen (by simp)
  · exact h1.trans ht

theorem perform (s : State) (who : Orig) (g : Stage) : keepsOk s (s.perform who g) := by
  unfold State.perform
  split
  · have h1 : keepsOk s (s.noteWrite g.key) := of (by simp)
    exact (h1.trans (putRaw _ g.key g.data)).andThen (by simp)
  · exact take s who g.key g.data true

theorem applyStage (r : State × Bool) (id : Nat) (who : Orig) (g : Stage) :
    keepsOk r.1 (State.applyStage r id who g).1 := by
  unfold State.applyStage
  extract_lets s t u
  have hu : keepsOk s u := (perform s who g).andThen (by simp [u, t])
  clear_value u
  dsimp only
  split
  · exact hu.andThen (by simp)
  · exact hu

theorem applyStages (id : Nat) (who : Orig) (l : List Stage) (r : State × Bool) :
    keepsOk r.1 (l.foldl (fun r g => State.applyStage r id who g) r).1 := by
  induction l generalizing r with
  | nil => exact refl r.1
  | cons g l ih => exact (applyStage r id who g).trans (ih _)

theorem applyFire (s : State) (o : Nat) : keepsOk s (s.applyFire o) := by
  unfold State.applyFire
  extract_lets f id lost s0 s1 s2 s3
  have h0 : keepsOk s (s0.journalBank o) := of (by simp [s0])
  have h1 : keepsOk (s0.journalBank o) s1.1 := applyStages id (origOf o) f.stages (s0.journalBank o, false)
  have h2 : keepsOk s1.1 s2 := of (by simp [s2])
  have h3 : keepsOk s2 s3 := of (by simp [s3])
  have h := ((h0.trans h1).trans h2).trans h3
  clear_value s3
  exact h.andThen (by simp)

theorem apply (s : State) (who : Orig) (key : Nat) (data : List Nat) : keepsOk s (s.apply who key data).1 := by
  unfold State.apply
  extract_lets ds t
  have ht : keepsOk s t := direct s who key data
  clear_value t
  split
  · exact ht
  · exact ht.andThen (by simp)

theorem directWrite (s : State) (who : Orig) (key : Nat) (data : List Nat) : keepsOk s (s.directWrite who key data).1
    := by
  unfold State.directWrite
  dsimp only
  split
  · exact of (by simp)
  split
  · exact of (by simp)
  split
  · exact of (by simp)
  split
  · exact of (by simp)
  · exact apply s who key data

theorem writeEntry (s : State) (who : Orig) (key : Nat) (data : List Nat) : keepsOk s (s.writeEntry who key data).1 :=
    by
  unfold State.writeEntry
  split
  · exact of (by simp)
  · exact directWrite s who key data

theorem order (s : State) (who : Orig) (key : Nat) (data : List Nat) : keepsOk s (s.order who key data) := by
  have h := writeEntry s who key data
  unfold State.order
  split
  · exact refl s
  · dsimp only
    split
    · exact h
    · exact h.andThen (by simp)

-- records of the ledger at a start (R442 to R455)

theorem restoreTotals (s : State) (i r : Nat) : keepsOk s (s.restoreTotals i r) := pLeds ..

theorem restoreDemand (s : State) (i r : Nat) : keepsOk s (s.restoreDemand i r) := by
  refine foldl (fun t n => ?_) _ _
  split
  · exact refl t
  · exact (pLed t _ _).trans (pLed _ _ _)

theorem initSect (s : State) (i r : Nat) : keepsOk s (s.initSect i r) := by
  unfold State.initSect
  dsimp only
  split
  · exact of ⟨rfl, rfl⟩
  split
  · exact of (by simp)
  split
  · exact of (by simp)
  split
  · exact foldl (fun t k => pLed t k 0) _ _
  · exact of (by simp)

theorem loseRecord (s : State) (n : Nat) : keepsOk s (s.loseRecord n) := by
  unfold State.loseRecord
  extract_lets s1 i r _ s2 s3
  have h1 : keepsOk s s1 := of (State.declare_led_sram ..)
  have h2 : keepsOk s1 s2 := of ⟨rfl, rfl⟩
  have h3 : keepsOk s2 s3 := by
    unfold s3
    split
    · exact (restoreTotals s2 i r).andThen (by simp)
    split
    · exact (restoreDemand s2 i r).andThen (by simp)
    · exact initSect s2 i r
  have h := (h1.trans h2).trans h3
  clear_value s1 s3
  split
  · exact h1.andThen (by simp)
  · exact h.trans (markRecs _ _ _)

theorem readSlot (s : State) (n : Nat) (b : List Nat) : keepsOk s (s.readSlot n b) := loadRecord s _ _ b

theorem resolveRec (s : State) (l : List SlotDamage) (n : Nat) : keepsOk s (s.resolveRec l n) := by
  unfold State.resolveRec
  extract_lets wa wb t a b r u
  have ht : keepsOk s t := of (by simp [t])
  have hu : keepsOk t u := of (by simp [u])
  refine ht.trans ?_
  clear_value t u
  split
  · exact refl t
  · next x _ =>
    dsimp only
    generalize (if x = 0 then a else b) = w
    exact trans (of (by simp)) (readSlot _ n w)
  · next x _ =>
    dsimp only
    generalize (if x = 0 then a else b) = w
    split
    · exact hu
    · exact (hu.andThen (State.rewriteSlot_led_sram u n (1 - x) w)).trans (readSlot _ n w)
  · exact loseRecord t n

theorem resolveLedger (s : State) (l : List SlotDamage) : keepsOk s (s.resolveLedger l) :=
  foldl (fun t n => resolveRec t l n) _ _

theorem recoverBooking (s : State) (i : Nat) : keepsOk s (s.recoverBooking i) := by
  unfold State.recoverBooking
  split
  · exact refl s
  · next b _ =>
    extract_lets rs
    split
    · exact refl s
    · have h : keepsOk s (rs.foldl (fun t r => t.enterBooking b r) s) := foldl (fun t r => enterBooking t b r) _ _
      exact h.andThen (by simp)

theorem recoverFire (s : State) (o : Nat) : keepsOk s (s.recoverFire o) := by
  unfold State.recoverFire
  extract_lets f gs s0 s1
  have h0 : keepsOk s s0 := of (by simp [s0])
  have h1 : keepsOk s0 s1 := applyStages _ (origOf o) gs (s0, false)
  exact (h0.trans h1).andThen (by simp)

theorem restartFire (s : State) (o v : Nat) : keepsOk s (s.restartFire o v) := by
  unfold State.restartFire
  dsimp only
  split
  · exact of (by simp)
  · exact of (by simp)
  · exact recoverFire s o
  · exact of (by simp)
  · exact refl s

theorem restartBoundary (s : State) : keepsOk s s.restartBoundary := by
  unfold State.restartBoundary
  split
  · exact refl s
  · next b _ _ =>
    split
    · have h0 : keepsOk s { s with cyc := b.applyAt, bill := { s.bill with queue := [b] } } := of ⟨rfl, rfl⟩
      exact (h0.trans (applyBoundary _ b 3)).andThen ⟨rfl, rfl⟩
    · exact of ⟨rfl, rfl⟩

theorem recover (s : State) (read cut : Bool) (l : List SlotDamage) (fates : List Nat) :
    keepsOk s (s.recover read cut l fates) := by
  unfold State.recover
  extract_lets s0 s1 s2 s3
  have h0 : keepsOk s s0 := whenSo (resolveLedger s l)
  have h1 : keepsOk s0 s1 := foldl (fun t i => (recoverBooking t i).andThen (by simp)) _ _
  have h2 : keepsOk s1 s2 := by
    refine foldl (fun t d => ?_) _ _
    split
    · exact refl t
    · exact of (by simp)
  have h3 : keepsOk s2 s3 := by
    refine trans (t := if cut then s2.resumeStore else s2) (whenSo (of (by simp))) (foldl (fun t o => restartFire t o
        _) _ _)
  exact ((((h0.trans h1).trans h2).trans h3).trans (restartBoundary s3)).andThen (by simp)

end State.keepsOk


-- starts and the power-fail commit keep the totals within 64 bits and the SRAM banks in canonical form

/-- A bank that holds nothing, and whose waiting requests are of words it has, is in canonical form. -/
theorem emptyBank_wf {waiting : List SramReq} (h : waiting.all (fun q => decide (q.word < sramWords)) = true)
    (lost losses dmaWait : Nat) (locked : Bool) :
    SramRt.wf { lost := lost, losses := losses, waiting := waiting, dmaWait := dmaWait, locked := locked } = true := by
  simp only [SramRt.wf, h]
  rfl

theorem SramRt.waiting_of_wf {r : SramRt} (h : r.wf = true) :
    r.waiting.all (fun q => decide (q.word < sramWords)) = true := by
  simp only [SramRt.wf, Bool.and_eq_true] at h
  exact h.1.1.2

namespace State.keepsOk

theorem clearBank (s : State) (d : Nat) : keepsOk s (s.clearBank d) :=
  setBank s d fun hs => emptyBank_wf (SramRt.waiting_of_wf (hs.bank d)) _ _ _ _

theorem renewSram (s : State) (d : Nat) : keepsOk s (s.renewSram d) := setBank s d fun _ => emptyBank_wf rfl _ _ _ _

theorem imageSram (s : State) (d : Nat) : keepsOk s (s.imageSram d) := by
  have hBank : (s.renewSram d).bank d = { lost := (s.bank d).losses + 1, losses := (s.bank d).losses + 1 } := by
    unfold State.renewSram
    simp
  unfold State.imageSram
  refine (renewSram s d).trans (setBank _ d fun _ => ?_)
  rw [hBank]
  exact emptyBank_wf rfl _ _ _ _

theorem marchDone (s : State) (d : Nat) (l : List MarchRead) : keepsOk s (s.marchDone d l) := by
  unfold State.marchDone
  extract_lets r s1
  have h1 : keepsOk s s1 := of (by simp [s1])
  clear_value s1
  have h2 : keepsOk s1 (if r.march = 1 then s1.clearBank d else s1) := whenSo (clearBank s1 d)
  exact (h1.trans h2).andThen (State.marchResult_led_sram ..)

theorem bootAgain (s : State) (d : Nat) (x : DieStart) : keepsOk s (s.bootAgain d x) := by
  unfold State.bootAgain
  extract_lets s1
  have h1 : keepsOk s s1 := (imageSram s d).andThen (State.rejectImage_led_sram ..)
  clear_value s1
  split
  · exact h1.andThen (by simp)
  · exact h1.andThen (by simp)

theorem coldMarch (s : State) (d : Nat) (x : DieStart) (base : Nat) : keepsOk s (s.coldMarch d x base) := by
  unfold State.coldMarch
  split
  · exact refl s
  · have h1 : keepsOk s ((s.p (K.die_MARCH_CYC d) (cycPlus base x.marchAt)).bitTo (K.die_START_STAT d) 2 true) :=
      of (by simp)
    exact (h1.trans (clearBank _ d)).andThen (State.marchResult_led_sram ..)

theorem startFollower (s : State) (d : Nat) (x : DieStart) (base was : Nat) :
    keepsOk s (s.startFollower d x base was) := by
  unfold State.startFollower
  extract_lets c s0 s1 s2 s3 s4 serial s5
  have h0 : keepsOk s s0 := p s _ _
  have h1 : keepsOk s0 s1 := of (by simp [s1])
  have h2 : keepsOk s1 s2 := coldMarch s1 d x base
  have h3 : keepsOk s2 s3 := by
    have hScrub : keepsOk s2 (s2.startScrub d x) := of (by simp)
    exact (hScrub.trans (imageSram _ d)).andThen (State.rejectImage_led_sram ..)
  have h4 : keepsOk s3 s4 := of (by simp [s4])
  have h5 : keepsOk s4 s5 := of (by simp [s5])
  have k1 := h0.trans h1
  have k2 := k1.trans h2
  have k3 := k2.trans h3
  have k4 := k3.trans h4
  have k5 := k4.trans h5
  clear_value s0 s1 s2 s3 s4 s5
  split
  · exact h0.andThen (by simp)
  split
  · exact h0.andThen (by simp)
  split
  · exact k1.andThen (by simp)
  split
  · exact k2.andThen (by simp)
  split
  · exact k3.andThen (by simp)
  split
  · exact k4.andThen (by simp)
  split
  · exact k5
  · exact k5.andThen (by simp)

theorem loadValue (s : State) (e : Nat × List Nat) : keepsOk s (s.loadValue e) := by
  unfold State.loadValue
  split
  · exact refl s
  · exact putRaw s e.1 e.2

theorem loadAll (s : State) : keepsOk s s.loadAll := by
  unfold State.loadAll
  extract_lets s1 s2 s3
  have h1 : keepsOk s s1 := (foldl (fun t e => loadValue t e) _ _).trans (of (State.reloadComm_led_sram _))
  have h2 : keepsOk s1 s2 := foldl (fun t d => of (by simp)) _ _
  have h3 : keepsOk s2 s3 := of (State.syncAll_led_sram s2)
  have h := (h1.trans h2).trans h3
  clear_value s3
  exact h.andThen ⟨rfl, rfl⟩

/-- What a die keeps of itself in a cold start, and its SRAM without contents (R547, R549). -/
theorem wipedDie {s : State} (hs : sramOk s) (t : State) (d start : Nat) :
    keepsOk t ((((t.setDie d { count := (s.die d).count, logQ := (s.die d).logQ, qdrop := (s.die d).qdrop }).setStore d
      ((s.store d).restarted d s.cyc start)).setBank d (s.bank d)).renewSram d) := by
  have h1 : keepsOk t ((t.setDie d { count := (s.die d).count, logQ := (s.die d).logQ, qdrop := (s.die d).qdrop
      }).setStore d
      ((s.store d).restarted d s.cyc start)) := of (by simp)
  exact (h1.trans (setBank _ d fun _ => hs.bank d)).trans (renewSram _ d)

theorem wiped (s : State) (info : StartInfo) (start : Nat) : keepsOk s (s.wiped info start) := by
  unfold State.wiped
  extract_lets _ kept s2 s3
  have h3 : keepsOk s2 s3 := foldl (fun t o => of (by simp)) _ _
  have hEnd : keepsOk s2 ((([csCATCHUP, csCAL_ON, csSPECIAL].foldl (fun t n => t.setCal n false) s3).setSup ssLOOP_OK
      s3.pow.loopOn).setSup ssBUS_OK s3.pow.busOn) := by
    refine h3.trans ?_
    clear_value s3
    exact of (by simp)
  refine ⟨fun hs => hEnd.led ?_, fun hs => hEnd.sram ?_⟩
  · have hLed : s2.led = s.led := State.foldl_led (fun t d => by simp [State.renewSram]) _ kept
    unfold ledOk at *
    rw [hLed]
    exact hs
  · have hKept : sramOk kept := fun e he => (List.not_mem_nil he).elim
    exact (foldl (fun t d => wipedDie hs t d start) _ kept).sram hKept

-- the cold start of the chip (R547 to R558)

theorem coldLoaded (s : State) (cause : Nat) (info : StartInfo) : keepsOk s (s.coldLoaded cause info) := by
  unfold State.coldLoaded
  extract_lets base s0 s1 s2
  have hBooked : keepsOk s s.settleJournal.bookAll := trans (of (by simp)) (bookAll _)
  have hHeld : keepsOk s s.settleJournal.bookAll.landAll.finishHeld := hBooked.andThen (by simp)
  have h0 : keepsOk s s0 := hHeld.trans (wiped _ info _)
  have h1 : keepsOk s0 s1 := (loadAll s0).andThen (by simp [s1])
  have h2 : keepsOk s1 s2 := ps s1 _
  exact ((h0.trans h1).trans h2).trans (coldMarch s2 0 _ base)

theorem bootSlots (l : List (Nat × Bool)) (s : State) : keepsOk s (s.bootSlots l).1 := by
  induction l generalizing s with
  | nil => exact refl s
  | cons e l ih =>
    unfold State.bootSlots
    dsimp only
    split
    · exact refl s
    · exact trans (of (by simp)) (ih _)

theorem coldImage (s : State) (cause : Nat) (info : StartInfo) : keepsOk s (s.coldImage cause info).1 := by
  unfold State.coldImage
  extract_lets t b rd
  have ht : keepsOk s t := (coldLoaded s cause info).andThen (by simp [t])
  exact (ht.trans (recover t true true info.ledger _)).trans (bootSlots _ _)

theorem coldRest (s t : State) (info : StartInfo) (cause slot : Nat) : keepsOk t (s.coldRest t info cause slot) := by
  unfold State.coldRest
  extract_lets base x t1 t2
  have h1 : keepsOk t t1 := by
    have hBoot : keepsOk t (t.bootFrom slot) := of (by simp)
    exact (hBoot.trans (imageSram _ 0)).andThen (by simp [t1])
  have h2 : keepsOk t1 t2 := foldl (fun u d => startFollower u d ..) _ _
  have h := h1.trans h2
  clear_value t2
  exact h.andThen (by simp)

theorem coldChip (s : State) (cause : Nat) (info : StartInfo) : keepsOk s (s.coldChip cause info) := by
  unfold State.coldChip
  extract_lets x t
  have ht : keepsOk s t := coldLoaded s cause info
  clear_value t
  split
  · exact ht.andThen (by simp)
  split
  · exact ht.andThen (by simp)
  · have hImage := coldImage s cause info
    split
    · next u hu =>
      rw [hu] at hImage
      exact hImage.andThen (by simp)
    · next u slot hu =>
      rw [hu] at hImage
      exact hImage.trans (coldRest s u info cause slot)

-- the warm start of the chip, and starts of followers (R544, R554 to R557)

theorem reloadDict (s : State) : keepsOk s s.reloadDict := by
  unfold State.reloadDict
  extract_lets keep od _ _ s1 s2 s3 s4 s5
  have h1 : keepsOk s s1 := of ⟨rfl, rfl⟩
  have h2 : keepsOk s1 s2 := foldl (fun t e => loadValue t e) _ _
  have h3 : keepsOk s2 s3 := foldl (fun t d => of (by simp)) _ _
  have h4 : keepsOk s3 s4 := foldl (fun t d => of (by simp)) _ _
  have h5 : keepsOk s4 s5 := of (State.syncAll_led_sram s4)
  have h := (((h1.trans h2).trans h3).trans h4).trans h5
  clear_value s5
  exact h.andThen ⟨rfl, rfl⟩

theorem wipeFollower (s : State) (d : Nat) : keepsOk s (s.wipeFollower d) := by
  unfold State.wipeFollower
  extract_lets r own u t t1 t2 t3
  have h0 : keepsOk s t := of (State.dropStanding_led_sram s d)
  have h1 : keepsOk t t1 := foldl (fun u c => of (by simp)) _ _
  have h2 : keepsOk t1 t2 := of (by simp [t2])
  have h3 : keepsOk t2 t3 := trans (of (by simp)) (renewSram _ d)
  refine (((h0.trans h1).trans h2).trans h3).trans (foldl (fun u j => ?_) _ _)
  dsimp only
  split
  · exact of (by simp)
  · exact of (by simp)

theorem coldFollower (s : State) (d : Nat) (x : DieStart) : keepsOk s (s.coldFollower d x) := by
  unfold State.coldFollower
  extract_lets s1
  have hWiped : keepsOk s ((s.wipeFollower d).noteStart 0 9) := (wipeFollower s d).andThen (by simp)
  have h1 : keepsOk s s1 := hWiped.trans (startFollower _ d x ..)
  clear_value s1
  exact h1.andThen (by simp)

theorem warmStartFollower (s : State) (info : StartInfo) (base d : Nat) :
    keepsOk s (s.warmStartFollower info base d) := by
  unfold State.warmStartFollower
  dsimp only
  split
  · exact refl s
  split
  · exact (wipeFollower s d).trans (startFollower _ d ..)
  split
  · exact of (by simp)
  · exact of (by simp)

theorem warmChip (s : State) (cause : Nat) (info : StartInfo) : keepsOk s (s.warmChip cause info) := by
  unfold State.warmChip
  extract_lets base fates read u s0 s1 s2 s3 s4
  have hLanded : keepsOk s u := of (by simp [u])
  have h0 : keepsOk u s0 := of (by simp [s0])
  have h1 : keepsOk s0 s1 := by
    refine trans ?_ (recover _ read s.pow.pfDone info.ledger fates)
    split
    · exact trans (of (by simp)) (reloadDict _)
    · exact of (by simp)
  have h2 : keepsOk s1 s2 := of (by simp [s2])
  have h3 : keepsOk s2 s3 := foldl (fun t d => warmStartFollower t info base d) _ _
  have h4 : keepsOk s3 s4 := by
    unfold s4
    split
    · exact foldl (fun t i => of (by simp)) _ _
    · exact refl s3
  have h := ((((hLanded.trans h0).trans h1).trans h2).trans h3).trans h4
  clear_value s4
  exact h.andThen (by simp)

theorem warmOrCold (s : State) (cause : Nat) (info : StartInfo) : keepsOk s (s.warmOrCold cause info) := by
  unfold State.warmOrCold
  split
  · exact coldChip s 1 info
  · exact warmChip s cause info

theorem warmFollowers (s : State) (info : StartInfo) : keepsOk s (s.warmFollowers info) :=
  of (State.warmFollowers_led_sram s info)

theorem serveReset (s : State) (info : StartInfo) : keepsOk s (s.serveReset info) := whenSo (warmOrCold s 8 info)

theorem wakeLantern (s : State) (vbat n : Nat) : keepsOk s (s.wakeLantern vbat n) :=
  of (State.wakeLantern_led_sram s vbat n)

-- the power-fail commit, and the loss of supplies (R453, R528)

theorem commitPowerFail (s : State) : keepsOk s s.commitPowerFail := by
  unfold State.commitPowerFail
  extract_lets lost t _ _ _ s1 s3
  have h0 : keepsOk s s.sealStep.landLog := of (by simp)
  have ht : keepsOk s t.1 := h0.trans (failLedger _)
  have h1 : keepsOk t.1 s1 := of ⟨rfl, rfl⟩
  have h3 : keepsOk s1 s3 := by
    refine foldl (fun t d => ?_) _ _
    dsimp only
    split
    · exact of (by simp)
    · exact of (by simp)
  have h := (ht.trans h1).trans h3
  clear_value s3
  exact h.andThen (by simp)

theorem vmainLow (s : State) : keepsOk s s.vmainLow := by
  unfold State.vmainLow
  extract_lets u _ t v
  have ht : keepsOk s t := (abandonLedger s).andThen (by simp [t, u])
  have hv : keepsOk t v := of (by simp [v])
  clear_value t v
  split
  · exact (ht.trans hv).andThen (by simp)
  · exact ht

theorem allOff (s : State) : keepsOk s s.allOff := by
  unfold State.allOff
  extract_lets s1 _
  have h1 : keepsOk s s1 := (abandonLedger s).trans (foldl (fun t d => of (by simp)) _ _)
  clear_value s1
  exact h1.andThen ⟨rfl, rfl⟩

end State.keepsOk

end Sys2Proof.Machine
end

section
/-! Every step keeps the invariant. -/

namespace Sys2Proof.Machine

open Sys2Proof

-- every step keeps the invariant

/-- An outcome of a state that has the invariant has it. -/
def keepsInv (s : State) (o : Out) : Prop := ∀ t, o = .next t → Inv s → Inv t

namespace keepsInv

theorem stays (s : State) : keepsInv s (.next s) := fun _ ht h => Host.Outcome.next.inj ht ▸ h

/-- A state with the parts of the invariant that `s` has. -/
theorem next {s t : State} (hDies : t.dies = s.dies) (hCyc : cycOk s → cycOk t) (hArb : fusesOk s → fusesOk t)
    (hKept : State.keepsOk s t) : keepsInv s (.next t) := by
  intro u hu h
  rw [← Host.Outcome.next.inj hu]
  obtain ⟨hPart, hc, hl, hf, hs⟩ := h
  exact ⟨by unfold partOk; rw [hDies]; exact hPart, hCyc hc, hKept.led hl, hArb hf, hKept.sram hs⟩

theorem confined (s t : State) : keepsInv s (Machine.confined s t) := next rfl id id (.of ⟨rfl, rfl⟩)

theorem accessing (s t : State) : keepsInv s (Machine.accessing s t) := next rfl id id (.of ⟨rfl, rfl⟩)

theorem booking {s t : State} (h : State.keepsOk s t) : keepsInv s (Machine.booking s t) :=
  next rfl id id ⟨h.led, id⟩

theorem banking {s t : State} (h : sramOk s → sramOk t) : keepsInv s (Machine.banking s t) := next rfl id id ⟨id, h⟩

theorem fusing {s t : State} (h : fusesOk s → fusesOk t) : keepsInv s (Machine.fusing s t) :=
  next rfl id h (.of ⟨rfl, rfl⟩)

theorem starting {s t : State} (h : State.keepsOk s t) : keepsInv s (Machine.starting s t) :=
  next rfl (fun _ => Nat.mod_lt _ (by decide)) id ⟨h.led, h.sram⟩

theorem ite {s : State} {p : Prop} [Decidable p] {a b : Out} (ha : keepsInv s a) (hb : keepsInv s b) :
    keepsInv s (if p then a else b) := by
  split
  · exact ha
  · exact hb

theorem fitted {s : State} {c : Bool} {o : Out} (h : keepsInv s o) : keepsInv s (ifFitted s c o) := ite h (stays s)

theorem ordering (who : Orig) (ok : Bool) (s : State) (key : Nat) (data : List Nat) :
    keepsInv s (Machine.ordering who ok s key data) := ite (accessing s _) (stays s)

theorem hearing (node : Nat) (s t : State) : keepsInv s (Machine.hearing node s t) := ite (stays s) (accessing s _)

theorem requesting (ok : Bool) (s t : State) : keepsInv s (Machine.requesting ok s t) := ite (stays s) (accessing s _)

end keepsInv

/-- The reset command of the host window asks for a start (R641). -/
theorem State.oneWord_reset_led_sram (s : State) (hServes : s.portServes = true) (hFull : s.windowFull = true) :
    (s.oneWord 0x05 0x0010).led = s.led ∧ (s.oneWord 0x05 0x0010).sram = s.sram := by
  have hCmd : ∀ t : State, (t.hostCmd 0x0010).1.led = t.led ∧ (t.hostCmd 0x0010).1.sram = t.sram := by
    intro t
    unfold State.hostCmd
    rw [if_neg (by decide), if_neg (by decide)]
    dsimp only
    split <;> simp
  have hErr : ∀ r : State × Nat, (State.setWerr r).led = r.1.led ∧ (State.setWerr r).sram = r.1.sram :=
    fun r => by simp [State.setWerr]
  rw [State.oneWord_hostCmd 0x0010 hServes hFull]
  simp [hErr, hCmd]

/-- A write-back puts a corrected word into its bank, or waits (R465). -/
theorem sramOk_writeBack {s : State} (h : sramOk s) (d : Nat) :
    sramOk (match (s.bank d).wb with
      | none => s
      | some (w, v) =>
        if (s.bank d).waiting ≠ [] ∨ (s.bank d).rmw.isSome ∨ (s.bank d).cycleAt = s.cyc + 1 ∨ s.requestComing d ∨
            (s.die d).march = 1 ∨ 2 ≤ s.pstate d then s
        else (s.setBank d { (s.bank d).fresh w v with wb := none, cycleAt := s.cyc + 1 }).bitTo (K.die_SRAM_STAT d)
          srWB_PEND false) := by
  cases hb : (s.bank d).wb with
  | none => exact h
  | some e =>
    dsimp only
    split
    · exact h
    · exact sramOk_of_eq (h.writeBack d _ _ hb) (State.bitTo_sram _ _ _ _)

/-- The blowing of fuses ends with at most all of them blown (R666, R675). -/
theorem State.blowFuses_ok {s : State} (h : fusesOk s) : fusesOk s.blowFuses := by
  unfold State.blowFuses
  split
  · exact Nat.min_le_left _ _
  · exact h

theorem fusesOk_of_eq {s t : State} (h : fusesOk s) (e : t.otp = s.otp) : fusesOk t := by
  unfold fusesOk at *
  rw [e]
  exact h

theorem State.fusesDone_ok (s : State) (h : fusesOk s) :
    fusesOk (if s.sec? scARB_BUSY && decide (s.arbNow = s.sec.arbGoal) then
      ((s.blowFuses).setSec scARB_BUSY false).evChip 0x7002 [s.sec.arbOld, s.sec.arbGoal] else s) := by
  split
  · refine fusesOk_of_eq (State.blowFuses_ok h) ?_
    generalize s.blowFuses = u
    simp [State.setSec, State.evChip, State.ev, State.raise]
  · exact h

theorem exec_keepsInv (i : Instr) (s : State) : keepsInv s (exec i s) := by
  cases i with
  | frameBoundary | energyWindowBoundary | lanternStart | lanternPairComplete | allowanceSample | governorForced |
    sourceLost | sourcePresent | cantMeasDone | wakeCycCompare | hcsWake | bkcapPor | supplySwitch | cellDisconnect |
    emberSecondTick | wakeAccepted | oscStopDetect | emberAccessDone | secondTickDelivered | alarmDelivered |
    wakeDelivered | oscStopDelivered | clockValidityChange | demandIntervalCycExpiry | commitStart | commitBroadcast |
    firingRetire | loopSlewMove | sealChange | imgVerifyDone | attCapture | attSignDone | digestRecomputeDone |
    extestSelect | correctionPeriodStart | loopMeasure =>
    exact .confined s _
  | odRead | odWrite | resetPtr | odDataRead | cycCapture | keyClose | canResetComm | nmtPreop | nmtOperational |
    nmtStop |
    sdoTmoExpiry | syncProduce | heartbeatProduce | canErrorPassive | canBusOff | busoffHoldEnd | canBusoffRecovered |
    transmitWindowBoundary | emcySend | canErrorActive | winKeyExpiry | syncWinExpiry =>
    exact .accessing s _
  | slotStart | attemptStart | seqSecondShot | referencePairStart | referencePairDone | burstEnd | bridgeOvercurrent |
    impedanceCheckDone | recheckExpiry | comparatorArm | stopAccepted | receiveWindowExpiry | shotVerdict |
    refinementStart | refinementDone | retryCancelDelivered | pathRecordDelivered | sectionResultTimeout |
    holdTimerExpiry | scanStart | phaseComplete | clampHit | channelStartDelivered | channelResultDelivered |
    channelResultTimeout | pulseAccepted | pulseLineFault | pulseLineClear | calFullStart | calFullDone |
    calQuickStart | calQuickDone | allowanceDelivered | railExcursion | railFaultClear | coreWait | interruptWake |
    wakeComplete | watchdogExpiry | followerReadyTimeout | glFrameStart | glAckToggle | glAckTimeout |
    syncReqReceived | syncAckReceived | syncDoneReceived | syncFrameRepeat | resyncTimeout | resyncRetry |
    cycCheckSend | cycCheckReceived | counterSend | followerResponse | followTmoExpiry | gatherWaitExpiry |
    gatherCommitDone | partitionLockExpiry | logEntryAccept =>
    exact .fitted (.confined s _)
  | gpioInputChange | firmwarePowerStateChange | dieTempMeasure | glFrameReceived =>
    exact .fitted (.ite (.stays s) (.confined s _))
  | captureDmaDone => exact .fitted (.ite (.confined s _) (.stays s))
  | scrubRead => exact .fitted (.ite (.confined s _) (.confined s _))
  | emberAccess | xchkGateClose | fireTmoExpiry => exact .ite (.stays s) (.confined s _)
  | tamperEpisode | tamperDelivered | tamperRearm => exact .ite (.confined s _) (.stays s)
  | hostReadFrame | hostWriteFrame | lineDataRead | tpdoInhibitEnd | timeReceived | syncReceived | snapCtlWrite |
    winKeyWrite | odDataWrite | rpdoReceived | heartbeatReceived | logRead | tpdoEventTimer |
    heartbeatConsumerTimeout =>
    exact .ite (.stays s) (.accessing s _)
  | nmtStartNode | nmtEnterPreop | nmtStopNode | nmtResetComm => exact .hearing _ s _
  | storeParameters | restoreDefaults | errorFieldClear | trimWrite | clampStickyClear | calCmdFull | calCmdQuick |
    marchDestructive | marchTransparent | marchStop | setCal | dictWrite | rtcModeWrite | xchkCmd | relock | learn |
    checkCmd | setBin | arbAdvance | attCmd | billCmd | cantCmd | logRelease | loopSetWrite | attNonce | imgData |
    oemHashWrite | lineDataWrite | partDef | unlock | fireOpen | fireCommit | fireAbort | pwronRelease | pwronAssert |
    imgBegin | imgVerify =>
    exact .ordering _ _ s _ _
  | sdoDownloadInitiate | usdoDownloadInitiate | sdoUploadInitiate | usdoUploadInitiate | usdoDownloadSegment |
    sdoDownloadSegment =>
    exact .requesting _ s _
  | sdoUnsupportedRequest | sdoUploadSegment | usdoUploadSegment => exact .requesting true s _
  | sramRequest die reqs =>
    refine .fitted ?_
    by_cases hReqs : reqs.all reqOk = true
    · rw [if_pos hReqs]
      exact .banking fun h => h.sramCycle die fun q hq => by
        have hq' := List.all_eq_true.mp hReqs q hq
        unfold reqOk at hq'
        simp only [Bool.and_eq_true, decide_eq_true_eq] at hq'
        exact hq'.1.1
    · rw [if_neg hReqs]
      exact .stays s
  | sramWriteBack die => exact .fitted (.banking fun h => sramOk_writeBack h die)
  | sectionComputation sect =>
    exact .fitted (.booking ((State.keepsOk.foldl (fun t j => .computeNext t j) _ s).trans (.computeNext _ sect)))
  | pulseProcess => exact .booking (.whenSo (.foldl (fun t i => .processInput t i) _ s))
  | powerFailCommit =>
    exact .booking (.whenSo ((State.keepsOk.commitPowerFail s).andThen (State.afterCommit_led_sram _)))
  | d0VmainLow => exact .booking (.vmainLow s)
  | firingApply => exact .booking (.foldl (fun t o => .applyFire t o) _ s)
  | resBelowVreg =>
    refine .booking ?_
    split
    · exact .refl s
    · exact .allOff s
  | boundaryFiringApply =>
    refine .booking ?_
    split
    · exact .refl s
    · next b _ _ => exact .whenSo (.applyBoundary s b 1)
  | arbFusesDone => exact .fusing fun h => s.fusesDone_ok h
  | lanternWake => exact .starting (.whenSo (.wakeLantern s _ _))
  | coldStart => exact .ite (.stays s) (.starting (.whenSo (.coldChip s _ _)))
  | warmStart cause info =>
    exact .ite (.stays s) (.ite (.starting (.whenSo (.warmFollowers s info)))
      (.starting (.whenSo (.warmOrCold s cause info))))
  | followerPor => exact .fitted (.ite (.stays s) (.starting (.whenSo (.coldFollower s _ _))))
  | followerRestartRetry => exact .fitted (.ite (.stays s) (.starting (.whenSo (.coldFollower s _ _))))
  | dieRestart who die info =>
    refine .fitted (.ite (.stays s) (.starting ?_))
    exact (State.keepsOk.order s who _ _).trans (.whenSo (.coldFollower _ die info))
  | marchRunDone die reads info =>
    refine .fitted (.ite (.stays s) (.starting ?_))
    split
    · exact (State.keepsOk.marchDone s die reads).trans (.bootAgain _ die info)
    · exact .whenSo (.marchDone s die reads)
  | deviceReset info =>
    refine .ite (.stays s) (.starting ?_)
    split
    · next h =>
      obtain ⟨hServes, hFull⟩ := (Bool.and_eq_true _ _).mp h
      exact (State.keepsOk.of (s.oneWord_reset_led_sram hServes hFull)).trans (.serveReset _ info)
    · exact .refl s
  | nmtResetNode node info =>
    exact .ite (.stays s) (.starting (.whenSo ((State.keepsOk.of (State.askReset_led_sram s)).trans (.serveReset _
        info))))

-- a cycle without a command

/-- The ledger, the bookings that wait, the journal and the kiln log's copies blow no fuse. -/
theorem State.ledgerStep_otp (s : State) : s.ledgerStep.otp = s.otp := by
  have hStart : ∀ t : State, t.startWrite.otp = t.otp := by
    intro t
    unfold State.startWrite
    dsimp only
    split
    · split <;> rfl
    · rfl
  unfold State.ledgerStep
  split
  · split
    · exact hStart _
    · rfl
  · exact hStart s

theorem State.flushBookings_otp (s : State) : s.flushBookings.otp = s.otp := by
  have hBook : ∀ (t : State) b, (t.book b).otp = t.otp := by
    intro t b
    unfold State.book
    split
    · exact (booksOnly.bookNow t b).eq (·.otp) fun _ _ _ _ _ _ _ _ _ => rfl
    · rfl
  unfold State.flushBookings
  split
  · rfl
  · exact foldl_keeps State.otp hBook _ _

theorem State.journalBank_otp (s : State) (o : Nat) : (s.journalBank o).otp = s.otp := by
  unfold State.journalBank
  split
  · rfl
  · extract_lets k l
    generalize { l with banks := _ } = m
    split <;> rfl

theorem State.journalBound_otp (s : State) : s.journalBound.otp = s.otp := by
  unfold State.journalBound
  split
  · rfl
  split
  · rfl
  · extract_lets k l
    generalize { l with bound := _ } = m
    split <;> rfl

theorem State.journalStep_otp (s : State) : s.journalStep.otp = s.otp :=
  (State.journalBound_otp _).trans (foldl_keeps State.otp State.journalBank_otp [0, 1, 2] s)

theorem State.logStep_otp (s : State) : s.logStep.otp = s.otp := by
  have hLine : ∀ (t : State) no, (t.writeLogLine no).otp = t.otp := by
    intro t no
    unfold State.writeLogLine
    split
    · exact (storesOnly.gatherLine t 0 _ _).eq (·.otp) fun _ _ _ _ _ _ _ _ _ => rfl
    · rfl
  unfold State.logStep State.copyLog
  split
  · split
    · rfl
    · dsimp only
      rw [hLine]
      split <;> simp
  · rfl

/-- A cycle without a command keeps the invariant. -/
theorem State.idle_inv {s : State} (h : Inv s) : Inv s.idle := by
  obtain ⟨hPart, hCyc, hLed, hFuses, hSram⟩ := h
  unfold State.idle
  extract_lets e t u v w
  have hv : keepsOk u v ∧ v.otp = u.otp := by
    unfold v
    split
    · refine ⟨?_, ?_⟩
      · have h1 : keepsOk u u.ledgerStep := .of (by simp)
        exact (h1.trans (.flushBookings _)).andThen (by simp)
      · rw [State.logStep_otp, State.journalStep_otp, State.flushBookings_otp, State.ledgerStep_otp]
    · exact ⟨.refl u, rfl⟩
  have hBlown : v.blowFuses.led = v.led := by
    unfold State.blowFuses
    split <;> rfl
  have hTick : s.tick.cyc < two48 := by
    unfold State.tick
    split
    · exact Nat.mod_lt _ (by decide)
    · exact hCyc
  have hLedV : ledOk v := hv.1.led hLed
  have hFusesV : fusesOk v := fusesOk_of_eq (s := s) hFuses hv.2
  refine ⟨hPart, hTick, ?_, State.blowFuses_ok hFusesV, hSram⟩
  show ledOk w
  unfold ledOk
  rw [show w.led = v.led from hBlown]
  exact hLedV

/-- Settles O54: commands by the family of their outcome, and the cycle without one. -/
theorem invKept : Obligations.InvKept := by
  intro s t h ht
  unfold step at ht
  split at ht
  · rw [← Host.Outcome.next.inj ht]
    exact State.idle_inv h
  · next c rest _ =>
    obtain ⟨hPart, hCyc, hLed, hFuses, hSram⟩ := h
    exact exec_keepsInv c { s with pending := rest } t ht ⟨hPart, hCyc, hLed, hFuses, hSram⟩

end Sys2Proof.Machine
end
